-- ==== Sys2Proof/Word.lean ====
section
/-!
DEFINITION. The byte and the plainest arithmetic of the model. The hardware is a block of many widths; a value the
spec treats as bits is a byte string or a bit mask held in a `Nat`, a count is a `Nat`, a signed quantity an `Int`,
and a measured or computed quantity an exact `Rat`.
-/

namespace Sys2Proof

/-- One byte of a DOMAIN, a STRING or a message. -/
abbrev Byte := BitVec 8

/-- A byte string, lowest offset first. -/
abbrev Bytes := List Byte

/-- Bit `i` of a mask held in a `Nat`; bit 0 is the least significant (R11). -/
def bitOf (m i : Nat) : Bool := m / 2 ^ i % 2 == 1

/-- The mask `m` with bit `i` made `b`. -/
def withBit (m i : Nat) (b : Bool) : Nat :=
  if bitOf m i then (if b then m else m - 2 ^ i) else (if b then m + 2 ^ i else m)

/-- 1 for true, 0 for false: the coding of BOOL (Table 15.1). -/
def b2n (b : Bool) : Nat := if b then 1 else 0

/-- The mask whose bit `i` is `f i`, for `i` below `n`. -/
def maskOf : Nat → (Nat → Bool) → Nat
  | 0, _ => 0
  | n + 1, f => maskOf n f + (if f n then 2 ^ n else 0)

/-- The smaller of two rationals. -/
def rmin (a b : Rat) : Rat := if a ≤ b then a else b
/-- The larger of two rationals. -/
def rmax (a b : Rat) : Rat := if a ≤ b then b else a
/-- `q` limited to `lo` to `hi`, both included (R10). -/
def rclamp (lo hi q : Rat) : Rat := rmax lo (rmin hi q)
/-- The magnitude of a rational. -/
def rabs (q : Rat) : Rat := if q < 0 then -q else q

/-- `round(x)`: the nearest integer, a half going up. -/
def rround (q : Rat) : Int := (q + 1 / 2).floor

end Sys2Proof
end

