-- ==== Sys2Proof/Syntax.lean ====
section
/-!
DEFINITION. The commands of the block: one constructor of `Instr` for each row of spec/opcode_table.json, with the
operands the command carries. The table gives the rows no bits and no operands: an operand here is what the step's
own rules take from outside the module (a frame that arrives, a level sampled, a request with its session, a value
measured), and nothing the module already holds.
-/

namespace Sys2Proof

/-- Where a dictionary request comes from (R366): an IDP session over UDP of a peer entry, the IDP session over CAN,
or the control program. -/
inductive ReqSource where
  | udp (peer : Nat)
  | can
  | program
  deriving DecidableEq, Repr

/-- A protected word of cell state memory as a read finds it (R194 to R198): its address, the symbols in error with their
error values, and, beyond the cell records, what the word holds: 0 interpolation constants or a sweep descriptor, 1 a
per-rod deal, 2 and 3 the first and the second copy of the invalid-record bitmap, 4 nothing; the rod of a deal; the cells
whose updates in flight read it. -/
structure WordErr where
  word : Nat
  errs : List (Nat × Byte)
  area : Nat
  rod : Nat
  readers : List Nat
  deriving DecidableEq, Repr

/-- A piece of a PUSH transfer: the peer it goes to and its OFFSET (R378). -/
structure PushRef where
  peer : Nat
  offset : Nat
  deriving DecidableEq, Repr

/-- How a message came over Ethernet (R382): the port (0 P1, 1 P2), the LAN its trailer names, its source and sequence
number as PRP and HSR carry them; the IPv4 address of its sender and the UDP port it was sent to (R308). -/
structure NetFrame where
  port : Nat
  lan : Nat
  source : Nat
  seq : Nat
  addr : Nat := 0
  udp : Nat := 0
  deriving DecidableEq, Repr

/-- A dictionary request as received (Table 15.8): its source and TAG; of its header what the command does not name: VERSION, OP
where it is the code of no operation, the reserved fields (PDU_FLAGS from bit 1, bytes 21 to 23, ABORT) as one number; how its
datagram came over Ethernet; its DATA; the words of cell records that its read finds in error (R196). -/
structure Req where
  src : ReqSource
  tag : Nat
  version : Nat := 1
  op : Option Nat := none
  reserved : Nat := 0
  net : Option NetFrame := none
  data : Bytes
  words : List WordErr := []
  deriving DecidableEq, Repr

/-- A request whose operation acts on no object: the index and subindex its header carries, the request. -/
structure HeadReq where
  index : Nat
  sub : Nat
  req : Req
  deriving DecidableEq, Repr

/-- A CAN frame as received or sent: channel, identifier with format, remote frame, FD format, data field. -/
structure CanFrame where
  channel : Nat
  id : Nat
  ext : Bool
  rtr : Bool
  fd : Bool
  brs : Bool
  data : Bytes
  deriving DecidableEq, Repr

/-- An Announce message as received (R40, R41): port (1 P1, 2 P2), profile and domain it belongs to, clock identity
of its grandmaster path, and the fields by which the best master clock algorithm ranks it. -/
structure Announce where
  port : Nat
  profile : Nat
  domain : Nat
  master : Nat
  rank : List Nat
  deriving DecidableEq, Repr

/-- What a Sync message carries (R36, R41): its sequence number, the master's time in ns with the path delay taken in. -/
structure PtpSync where
  seq : Nat
  masterNs : Nat
  deriving DecidableEq, Repr

/-- A train as it reaches a head (Table 3.6, R70, R71): the bytes after its SFD up to its EOD or its first BREAK, and the
bytes after each BREAK up to the next or the EOD. -/
structure Train where
  bytes : Bytes
  after : List Bytes
  deriving DecidableEq, Repr

/-- A front-end as the module knows it: what its ENUM block or its registers say (Tables 3.9, 3.14), the slot its latest
STATUS shows as running and whether an activation is armed (Table 3.8), the FORMAT of its latest block, the physical
connector that is its port A where it has been read, whether its port A faces the far end of the chain, its SYNC_DELAY_A
and SYNC_DELAY_B in ns as last written. -/
structure FoundDev where
  uid : Nat := 0
  part : Nat := 0
  channels : Nat := 0
  hwRev : Nat := 0
  fw : Nat := 0
  slot : Option Nat := none
  armed : Bool := false
  format : Nat := 1
  conn : Option Bool := none
  swapped : Bool := false
  delayA : Nat := 0
  delayB : Nat := 0
  deriving DecidableEq, Repr

/-- The train that answers an ECHO (R75, R76): the time in ns from the reference instant of the frame to the start of the
train's SFD, and the train. -/
structure EchoTrain where
  time : Nat
  train : Train
  deriving DecidableEq, Repr

/-- What one device answers in steps 8 and 9 of R82, none where no train comes: its 16 ECHOs from the reading head, the
CONFIG_WRITE of SYNC_DELAY_A, that of its other registers, its 16 ECHOs from the other head, the CONFIG_WRITE of SYNC_DELAY_B. -/
structure DevAnswers where
  echoA : List (Option EchoTrain) := []
  delayA : Option Train := none
  regs : Option Train := none
  echoB : List (Option EchoTrain) := []
  delayB : Option Train := none
  deriving DecidableEq, Repr

/-- What shows as one chain is enumerated (R82): the trains that answer the ENUM and CONFIG_READ frames of steps 3 to 7 in
the order sent, none where no train comes; what the devices answer in steps 8 and 9, in address order; whether the other
head received the last ENUM. For a listening head of a BRIDGE: what it has learned of its chain (R88). -/
structure EnumHead where
  head : Nat
  replies : List (Option Train)
  devs : List DevAnswers
  farHeard : Bool
  learned : List FoundDev
  deriving DecidableEq, Repr

/-- What one device answers as delays are measured again (R76): its address, the trains of its 16 ECHOs, none where no train
comes, the train that answers CONFIG_READ of its registers STATE and ERRORS. -/
structure EchoDev where
  addr : Nat
  echoes : List (Option EchoTrain)
  regs : Option Train
  deriving DecidableEq, Repr

/-- The fields of a SYNC as sent, for the window of its sweep (R101), and the heads to which lead calibration makes it
carry BLANKING 0 (R133). -/
structure SyncRec where
  sweep : Nat
  startAngle : Nat
  harmA : Nat
  harmB : Nat
  blanking : Bool
  pilot : Bool
  fw : Nat
  open_ : List Nat
  deriving DecidableEq, Repr

/-- The window-path values of one string at the sample instants of a window, as densities (R103), and whether the
window is complete (R104). -/
structure StringWindow where
  string : Nat
  densities : List Rat
  complete : Bool
  deriving DecidableEq, Repr

/-- What the tail of a sweep meets outside core 0: the rods whose known-answer test fails (R188), the words of cell records
that its reads find in error, those for a checkpoint or for the partner among them (R196). -/
structure TailRun where
  rods : List Nat
  words : List WordErr
  deriving DecidableEq, Repr

/-- What the header of a kernel declares (R176, R177): its identity, c_base, c_relin, c_sop and c_par, the record FORMAT
values it can read. -/
structure Kernel where
  id : Nat
  costs : List Nat
  reads : List Nat
  deriving DecidableEq, Repr

/-- A checkpoint record (Table 8.5), its bounds and values as rationals. -/
structure CpRec where
  cell : Nat
  flags : Nat
  fe : Nat
  profile : Nat
  age : Nat
  markP : Nat
  x : List Rat
  xBound : List Rat
  drift : Rat
  theta : List Rat
  thetaBound : List Rat
  anchorZ : Option Rat
  anchorQ : Rat
  anchorU : Rat
  anchorDq : Rat
  deriving DecidableEq, Repr

/-- A restore (R205, R209, R210): the generation, the UID of each front-end index, the PROFILE_CRC of each profile, the
records, and for a partner by cell the charge of its string in A·s from its record's mark to the instant of the offer
(log entry 137). -/
structure Restore where
  generation : Nat
  uids : List Nat
  crcs : List Nat
  records : List CpRec
  charges : List (Nat × Rat)
  deriving DecidableEq, Repr

/-- What a field cycle samples (R408): the ten masks of DI, oldest first (R413); the comparators X and Y of each KO pad
(R417); the group supplies present and the current of each group in A (R415); the ten samples of each analog input in V or mA
(R419). -/
structure FieldSample where
  di : List Nat
  koX : Nat
  koY : Nat
  kg : Nat
  ai : List (List Rat)
  kgA : List Rat := []
  deriving DecidableEq, Repr

/-- What a safety cycle samples beside the accepted input levels (R290, R291): the readbacks of the KO pads as X and as Y
reads them, whether the exchange was missing, what the controllers find of themselves: 3 a self-test, 4 a supply or clock
monitor that has failed, 5 signatures that differ; whether the self-test of a SAFETY_RESTART ended in this cycle (R292). -/
structure SafetySample where
  koX : Nat
  koY : Nat
  lost : Bool
  failure : Nat
  tested : Bool := false
  deriving DecidableEq, Repr

/-- The memory of an instance of a module block (Table 16.4): start of its timing on the program clock in ns, its outputs
ET, Q and CV, its previous input, and whether an unmatched edge instance takes its current input as previous at its first
call after an exchange (R404). -/
structure BlockSt where
  start : Nat := 0
  et : Nat := 0
  q : Bool := false
  cv : Int := 0
  prev : Bool := false
  noEdge : Bool := false
  deriving DecidableEq, Repr

/-- What a scan meets beside the state (R393): whether its code traps (R394), and the words of the cell records that its object
bindings read in error (R196). -/
structure ScanRun where
  trap : Bool
  words : List WordErr
  deriving DecidableEq, Repr

/-- What a standby keeps of the program (R405): the MIRROR variables by symbol number, the memory of the blocks among them, the force entries, the levels of
the bound DOs, the program clock in ns with base L of its scan. -/
structure ProgMsg where
  vars : List (Nat × Bytes)
  blocks : List (Nat × BlockSt) := []
  forces : List Bytes
  dos : Nat
  clock : Nat
  at_ : Nat
  deriving DecidableEq, Repr

/-- A SNAPSHOT (R404): instance data, block memory, clock, forces, debug state, output image: DO levels and the values last
written to object bindings by binding; the cycle boundaries passed since its scan; the program image that ran. -/
structure Snapshot where
  data : Bytes
  blocks : List (Nat × BlockSt)
  clock : Nat
  forces : List Bytes
  debug : Bool
  dos : Nat
  written : List (Nat × Bytes)
  passed : Nat := 0
  image : Bytes
  deriving DecidableEq, Repr

/-- How a transmit attempt ended (R352): 0 sent, 1 arbitration lost, 2 an error; the transmitter loop delay measured in an FD
frame, in kernel clocks (R343); of an error whether it struck in the data phase (R346), whether it is one for which ISO 11898-1
leaves the transmit error counter as it is, and how many further times ISO 11898-1 adds 8 to it (R344). -/
structure TxOutcome where
  code : Nat
  delay : Nat := 0
  dataPhase : Bool := false
  exempt : Bool := false
  eights : Nat := 0
  deriving DecidableEq, Repr

/-- An error in a frame being received (R344, R346): whether it struck in the data phase; whether it is one for which ISO 11898-1
leaves the receive error counter as it is, and how many times ISO 11898-1 adds 8 to it. -/
structure RxError where
  dataPhase : Bool
  exempt : Bool := false
  eights : Nat := 0
  deriving DecidableEq, Repr

/-- HEARTBEAT (Table 18.2): role, PAIR_SYNC and SYNC_BLOCK, READY, position, serial number, base L in ns at sending, sweep
and mains cycle count of the next mark, ns into the program cycle, SAFETY_SIGNATURE, enable image, pair states, QSF SEQ
values, the planned swap announced with its kind; and what R434 compares: ordering code is IBX-4096-S, safety RUNNING,
CRC of the shared configuration, MAP_CRC, MAIN version and PAIR_MIN_MAIN of the running manifest, whether it is in
brown-out; and the heads whose segment role ends at the next mark because the reading head's frames reach them again
(R116). -/
structure Heartbeat where
  role : Nat
  sync : Nat
  block : Nat
  ready : Bool
  position : Nat
  serial : Nat
  l : Nat
  markSweep : Nat
  markCycle : Nat
  phase : Nat
  signature : Nat
  enables : Nat
  pairStates : List Nat
  qsf : List Nat
  swap : Option (Nat × Nat)
  small : Bool
  safe : Bool
  configCrc : Nat
  mapCrc : Nat
  mainVersion : Nat
  minMain : Nat
  brownout : Bool
  restored : List Nat
  deriving DecidableEq, Repr

/-- A string in CONTROL: sequencer state, step, contactors of the sequence, checks raised, latches, proof test state with
whether the latest test failed and whether it is overdue, the step timer: ns since the running step began,
power limits set to 0, precharge cooldown and failures. -/
structure StringControl where
  seq : Nat
  phase : Nat
  touched : Nat
  raised : Nat
  openLatch : Bool
  lockout : Bool
  proof : Nat
  failed : Bool := false
  overdue : Bool := false
  timer : Nat := 0
  zero : Bool := false
  czero : Bool := false
  cooldown : Bool := false
  fails : Nat := 0
  deriving DecidableEq, Repr

/-- A thermal loop in CONTROL: BAND state, ACCUMULATOR, PENDING, PULSE_COUNT, region, whether a hand-over is pending, the
model value, the fault cause. -/
structure LoopControl where
  band : Bool
  acc : Nat
  pending : Int
  pulses : Int
  region : Nat
  handover : Bool
  model : Rat
  fault : Nat
  deriving DecidableEq, Repr

/-- CONTROL (Table 18.2): the strings, KO commands, CONTAINER_TRIPPED, container command, shares and SEQ of the set-points,
the table's dealer, its priority and the share, the table cycle whose DEAL was accepted with its sender, the loops, the next instant of each mark output. -/
structure Control where
  strs : List StringControl
  ko : Nat
  tripped : Bool
  command : Rat
  shares : List Rat
  single : Rat
  seqs : List Nat
  dealer : Nat
  dealerPrio : Nat
  share : Rat
  accepted : Option (Nat × Nat × Nat) := none
  loops : List LoopControl
  marks : List (Option Nat)
  deriving DecidableEq, Repr

/-- A string in SWEEP: window mean and phasors in A, whether invalid, cumulative charge and drift allowance in A·s. -/
structure SweepString where
  mean : Rat
  iA : Rat × Rat
  iB : Rat × Rat
  invalid : Bool
  charge : Rat
  drift : Rat
  deriving DecidableEq, Repr

/-- SWEEP (Table 18.2): sweep count, the SYNC of the sweep with its harmonics and frequency word, the strings, the schedule
of the next SYNC with its fields, the cycle of the next mark and its dither, and the heads whose latest READ train was not
normal (R111). -/
structure SweepMsg where
  sweep : Nat
  sync : SyncRec
  next : SyncRec
  strs : List SweepString
  nextMark : Option Nat
  delta : Int
  cut : List Nat
  deriving DecidableEq, Repr

/-- The messages of the PAIR link (Table 18.2). -/
inductive PairMsg where
  | heartbeat (h : Heartbeat)
  | control (c : Control)
  | sweep (m : SweepMsg)
  | mirror (entries : List Bytes)
  | program (p : ProgMsg)
  | snapshot (x : Snapshot)
  | segment (head expected : Nat) (raw : Bytes)
  | config (index sub : Nat) (data : Bytes)
  | restore (x : Restore)
  /-- A power request that the pair block starts at the partner, the entry that ends it, a wake (R459, R460, R465). -/
  | request (state : Nat)
  | enter (state : Nat)
  | wake
  deriving DecidableEq, Repr

/-- What shows as a start-up step completes (R454, R472, R488): whether the crystal is ready; whether every slot of the
committed and of the trial set verifies; whether the safety self-test passes; recorder pages with a damaged newer buffer,
each with whether both are; what enumeration finds. -/
structure StartObs where
  crystal : Bool
  sets : Bool × Bool
  selfTest : Bool
  pages : List (Nat × Bool)
  found : List EnumHead
  deriving DecidableEq, Repr

/-- The commands of the module (spec/opcode_table.json). -/
inductive Instr where
  /-- SWEEP_MARK (R25). Base M reaches the sweep mark phase: the window closes, the sweep count advances and mark-bound actions run. -/
  | sweepMark
  /-- PTP_SYNC_MESSAGE (R36). A Sync from the selected master gives an offset measurement that drives the servo, lock state and slew. -/
  | ptpSyncMessage (port profile domain master : Nat) (x : PtpSync)
  /-- PTP_ANNOUNCE_MESSAGE (R41). An Announce message is taken into master selection and port choice. -/
  | ptpAnnounceMessage (a : Announce)
  /-- ANNOUNCE_RECEIPT_TIMEOUT (R38). No Sync or Announce within the timeout puts base P in HOLDOVER or moves to the other path. -/
  | announceReceiptTimeout (port : Nat)
  /-- P_SET (R35). A write of P_SET steps base P while the step is armed. -/
  | pSet (r : Req)
  /-- ANG_EDGE (R44). A rising ANG edge captures the angle and gives a phase error to the lock loop. -/
  | angEdge
  /-- PCS_ANGLE_MESSAGE (R45). The PCS angle message is stamped on base L and gives a phase error. -/
  | pcsAngleMessage (f : CanFrame) (sofL : Nat)
  /-- ANG_EDGE_TIMEOUT (R47). No accepted ANG edge within 1.5 nominal periods puts base M in HOLDOVER. -/
  | angEdgeTimeout
  /-- ANG_MSG_TIMEOUT (R47). No valid PCS angle message within ANG_MSG_TIMEOUT puts base M in HOLDOVER. -/
  | angMsgTimeout
  /-- M_HOLDOVER_MAX_EXPIRY (R47). After M_HOLDOVER_MAX in HOLDOVER base M becomes FREE at the nominal frequency. -/
  | mHoldoverMaxExpiry
  /-- XTAL_COMP_UPDATE (R55). Every 100 ms the crystal correction is updated by at most 0.05 ppm and passed to the servos. -/
  | xtalCompUpdate
  /-- MARK_PULSE (R53). A mark output reaches its programmed instant and emits its pulse. -/
  | markPulse (n : Fin 4)
  /-- SYNC_SEND (R101). At t_w − SYNC_LEAD each reading head sends SYNC(k) with fields from base M. -/
  | syncSend
  /-- WINDOW_LATCH (R104). String window values of the sweep are latched into cell state memory. -/
  | windowLatch (ws : List StringWindow)
  /-- READ_START (R100). Each reading head sends READ(k) with DEST 0. -/
  | readStart
  /-- BLOCK_RECEIVED (R109). A sweep block arrives whole at a head and is checked, stored and passed to protection. -/
  | blockReceived (head expected : Nat) (raw : Bytes)
  /-- TRAIN_RECEIVED (R70). A train's EOD arrives at a head and the train is evaluated. -/
  | trainReceived (head : Nat) (t : Train)
  /-- TRAIN_WAIT_TIMEOUT (R72). A train not complete within its wait is counted in HEAD_TIMEOUTS. -/
  | trainWaitTimeout (head : Nat) (begun : Bool)
  /-- SEGMENT_READ_ORDER (R114). The other head of a cut chain receives the order and reads its segment if it fits; an
  order over PAIR says how many devices lie beyond the cut. -/
  | segmentReadOrder (head devices : Nat)
  /-- CARRIER_CHECK (R112). At ARRIVAL_WAIT a listening head checks for the reading head's frame carrier. -/
  | carrierCheck (head kind : Nat) (arrived : Bool)
  /-- CONTINUITY_RESTORED (R116). A segment head receiving a valid down frame stops transmitting and sets HEAD_CONTINUITY. -/
  | continuityRestored (head : Nat)
  /-- HEARTBEAT_DUE (R90). 10 ms after the last chain frame on an idle chain the head sends HEARTBEAT. -/
  | heartbeatDue (head : Nat)
  /-- ECHO_DUE (R76). ECHO_PERIOD expires and the head re-measures delays and rewrites changed ones. -/
  | echoDue (head : Nat) (fromB : Bool) (results : List EchoDev)
  /-- READDRESS (R87). In idle chain time a head sends ENUM to re-address a device that lost its address. -/
  | readdress (head : Nat) (answers : List (Option Train))
  /-- ACCEPT_DEVICE (R86). A write adopts the observed UID of a MISMATCH entry into the position map. -/
  | acceptDevice (r : Req)
  /-- ABACUS_DEADLINE (R182). At t0 + T − 2 ms unblocked cells are STALE and unused fresh cells DEFERRED. -/
  | abacusDeadline
  /-- SWEEP_TAIL (R26). Core 0 runs the tail: estimated checks, bleed targets, limits, anchors, temperature, deals and recording. -/
  | sweepTail (run : TailRun) (finished : Bool)
  /-- CI_FAULT (R103). A bitstream without transitions for 2 µs or a bad sensor supply raises CI_FAULT. -/
  | ciFault (string : Nat)
  /-- CI_FAULT_CLEAR (R103). CI_FAULT clears after 100 ms without its conditions. -/
  | ciFaultClear (string : Nat)
  /-- OVERCURRENT (R267). Two consecutive main-path samples beyond a level remove the string's commands in hardware. -/
  | overcurrent (string : Nat)
  /-- CELL_UPDATE_DONE (R156). A rod finishes a cell update and stores the record whole. -/
  | cellUpdateDone (rod cell : Nat) (errs : List WordErr) (mirror : Option (CpRec × Rat))
  /-- KERNEL_OVERRUN (R177). An update that issued its worst cost is stopped and the cell DEFERRED. -/
  | kernelOverrun (rod cell : Nat)
  /-- SCRUB_WORD (R196). The scrubber reads a protected word, corrects and writes it back. -/
  | scrubWord (w : WordErr)
  /-- BALANCE_SEND (R125). BALANCE frames are sent every BALANCE_PERIOD or after an inhibit change. -/
  | balanceSend (periodic : Bool)
  /-- LEAD_CAL_START (R133). A write starts the lead calibration of one or all front-ends. -/
  | leadCalStart (r : Req)
  /-- LEAD_CAL_TIMEOUT (R133). A front-end not complete after 30 × LEAD_CAL_REPEATS sweeps is abandoned. -/
  | leadCalTimeout
  /-- ANCHOR_ARM (R164). An anchor timer reaches its hold time and arms its anchor. -/
  | anchorArm (string : Nat)
  /-- ANCHOR_TIMER_EXPIRY (R164). After 2 s of stale or invalid sweeps the anchor timer resets. -/
  | anchorTimerExpiry (string : Nat)
  /-- PARTNER_PREFERENCE_EXPIRY (R204). PARTNER_PREFERENCE passes and a held host checkpoint may be applied. -/
  | partnerPreferenceExpiry
  /-- RESTORE_TIMEOUT_EXPIRY (R204). RESTORE_TIMEOUT passes without a restore and the estimator starts cold. -/
  | restoreTimeoutExpiry
  /-- CHECKPOINT (R209). A completed write of a host checkpoint is checked and accepted or refused. -/
  | checkpoint (r : Req)
  /-- CHECKPOINT_PERIOD_EXPIRY (R211). CHECKPOINT_PERIOD passes and a paced generation starts. -/
  | checkpointPeriodExpiry
  /-- CHECKPOINT_DEMAND (R211). A write starts a generation or makes the running one unpaced. -/
  | checkpointDemand (r : Req)
  /-- PUSH_CONFIRM (R378). A peer confirms a PUSH piece; the last confirmation completes the transfer. -/
  | pushConfirm (peer offset : Nat) (abort : Nat)
  /-- PUSH_RETRY (R378). An unconfirmed piece is resent after 200 ms, failing the transfer after five attempts. -/
  | pushRetry (piece : PushRef)
  /-- SENSOR_FAILED (R226). The suspect timer or three open/short raw values make a sensor FAILED and substituted. -/
  | sensorFailed (sensor cause : Nat)
  /-- SENSOR_RESET (R226). A write returns a FAILED sensor to OK. -/
  | sensorReset (r : Req)
  /-- THRESHOLD_DWELL (R229). A level, rate or protection rule element holds its condition for the dwell and changes state. -/
  | thresholdDwell (kind n element : Nat)
  /-- MODULE_DIE_READ (R234). Every 100 ms the module die sensors are read and die thresholds evaluated. -/
  | moduleDieRead (temps : List Rat)
  /-- LOOP_TICK (R246). Every 1 ms each running thermal loop runs its law and drives its output. -/
  | loopTick
  /-- HANDOVER_FORCED (R254). HANDOVER_MAX passes and the hand-over is ended by force. -/
  | handoverForced (loop : Nat)
  /-- SENSE_LOST (R243). A sensed value invalid for SENSE_TIMEOUT faults the loop. -/
  | senseLost (loop : Nat)
  /-- PLAUSIBILITY_FAULT (R255). A residual above PLAUS_LIMIT for PLAUS_TIME faults the loop. -/
  | plausibilityFault (loop : Nat)
  /-- LOOP_FRAME_SEND (R250). A loop with a CAN output sends its frame on change or every 100 ms. -/
  | loopFrameSend (loop : Nat)
  /-- SENSE_CAN_FRAME (R242). A CAN frame updates a loop's coolant temperature. -/
  | senseCanFrame (f : CanFrame)
  /-- LAW_REQ (R253). A write changes the loop law and starts a hand-over. -/
  | lawReq (loop : Nat) (r : Req)
  /-- MANUAL (R253). A write changes between AUTO and MANUAL and starts a hand-over. -/
  | manual (loop : Nat) (r : Req)
  /-- MANUAL_OUT (R253). A write sets the manual level or adds pulses to PENDING. -/
  | manualOut (loop : Nat) (r : Req)
  /-- ISO_MESSAGE (R268). An insulation monitor frame updates R_ISO and the insulation checks. -/
  | isoMessage (f : CanFrame)
  /-- ISO_LOST (R265). No valid insulation message for ISO_MSG_TIMEOUT raises ISO_LOST. -/
  | isoLost
  /-- BUS_VOLTAGE_FRAME (R275). A PCS bus voltage frame updates BUS_VOLTAGE. -/
  | busVoltageFrame (f : CanFrame)
  /-- BUS_LOST (R265). No valid bus message for BUS_MSG_TIMEOUT raises the BUS_LOST warning. -/
  | busLost (string : Nat)
  /-- CURRENT_INPUT_TIMEOUT (R265). CI_FAULT held for CI_FAULT_TIME raises CI_FAULT_ACTION. -/
  | currentInputTimeout (string : Nat)
  /-- STRING_COMMAND_CLOSE (R276). A CLOSE is checked and starts the close sequence. -/
  | stringCommandClose (string : Nat) (r : Req)
  /-- STRING_COMMAND_OPEN (R279). An OPEN starts a normal opening of the string. -/
  | stringCommandOpen (string : Nat) (r : Req)
  /-- CONTACT_TIME_EXPIRY (R277). CONTACT_TIME passes and the contactor is confirmed or the sequence fails. -/
  | contactTimeExpiry (string : Nat)
  /-- PRECHARGE_TIMEOUT (R277). PRECHARGE_TIMEOUT passes without a match: PRECHARGE_FAIL and emergency opening. -/
  | prechargeTimeout (string : Nat)
  /-- PRECHARGE_OVERLAP_EXPIRY (R277). PRECHARGE_OVERLAP passes and the precharge contactor is switched off. -/
  | prechargeOverlapExpiry (string : Nat)
  /-- PRECHARGE_COOLDOWN_END (R278). The precharge cooldown ends. -/
  | prechargeCooldownEnd (string : Nat)
  /-- BREAK_WAIT_END (R279). Current falls below BREAK_CURRENT or BREAK_WAIT passes, and positive and precharge open. -/
  | breakWaitEnd (string : Nat)
  /-- NEG_OPEN_DELAY_EXPIRY (R279). NEG_OPEN_DELAY passes and the negative contactor opens. -/
  | negOpenDelayExpiry (string : Nat)
  /-- WELD_CHECK_TIME_EXPIRY (R283). The voltage test ends with WELD_SUSPECT or WELD_UNCHECKED. -/
  | weldCheckTimeExpiry (string : Nat)
  /-- PROT_RESET (R264). A write clears protection latches of a string or all strings. -/
  | protReset (r : Req)
  /-- WELD_CLEAR (R284). A write clears WELD_LOCKOUT and SAFE_WELD when every aux shows open. -/
  | weldClear (r : Req)
  /-- SAFETY_CYCLE (R290). Each 1 ms safety cycle samples, evaluates, drives enables and cross-compares. -/
  | safetyCycle (x : SafetySample)
  /-- SI_CHANGE_ACCEPTED (R293). A safety input level held for SI_FILTER or OSSD_DIP_MAX is accepted. -/
  | siChangeAccepted (controller channel : Nat) (level : Bool)
  /-- TEST_PULSE_FRAME (R295). Each 50 ms frame checks channel dips and may raise TEST_PULSE. -/
  | testPulseFrame (failed : List Nat)
  /-- DISCREPANCY_FAULT (R296). The discrepancy count exceeds DISCREPANCY_TIME and the pair faults. -/
  | discrepancyFault (pair : Nat)
  /-- STOP1_DELAY_EXPIRY (R300). STOP1_DELAY passes and the enables of covered strings are removed. -/
  | stop1DelayExpiry (source : Nat)
  /-- SAFE_WELD (R304). An SI aux input not open within SAFE_AUX_TIME raises SAFE_WELD. -/
  | safeWeld (output : Nat)
  /-- PROOF_DUE (R305). PROOF_INTERVAL passes and the string becomes DUE. -/
  | proofDue (string : Nat)
  /-- PROOF_OVERDUE (R306). PROOF_INTERVAL + PROOF_GRACE passes and the string becomes OVERDUE. -/
  | proofOverdue (string : Nat)
  /-- PROOF_START (R305). A write or the dispatcher starts a proof test of a string. -/
  | proofStart (r : Req)
  /-- PROOF_TEST_STEP (R305). A proof test step's wait ends and its pass condition is judged. -/
  | proofTestStep (string : Nat)
  /-- QSF_FRAME_RECEIVED (R309). A QSF frame is accepted or rejected by a consumer. -/
  | qsfFrameReceived (conn : Nat) (data : Bytes) (via : NetFrame)
  /-- QSF_WATCHDOG_EXPIRY (R309). No accepted frame within QSF_WATCHDOG makes the connection FAULTED. -/
  | qsfWatchdogExpiry (conn : Nat)
  /-- QSF_SEND (R310). A producer sends its frame every QSF_CYCLE or on a change of bits. -/
  | qsfSend (conn : Nat)
  /-- SAFETY_LOGIN (R311). A password write opens a safety session or counts a failure. -/
  | safetyLogin (r : Req)
  /-- SAFETY_LOGOUT (R311). An empty string write ends the safety session. -/
  | safetyLogout (r : Req)
  /-- SAFETY_SESSION_TIMEOUT (R311). 15 minutes without a SAFE write end the safety session. -/
  | safetySessionTimeout
  /-- LOCKOUT_END (R313). The 10-minute login lock-out ends. -/
  | lockoutEnd
  /-- SAFETY_PASSWORD_NEW (R312). A write sets the safety password. -/
  | safetyPasswordNew (r : Req)
  /-- SAFETY_RESTART (R292). A write re-runs the safety self-test and restarts the safety function. -/
  | safetyRestart (r : Req)
  /-- SAFE_RESET (R299). A remote reset ends the demanding state of returned sources. -/
  | safeReset (r : Req)
  /-- DISPATCH_COMMAND (R328). A write gives a fresh IDP command value. -/
  | dispatchCommand (r : Req)
  /-- CMD_CAN_FRAME (R328). A command frame gives a fresh CAN command value. -/
  | cmdCanFrame (f : CanFrame)
  /-- CMD_LOST (R328). No fresh command for CMD_TIMEOUT applies CMD_FALLBACK. -/
  | cmdLost
  /-- SETPOINT_FRAME_SEND (R326). A set-point frame is sent every SETPOINT_PERIOD or on change. -/
  | setpointFrameSend (string : Nat)
  /-- TABLE_CYCLE_START (R330). At t_n every seat sends its OFFER. -/
  | tableCycleStart
  /-- OFFER_RECEIVED (R329). A table OFFER is authenticated and recorded. -/
  | offerReceived (data : Bytes) (via : NetFrame)
  /-- DEAL_SEND (R330). At t_n + 30 ms the dealer deals the plant command and sends DEAL. -/
  | dealSend
  /-- DEAL_RECEIVED (R330). A DEAL is accepted and the seat takes its share. -/
  | dealReceived (data : Bytes) (via : NetFrame)
  /-- TABLE_CYCLE_CHECK (R330). At t_n + 70 ms a seat without a DEAL counts a missed cycle. -/
  | tableCycleCheck
  /-- DEAL_HOLD_MAX_EXPIRY (R333). DEAL_HOLD_MAX without a DEAL sets the command to 0 and TABLE_LOST. -/
  | dealHoldMaxExpiry
  /-- CAL_MAX_TIME_EXPIRY (R335). CAL_MAX_TIME aborts the calibration charge. -/
  | calMaxTimeExpiry
  /-- CAL_SHORTFALL_TIMEOUT (R335). A shortfall above 0 for 1 s aborts the calibration charge. -/
  | calShortfallTimeout
  /-- CAN_FRAME_RECEIVED (R347). A frame received without error goes to service filters and the filter list. -/
  | canFrameReceived (f : CanFrame) (esi : Bool) (sofL : Nat)
  /-- PROTOCOL_EXCEPTION (R340). A recessive res bit makes the controller wait for bus idle. -/
  | protocolException (channel : Nat)
  /-- CAN_TX_DONE (R352). A transmit attempt completes, fails or is cancelled and TX_STATE updates. -/
  | canTxDone (channel : Nat) (early : Option Nat) (outcome : TxOutcome) (sofL : Nat)
  /-- CAN_BUS_OFF (R344). The channel enters bus-off and it is logged. -/
  | canBusOff (channel : Nat)
  /-- BUSOFF_RECOVERY (R344). Bus-off recovery completes and pending buffers resume. -/
  | busoffRecovery (channel : Nat)
  /-- TX_REQUEST (R351). A write requests transmission of integrator buffers. -/
  | txRequest (channel : Nat) (r : Req)
  /-- TX_CANCEL (R353). A write requests cancellation of buffers. -/
  | txCancel (channel begun : Nat) (r : Req)
  /-- RX_FIFO_POP (R350). A read at offset 0 returns and removes the oldest FIFO entry. -/
  | rxFifoPop (channel fifo offset length : Nat) (r : Req)
  /-- TX_EVENT_POP (R355). A read at offset 0 returns and removes the oldest transmit event. -/
  | txEventPop (channel offset length : Nat) (r : Req)
  /-- DETECT_DWELL_EXPIRY (R346). DETECT_DWELL passes and the next rate candidate is tried. -/
  | detectDwellExpiry (channel : Nat)
  /-- DETECT_TIMEOUT (R346). DETECT_TIMEOUT passes and the channel faults with DETECT_FAILED. -/
  | detectTimeout (channel : Nat)
  /-- CAN_WAKE_PATTERN (R356). A wake-up pattern on the bus raises the CAN wake source. -/
  | canWakePattern (channel : Nat)
  /-- READ (R373). An IDP READ returns an object value. -/
  | read (index sub : Nat) (r : Req)
  /-- WRITE (R363). An IDP WRITE to an object without a row of its own. -/
  | write (index sub : Nat) (r : Req)
  /-- READ_RANGE (R373). An IDP READ_RANGE returns consecutive elements. -/
  | readRange (index sub count : Nat) (r : Req)
  /-- DOMAIN_READ (R373). An IDP DOMAIN_READ returns a piece of a DOMAIN. -/
  | domainRead (index sub offset length : Nat) (r : Req)
  /-- DOMAIN_WRITE (R375). An IDP DOMAIN_WRITE piece extends a transfer that applies whole at LAST. -/
  | domainWrite (index sub offset : Nat) (last : Bool) (r : Req)
  /-- PUSH (R373). A PUSH request sent to the module is refused. -/
  | push (r : HeadReq)
  /-- KEEPALIVE (R373). An IDP KEEPALIVE is answered. -/
  | keepalive (r : HeadReq)
  /-- TRANSFER_LAPSE (R375). A DOMAIN transfer lapses after 10 s without a piece. -/
  | transferLapse (index sub : Nat)
  /-- FUNCTION_RUN (R369). A RUN of a function runs its checks and arms it. -/
  | functionRun (index sub : Nat) (r : Req) (found : List EnumHead)
  /-- FUNCTION_STOP (R369). A STOP of a function stops it unless refused. -/
  | functionStop (index sub : Nat) (r : Req)
  /-- CONFIG_SAVE (R370). A write stores the RW objects to flash. -/
  | configSave (r : Req)
  /-- SESSION_HANDSHAKE (R377). A DTLS handshake opens an IDP session for a matching peer. -/
  | sessionHandshake (fingerprint : Bytes) (via : NetFrame)
  /-- IDP_IDLE_TIMEOUT (R377). A session without a valid datagram for IDP_IDLE_TIMEOUT ends. -/
  | idpIdleTimeout (peer : Nat)
  /-- NET_CONFIRM_TIMEOUT (R384). No session within NET_CONFIRM_TIME reverts the Ethernet settings. -/
  | netConfirmTimeout
  /-- SUPERVISION_FRAME_SEND (R382). PRP or HSR supervision frames are sent every RED_SUPERVISION. -/
  | supervisionFrameSend
  /-- SOLICIT (R385). A received SOLICIT schedules an ANNOUNCE after a random delay. -/
  | solicit (data : Bytes) (via : NetFrame)
  /-- ANNOUNCE (R385). The module sends its discovery ANNOUNCE. -/
  | announce
  /-- PROGRAM_SCAN (R393). At a cycle boundary core 1 runs a scan of the control program. -/
  | programScan (micros : Nat) (scan : ScanRun)
  /-- PROG_WATCHDOG (R394). A scan still running after PROG_WATCHDOG cycles is stopped and the program faults. -/
  | progWatchdog
  /-- VAR_VALUE (R397). A write changes one program variable online. -/
  | varValue (n : Nat) (r : Req)
  /-- FORCE_ENTRY (R400). A write sets or removes a force. -/
  | forceEntry (n : Nat) (r : Req)
  /-- PROG_DEBUG_ENTER (R399). A write of 1 enters debug in DEBUG_MODEL. -/
  | progDebugEnter (r : Req)
  /-- PROG_DEBUG_LEAVE (R399). A write of 0 leaves debug unless forces remain. -/
  | progDebugLeave (r : Req)
  /-- PROG_STEP (R399). A write runs one scan in HOLD. -/
  | progStep (r : Req)
  /-- PROGRAM_STAGED (R403). A write stages a new image on the standby. -/
  | programStaged (r : Req)
  /-- EXCHANGE_REQUEST (R404). A write arms a program exchange through a planned swap. -/
  | exchangeRequest (r : Req) (staged : Bytes)
  /-- EXCHANGE_TIMEOUT (R404). A swap not started within 10 s fails the exchange. -/
  | exchangeTimeout
  /-- SNAPSHOT_RECEIVED (R404). The new active module maps the snapshot and applies the output image. -/
  | snapshotReceived (x : Snapshot)
  /-- FIELD_CYCLE (R408). Each 1 ms field cycle reads back outputs, inputs and drives pads. -/
  | fieldCycle (x : FieldSample)
  /-- FIELD_RESTART (R408). Barrier power returns and the field side restarts with pads off and latches cleared. -/
  | fieldRestart (x : FieldSample)
  /-- FIELD_SUPPLY_FAULT (R408). The barrier supply out of limits for 1 ms raises FIELD_SUPPLY_FAULT. -/
  | fieldSupplyFault
  /-- DIE_RESET (R410). A controller die reset keeps pad latches and sets FIELD_LATCHED. -/
  | dieReset
  /-- FIELD_RELEASE (R411). A write releases the pad latches to their owners' commands. -/
  | fieldRelease (r : Req)
  /-- DI_CHANGE (R414). A filtered DI value changes and reaches its users. -/
  | diChange (n : Nat) (level : Bool)
  /-- AI_SETTLED (R420). An AI in range for 100 ms becomes VALID. -/
  | aiSettled (n : Nat)
  /-- PI_GATE_END (R421). A pulse input gate ends and frequency and duty are computed. -/
  | piGateEnd (n : Nat) (rises falls : List Nat)
  /-- PI_TIMEOUT (R421). PI_TIMEOUT without two edges makes the input LOST. -/
  | piTimeout (n : Nat)
  /-- KG_WINDOW_END (R415). A 1 s group current window ends and overloads are counted. -/
  | kgWindowEnd (last : List Rat)
  /-- KO_CLAMP_MEASURED (R416). A switch-off clamp ends and its energy is recorded. -/
  | koClampMeasured (m : Nat) (current time : Rat)
  /-- DO_OVERTEMP (R418). A DO driver switches off at overtemperature and sets DO_OVERLOAD. -/
  | doOvertemp (n : Nat)
  /-- KG_PATH_TRIP (R504). A group path trips and switches off all eight outputs. -/
  | kgPathTrip (g : Nat)
  /-- PAIR_HEARTBEAT_SEND (R430). Every 1 ms each module sends HEARTBEAT and the active module CONTROL. -/
  | pairHeartbeatSend
  /-- PAIR_HEARTBEAT_RECEIVED (R430). A partner heartbeat is received and synchronisation evaluated. -/
  | pairHeartbeatReceived (h : Heartbeat)
  /-- HEARTBEAT_MISS (R431). 1.1 ms without a heartbeat counts a miss. -/
  | heartbeatMiss
  /-- CONTROL_RECEIVED (R430). The standby takes sequencer, loop and dispatch states from CONTROL. -/
  | controlReceived (c : Control)
  /-- SWEEP_MESSAGE_RECEIVED (R430). The standby takes the sweep schedule and string values. -/
  | sweepMessageReceived (m : SweepMsg)
  /-- MIRROR_RECEIVED (R439). Mirror entries update the standby's mirror store. -/
  | mirrorReceived (entries : List Bytes)
  /-- PROGRAM_MESSAGE_RECEIVED (R405). The standby keeps the mirrored variables, forces and output image. -/
  | programMessageReceived (p : ProgMsg)
  /-- CONFIG_RECEIVED (R435). The standby applies a shared configuration write. -/
  | configReceived (index sub : Nat) (data : Bytes)
  /-- RESTORE_RECEIVED (R205). A partner restore offer is received. -/
  | restoreReceived (x : Restore)
  /-- SEGMENT_RECEIVED (R115). A block forwarded by the standby segment head is checked and stored. -/
  | segmentReceived (head expected : Nat) (raw : Bytes)
  /-- ROLE_IN_ASSERTED (R429). ROLE_IN asserted with own ROLE_OUT open makes the safety controllers yield. -/
  | roleInAsserted
  /-- ROLE_IN_DEASSERTED (R440). ROLE_IN deasserted starts a takeover in a SYNCED standby. -/
  | roleInDeasserted
  /-- ROLE_COLLISION (R433). Both ROLE_OUT asserted for 1 ms: position 2 yields and becomes STANDBY. -/
  | roleCollision
  /-- SPLIT_DETECTED (R433). Link loss with ROLE_IN asserted 2 ms longer sets SPLIT_DETECTED. -/
  | splitDetected
  /-- ALIVE_LOST (R429). No die alive signal for 2.1 ms opens the ROLE_OUT switches. -/
  | aliveLost
  /-- PAIR_START_WAIT_EXPIRY (R432). A position-2 module ends its wait and becomes ACTIVE. -/
  | pairStartWaitExpiry
  /-- TP_DRIVE_STOP (R428). 100 ms after heartbeats stop without takeover the standby stops driving TP. -/
  | tpDriveStop
  /-- SWAP_DUE (R446). ROLE_SWAP_TIME is reached and a planned swap falls due. -/
  | swapDue
  /-- SWAP_REQUEST (R446). A write makes a planned swap due at once. -/
  | swapRequest (r : Req)
  /-- SWAP_SKIP (R447). A swap not started within 1 h is skipped. -/
  | swapSkip
  /-- COLD_START (R454). The supply monitors release the carrier and start-up begins. -/
  | coldStart
  /-- START_STEP_DONE (R454). A start-up step completes and the next begins. -/
  | startStepDone (x : StartObs)
  /-- REGULATOR_RETRY (R454). No power-good within 20 ms switches regulators off for a retry. -/
  | regulatorRetry
  /-- WELL_TONE_LOSS (R463). Tone absent for 32 µs raises the TONE wake source. -/
  | wellToneLoss
  /-- CHAIN_ACTIVITY (R92). Chain activity at a sleeping head raises the CHAIN wake source. -/
  | chainActivity
  /-- WAKE_ON_LAN (R464). A magic packet raises the ETHERNET wake source. -/
  | wakeOnLan
  /-- WAKE_TIMER_EXPIRY (R464). WAKE_TIMER passes and raises the TIMER wake source. -/
  | wakeTimerExpiry
  /-- WATCH_SCAN (R462). Every WATCH_PERIOD the watch engine scans each chain against the watch limits. -/
  | watchScan (trains : List (Nat × Option Train))
  /-- POWER_REQUEST_WATCH (R458). A write requests WATCH and starts an entry handshake. -/
  | powerRequestWatch (r : Req)
  /-- POWER_REQUEST_DORMANT (R458). A write requests DORMANT and starts an entry handshake. -/
  | powerRequestDormant (r : Req)
  /-- POWER_REQUEST_TRANSPORT (R458). A write requests TRANSPORT and starts an entry handshake. -/
  | powerRequestTransport (r : Req) (energised : Bool)
  /-- HANDSHAKE_ANSWER (R459). A block answers ACCEPT, DELAY or REFUSE to the entry handshake. -/
  | handshakeAnswer (block partner : Nat)
  /-- HANDSHAKE_DELAY_EXPIRY (R459). A block's delay runs out and it is asked again. -/
  | handshakeDelayExpiry (block : Nat)
  /-- HANDSHAKE_TIMEOUT (R459). 5 s without all ACCEPT ends the request with TIMEOUT. -/
  | handshakeTimeout
  /-- TRANSPORT_RELEASE (R461). Supply with TRANSPORT_RELEASE energised for 100 ms returns the module by a cold start. -/
  | transportRelease (supply : Bool)
  /-- BROWNOUT_RAISED (R466). Input below 16 V for 1 ms raises BROWNOUT. -/
  | brownoutRaised
  /-- BROWNOUT_CLEARED (R466). Input above 17 V for 100 ms clears BROWNOUT. -/
  | brownoutCleared
  /-- HOLDUP_RECOMPUTE (R466). Every 10 ms HOLDUP_REMAINING is recomputed. -/
  | holdupRecompute (energy load v1 v2 : Rat)
  /-- CRYSTAL_LOST (R457). The crystal stops or drifts and the module enters DEGRADED_CLOCK in service. -/
  | crystalLost (deviation : Nat)
  /-- XTAL_TEST (R456). Every 60 s in DEGRADED_CLOCK the crystal is tested. -/
  | xtalTest (ready : Bool)
  /-- POWER_RESTART (R456). A write restarts the core domain from step 2. -/
  | powerRestart (r : Req)
  /-- THROTTLE_START (R468). Die sensor 01 at 110 °C for 1 s throttles the Abacus. -/
  | throttleStart
  /-- THROTTLE_END (R468). Die sensor 01 at 100 °C or less for 60 s returns the clock. -/
  | throttleEnd
  /-- DIE_CRITICAL (R468). A controller-die sensor, 00 to 02, at 125 °C for 1 s sets DIE_CRITICAL. -/
  | dieCritical (sensor : Nat) (temp : Rat)
  /-- UPDATE_MANIFEST (R475). A written manifest is verified and held. -/
  | updateManifest (r : Req)
  /-- UPDATE_PIECE (R476). A firmware piece is written, read back and marked in the bitmap. -/
  | updatePiece (component piece : Nat) (r : Req)
  /-- COMPONENT_HASH_DONE (R477). The hash of a completed component slot is compared with the manifest. -/
  | componentHashDone (component : Nat)
  /-- IMAGE_LOAD_FRAME (R478). In idle chain time a head sends IMAGE frames to front-ends. -/
  | imageLoadFrame (head : Nat)
  /-- UPDATE_COMMAND_ACTIVATE (R481). A write arms an activation at sweep N; `intact` says whether the slots it switches read
  back as they were written. -/
  | updateCommandActivate (r : Req) (kernel : Kernel) (intact : Bool)
  /-- UPDATE_COMMAND_CANCEL (R481). A write discards the manifest and bitmaps. -/
  | updateCommandCancel (r : Req)
  /-- POSTCHECK_COMPLETE (R482). All post-checks pass and the activation is committed; `frontEnds` are the trains that answer the
  reads of the front-ends' FW registers, by 256 x head + address. -/
  | postcheckComplete (frontEnds : List (Nat × Option Train))
  /-- POSTCHECK_TIMEOUT (R482). POSTCHECK_TIME passes without all checks and reversion starts. -/
  | postcheckTimeout (frontEnds : List (Nat × Option Train))
  /-- RECORDER_COMMIT (R487). Every 900 s the working image is committed to MRAM. -/
  | recorderCommit
  /-- RECORDER_COMMIT_NOW (R487). A write commits the working image at once. -/
  | recorderCommitNow (r : Req)
  /-- RECORDER_CLEAR (R498). A write clears recorder pages or the log. -/
  | recorderClear (r : Req)
  /-- CAN_RECEIVE_ERROR (R346). A stuff, form or CRC error is detected in a frame being received on a channel. -/
  | canReceiveError (channel : Nat) (error : RxError)
  /-- CI_MAIN_PATH_SAMPLE (R103). Every 40 µs of base L the current input front-end produces a main-path sample for each string. -/
  | ciMainPathSample (d : List (Nat × Rat))
  /-- CARRIER_POWER_LOST (R467). After final stop, or with inputs removed in FAILED_START, the hold-up runs empty and the carrier loses power. -/
  | carrierPowerLost
  /-- ETHERNET_LINK_CHANGE (R387). The link on P1, P2 or PAIR comes up or goes down. -/
  | ethernetLinkChange (port : Nat) (up : Bool)
  deriving DecidableEq, Repr

end Sys2Proof
end

