-- ==== Sys2Proof/Decode.lean ====
section
/-!
DEFINITION. The command that a table word spells: spec/opcode_table.json gives its rows no bits, so no word spells a
command, and the block has no encoder.
-/

namespace Sys2Proof

/-- The command of a word of `nbits` bits: none, no row of the table gives bits. -/
def decodeTableWord (_nbits _w : Nat) : Option Instr := none

end Sys2Proof
end

