-- ==== Sys2Proof/Config.lean ====
section
/-!
DEFINITION. What the spec leaves open: FREE VALUES, constants without a body, so that nothing in Lean can evaluate
them or prove a value of them. A function of operands stands where the same operands give the same value (a
mathematical function whose rounding the spec does not state, a cryptographic function it takes from another
standard); a function of a counter stands where each use is fresh (`State.free` counts the uses). The assumption log
names each.
-/

namespace Sys2Proof.Config

/-- The error of a real function as the hardware computes it (the spec states no rounding), by the number of the function
and its argument; the model limits it (`Machine.inexact`). -/
opaque roundErr : Nat → Rat → Rat
/-- What a real function gives at an argument at which mathematics gives it no value, or one beyond every number format. -/
opaque unstated : Nat → Rat → Rat
/-- Whether a value that a format of the given fraction bits does not hold exactly is encoded by the neighbour farther from
zero (the spec states no rounding). -/
opaque roundUp : Nat → Rat → Bool
/-- The bits a NaN is read as, by width in bits. -/
opaque nanBits : Nat → Nat
/-- A fresh rational the spec does not state, one for each use. -/
opaque freeRat : Nat → Rat
/-- A fresh natural number the spec does not state, one for each use. -/
opaque freeNat : Nat → Nat
/-- A fresh byte string the spec does not state, one for each use. -/
opaque freeBytes : Nat → Bytes
/-- A set-point in kW where the limits less the pilot amplitude leave no value, from the two bounds that cross (R327). -/
opaque clampCrossed (lo hi : Rat) : Rat
/-- The CODE of an exception record for which Table 21.5 gives none: the return of a sensor to service (R226). -/
opaque returnCode : BitVec 16
/-- A number that stands for an infinite one where a rule computes with it, by whether it is the negative one: the spec states
no result. -/
opaque infinite : Bool → Rat
/-- The frequency word for a reference whose frequency 32 bits of it do not hold (R42, R45). -/
opaque wideWord : Nat → Nat
/-- What the kernel's workspace in a cell record holds (Table 7.2): by cell, sweep of its last update and byte. -/
opaque workByte : Nat → Int → Nat → Byte
/-- SHA-256: 32 bytes from a byte string. -/
opaque sha256Digest : Bytes → Vector Byte 32
/-- HMAC-SHA-256: 32 bytes from a key and a byte string. -/
opaque hmacDigest : Bytes → Bytes → Vector Byte 32
/-- SHA-256 of a byte string (R376, R477). -/
def sha256 (b : Bytes) : Bytes := (sha256Digest b).toList
/-- HMAC-SHA-256 under a key (R329). -/
def hmac (key b : Bytes) : Bytes := (hmacDigest key b).toList
/-- Whether a signature over a message verifies under a public key (R176, R474). -/
opaque signatureValid : Bytes → Bytes → Bytes → Bool
/-- The salted hash that stands for a safety password (R312). -/
opaque passwordHash : Bytes → Nat
/-- The checksum over the shared configuration of a pair, of its objects in ascending order with their values: the spec
does not lay out the form over which it is formed (R434, R435). -/
opaque sharedCrc : Bytes → Nat
/-- A call of a module block by the control program in a scan (Table 16.4): the instance (its symbol number), the block
(0 ON_DELAY, 1 OFF_DELAY, 2 PULSE, 3 RISE, 4 FALL, 5 COUNT_UP, 6 COUNT_DOWN), its inputs. -/
structure BlockCall where
  instance_ : Nat
  kind : Nat
  a : Bool
  b : Bool
  v : Int
  deriving DecidableEq, Repr

/-- A stretch of one execution of the program's code, up to a call of a module block or to its end: from the code, the instance
data and the working values before it, the program clock in ns and the number of the stretch, the instance data and the
working values after it and the call, if it ends in one. The code section is no interface of the module (R389). -/
opaque programStretch : Bytes → Bytes → Bytes → Nat → Nat → Bytes × Bytes × Option BlockCall
/-- How many stretches one execution of the code has, from the code, the instance data before it and the program clock. -/
opaque programStretches : Bytes → Bytes → Nat → Nat
/-- What the instance data of a module block hold of it: start of its timing, ET, Q and CV, from its TYPE_HASH and the bytes.
The spec does not lay out the data of an instance. -/
opaque instanceValues : Nat → Bytes → Nat × Nat × Bool × Int
/-- The bytes that stand in the instance data for a module block, from its TYPE_HASH and its start, ET, Q, CV and previous input. -/
opaque instanceBytes : Nat → Nat → Nat → Bool → Int → Bool → Bytes

end Sys2Proof.Config
end

