-- ==== Sys2Proof/Machine/Val.lean ====
section
/-!
DEFINITION. Values of dictionary objects, their types and ranges (Table 15.1, R361, R362), and the little-endian and
IEEE 754 helpers that read and write them.
-/

namespace Sys2Proof.Machine

/-- The value of an object: an integer (every integer type, BOOL as 0 or 1), a real number held exactly, the IEEE
special values, or a byte string (STRING, DOMAIN). -/
inductive Val where
  | int (i : Int)
  | real (q : Rat)
  | nan
  | negZero
  | inf (neg : Bool)
  | bytes (b : Bytes)
  deriving DecidableEq, Repr

/-- Object types (Table 15.1). -/
inductive Ty where
  | bool | u8 | u16 | u32 | u64 | i32 | i64 | f32 | f64 | time64 | string | domain
  deriving DecidableEq, Repr

/-- Access codes (Table 15.2). -/
inductive Access where
  | ro | rw | rws | wo | safe
  deriving DecidableEq, Repr

/-- The role an object table names for a write; `dflt` where it names none (R364). -/
inductive RoleReq where
  | dflt | operator | engineer | safety
  deriving DecidableEq, Repr

/-- The Range column of an object table (R10, R362, R517, R518). -/
inductive Range where
  | any
  | spans (l : List (Int × Int))
  | rspans (l : List (Rat × Rat))
  | atLeast (q : Rat)
  | bits (mask : Nat)
  | canId
  | strs (more : List Int)
  | fes (more : List Int)
  | sensors
  | chars (l : List (Nat × Nat))
  | lens (l : List (Nat × Nat))
  | lensTimes (unit lo hi : Nat)
  | lensByCode (full small : Nat)
  | upToByCode (full small : Nat)
  | heads
  | owner
  deriving DecidableEq, Repr

/-- The Default column of an object table. -/
inductive Dflt where
  | v (v : Val)
  | zeros (n : Nat)
  | zerosPerHead (n : Nat)
  | peer (first rest : Int)
  | listed (first : List Val) (rest : Val)
  | peerFp
  | tpEven | tpOdd | maskAll
  | orderCode | serial | hwRevision | certFp | macP1 | macP2 | xtalTable | epoch
  deriving DecidableEq, Repr

/-- Which elements of an index exist on the ordering code (R3, R368). -/
inductive Lim where
  | all | heads | strings | contactors | cells | sensors | frontEnds
  deriving DecidableEq, Repr

/-- One row of an object table: the span of subindices, the name and the row's columns. -/
structure ObjRow where
  lo : Nat
  hi : Nat
  name : String
  ty : Ty
  access : Access
  role : RoleReq
  dflt : Dflt
  range : Range
  deriving DecidableEq, Repr

/-- One line of the index map: the first index, how many follow it in turn, their rows, the key of the function state
that governs them (0 for none) with its step from index to index, and which elements exist. -/
structure ObjGroup where
  first : Nat
  count : Nat
  rows : List ObjRow
  fn : Nat
  fnStep : Nat
  lim : Lim
  deriving DecidableEq, Repr

/-- The size of a type in bytes; `none` for STRING and DOMAIN (Table 15.1). -/
def Ty.size : Ty → Option Nat
  | .bool | .u8 => some 1
  | .u16 => some 2
  | .u32 | .i32 | .f32 => some 4
  | .u64 | .i64 | .f64 | .time64 => some 8
  | .string | .domain => none

/-- Whether a value of the type is held as a real number. -/
def Ty.isReal : Ty → Bool
  | .f32 | .f64 => true
  | _ => false

/-- Whether the type is read and written by READ, WRITE and READ_RANGE: scalar or STRING (R373). -/
def Ty.isScalar : Ty → Bool
  | .string | .domain => false
  | _ => true

/-- The integer of a value; 0 where the value is no integer. -/
def Val.toInt : Val → Int
  | .int i => i
  | _ => 0

/-- The natural number of a value; 0 where the value is none. -/
def Val.toNat (v : Val) : Nat := v.toInt.toNat

/-- The real number of a value: a free value for an infinite one (log entry 174), 0 where the value is none. -/
def Val.toRat : Val → Rat
  | .real q => q
  | .int i => (i : Rat)
  | .inf neg => Config.infinite neg
  | _ => 0

/-- The real number of a value, `none` for a NaN or an infinity. -/
def Val.toRat? : Val → Option Rat
  | .real q => some q
  | .int i => some (i : Rat)
  | .negZero => some 0
  | _ => none

/-- Whether a number lies below another, infinities included; a NaN is not ordered. -/
def Val.lt (a b : Val) : Bool :=
  match a, b with
  | .inf x, .inf y => x && !y
  | .inf x, b => x && b.toRat?.isSome
  | a, .inf y => !y && a.toRat?.isSome
  | a, b => match a.toRat?, b.toRat? with
    | some x, some y => decide (x < y)
    | _, _ => false

/-- Whether two numbers are equal, infinities included. -/
def Val.same (a b : Val) : Bool := a != .nan && b != .nan && !a.lt b && !b.lt a

/-- A number less another, infinities included: a NaN where it has no value. -/
def Val.minus (a b : Val) : Val :=
  match a, b with
  | .inf x, .inf y => if x = y then .nan else .inf x
  | .inf x, _ => .inf x
  | _, .inf y => .inf (!y)
  | a, b => .real (a.toRat - b.toRat)

/-- The byte string of a value; empty where the value is none. -/
def Val.toBytes : Val → Bytes
  | .bytes b => b
  | _ => []

/-- The real value of an optional number, NaN for none. -/
def Val.ofRat? : Option Rat → Val
  | some q => .real q
  | none => .nan

/-- `n` bytes of a natural number, least significant first (R361). -/
def leBytes : Nat → Nat → Bytes
  | 0, _ => []
  | n + 1, v => BitVec.ofNat 8 (v % 256) :: leBytes n (v / 256)

/-- The natural number a byte string spells, least significant byte first (R361). -/
def leNat : Bytes → Nat
  | [] => 0
  | b :: r => b.toNat + 256 * leNat r

/-- `n` bytes of a byte string from offset `o`. -/
def slice (b : Bytes) (o n : Nat) : Bytes := (b.drop o).take n

/-- A byte string of exactly `n` bytes: cut, or filled with zeros. -/
def fit (n : Nat) (b : Bytes) : Bytes := (b ++ List.replicate n 0).take n

/-- An unsigned field of `n` bytes at offset `o`. -/
def fieldU (b : Bytes) (o n : Nat) : Nat := leNat (slice b o n)

/-- A natural number of `bits` bits read as two's complement. -/
def signedOf (bits v : Nat) : Int := if 2 ^ (bits - 1) ≤ v then (v : Int) - 2 ^ bits else v

/-- A signed field of `n` bytes at offset `o`. -/
def fieldI (b : Bytes) (o n : Nat) : Int := signedOf (8 * n) (fieldU b o n)

/-- An integer as two's complement of `bits` bits. -/
def twos (bits : Nat) (i : Int) : Nat := (i % (2 ^ bits : Nat)).toNat

/-- 2 to an integer power. -/
def pow2 (e : Int) : Rat := if 0 ≤ e then ((2 ^ e.toNat : Nat) : Rat) else 1 / ((2 ^ (-e).toNat : Nat) : Rat)

/-- An IEEE 754 encoding with `eb` exponent bits and `mb` fraction bits, read as a value. -/
def decodeFloat (eb mb w : Nat) : Val :=
  let m := w % 2 ^ mb
  let e := w / 2 ^ mb % 2 ^ eb
  let neg := bitOf w (eb + mb)
  let bias : Int := 2 ^ (eb - 1) - 1
  if e = 2 ^ eb - 1 then (if m = 0 then .inf neg else .nan)
  else if e = 0 ∧ m = 0 then (if neg then .negZero else .real 0)
  else
    let q : Rat := if e = 0 then (m : Rat) * pow2 (1 - bias - mb) else ((2 ^ mb + m : Nat) : Rat) * pow2 ((e : Int) - bias - mb)
    .real (if neg then -q else q)

/-- The IEEE 754 encoding of a rational: exact where the format holds it, else one of its two neighbours in the format; a
magnitude beyond the largest finite one becomes that one or an infinity. -/
def encodeRat (eb mb : Nat) (q : Rat) : Nat :=
  if q = 0 then 0 else
  let a := rabs q
  let e0 : Int := (Nat.log2 a.num.toNat : Int) - Nat.log2 a.den
  let e1 : Int := if a < pow2 e0 then e0 - 1 else e0
  let bias : Int := 2 ^ (eb - 1) - 1
  let e : Int := if e1 < 1 - bias then 1 - bias else e1
  let m := a * pow2 (mb - e)
  let s := if q < 0 then 2 ^ (eb + mb) else 0
  let inf := (2 ^ eb - 1) * 2 ^ mb
  let away := m.den != 1 && Config.roundUp mb q
  if bias < e then s + (if Config.roundUp mb q then inf else inf - 1) else
  let mi := m.floor.toNat
  s + (if mi < 2 ^ mb then mi else (e + bias).toNat * 2 ^ mb + (mi - 2 ^ mb)) + b2n away

/-- The bits of a real value in a format. -/
def encodeFloat (eb mb : Nat) : Val → Nat
  | .real q => encodeRat eb mb q
  | .int i => encodeRat eb mb (i : Rat)
  | .nan => Config.nanBits (1 + eb + mb)
  | .negZero => 2 ^ (eb + mb)
  | .inf neg => (if neg then 2 ^ (eb + mb) else 0) + (2 ^ eb - 1) * 2 ^ mb
  | .bytes _ => 0

/-- The bytes in which a value of a type is read (R361). -/
def Ty.encode (t : Ty) (v : Val) : Bytes :=
  match t with
  | .bool | .u8 => leBytes 1 (twos 8 v.toInt)
  | .u16 => leBytes 2 (twos 16 v.toInt)
  | .u32 | .i32 => leBytes 4 (twos 32 v.toInt)
  | .u64 | .i64 | .time64 => leBytes 8 (twos 64 v.toInt)
  | .f32 => leBytes 4 (encodeFloat 8 23 v)
  | .f64 => leBytes 8 (encodeFloat 11 52 v)
  | .string | .domain => v.toBytes

/-- The value that bytes of a type's length spell (R361). -/
def Ty.decode (t : Ty) (b : Bytes) : Val :=
  match t with
  | .bool | .u8 | .u16 | .u32 | .u64 | .time64 => .int (leNat b)
  | .i32 => .int (signedOf 32 (leNat b))
  | .i64 => .int (signedOf 64 (leNat b))
  | .f32 => decodeFloat 8 23 (leNat b)
  | .f64 => decodeFloat 11 52 (leNat b)
  | .string | .domain => .bytes b

/-- A binary32 field at offset `o` of a byte string. -/
def fieldF32 (b : Bytes) (o : Nat) : Val := decodeFloat 8 23 (fieldU b o 4)
/-- A binary64 field at offset `o` of a byte string. -/
def fieldF64 (b : Bytes) (o : Nat) : Val := decodeFloat 11 52 (fieldU b o 8)
/-- The binary32 bytes of a value. -/
def f32Bytes (v : Val) : Bytes := Ty.encode .f32 v
/-- The binary64 bytes of a value. -/
def f64Bytes (v : Val) : Bytes := Ty.encode .f64 v

/-- The key of an object: index × 65,536 + subindex (R360). -/
def objKey (index sub : Nat) : Nat := index * 65536 + sub

end Sys2Proof.Machine
end

