-- ==== Sys2Proof/Machine/ObjTable.lean ====
section
/-!
DEFINITION. The object tables of the spec as data (R367, R368 and the object tables of every chapter): for each
index its rows of subindex span, name, type, access, role, default and range, the function whose state governs its
stop-required objects (Table 15.5), and which of its elements exist on an ordering code (R3, R368).
-/

namespace Sys2Proof.Machine

/-- Rows of index 0x1000 (15_dictionary.md). -/
def objRows1000 : List ObjRow := [
  ⟨0x1, 0x1, "ORDER_CODE", .string, .ro, .dflt, .orderCode, .any⟩,
  ⟨0x2, 0x2, "MODULE_SERIAL", .u64, .ro, .dflt, .serial, .any⟩,
  ⟨0x3, 0x3, "HW_REVISION", .u16, .ro, .dflt, .hwRevision, .any⟩,
  ⟨0x4, 0x4, "MODULE_NAME", .string, .rw, .dflt, .v (.bytes []), .chars [(0, 32)]⟩,
  ⟨0x5, 0x5, "CONFIG_SAVE", .u8, .wo, .engineer, .v (.int 0), .spans [(1, 1)]⟩,
  ⟨0x6, 0x6, "CONFIG_CRC", .u32, .ro, .dflt, .v (.int 0), .any⟩,
  ⟨0x7, 0x7, "CONFIG_SAVED_TIME", .time64, .ro, .dflt, .v (.int 0), .any⟩,
  ⟨0x8, 0x8, "DICT_VERSION", .u16, .ro, .dflt, .v (.int 1), .any⟩,
  ⟨0x9, 0x9, "MODULE_CERT_FP", .domain, .ro, .dflt, .certFp, .any⟩,
  ⟨0xA, 0xA, "ABORT_LAST", .u32, .ro, .dflt, .v (.int 0), .any⟩,
  ⟨0xB, 0xB, "ABORTS_ISSUED", .u32, .ro, .dflt, .v (.int 0), .any⟩]

/-- Rows of index 0x2000 (02_time.md). -/
def objRows2000 : List ObjRow := [
  ⟨0x1, 0x1, "TIME_STATE", .u8, .rw, .dflt, .v (.int 1), .spans [(0, 1)]⟩,
  ⟨0x2, 0x2, "PTP_ENABLE", .bool, .rws, .dflt, .v (.int 1), .spans [(0, 1)]⟩,
  ⟨0x3, 0x3, "PTP_PROFILE", .u8, .rws, .dflt, .v (.int 2), .spans [(0, 2)]⟩,
  ⟨0x4, 0x4, "PTP_DOMAIN", .u8, .rws, .dflt, .v (.int 0), .spans [(0, 127)]⟩,
  ⟨0x5, 0x5, "PTP_LOCK_LIMIT", .u32, .rws, .dflt, .v (.int 1000), .spans [(100, 1000000)]⟩,
  ⟨0x6, 0x6, "OFFSET_LARGE_LIMIT", .u32, .rws, .dflt, .v (.int 1000000), .spans [(10000, 1000000000)]⟩,
  ⟨0x7, 0x7, "P_SET", .time64, .wo, .engineer, .v (.int 0), .any⟩,
  ⟨0x8, 0x8, "P_STATE", .u8, .ro, .dflt, .v (.int 0), .any⟩,
  ⟨0x9, 0x9, "OFFSET_LARGE", .bool, .ro, .dflt, .v (.int 0), .any⟩,
  ⟨0xA, 0xA, "P_SECONDS", .u64, .ro, .dflt, .v (.int 0), .any⟩,
  ⟨0xB, 0xB, "P_NANOSECONDS", .u32, .ro, .dflt, .v (.int 0), .any⟩,
  ⟨0xC, 0xC, "L_NOW", .u64, .ro, .dflt, .v (.int 0), .any⟩,
  ⟨0xD, 0xD, "P_STEP_L", .u64, .ro, .dflt, .v (.int 0), .any⟩,
  ⟨0xE, 0xE, "P_STEP_SIZE", .i64, .ro, .dflt, .v (.int 0), .any⟩,
  ⟨0xF, 0xF, "PTP_OFFSET", .i64, .ro, .dflt, .v (.int 0), .any⟩,
  ⟨0x10, 0x10, "PTP_RATE", .i32, .ro, .dflt, .v (.int 0), .any⟩,
  ⟨0x11, 0x11, "PTP_PORT", .u8, .ro, .dflt, .v (.int 0), .any⟩,
  ⟨0x12, 0x12, "PTP_MASTER_ID", .u64, .ro, .dflt, .v (.int 0), .any⟩,
  ⟨0x13, 0x13, "XTAL_COMP", .i32, .ro, .dflt, .v (.int 0), .any⟩,
  ⟨0x14, 0x14, "XTAL_TABLE", .domain, .ro, .dflt, .xtalTable, .any⟩]

/-- Rows of index 0x2010 (02_time.md). -/
def objRows2010 : List ObjRow := [
  ⟨0x1, 0x1, "MK_STATE", .u8, .rw, .dflt, .v (.int 0), .spans [(0, 1)]⟩,
  ⟨0x2, 0x2, "MK_BASE", .u8, .rws, .dflt, .v (.int 0), .spans [(0, 2)]⟩,
  ⟨0x3, 0x3, "MK_MODE", .u8, .rws, .dflt, .v (.int 0), .spans [(0, 1)]⟩,
  ⟨0x4, 0x4, "MK_START", .u64, .rws, .dflt, .v (.int 0), .any⟩,
  ⟨0x5, 0x5, "MK_START_ANGLE", .u32, .rws, .dflt, .v (.int 0), .any⟩,
  ⟨0x6, 0x6, "MK_PERIOD", .u64, .rws, .dflt, .v (.int 1000000000), .any⟩,
  ⟨0x7, 0x7, "MK_WIDTH", .u32, .rws, .dflt, .v (.int 1000), .spans [(100, 100000000)]⟩,
  ⟨0x8, 0x8, "MK_SKIPPED", .u32, .ro, .dflt, .v (.int 0), .any⟩,
  ⟨0x9, 0x9, "MK_LATE", .bool, .ro, .dflt, .v (.int 0), .any⟩]

/-- Rows of index 0x2020 (02_time.md). -/
def objRows2020 : List ObjRow := [
  ⟨0x1, 0x1, "ANGLE_STATE", .u8, .rw, .dflt, .v (.int 1), .spans [(0, 1)]⟩,
  ⟨0x2, 0x2, "ANGLE_SOURCE", .u8, .rws, .dflt, .v (.int 0), .spans [(0, 3)]⟩,
  ⟨0x3, 0x3, "M_NOMINAL_FREQ", .f32, .rws, .dflt, .v (.real 50), .rspans [(45, 65)]⟩,
  ⟨0x4, 0x4, "ANG_OFFSET", .i32, .rws, .dflt, .v (.int 0), .any⟩,
  ⟨0x5, 0x5, "ANG_MSG_CHANNEL", .u8, .rws, .dflt, .v (.int 0), .spans [(0, 1)]⟩,
  ⟨0x6, 0x6, "ANG_MSG_ID", .u32, .rws, .dflt, .v (.int 288), .canId⟩,
  ⟨0x7, 0x7, "ANG_MSG_TIMEOUT", .u16, .rws, .dflt, .v (.int 50), .spans [(10, 1000)]⟩,
  ⟨0x8, 0x8, "ANGLE_SLEW_MAX", .u16, .rws, .dflt, .v (.int 50), .spans [(1, 200)]⟩,
  ⟨0x9, 0x9, "M_HOLDOVER_MAX", .u16, .rws, .dflt, .v (.int 10), .spans [(1, 600)]⟩,
  ⟨0xA, 0xA, "M_STATE", .u8, .ro, .dflt, .v (.int 0), .any⟩,
  ⟨0xB, 0xB, "M_ANGLE", .u32, .ro, .dflt, .v (.int 0), .any⟩,
  ⟨0xC, 0xC, "M_FREQ_WORD", .u32, .ro, .dflt, .v (.int 140737488), .any⟩,
  ⟨0xD, 0xD, "M_CYCLE_COUNT", .u64, .ro, .dflt, .v (.int 0), .any⟩,
  ⟨0xE, 0xE, "M_PHASE_ERROR", .i32, .ro, .dflt, .v (.int 0), .any⟩,
  ⟨0xF, 0xF, "ANG_GLITCHES", .u32, .ro, .dflt, .v (.int 0), .any⟩]

/-- Rows of index 0x2100 (03_krytlink.md). -/
def objRows2100 : List ObjRow := [
  ⟨0x1, 0x1, "CHAIN_STATE", .u8, .rw, .dflt, .v (.int 1), .spans [(0, 1)]⟩,
  ⟨0x2, 0x2, "POSITION_MAP", .domain, .rws, .dflt, .v (.bytes []), .upToByCode 12304 6160⟩,
  ⟨0x3, 0x3, "ECHO_PERIOD", .u16, .rws, .dflt, .v (.int 600), .spans [(10, 3600)]⟩,
  ⟨0x4, 0x4, "ACCEPT_DEVICE", .u16, .wo, .engineer, .v (.int 0), .fes []⟩,
  ⟨0x5, 0x5, "ENUM_DONE", .bool, .ro, .dflt, .v (.int 0), .any⟩,
  ⟨0x6, 0x6, "MAP_MISMATCHES", .u16, .ro, .dflt, .v (.int 0), .any⟩,
  ⟨0x7, 0x7, "MAP_ERROR_ENTRY", .u16, .ro, .dflt, .v (.int 65535), .any⟩]

/-- Rows of index 0x2110 (03_krytlink.md). -/
def objRows2110 : List ObjRow := [
  ⟨0x1, 0x1, "HEAD_SHAPE", .u8, .rws, .dflt, .v (.int 0), .spans [(0, 3)]⟩,
  ⟨0x2, 0x2, "HEAD_PEER", .u8, .rws, .dflt, .v (.int 0), .heads⟩,
  ⟨0x3, 0x3, "HEAD_ROLE", .u8, .ro, .dflt, .v (.int 0), .any⟩,
  ⟨0x4, 0x4, "HEAD_DEVICES", .u8, .ro, .dflt, .v (.int 0), .any⟩,
  ⟨0x5, 0x5, "HEAD_TURN_ADDR", .u8, .ro, .dflt, .v (.int 0), .any⟩,
  ⟨0x6, 0x6, "HEAD_TURN_CAUSE", .u8, .ro, .dflt, .v (.int 0), .any⟩,
  ⟨0x7, 0x7, "HEAD_CONTINUITY", .bool, .ro, .dflt, .v (.int 0), .any⟩,
  ⟨0x8, 0x8, "HEAD_TONE", .bool, .ro, .dflt, .v (.int 0), .any⟩,
  ⟨0x9, 0x9, "HEAD_CRC_ERRORS", .u32, .ro, .dflt, .v (.int 0), .any⟩,
  ⟨0xA, 0xA, "HEAD_TIMEOUTS", .u32, .ro, .dflt, .v (.int 0), .any⟩,
  ⟨0xB, 0xB, "HEAD_BREAKS", .u32, .ro, .dflt, .v (.int 0), .any⟩,
  ⟨0xC, 0xC, "HEAD_UNEXPECTED", .u8, .ro, .dflt, .v (.int 0), .any⟩,
  ⟨0xD, 0xD, "HEAD_ENUM_FAULT", .u8, .ro, .dflt, .v (.int 0), .any⟩,
  ⟨0xE, 0xE, "CHAIN_TOO_LONG", .bool, .ro, .dflt, .v (.int 0), .any⟩,
  ⟨0xF, 0xF, "BREAK_HOP", .u8, .ro, .dflt, .v (.int 255), .any⟩,
  ⟨0x10, 0x10, "BREAK_SWEEP", .u64, .ro, .dflt, .v (.int 0), .any⟩,
  ⟨0x11, 0x11, "SEGMENT_DEVICES", .u8, .ro, .dflt, .v (.int 0), .any⟩,
  ⟨0x12, 0x12, "ARRIVAL_WAIT", .u32, .ro, .dflt, .v (.int 0), .any⟩]

/-- Rows of index 0x2200 (02_time.md). -/
def objRows2200 : List ObjRow := [
  ⟨0x2, 0x2, "SWEEP_CYCLES", .u8, .rws, .dflt, .v (.int 3), .spans [(1, 60)]⟩,
  ⟨0x3, 0x3, "SWEEP_ANGLE", .u32, .rws, .dflt, .v (.int 0), .any⟩,
  ⟨0x4, 0x4, "WINDOW_CYCLES", .u8, .rws, .dflt, .v (.int 1), .spans [(1, 4)]⟩,
  ⟨0x5, 0x5, "SWEEP_DITHER", .bool, .rws, .dflt, .v (.int 0), .spans [(0, 1)]⟩,
  ⟨0x6, 0x6, "SWEEP_CYCLES_EFFECTIVE", .u8, .ro, .dflt, .v (.int 3), .any⟩,
  ⟨0x7, 0x7, "SWEEP_COUNT", .u64, .ro, .dflt, .v (.int 0), .any⟩,
  ⟨0x8, 0x8, "WINDOW_UNLOCKED", .bool, .ro, .dflt, .v (.int 0), .any⟩,
  ⟨0x9, 0x9, "SWEEP_FREE_RUN", .bool, .ro, .dflt, .v (.int 1), .any⟩,
  ⟨0x1, 0x1, "SWEEP_STATE", .u8, .rw, .dflt, .v (.int 1), .spans [(0, 1)]⟩,
  ⟨0xA, 0xA, "SYNC_LEAD", .u32, .rws, .dflt, .v (.int 1000000), .spans [(500000, 10000000)]⟩,
  ⟨0xB, 0xB, "HARMONIC_A", .u8, .rws, .dflt, .v (.int 2), .spans [(1, 12)]⟩,
  ⟨0xC, 0xC, "HARMONIC_B", .u8, .rws, .dflt, .v (.int 6), .spans [(1, 12)]⟩,
  ⟨0xD, 0xD, "IMP_MIN_CURRENT", .f32, .rws, .dflt, .v (.real (1 / 2)), .rspans [(1 / 100, 100)]⟩,
  ⟨0xE, 0xE, "PILOT_ENABLE", .bool, .rws, .dflt, .v (.int 0), .spans [(0, 1)]⟩,
  ⟨0xF, 0xF, "PILOT_HARMONIC", .u8, .rws, .dflt, .v (.int 0), .spans [(0, 12)]⟩,
  ⟨0x10, 0x10, "PILOT_SWEEPS_PER_PERIOD", .u16, .rws, .dflt, .v (.int 16), .spans [(4, 1000)]⟩,
  ⟨0x11, 0x11, "PILOT_PERIODS", .u8, .rws, .dflt, .v (.int 4), .spans [(1, 16)]⟩,
  ⟨0x12, 0x12, "PILOT_AMPLITUDE", .u16, .rws, .dflt, .v (.int 100), .spans [(1, 1000)]⟩,
  ⟨0x13, 0x13, "PILOT_ACTIVE", .bool, .ro, .dflt, .v (.int 0), .any⟩,
  ⟨0x14, 0x14, "READ_LIMIT", .u32, .ro, .dflt, .v (.int 0), .any⟩,
  ⟨0x15, 0x15, "STALE_CELLS", .u16, .ro, .dflt, .v (.int 0), .any⟩,
  ⟨0x16, 0x16, "SEGMENT_READS", .u32, .ro, .dflt, .v (.int 0), .any⟩,
  ⟨0x17, 0x17, "LATE_BLOCKS", .u32, .ro, .dflt, .v (.int 0), .any⟩]

/-- Rows of index 0x2230 (09_temperature.md). -/
def objRows2230 : List ObjRow := [
  ⟨0x1, 0x1, "TEMP_STATE", .u8, .rw, .dflt, .v (.int 1), .spans [(0, 1)]⟩,
  ⟨0x2, 0x2, "GEOMETRY_MAP", .domain, .rws, .dflt, .v (.bytes []), .lensByCode 114704 57360⟩,
  ⟨0x3, 0x3, "NTC_R25", .f32, .rws, .dflt, .v (.real 10000), .rspans [(1000, 100000)]⟩,
  ⟨0x4, 0x4, "NTC_BETA", .f32, .rws, .dflt, .v (.real 3435), .rspans [(2000, 5000)]⟩,
  ⟨0x5, 0x5, "TEMP_CROSS_LIMIT", .f32, .rws, .dflt, .v (.real 5), .rspans [(1, 30)]⟩,
  ⟨0x6, 0x6, "TEMP_SUSPECT_TIME", .u16, .rws, .dflt, .v (.int 600), .spans [(10, 65535)]⟩,
  ⟨0x7, 0x7, "SENSOR_RESET", .u16, .wo, .engineer, .v (.int 0), .sensors⟩,
  ⟨0x8, 0x8, "GEO_ERROR_INDEX", .u16, .ro, .dflt, .v (.int 65535), .any⟩,
  ⟨0x9, 0x9, "SENSORS_SUSPECT", .u16, .ro, .dflt, .v (.int 0), .any⟩,
  ⟨0xA, 0xA, "SENSORS_FAILED", .u16, .ro, .dflt, .v (.int 0), .any⟩,
  ⟨0xB, 0xB, "MODULE_DIE_TEMP", .domain, .ro, .dflt, .zeros 24, .any⟩]

/-- Rows of index 0x2240 (09_temperature.md). -/
def objRows2240 : List ObjRow := [
  ⟨0x1, 0x1, "LT_SOURCE", .u8, .rws, .dflt, .v (.int 0), .spans [(0, 4)]⟩,
  ⟨0x2, 0x2, "LT_DIRECTION", .u8, .rws, .dflt, .v (.int 0), .spans [(0, 1)]⟩,
  ⟨0x3, 0x3, "LT_LEVEL", .f32, .rws, .dflt, .v (.real 60), .rspans [(-50, 150)]⟩,
  ⟨0x4, 0x4, "LT_HYST", .f32, .rws, .dflt, .v (.real 2), .rspans [(0, 20)]⟩,
  ⟨0x5, 0x5, "LT_DWELL", .u32, .rws, .dflt, .v (.int 1000), .spans [(0, 600000)]⟩,
  ⟨0x6, 0x6, "LT_COUNT", .u16, .ro, .dflt, .v (.int 0), .any⟩,
  ⟨0x7, 0x7, "LT_CROSSINGS", .u32, .ro, .dflt, .v (.int 0), .any⟩]

/-- Rows of index 0x2250 (09_temperature.md). -/
def objRows2250 : List ObjRow := [
  ⟨0x1, 0x1, "RT_SOURCE", .u8, .rws, .dflt, .v (.int 0), .spans [(0, 2)]⟩,
  ⟨0x2, 0x2, "RT_WINDOW", .u8, .rws, .dflt, .v (.int 0), .spans [(0, 1)]⟩,
  ⟨0x3, 0x3, "RT_LEVEL", .f32, .rws, .dflt, .v (.real 2), .rspans [(1 / 10, 100)]⟩,
  ⟨0x4, 0x4, "RT_HYST", .f32, .rws, .dflt, .v (.real (1 / 2)), .rspans [(0, 50)]⟩,
  ⟨0x5, 0x5, "RT_DWELL", .u32, .rws, .dflt, .v (.int 5000), .spans [(0, 600000)]⟩,
  ⟨0x6, 0x6, "RT_COUNT", .u16, .ro, .dflt, .v (.int 0), .any⟩,
  ⟨0x7, 0x7, "RT_CROSSINGS", .u32, .ro, .dflt, .v (.int 0), .any⟩]

/-- Rows of index 0x2300 (05_balancing.md). -/
def objRows2300 : List ObjRow := [
  ⟨0x1, 0x1, "BAL_STATE", .u8, .rw, .dflt, .v (.int 1), .spans [(0, 1)]⟩,
  ⟨0x2, 0x2, "BLANKING", .bool, .rws, .dflt, .v (.int 1), .spans [(0, 1)]⟩,
  ⟨0x3, 0x3, "BALANCE_PERIOD", .u8, .rws, .dflt, .v (.int 10), .spans [(2, 20)]⟩,
  ⟨0x4, 0x4, "BAL_HORIZON", .u32, .rws, .dflt, .v (.int 3600), .spans [(600, 86400)]⟩,
  ⟨0x5, 0x5, "BAL_DEADBAND", .f32, .rws, .dflt, .v (.real 20), .rspans [(0, 10000)]⟩,
  ⟨0x6, 0x6, "BAL_SOC_BOUND_MAX", .f32, .rws, .dflt, .v (.real 5), .rspans [(1 / 2, 50)]⟩,
  ⟨0x7, 0x7, "BAL_V_MIN", .u16, .rws, .dflt, .v (.int 2500), .spans [(1500, 4000)]⟩,
  ⟨0x8, 0x8, "BLEED_PWM_SET", .u16, .rws, .dflt, .v (.int 1376), .spans [(832, 2047)]⟩,
  ⟨0x9, 0x9, "LEAD_CAL_START", .u16, .wo, .engineer, .v (.int 0), .fes [0xFFFF]⟩,
  ⟨0xA, 0xA, "LEAD_CAL_STATE", .u8, .ro, .dflt, .v (.int 0), .any⟩,
  ⟨0xB, 0xB, "LEAD_CAL_REPEATS", .u8, .rws, .dflt, .v (.int 16), .spans [(4, 64)]⟩,
  ⟨0xC, 0xC, "LEAD_CAL_I_STEP", .f32, .rws, .dflt, .v (.real 1), .rspans [(1 / 10, 50)]⟩,
  ⟨0xD, 0xD, "LEAD_CAL_TOL", .u8, .rws, .dflt, .v (.int 10), .spans [(2, 50)]⟩,
  ⟨0xE, 0xE, "LEAD_CAL_NEEDED", .bool, .ro, .dflt, .v (.int 0), .any⟩,
  ⟨0xF, 0xF, "BAL_AMBIGUOUS_SWEEPS", .u32, .ro, .dflt, .v (.int 0), .any⟩]

/-- Rows of index 0x2400 (06_cell_model.md). -/
def objRows2400 : List ObjRow := [
  ⟨0x1, 0x1, "EST_STATE", .u8, .rw, .dflt, .v (.int 1), .spans [(0, 1)]⟩,
  ⟨0x2, 0x2, "SOC_BOUND_MAX", .f32, .rws, .dflt, .v (.real 3), .rspans [(1 / 2, 50)]⟩,
  ⟨0x3, 0x3, "TAPER_CURRENT", .f32, .rws, .dflt, .v (.real (1 / 40)), .rspans [(1 / 200, 1 / 5)]⟩,
  ⟨0x4, 0x4, "TAPER_BAND", .u16, .rws, .dflt, .v (.int 15), .spans [(1, 200)]⟩,
  ⟨0x5, 0x5, "TAPER_TIME", .u16, .rws, .dflt, .v (.int 300), .spans [(30, 3600)]⟩,
  ⟨0x6, 0x6, "KNEE_CURRENT", .f32, .rws, .dflt, .v (.real (1 / 40)), .rspans [(1 / 200, 1 / 5)]⟩,
  ⟨0x7, 0x7, "KNEE_BAND", .u16, .rws, .dflt, .v (.int 30), .spans [(1, 200)]⟩,
  ⟨0x8, 0x8, "KNEE_TIME", .u16, .rws, .dflt, .v (.int 300), .spans [(30, 3600)]⟩,
  ⟨0x9, 0x9, "REST_CURRENT", .f32, .rws, .dflt, .v (.real (1 / 200)), .rspans [(1 / 1000, 1 / 20)]⟩,
  ⟨0xA, 0xA, "REST_TIME", .u16, .rws, .dflt, .v (.int 3600), .spans [(300, 65535)]⟩,
  ⟨0xB, 0xB, "ITER_TOL", .f32, .rws, .dflt, .v (.real (1 / 10)), .rspans [(1 / 100, 1)]⟩,
  ⟨0xC, 0xC, "PROFILE_0", .domain, .rws, .dflt, .v (.bytes []), .lens [(0, 0), (9904, 9904)]⟩,
  ⟨0xD, 0xD, "PROFILE_1", .domain, .rws, .dflt, .v (.bytes []), .lens [(0, 0), (9904, 9904)]⟩,
  ⟨0xE, 0xE, "PROFILE_2", .domain, .rws, .dflt, .v (.bytes []), .lens [(0, 0), (9904, 9904)]⟩,
  ⟨0xF, 0xF, "PROFILE_3", .domain, .rws, .dflt, .v (.bytes []), .lens [(0, 0), (9904, 9904)]⟩,
  ⟨0x10, 0x10, "PROFILES_VALID", .u8, .ro, .dflt, .v (.int 0), .any⟩,
  ⟨0x11, 0x11, "EST_OUTLIERS", .u32, .ro, .dflt, .v (.int 0), .any⟩,
  ⟨0x12, 0x12, "EST_CLAMPS", .u32, .ro, .dflt, .v (.int 0), .any⟩,
  ⟨0x13, 0x13, "ANCHORS_MISSED", .u32, .ro, .dflt, .v (.int 0), .any⟩]

/-- Rows of index 0x2410 (07_abacus.md). -/
def objRows2410 : List ObjRow := [
  ⟨0x1, 0x1, "ABACUS_CLOCK", .u16, .ro, .dflt, .v (.int 500), .any⟩,
  ⟨0x2, 0x2, "THROTTLED", .bool, .ro, .dflt, .v (.int 0), .any⟩,
  ⟨0x3, 0x3, "ROD_BUDGET", .u32, .ro, .dflt, .v (.int 0), .any⟩,
  ⟨0x4, 0x4, "FLOOR_LOAD", .u32, .ro, .dflt, .v (.int 0), .any⟩,
  ⟨0x5, 0x5, "ENGINE_LOAD", .u8, .ro, .dflt, .v (.int 0), .any⟩,
  ⟨0x6, 0x6, "DEFERRED_CELLS", .u16, .ro, .dflt, .v (.int 0), .any⟩,
  ⟨0x7, 0x7, "LAGGED_CELLS", .u16, .ro, .dflt, .v (.int 0), .any⟩,
  ⟨0x8, 0x8, "DEFERRED_TOTAL", .u64, .ro, .dflt, .v (.int 0), .any⟩,
  ⟨0x9, 0x9, "RELIN_MEAN", .f32, .ro, .dflt, .v (.real 0), .any⟩,
  ⟨0xA, 0xA, "SYNCHRONOUS_STEP", .bool, .ro, .dflt, .v (.int 0), .any⟩,
  ⟨0xB, 0xB, "STEP_DETECT_CURRENT", .f32, .rws, .dflt, .v (.real (1 / 50)), .rspans [(1 / 200, 1 / 2)]⟩,
  ⟨0xC, 0xC, "KERNEL_OVERRUNS", .u32, .ro, .dflt, .v (.int 0), .any⟩,
  ⟨0xD, 0xD, "FORCED_SLICES", .u32, .ro, .dflt, .v (.int 0), .any⟩,
  ⟨0xE, 0xE, "ROD_FENCED", .u16, .ro, .dflt, .v (.int 0), .any⟩,
  ⟨0xF, 0xF, "ABACUS_DEGRADED", .bool, .ro, .dflt, .v (.int 0), .any⟩,
  ⟨0x10, 0x10, "KERNEL_ID", .u32, .ro, .dflt, .v (.int 0), .any⟩,
  ⟨0x11, 0x11, "KERNEL_VERSION", .u32, .ro, .dflt, .v (.int 0), .any⟩,
  ⟨0x12, 0x12, "KERNEL_SIGNER", .u8, .ro, .dflt, .v (.int 0), .any⟩,
  ⟨0x13, 0x13, "ABACUS_KEY", .domain, .rws, .engineer, .v (.bytes []), .lens [(0, 0), (64, 64)]⟩,
  ⟨0x14, 0x14, "KERNEL_COSTS", .domain, .ro, .dflt,
    .v (.bytes [0x80#8, 0x25#8, 0#8, 0#8, 0x50#8, 0x14#8, 0#8, 0#8, 0xB0#8, 0x36#8, 0#8, 0#8, 0x40#8, 0x1F#8, 0#8, 0#8]), .any⟩,
  ⟨0x15, 0x15, "RECORD_FORMAT", .u16, .ro, .dflt, .v (.int 1), .any⟩]

/-- Rows of index 0x2418 (07_abacus.md). -/
def objRows2418 : List ObjRow := [
  ⟨0x1, 0x1, "CSM_CORRECTED", .u32, .ro, .dflt, .v (.int 0), .any⟩,
  ⟨0x2, 0x2, "CSM_UNCORRECTABLE", .u32, .ro, .dflt, .v (.int 0), .any⟩,
  ⟨0x3, 0x3, "CSM_RECORD_CRC_ERRORS", .u32, .ro, .dflt, .v (.int 0), .any⟩,
  ⟨0x4, 0x4, "CSM_SCRUB_PASSES", .u32, .ro, .dflt, .v (.int 0), .any⟩,
  ⟨0x5, 0x5, "CSM_SCRUB_PASS_TIME", .u16, .ro, .dflt, .v (.int 0), .any⟩,
  ⟨0x6, 0x6, "CSM_LAST_ERROR_WORD", .u32, .ro, .dflt, .v (.int 0), .any⟩,
  ⟨0x7, 0x7, "REINIT_MIRROR", .u32, .ro, .dflt, .v (.int 0), .any⟩,
  ⟨0x8, 0x8, "REINIT_COLD", .u32, .ro, .dflt, .v (.int 0), .any⟩]

/-- Rows of index 0x2420 (08_state_custody.md). -/
def objRows2420 : List ObjRow := [
  ⟨0x1, 0x1, "CUSTODY_STATE", .u8, .ro, .dflt, .v (.int 0), .any⟩,
  ⟨0x2, 0x2, "RESTORE_TIMEOUT", .u16, .rws, .dflt, .v (.int 120), .spans [(10, 3600)]⟩,
  ⟨0x3, 0x3, "PARTNER_PREFERENCE", .u16, .rws, .dflt, .v (.int 10), .spans [(0, 60)]⟩,
  ⟨0x4, 0x4, "CHECKPOINT_PERIOD", .u16, .rws, .dflt, .v (.int 600), .spans [(60, 65535)]⟩,
  ⟨0x5, 0x5, "CHECKPOINT_DEMAND", .u8, .wo, .operator, .v (.int 0), .spans [(1, 1)]⟩,
  ⟨0x6, 0x6, "CHECKPOINT", .domain, .wo, .operator, .v (.bytes []), .owner⟩,
  ⟨0x7, 0x7, "CONTAINER_ID", .u32, .rws, .dflt, .v (.int 0), .any⟩,
  ⟨0x8, 0x8, "CHECKPOINT_PEER", .u8, .rws, .dflt, .v (.int 0), .spans [(0, 15)]⟩,
  ⟨0x9, 0x9, "LAST_GEN_SENT", .u64, .ro, .dflt, .v (.int 0), .any⟩,
  ⟨0xA, 0xA, "LAST_GEN_SEALED", .u64, .ro, .dflt, .v (.int 0), .any⟩,
  ⟨0xB, 0xB, "LAST_GEN_RESTORED", .u64, .ro, .dflt, .v (.int 0), .any⟩,
  ⟨0xC, 0xC, "RESTORE_GAP", .u64, .ro, .dflt, .v (.int 0), .any⟩,
  ⟨0xD, 0xD, "RESTORE_GAP_CURRENT", .f32, .rws, .dflt, .v (.real (1 / 500)), .rspans [(0, 1 / 10)]⟩,
  ⟨0xE, 0xE, "RESTORE_GAP_UNSET", .u32, .rws, .dflt, .v (.int 604800), .spans [(3600, 31536000)]⟩,
  ⟨0xF, 0xF, "CHECKPOINTS_ABANDONED", .u32, .ro, .dflt, .v (.int 0), .any⟩,
  ⟨0x10, 0x10, "RESTORE_REFUSED_CELLS", .u16, .ro, .dflt, .v (.int 0), .any⟩,
  ⟨0x11, 0x11, "RESTORE_REFUSAL", .u8, .ro, .dflt, .v (.int 0), .any⟩,
  ⟨0x12, 0x12, "EMERGENCY_CHECKPOINTS", .u32, .ro, .dflt, .v (.int 0), .any⟩]

/-- Rows of index 0x2500 (10_thermal_loops.md). -/
def objRows2500 : List ObjRow := [
  ⟨0x1, 0x1, "THERMAL_STATE", .u8, .rw, .dflt, .v (.int 1), .spans [(0, 1)]⟩,
  ⟨0x2, 0x2, "LOOPS_RUNNING", .u16, .ro, .dflt, .v (.int 0), .any⟩,
  ⟨0x3, 0x3, "LOOPS_FAULT", .u16, .ro, .dflt, .v (.int 0), .any⟩]

/-- Rows of index 0x2510 (10_thermal_loops.md). -/
def objRows2510a : List ObjRow := [
  ⟨0x1, 0x1, "LOOP_STATE", .u8, .rw, .dflt, .v (.int 0), .spans [(0, 1)]⟩,
  ⟨0x2, 0x2, "LOOP_ZONE", .u8, .rws, .dflt, .v (.int 0), .spans [(0, 15)]⟩,
  ⟨0x3, 0x3, "SENSE_SOURCE", .u8, .rws, .dflt, .v (.int 3), .spans [(0, 4)]⟩,
  ⟨0x4, 0x4, "SENSE_ARG", .u16, .rws, .dflt, .v (.int 0), .sensors⟩,
  ⟨0x5, 0x5, "SENSE_CAN_ID", .u32, .rws, .dflt, .v (.int 0), .canId⟩,
  ⟨0x6, 0x6, "SENSE_CAN_CHANNEL", .u8, .rws, .dflt, .v (.int 0), .spans [(0, 1)]⟩,
  ⟨0x7, 0x7, "SENSE_CAN_OFFSET", .u8, .rws, .dflt, .v (.int 0), .spans [(0, 62)]⟩,
  ⟨0x8, 0x8, "SENSE_TIMEOUT", .u32, .rws, .dflt, .v (.int 2000), .spans [(10, 600000)]⟩,
  ⟨0x9, 0x9, "SP_SOURCE", .u8, .rws, .dflt, .v (.int 0), .spans [(0, 8)]⟩,
  ⟨0xA, 0xA, "SP_VALUE", .f32, .rw, .dflt, .v (.real 25), .rspans [(-50, 150)]⟩,
  ⟨0xB, 0xB, "SP_IN_LO", .f32, .rws, .dflt, .v (.real 0), .any⟩,
  ⟨0xC, 0xC, "SP_IN_HI", .f32, .rws, .dflt, .v (.real 10), .any⟩,
  ⟨0xD, 0xD, "SP_LO", .f32, .rws, .dflt, .v (.real 0), .any⟩,
  ⟨0xE, 0xE, "SP_HI", .f32, .rws, .dflt, .v (.real 50), .any⟩,
  ⟨0xF, 0xF, "SP_MIN", .f32, .rws, .dflt, .v (.real 5), .rspans [(-50, 150)]⟩,
  ⟨0x10, 0x10, "SP_MAX", .f32, .rws, .dflt, .v (.real 45), .rspans [(-50, 150)]⟩,
  ⟨0x11, 0x11, "LOOP_ACTION", .u8, .rws, .dflt, .v (.int 0), .spans [(0, 1)]⟩,
  ⟨0x12, 0x12, "OUT_A", .u8, .rws, .dflt, .v (.int 255), .spans [(0, 15), (0xFE, 0xFF)]⟩,
  ⟨0x13, 0x13, "OUT_B", .u8, .rws, .dflt, .v (.int 255), .spans [(0, 15), (0xFF, 0xFF)]⟩,
  ⟨0x14, 0x14, "PULSE_WIDTH", .u16, .rws, .dflt, .v (.int 1), .spans [(1, 1000)]⟩,
  ⟨0x15, 0x15, "OUT_CAN_ID", .u32, .rws, .dflt, .v (.int 0), .canId⟩,
  ⟨0x16, 0x16, "OUT_CAN_CHANNEL", .u8, .rws, .dflt, .v (.int 0), .spans [(0, 1)]⟩,
  ⟨0x17, 0x17, "LAW_REQ", .u8, .rw, .dflt, .v (.int 0), .spans [(0, 1)]⟩,
  ⟨0x18, 0x18, "MANUAL", .bool, .rw, .dflt, .v (.int 0), .spans [(0, 1)]⟩]

/-- Rows of index 0x2510 (10_thermal_loops.md). -/
def objRows2510b : List ObjRow := [
  ⟨0x19, 0x19, "MANUAL_OUT", .i32, .rw, .dflt, .v (.int 0), .any⟩,
  ⟨0x1A, 0x1A, "HANDOVER_MAX", .u16, .rws, .dflt, .v (.int 5000), .spans [(0, 60000)]⟩,
  ⟨0x1B, 0x1B, "SCHED_SOURCE", .u8, .rws, .dflt, .v (.int 0), .spans [(0, 3)]⟩,
  ⟨0x1C, 0x1C, "SCHED_ARG", .u8, .rws, .dflt, .v (.int 255), .strs [0xFF]⟩,
  ⟨0x1D, 0x1D, "SCHED_VALUE", .f32, .rw, .dflt, .v (.real 0), .any⟩,
  ⟨0x1E, 0x1E, "REGION_COUNT", .u8, .rws, .dflt, .v (.int 1), .spans [(1, 4)]⟩,
  ⟨0x1F, 0x1F, "SCHED_T1", .f32, .rws, .dflt, .v (.real 0), .any⟩,
  ⟨0x20, 0x20, "SCHED_T2", .f32, .rws, .dflt, .v (.real 0), .any⟩,
  ⟨0x21, 0x21, "SCHED_T3", .f32, .rws, .dflt, .v (.real 0), .any⟩,
  ⟨0x22, 0x22, "SCHED_HYST", .f32, .rws, .dflt, .v (.real 0), .atLeast 0⟩,
  ⟨0x23, 0x23, "MODEL_TAU", .f32, .rws, .dflt, .v (.real 300), .rspans [(1, 100000)]⟩,
  ⟨0x24, 0x24, "MODEL_T_OFF", .f32, .rws, .dflt, .v (.real 35), .any⟩,
  ⟨0x25, 0x25, "MODEL_T_ON", .f32, .rws, .dflt, .v (.real 15), .any⟩,
  ⟨0x26, 0x26, "PULSES_FULL", .u32, .rws, .dflt, .v (.int 0), .spans [(0, 1000000)]⟩,
  ⟨0x27, 0x27, "PLAUS_LIMIT", .f32, .rws, .dflt, .v (.real 0), .rspans [(0, 0), (1 / 2, 50)]⟩,
  ⟨0x28, 0x28, "BAND_HALF", .f32, .rw, .dflt, .v (.real 1), .rspans [(0, 20)]⟩,
  ⟨0x2C, 0x2C, "BAND_HALF_1", .f32, .rw, .dflt, .v (.real 1), .rspans [(0, 20)]⟩,
  ⟨0x30, 0x30, "BAND_HALF_2", .f32, .rw, .dflt, .v (.real 1), .rspans [(0, 20)]⟩,
  ⟨0x34, 0x34, "BAND_HALF_3", .f32, .rw, .dflt, .v (.real 1), .rspans [(0, 20)]⟩,
  ⟨0x29, 0x29, "MIN_ON", .u32, .rw, .dflt, .v (.int 10000), .spans [(0, 3600000)]⟩,
  ⟨0x2D, 0x2D, "MIN_ON_1", .u32, .rw, .dflt, .v (.int 10000), .spans [(0, 3600000)]⟩,
  ⟨0x31, 0x31, "MIN_ON_2", .u32, .rw, .dflt, .v (.int 10000), .spans [(0, 3600000)]⟩,
  ⟨0x35, 0x35, "MIN_ON_3", .u32, .rw, .dflt, .v (.int 10000), .spans [(0, 3600000)]⟩,
  ⟨0x2A, 0x2A, "MIN_OFF", .u32, .rw, .dflt, .v (.int 10000), .spans [(0, 3600000)]⟩]

/-- Rows of index 0x2510 (10_thermal_loops.md). -/
def objRows2510c : List ObjRow := [
  ⟨0x2E, 0x2E, "MIN_OFF_1", .u32, .rw, .dflt, .v (.int 10000), .spans [(0, 3600000)]⟩,
  ⟨0x32, 0x32, "MIN_OFF_2", .u32, .rw, .dflt, .v (.int 10000), .spans [(0, 3600000)]⟩,
  ⟨0x36, 0x36, "MIN_OFF_3", .u32, .rw, .dflt, .v (.int 10000), .spans [(0, 3600000)]⟩,
  ⟨0x2B, 0x2B, "GAIN", .f32, .rw, .dflt, .v (.real 0), .rspans [(0, 2147483648)]⟩,
  ⟨0x2F, 0x2F, "GAIN_1", .f32, .rw, .dflt, .v (.real 0), .rspans [(0, 2147483648)]⟩,
  ⟨0x33, 0x33, "GAIN_2", .f32, .rw, .dflt, .v (.real 0), .rspans [(0, 2147483648)]⟩,
  ⟨0x37, 0x37, "GAIN_3", .f32, .rw, .dflt, .v (.real 0), .rspans [(0, 2147483648)]⟩,
  ⟨0x38, 0x38, "PLAUS_TIME", .u32, .rws, .dflt, .v (.int 60000), .spans [(1000, 3600000)]⟩,
  ⟨0x39, 0x39, "FALLBACK", .u8, .rws, .dflt, .v (.int 0), .spans [(0, 2)]⟩,
  ⟨0x40, 0x40, "SENSED", .f32, .ro, .dflt, .v .nan, .any⟩,
  ⟨0x41, 0x41, "SETPOINT", .f32, .ro, .dflt, .v .nan, .any⟩,
  ⟨0x42, 0x42, "LOOP_ERROR", .f32, .ro, .dflt, .v (.real 0), .any⟩,
  ⟨0x43, 0x43, "REGION", .u8, .ro, .dflt, .v (.int 0), .any⟩,
  ⟨0x44, 0x44, "REGION_CHANGES", .u32, .ro, .dflt, .v (.int 0), .any⟩,
  ⟨0x45, 0x45, "BAND_OUT", .bool, .ro, .dflt, .v (.int 0), .any⟩,
  ⟨0x46, 0x46, "BAND_SWITCHES", .u32, .ro, .dflt, .v (.int 0), .any⟩,
  ⟨0x47, 0x47, "ACCUMULATOR", .u32, .ro, .dflt, .v (.int 2147483648), .any⟩,
  ⟨0x48, 0x48, "PENDING", .i32, .ro, .dflt, .v (.int 0), .any⟩,
  ⟨0x49, 0x49, "PULSE_COUNT", .i64, .ro, .dflt, .v (.int 0), .any⟩,
  ⟨0x4A, 0x4A, "CARRY_DROPPED", .u32, .ro, .dflt, .v (.int 0), .any⟩,
  ⟨0x4B, 0x4B, "HANDOVER_FORCED", .u32, .ro, .dflt, .v (.int 0), .any⟩,
  ⟨0x4C, 0x4C, "MODEL_PREDICTION", .f32, .ro, .dflt, .v .nan, .any⟩,
  ⟨0x4D, 0x4D, "PLAUS_RESIDUAL", .f32, .ro, .dflt, .v (.real 0), .any⟩,
  ⟨0x4E, 0x4E, "POSITION", .u32, .ro, .dflt, .v (.int 0), .any⟩]

/-- Rows of index 0x2510 (10_thermal_loops.md). -/
def objRows2510d : List ObjRow := [
  ⟨0x4F, 0x4F, "FAULT_CAUSE", .u8, .ro, .dflt, .v (.int 0), .any⟩,
  ⟨0x50, 0x50, "LOOP_FLAGS", .u16, .ro, .dflt, .v (.int 0), .any⟩,
  ⟨0x51, 0x51, "FALLBACK_PENDING", .i32, .ro, .dflt, .v (.int 0), .any⟩]

/-- Rows of index 0x2600 (11_protection.md). -/
def objRows2600a : List ObjRow := [
  ⟨0x1, 0x1, "PROT_STATE", .u8, .rw, .dflt, .v (.int 1), .spans [(0, 1)]⟩,
  ⟨0x2, 0x2, "PCS_ARRANGEMENT", .u8, .rws, .dflt, .v (.int 0), .spans [(0, 1)]⟩,
  ⟨0x3, 0x3, "STALE_LIMIT", .u32, .rws, .dflt, .v (.int 2000), .spans [(100, 60000)]⟩,
  ⟨0x4, 0x4, "STALE_ACTION", .u8, .rws, .dflt, .v (.int 3), .spans [(0, 4)]⟩,
  ⟨0x5, 0x5, "HW_OV_ACTION", .u8, .rws, .dflt, .v (.int 3), .spans [(0, 4)]⟩,
  ⟨0x6, 0x6, "HW_UV_ACTION", .u8, .rws, .dflt, .v (.int 3), .spans [(0, 4)]⟩,
  ⟨0x7, 0x7, "HW_OV_MARGIN", .u16, .rws, .dflt, .v (.int 50), .spans [(0, 500)]⟩,
  ⟨0x8, 0x8, "HW_UV_MARGIN", .u16, .rws, .dflt, .v (.int 50), .spans [(0, 500)]⟩,
  ⟨0x9, 0x9, "CI_FAULT_TIME", .u16, .rws, .dflt, .v (.int 500), .spans [(10, 10000)]⟩,
  ⟨0xA, 0xA, "CI_FAULT_ACTION", .u8, .rws, .dflt, .v (.int 3), .spans [(0, 4)]⟩,
  ⟨0xB, 0xB, "ISO_MSG_CHANNEL", .u8, .rws, .dflt, .v (.int 1), .spans [(0, 1)]⟩,
  ⟨0xC, 0xC, "ISO_MSG_ID", .u32, .rws, .dflt, .v (.int 320), .canId⟩,
  ⟨0xD, 0xD, "ISO_MSG_TIMEOUT", .u16, .rws, .dflt, .v (.int 5000), .spans [(100, 60000)]⟩,
  ⟨0xE, 0xE, "ISO_WARN", .u32, .rws, .dflt, .v (.int 500), .spans [(1, 100000)]⟩,
  ⟨0xF, 0xF, "ISO_TRIP", .u32, .rws, .dflt, .v (.int 100), .spans [(1, 100000)]⟩,
  ⟨0x10, 0x10, "ISO_TRIP_ACTION", .u8, .rws, .dflt, .v (.int 4), .spans [(0, 4)]⟩,
  ⟨0x11, 0x11, "ISO_LOST_ACTION", .u8, .rws, .dflt, .v (.int 1), .spans [(0, 4)]⟩,
  ⟨0x12, 0x12, "BUS_MSG_CHANNEL", .u8, .rws, .dflt, .v (.int 0), .spans [(0, 1)]⟩,
  ⟨0x13, 0x13, "BUS_MSG_ID", .u32, .rws, .dflt, .v (.int 304), .canId⟩,
  ⟨0x14, 0x14, "BUS_MSG_TIMEOUT", .u16, .rws, .dflt, .v (.int 100), .spans [(20, 5000)]⟩,
  ⟨0x15, 0x15, "BREAK_CURRENT", .f32, .rws, .dflt, .v (.real 5), .rspans [(1 / 10, 100)]⟩,
  ⟨0x16, 0x16, "BREAK_WAIT", .u16, .rws, .dflt, .v (.int 500), .spans [(0, 10000)]⟩,
  ⟨0x17, 0x17, "NEG_OPEN_DELAY", .u16, .rws, .dflt, .v (.int 20), .spans [(0, 500)]⟩,
  ⟨0x18, 0x18, "CONTACT_TIME", .u16, .rws, .dflt, .v (.int 60), .spans [(10, 1000)]⟩]

/-- Rows of index 0x2600 (11_protection.md). -/
def objRows2600b : List ObjRow := [
  ⟨0x19, 0x19, "PRECHARGE_DV", .f32, .rws, .dflt, .v (.real 10), .rspans [(1, 100)]⟩,
  ⟨0x1A, 0x1A, "PRECHARGE_TIMEOUT", .u16, .rws, .dflt, .v (.int 3000), .spans [(100, 30000)]⟩,
  ⟨0x1B, 0x1B, "PRECHARGE_OVERLAP", .u16, .rws, .dflt, .v (.int 100), .spans [(10, 1000)]⟩,
  ⟨0x1C, 0x1C, "PRECHARGE_COOLDOWN", .u16, .rws, .dflt, .v (.int 60), .spans [(0, 3600)]⟩,
  ⟨0x1D, 0x1D, "PRECHARGE_ATTEMPTS", .u8, .rws, .dflt, .v (.int 3), .spans [(1, 10)]⟩,
  ⟨0x1E, 0x1E, "WELD_CURRENT", .f32, .rws, .dflt, .v (.real 2), .rspans [(1 / 2, 50)]⟩,
  ⟨0x1F, 0x1F, "WELD_DV", .f32, .rws, .dflt, .v (.real 50), .rspans [(5, 500)]⟩,
  ⟨0x20, 0x20, "WELD_CHECK_TIME", .u16, .rws, .dflt, .v (.int 2000), .spans [(100, 30000)]⟩,
  ⟨0x21, 0x21, "PROT_RESET", .u8, .wo, .operator, .v (.int 0), .strs [0xFF]⟩,
  ⟨0x22, 0x22, "WELD_CLEAR", .u8, .wo, .engineer, .v (.int 0), .strs []⟩,
  ⟨0x23, 0x23, "CONTAINER_TRIPPED", .bool, .ro, .dflt, .v (.int 0), .any⟩,
  ⟨0x24, 0x24, "ISO_RESISTANCE", .u32, .ro, .dflt, .v (.int 4294967295), .any⟩]

/-- Rows of index 0x2610 (11_protection.md); rules PR0 to PR8 have the defaults of Table 11.5 (R270). -/
def objRows2610 : List ObjRow := [
  ⟨0x1, 0x1, "PR_SOURCE", .u8, .rws, .dflt, .listed [.int 1, .int 1, .int 1, .int 1, .int 2, .int 2, .int 2, .int 4, .int 5] (.int 0), .spans [(0, 8)]⟩,
  ⟨0x2, 0x2, "PR_ARG", .u8, .rws, .dflt, .v (.int 0), .spans [(0, 15)]⟩,
  ⟨0x3, 0x3, "PR_DIRECTION", .u8, .rws, .dflt, .listed [.int 0, .int 1, .int 0, .int 1, .int 0, .int 0, .int 1] (.int 0), .spans [(0, 1)]⟩,
  ⟨0x4, 0x4, "PR_REF", .u8, .rws, .dflt, .listed [.int 1, .int 2, .int 1, .int 2, .int 3, .int 3, .int 4, .int 5, .int 6] (.int 0), .spans [(0, 6)]⟩,
  ⟨0x5, 0x5, "PR_OFFSET", .f32, .rws, .dflt, .listed [.real 0, .real 0, .real (-3 / 100), .real (5 / 100), .real 0, .real (-10)] (.real 0), .any⟩,
  ⟨0x6, 0x6, "PR_HYST", .f32, .rws, .dflt,
    .listed [.real (5 / 100), .real (5 / 100), .real (2 / 100), .real (2 / 100), .real 5, .real 3, .real 2] (.real 0), .atLeast 0⟩,
  ⟨0x7, 0x7, "PR_DWELL", .u32, .rws, .dflt,
    .listed [.int 100, .int 100, .int 0, .int 0, .int 1000, .int 1000, .int 1000, .int 2000, .int 2000] (.int 0), .spans [(0, 600000)]⟩,
  ⟨0x8, 0x8, "PR_ACTION", .u8, .rws, .dflt, .listed [.int 3, .int 3, .int 2, .int 2, .int 3, .int 2, .int 2, .int 2, .int 2] (.int 1), .spans [(0, 4)]⟩,
  ⟨0x9, 0x9, "PR_LIMIT_DIR", .u8, .rws, .dflt, .listed [.int 2, .int 2, .int 0, .int 1, .int 2, .int 2, .int 0, .int 0, .int 1] (.int 2), .spans [(0, 2)]⟩,
  ⟨0xA, 0xA, "PR_LIMIT_PCT", .u8, .rws, .dflt, .listed [.int 0, .int 0, .int 0, .int 0, .int 0, .int 50, .int 0, .int 80, .int 80] (.int 0), .spans [(0, 100)]⟩,
  ⟨0xB, 0xB, "PR_OPEN_MODE", .u8, .rws, .dflt, .v (.int 0), .spans [(0, 1)]⟩,
  ⟨0xC, 0xC, "PR_COUNT", .u16, .ro, .dflt, .v (.int 0), .any⟩]

/-- Rows of index 0x2700 (13_dispatch.md). -/
def objRows2700a : List ObjRow := [
  ⟨0x1, 0x1, "DISPATCH_STATE", .u8, .rw, .dflt, .v (.int 1), .spans [(0, 1)]⟩,
  ⟨0x2, 0x2, "CMD_SOURCE", .u8, .rws, .dflt, .v (.int 0), .spans [(0, 4)]⟩,
  ⟨0x3, 0x3, "CMD_ARG", .u8, .rws, .dflt, .v (.int 0), .spans [(0, 3)]⟩,
  ⟨0x4, 0x4, "CMD_TIMEOUT", .u16, .rws, .dflt, .v (.int 1000), .spans [(100, 60000)]⟩,
  ⟨0x5, 0x5, "CMD_FALLBACK", .u8, .rws, .dflt, .v (.int 0), .spans [(0, 1)]⟩,
  ⟨0x6, 0x6, "DISPATCH_COMMAND", .f32, .rw, .dflt, .v (.real 0), .any⟩,
  ⟨0x7, 0x7, "CMD_CAN_ID", .u32, .rws, .dflt, .v (.int 352), .canId⟩,
  ⟨0x8, 0x8, "CMD_CAN_CHANNEL", .u8, .rws, .dflt, .v (.int 0), .spans [(0, 1)]⟩,
  ⟨0x9, 0x9, "CMD_IN_LO", .f32, .rws, .dflt, .v (.real 0), .any⟩,
  ⟨0xA, 0xA, "CMD_IN_HI", .f32, .rws, .dflt, .v (.real 10), .any⟩,
  ⟨0xB, 0xB, "CMD_P_LO", .f32, .rws, .dflt, .v (.real (-1000)), .any⟩,
  ⟨0xC, 0xC, "CMD_P_HI", .f32, .rws, .dflt, .v (.real 1000), .any⟩,
  ⟨0xD, 0xD, "LIMIT_HORIZON", .u8, .rws, .dflt, .v (.int 1), .spans [(0, 2)]⟩,
  ⟨0xE, 0xE, "EQUALISE_EXPONENT", .f32, .rws, .dflt, .v (.real 2), .rspans [(1, 4)]⟩,
  ⟨0xF, 0xF, "SETPOINT_CHANNEL", .u8, .rws, .dflt, .v (.int 0), .spans [(0, 1)]⟩,
  ⟨0x10, 0x10, "SETPOINT_MSG_ID", .u32, .rws, .dflt, .v (.int 336), .canId⟩,
  ⟨0x11, 0x11, "SETPOINT_PERIOD", .u16, .rws, .dflt, .v (.int 20), .spans [(10, 1000)]⟩,
  ⟨0x12, 0x12, "SHARE_MIN_CURRENT", .f32, .rws, .dflt, .v (.real 10), .rspans [(1, 1000)]⟩,
  ⟨0x13, 0x13, "CAL_POLICY", .u8, .rws, .dflt, .v (.int 1), .spans [(0, 3)]⟩,
  ⟨0x14, 0x14, "CAL_POWER", .f32, .rws, .dflt, .v (.real 50), .rspans [(1, 2000)]⟩,
  ⟨0x15, 0x15, "CAL_TAPER_STEP", .u8, .rws, .dflt, .v (.int 10), .spans [(1, 50)]⟩,
  ⟨0x16, 0x16, "CAL_MAX_TIME", .u32, .rws, .dflt, .v (.int 14400), .spans [(600, 172800)]⟩,
  ⟨0x17, 0x17, "PILOT_INTERVAL", .u32, .rws, .dflt, .v (.int 3600), .spans [(60, 604800)]⟩,
  ⟨0x18, 0x18, "PROOF_RECLOSE", .bool, .rws, .dflt, .v (.int 0), .spans [(0, 1)]⟩]

/-- Rows of index 0x2700 (13_dispatch.md). -/
def objRows2700b : List ObjRow := [
  ⟨0x19, 0x19, "COMMAND_IN_FORCE", .f32, .ro, .dflt, .v (.real 0), .any⟩,
  ⟨0x1A, 0x1A, "CMD_LOST", .bool, .ro, .dflt, .v (.int 0), .any⟩,
  ⟨0x1B, 0x1B, "CONTAINER_LIMIT_CHG", .f32, .ro, .dflt, .v (.real 0), .any⟩,
  ⟨0x1C, 0x1C, "CONTAINER_LIMIT_DIS", .f32, .ro, .dflt, .v (.real 0), .any⟩,
  ⟨0x1D, 0x1D, "DEAL_SHORTFALL", .f32, .ro, .dflt, .v (.real 0), .any⟩,
  ⟨0x1E, 0x1E, "CAL_STRING", .u8, .ro, .dflt, .v (.int 255), .any⟩,
  ⟨0x1F, 0x1F, "CAL_PHASE", .u8, .ro, .dflt, .v (.int 0), .any⟩,
  ⟨0x20, 0x20, "PILOT_GRANTS", .u32, .ro, .dflt, .v (.int 0), .any⟩]

/-- Rows of index 0x2710 (13_dispatch.md). -/
def objRows2710 : List ObjRow := [
  ⟨0x1, 0x1, "TABLE_STATE", .u8, .rw, .dflt, .v (.int 1), .spans [(0, 1)]⟩,
  ⟨0x2, 0x2, "TABLE_ENABLE", .bool, .rws, .dflt, .v (.int 0), .spans [(0, 1)]⟩,
  ⟨0x3, 0x3, "TABLE_ID", .u16, .rws, .dflt, .v (.int 0), .spans [(0, 65535)]⟩,
  ⟨0x4, 0x4, "SEAT_NUMBER", .u8, .rws, .dflt, .v (.int 0), .spans [(0, 127)]⟩,
  ⟨0x5, 0x5, "SEAT_PRIORITY", .u8, .rws, .dflt, .v (.int 100), .spans [(0, 255)]⟩,
  ⟨0x6, 0x6, "DEALER_ELIGIBLE", .bool, .rws, .dflt, .v (.int 1), .spans [(0, 1)]⟩,
  ⟨0x7, 0x7, "TABLE_SEATS_EXPECTED", .u8, .rws, .dflt, .v (.int 1), .spans [(1, 128)]⟩,
  ⟨0x8, 0x8, "TABLE_GROUP", .u32, .rws, .dflt, .v (.int 4022349846), .spans [(0xE0000000, 0xEFFFFFFF)]⟩,
  ⟨0x9, 0x9, "TABLE_KEY", .domain, .rws, .engineer, .v (.bytes []), .lens [(0, 0), (32, 32)]⟩,
  ⟨0xA, 0xA, "DEAL_HOLD_MAX", .u16, .rws, .dflt, .v (.int 1000), .spans [(300, 10000)]⟩,
  ⟨0xB, 0xB, "TABLE_ROLE", .u8, .ro, .dflt, .v (.int 0), .any⟩,
  ⟨0xC, 0xC, "DEALER_SEAT", .u8, .ro, .dflt, .v (.int 255), .any⟩,
  ⟨0xD, 0xD, "SEATS_HEARD", .u8, .ro, .dflt, .v (.int 0), .any⟩,
  ⟨0xE, 0xE, "SEAT_SHARE", .f32, .ro, .dflt, .v (.real 0), .any⟩,
  ⟨0xF, 0xF, "SEAT_DROPPED", .bool, .ro, .dflt, .v (.int 0), .any⟩,
  ⟨0x10, 0x10, "TABLE_LOST", .bool, .ro, .dflt, .v (.int 0), .any⟩,
  ⟨0x11, 0x11, "TABLE_AUTH_FAILS", .u32, .ro, .dflt, .v (.int 0), .any⟩,
  ⟨0x12, 0x12, "DEALER_CHANGES", .u32, .ro, .dflt, .v (.int 0), .any⟩]

/-- Rows of index 0x2810 (14_can.md). -/
def objRows2810a : List ObjRow := [
  ⟨0x1, 0x1, "CAN_STATE", .u8, .rw, .dflt, .v (.int 1), .spans [(0, 1)]⟩,
  ⟨0x2, 0x2, "CAN_MODE", .u8, .rws, .dflt, .v (.int 0), .spans [(0, 2)]⟩,
  ⟨0x3, 0x3, "FD_ENABLE", .bool, .rws, .dflt, .v (.int 1), .spans [(0, 1)]⟩,
  ⟨0x4, 0x4, "NOM_BRP", .u16, .rws, .dflt, .v (.int 2), .spans [(1, 512)]⟩,
  ⟨0x5, 0x5, "NOM_TSEG1", .u16, .rws, .dflt, .v (.int 63), .spans [(2, 256)]⟩,
  ⟨0x6, 0x6, "NOM_TSEG2", .u8, .rws, .dflt, .v (.int 16), .spans [(2, 128)]⟩,
  ⟨0x7, 0x7, "NOM_SJW", .u8, .rws, .dflt, .v (.int 16), .spans [(1, 128)]⟩,
  ⟨0x8, 0x8, "DATA_BRP", .u8, .rws, .dflt, .v (.int 2), .spans [(1, 32)]⟩,
  ⟨0x9, 0x9, "DATA_TSEG1", .u8, .rws, .dflt, .v (.int 15), .spans [(1, 32)]⟩,
  ⟨0xA, 0xA, "DATA_TSEG2", .u8, .rws, .dflt, .v (.int 4), .spans [(1, 16)]⟩,
  ⟨0xB, 0xB, "DATA_SJW", .u8, .rws, .dflt, .v (.int 4), .spans [(1, 16)]⟩,
  ⟨0xC, 0xC, "TDC_ENABLE", .bool, .rws, .dflt, .v (.int 0), .spans [(0, 1)]⟩,
  ⟨0xD, 0xD, "TDC_OFFSET", .u8, .rws, .dflt, .v (.int 8), .spans [(0, 127)]⟩,
  ⟨0xE, 0xE, "BUSOFF_RECOVERY", .u8, .rws, .dflt, .v (.int 0), .spans [(0, 1)]⟩,
  ⟨0xF, 0xF, "BUSOFF_DELAY", .u16, .rws, .dflt, .v (.int 100), .spans [(0, 60000)]⟩,
  ⟨0x10, 0x10, "RATE_CANDIDATES", .domain, .rws, .dflt, .v (.bytes []), .lensTimes 12 0 8⟩,
  ⟨0x11, 0x11, "DETECT_DWELL", .u16, .rws, .dflt, .v (.int 500), .spans [(10, 10000)]⟩,
  ⟨0x12, 0x12, "DETECT_TIMEOUT", .u16, .rws, .dflt, .v (.int 60), .spans [(1, 3600)]⟩,
  ⟨0x13, 0x13, "DETECT_THEN", .u8, .rws, .dflt, .v (.int 0), .spans [(0, 1)]⟩,
  ⟨0x14, 0x14, "FILTER_STD", .domain, .rws, .dflt, .zeros 512, .lens [(512, 512)]⟩,
  ⟨0x15, 0x15, "FILTER_EXT", .domain, .rws, .dflt, .zeros 512, .lens [(512, 512)]⟩,
  ⟨0x16, 0x16, "NONMATCH_STD", .u8, .rws, .dflt, .v (.int 0), .spans [(0, 2)]⟩,
  ⟨0x17, 0x17, "NONMATCH_EXT", .u8, .rws, .dflt, .v (.int 0), .spans [(0, 2)]⟩,
  ⟨0x18, 0x18, "REJECT_REMOTE", .bool, .rws, .dflt, .v (.int 1), .spans [(0, 1)]⟩]

/-- Rows of index 0x2810 (14_can.md). -/
def objRows2810b : List ObjRow := [
  ⟨0x19, 0x19, "FIFO_MODE", .u8, .rws, .dflt, .v (.int 0), .bits 3⟩,
  ⟨0x1A, 0x1A, "CAN_STAMP_BASE", .u8, .rws, .dflt, .v (.int 0), .spans [(0, 1)]⟩,
  ⟨0x1B, 0x1B, "CAN_WAKE_ENABLE", .bool, .rws, .dflt, .v (.int 0), .spans [(0, 1)]⟩,
  ⟨0x1C, 0x1C, "RX_FIFO0_POP", .domain, .ro, .dflt, .v (.bytes []), .any⟩,
  ⟨0x1D, 0x1D, "RX_FIFO1_POP", .domain, .ro, .dflt, .v (.bytes []), .any⟩,
  ⟨0x1E, 0x1E, "FIFO_FILL", .u16, .ro, .dflt, .v (.int 0), .any⟩,
  ⟨0x1F, 0x1F, "FIFO_LOST", .u32, .ro, .dflt, .v (.int 0), .any⟩,
  ⟨0x20, 0x20, "TX_REQUEST", .u32, .wo, .dflt, .v (.int 0), .bits 0xFFFFFF00⟩,
  ⟨0x21, 0x21, "TX_CANCEL", .u32, .wo, .dflt, .v (.int 0), .bits 0xFFFFFF00⟩,
  ⟨0x22, 0x22, "TX_EVENT_POP", .domain, .ro, .dflt, .v (.bytes []), .any⟩,
  ⟨0x23, 0x23, "TX_EVENT_OVERFLOW", .u32, .ro, .dflt, .v (.int 0), .any⟩,
  ⟨0x24, 0x24, "CAN_ERROR_STATE", .u8, .ro, .dflt, .v (.int 0), .any⟩,
  ⟨0x25, 0x25, "CAN_ERROR_COUNTERS", .u32, .ro, .dflt, .v (.int 0), .any⟩,
  ⟨0x26, 0x26, "PROTOCOL_EXCEPTIONS", .u32, .ro, .dflt, .v (.int 0), .any⟩,
  ⟨0x27, 0x27, "TX_SUPPRESSED", .u32, .ro, .dflt, .v (.int 0), .any⟩,
  ⟨0x28, 0x28, "CAN_DETECTED", .u8, .ro, .dflt, .v (.int 255), .any⟩,
  ⟨0x29, 0x29, "DATA_CONFIRMED", .bool, .ro, .dflt, .v (.int 0), .any⟩,
  ⟨0x2A, 0x2A, "DETECT_FAILED", .bool, .ro, .dflt, .v (.int 0), .any⟩]

/-- Rows of index 0x2818 (14_can.md). -/
def objRows2818 : List ObjRow := [
  ⟨0x8, 0x1F, "TX_BUFFER", .domain, .rw, .dflt, .zeros 80, .lens [(80, 80)]⟩,
  ⟨0x20, 0x3F, "TX_STATE", .u8, .ro, .dflt, .v (.int 0), .any⟩]

/-- Rows of index 0x281A (14_can.md). -/
def objRows281A : List ObjRow := [
  ⟨0x0, 0x7F, "FILTER_HITS", .u32, .ro, .dflt, .v (.int 0), .any⟩,
  ⟨0x80, 0xBF, "FILTER_HITS", .u32, .ro, .dflt, .v (.int 0), .any⟩]

/-- Rows of index 0x2900 (15_dictionary.md). -/
def objRows2900 : List ObjRow := [
  ⟨0x1, 0x1, "ETH_STATE", .u8, .rw, .dflt, .v (.int 1), .spans [(0, 1)]⟩,
  ⟨0x2, 0x2, "NET_MODE", .u8, .rws, .dflt, .v (.int 0), .spans [(0, 2)]⟩,
  ⟨0x3, 0x3, "IP_ADDR_P1", .u32, .rws, .dflt, .v (.int 3232235620), .any⟩,
  ⟨0x4, 0x4, "IP_ADDR_P2", .u32, .rws, .dflt, .v (.int 3232235876), .any⟩,
  ⟨0x5, 0x5, "NET_MASK", .u32, .rws, .dflt, .v (.int 4294967040), .any⟩,
  ⟨0x6, 0x6, "GATEWAY", .u32, .rws, .dflt, .v (.int 0), .any⟩,
  ⟨0x7, 0x7, "VLAN_ID", .u16, .rws, .dflt, .v (.int 0), .spans [(0, 4094)]⟩,
  ⟨0x8, 0x8, "VLAN_PRIORITY", .u8, .rws, .dflt, .v (.int 4), .spans [(0, 7)]⟩,
  ⟨0x9, 0x9, "RED_SUPERVISION", .u16, .rws, .dflt, .v (.int 2000), .spans [(500, 10000)]⟩,
  ⟨0xA, 0xA, "NET_CONFIRM_TIME", .u16, .rws, .dflt, .v (.int 60), .spans [(10, 600)]⟩,
  ⟨0xB, 0xB, "IDP_IDLE_TIMEOUT", .u16, .rws, .dflt, .v (.int 60), .spans [(10, 3600)]⟩,
  ⟨0xC, 0xC, "IDP_CAN_ENABLE", .bool, .rws, .dflt, .v (.int 0), .spans [(0, 1)]⟩,
  ⟨0xD, 0xD, "IDP_CAN_CHANNEL", .u8, .rws, .dflt, .v (.int 0), .spans [(0, 1)]⟩,
  ⟨0xE, 0xE, "IDP_CAN_REQ_ID", .u32, .rws, .dflt, .v (.int 1696), .canId⟩,
  ⟨0xF, 0xF, "IDP_CAN_RESP_ID", .u32, .rws, .dflt, .v (.int 1697), .canId⟩,
  ⟨0x10, 0x10, "IDP_CAN_ROLE", .u8, .rws, .dflt, .v (.int 0), .spans [(0, 1)]⟩,
  ⟨0x11, 0x11, "DISCOVERY_ENABLE", .bool, .rws, .dflt, .v (.int 1), .spans [(0, 1)]⟩,
  ⟨0x12, 0x12, "DISCOVERY_GROUP", .u32, .rws, .dflt, .v (.int 4022349845), .spans [(0xE0000000, 0xEFFFFFFF)]⟩,
  ⟨0x13, 0x13, "LINK_STATE", .u8, .ro, .dflt, .v (.int 0), .any⟩,
  ⟨0x14, 0x14, "MAC_P1", .u64, .ro, .dflt, .macP1, .any⟩,
  ⟨0x15, 0x15, "MAC_P2", .u64, .ro, .dflt, .macP2, .any⟩,
  ⟨0x16, 0x16, "DUPLICATES_DISCARDED", .u32, .ro, .dflt, .v (.int 0), .any⟩,
  ⟨0x17, 0x17, "WRONG_LAN", .u32, .ro, .dflt, .v (.int 0), .any⟩,
  ⟨0x18, 0x18, "IDP_SESSIONS", .u8, .ro, .dflt, .v (.int 0), .any⟩]

/-- Rows of index 0x2910 (15_dictionary.md). -/
def objRows2910 : List ObjRow := [
  ⟨0x1, 0x1, "PEER_STATE", .u8, .rw, .dflt, .peer 1 0, .spans [(0, 1)]⟩,
  ⟨0x2, 0x2, "PEER_FINGERPRINT", .domain, .rws, .dflt, .peerFp, .lens [(0, 0), (32, 32)]⟩,
  ⟨0x3, 0x3, "PEER_ROLE", .u8, .rws, .dflt, .peer 2 0, .spans [(0, 3)]⟩,
  ⟨0x4, 0x4, "PEER_ADDR", .u32, .rws, .dflt, .v (.int 0), .any⟩,
  ⟨0x5, 0x5, "PEER_PUSH", .bool, .rws, .dflt, .v (.int 0), .spans [(0, 1)]⟩,
  ⟨0x6, 0x6, "PEER_PUSH_PORT", .u16, .rws, .dflt, .v (.int 48820), .spans [(1, 65535)]⟩,
  ⟨0x7, 0x7, "PEER_SESSION", .bool, .ro, .dflt, .v (.int 0), .any⟩,
  ⟨0x8, 0x8, "PEER_LAST_SEEN", .time64, .ro, .dflt, .v (.int 0), .any⟩]

/-- Rows of index 0x2A00 (16_program.md). -/
def objRows2A00 : List ObjRow := [
  ⟨0x1, 0x1, "PROG_STATE", .u8, .rw, .dflt, .v (.int 0), .spans [(0, 1)]⟩,
  ⟨0x2, 0x2, "PROGRAM_IMAGE", .domain, .rws, .dflt, .v (.bytes []), .lens [(0, 464960)]⟩,
  ⟨0x3, 0x3, "PROGRAM_STAGED", .domain, .rw, .engineer, .v (.bytes []), .lens [(0, 464960)]⟩,
  ⟨0x4, 0x4, "PROG_CYCLE", .u8, .rws, .dflt, .v (.int 10), .spans [(1, 100)]⟩,
  ⟨0x5, 0x5, "PROG_WATCHDOG", .u8, .rws, .dflt, .v (.int 4), .spans [(2, 10)]⟩,
  ⟨0x6, 0x6, "PROG_STOP_OUTPUTS", .u8, .rws, .dflt, .v (.int 0), .spans [(0, 1)]⟩,
  ⟨0x7, 0x7, "DEBUG_MODEL", .u8, .rws, .dflt, .v (.int 0), .spans [(0, 1)]⟩,
  ⟨0x8, 0x8, "PROG_DEBUG", .bool, .rw, .engineer, .v (.int 0), .spans [(0, 1)]⟩,
  ⟨0x9, 0x9, "PROG_STEP", .u8, .wo, .engineer, .v (.int 0), .spans [(1, 1)]⟩,
  ⟨0xA, 0xA, "PROG_HELD", .bool, .ro, .dflt, .v (.int 0), .any⟩,
  ⟨0xB, 0xB, "IMAGE_CRC", .u32, .ro, .dflt, .v (.int 0), .any⟩,
  ⟨0xC, 0xC, "STAGED_CRC", .u32, .ro, .dflt, .v (.int 0), .any⟩,
  ⟨0xD, 0xD, "PROG_CLOCK", .u64, .ro, .dflt, .v (.int 0), .any⟩,
  ⟨0xE, 0xE, "EXEC_TIME_LAST", .u32, .ro, .dflt, .v (.int 0), .any⟩,
  ⟨0xF, 0xF, "EXEC_TIME_MAX", .u32, .ro, .dflt, .v (.int 0), .any⟩,
  ⟨0x10, 0x10, "OVERRUNS", .u32, .ro, .dflt, .v (.int 0), .any⟩,
  ⟨0x11, 0x11, "PROG_FAULT_CAUSE", .u8, .ro, .dflt, .v (.int 0), .any⟩,
  ⟨0x12, 0x12, "WRITE_REFUSALS", .u32, .ro, .dflt, .v (.int 0), .any⟩,
  ⟨0x13, 0x13, "WRITE_ABORT_LAST", .u32, .ro, .dflt, .v (.int 0), .any⟩,
  ⟨0x14, 0x14, "FORCE_COUNT", .u8, .ro, .dflt, .v (.int 0), .any⟩,
  ⟨0x15, 0x15, "EXCHANGE_REQUEST", .u8, .wo, .engineer, .v (.int 0), .spans [(1, 1)]⟩,
  ⟨0x16, 0x16, "EXCHANGE_STATE", .u8, .ro, .dflt, .v (.int 0), .any⟩,
  ⟨0x17, 0x17, "EXCHANGE_MATCHED", .u16, .ro, .dflt, .v (.int 0), .any⟩]

/-- Rows of index 0x2A10 (16_program.md). -/
def objRows2A10 : List ObjRow := [
  ⟨0x0, 0xFFF, "VAR_VALUE", .domain, .rw, .dflt, .v (.bytes []), .owner⟩]

/-- Rows of index 0x2A11 (16_program.md). -/
def objRows2A11 : List ObjRow := [
  ⟨0x0, 0x3F, "FORCE_ENTRY", .domain, .rw, .engineer, .v (.bytes []), .lens [(0, 0), (12, 12)]⟩]

/-- Rows of index 0x2A12 (16_program.md). -/
def objRows2A12 : List ObjRow := [
  ⟨0x0, 0xFFF, "VAR_FORCED", .bool, .ro, .dflt, .v (.int 0), .any⟩]

/-- Rows of index 0x2B00 (17_field_io.md). -/
def objRows2B00 : List ObjRow := [
  ⟨0x1, 0x1, "FIELD_STATE", .u8, .rw, .dflt, .v (.int 1), .spans [(0, 1)]⟩,
  ⟨0x2, 0x2, "FIELD_RELEASE", .u8, .wo, .engineer, .v (.int 0), .spans [(1, 1)]⟩,
  ⟨0x3, 0x3, "FIELD_RELEASE_AUTO", .bool, .rws, .dflt, .v (.int 1), .spans [(0, 1)]⟩,
  ⟨0x4, 0x4, "FIELD_LATCHED", .bool, .ro, .dflt, .v (.int 1), .any⟩,
  ⟨0x5, 0x5, "FIELD_SUPPLY_FAULT", .bool, .ro, .dflt, .v (.int 0), .any⟩,
  ⟨0x6, 0x6, "DI_STATE", .u32, .ro, .dflt, .v (.int 0), .any⟩,
  ⟨0x7, 0x7, "DO_COMMAND", .u16, .ro, .dflt, .v (.int 0), .any⟩,
  ⟨0x8, 0x8, "DO_OVERLOAD", .u16, .ro, .dflt, .v (.int 0), .any⟩,
  ⟨0x9, 0x9, "KO_COMMAND", .u64, .ro, .dflt, .v (.int 0), .any⟩,
  ⟨0xA, 0xA, "KO_READBACK_X", .u64, .ro, .dflt, .v (.int 0), .any⟩,
  ⟨0xB, 0xB, "KO_READBACK_Y", .u64, .ro, .dflt, .v (.int 0), .any⟩,
  ⟨0xC, 0xC, "KG_SUPPLY_OK", .u8, .ro, .dflt, .v (.int 0), .any⟩,
  ⟨0xD, 0xD, "KG_CURRENT", .domain, .ro, .dflt, .zeros 24, .any⟩,
  ⟨0xE, 0xE, "KG_OVERLOADS", .u32, .ro, .dflt, .v (.int 0), .any⟩,
  ⟨0xF, 0xF, "KO_CLAMP_EXCESS", .u32, .ro, .dflt, .v (.int 0), .any⟩]

/-- Rows of index 0x2B10 (17_field_io.md). -/
def objRows2B10 : List ObjRow := [
  ⟨0x0, 0x1F, "DI_FILTER", .u8, .rws, .dflt, .v (.int 30), .spans [(1, 255)]⟩]

/-- Rows of index 0x2B11 (17_field_io.md). -/
def objRows2B11 : List ObjRow := [
  ⟨0x0, 0x1F, "DI_EDGES", .u32, .ro, .dflt, .v (.int 0), .any⟩]

/-- Rows of index 0x2B20 (17_field_io.md). -/
def objRows2B20 : List ObjRow := [
  ⟨0x0, 0x2F, "KO_CLAMP_ENERGY", .f32, .ro, .dflt, .v (.real 0), .any⟩]

/-- Rows of index 0x2B21 (17_field_io.md). -/
def objRows2B21 : List ObjRow := [
  ⟨0x0, 0x2F, "KO_SWITCHES", .u64, .ro, .dflt, .v (.int 0), .any⟩]

/-- Rows of index 0x2B30 (17_field_io.md). -/
def objRows2B30 : List ObjRow := [
  ⟨0x1, 0x1, "AI_MODE", .u8, .rws, .dflt, .v (.int 0), .spans [(0, 1)]⟩,
  ⟨0x2, 0x2, "AI_IN_LO", .f32, .rws, .dflt, .v (.real 0), .any⟩,
  ⟨0x3, 0x3, "AI_IN_HI", .f32, .rws, .dflt, .v (.real 10), .any⟩,
  ⟨0x4, 0x4, "AI_ENG_LO", .f32, .rws, .dflt, .v (.real 0), .any⟩,
  ⟨0x5, 0x5, "AI_ENG_HI", .f32, .rws, .dflt, .v (.real 10), .any⟩,
  ⟨0x6, 0x6, "AI_FILTER", .u16, .rws, .dflt, .v (.int 0), .spans [(0, 10000)]⟩,
  ⟨0x7, 0x7, "AI_VALUE", .f32, .ro, .dflt, .v (.real 0), .any⟩,
  ⟨0x8, 0x8, "AI_RAW", .f32, .ro, .dflt, .v (.real 0), .any⟩,
  ⟨0x9, 0x9, "AI_STATUS", .u8, .ro, .dflt, .v (.int 3), .any⟩]

/-- Rows of index 0x2B40 (17_field_io.md). -/
def objRows2B40 : List ObjRow := [
  ⟨0x1, 0x1, "PI_GATE", .u16, .rws, .dflt, .v (.int 100), .spans [(1, 1000)]⟩,
  ⟨0x2, 0x2, "PI_TIMEOUT", .u16, .rws, .dflt, .v (.int 1000), .spans [(10, 60000)]⟩,
  ⟨0x3, 0x3, "PI_FREQ", .f32, .ro, .dflt, .v (.real 0), .any⟩,
  ⟨0x4, 0x4, "PI_DUTY", .f32, .ro, .dflt, .v (.real 0), .any⟩,
  ⟨0x5, 0x5, "PI_STATUS", .u8, .ro, .dflt, .v (.int 1), .any⟩]

/-- Rows of index 0x2C00 (18_pair.md). -/
def objRows2C00 : List ObjRow := [
  ⟨0x1, 0x1, "REDUNDANCY_STATE", .u8, .rw, .dflt, .v (.int 1), .spans [(0, 1)]⟩,
  ⟨0x2, 0x2, "PAIR_ENABLE", .bool, .rws, .dflt, .v (.int 0), .spans [(0, 1)]⟩,
  ⟨0x3, 0x3, "PAIR_POSITION", .u8, .ro, .dflt, .v (.int 0), .any⟩,
  ⟨0x4, 0x4, "PAIR_ROLE", .u8, .ro, .dflt, .v (.int 0), .any⟩,
  ⟨0x5, 0x5, "PAIR_SYNC", .u8, .ro, .dflt, .v (.int 0), .any⟩,
  ⟨0x6, 0x6, "SYNC_BLOCK", .u8, .ro, .dflt, .v (.int 0), .any⟩,
  ⟨0x7, 0x7, "PAIR_LINK_UP", .bool, .ro, .dflt, .v (.int 0), .any⟩,
  ⟨0x8, 0x8, "HEARTBEATS_MISSED", .u32, .ro, .dflt, .v (.int 0), .any⟩,
  ⟨0x9, 0x9, "ROLE_IN_STATE", .bool, .ro, .dflt, .v (.int 0), .any⟩,
  ⟨0xA, 0xA, "PAIR_START_WAIT", .u16, .rws, .dflt, .v (.int 5), .spans [(1, 60)]⟩,
  ⟨0xB, 0xB, "ROLE_SWAP_PERIOD", .u8, .rws, .dflt, .v (.int 1), .spans [(0, 30)]⟩,
  ⟨0xC, 0xC, "ROLE_SWAP_TIME", .u32, .rws, .dflt, .v (.int 7200), .spans [(0, 86399)]⟩,
  ⟨0xD, 0xD, "SWAP_REQUEST", .u8, .wo, .engineer, .v (.int 0), .spans [(1, 1)]⟩,
  ⟨0xE, 0xE, "TAKEOVERS", .u32, .ro, .dflt, .v (.int 0), .any⟩,
  ⟨0xF, 0xF, "PLANNED_SWAPS", .u32, .ro, .dflt, .v (.int 0), .any⟩,
  ⟨0x10, 0x10, "SWAPS_SKIPPED", .u32, .ro, .dflt, .v (.int 0), .any⟩,
  ⟨0x11, 0x11, "LAST_ROLE_CHANGE", .time64, .ro, .dflt, .v (.int 0), .any⟩,
  ⟨0x12, 0x12, "LAST_CHANGE_KIND", .u8, .ro, .dflt, .v (.int 0), .any⟩,
  ⟨0x13, 0x13, "LAST_GAP_CYCLES", .u8, .ro, .dflt, .v (.int 0), .any⟩,
  ⟨0x14, 0x14, "LAST_OVERLAP", .u16, .ro, .dflt, .v (.int 0), .any⟩,
  ⟨0x15, 0x15, "SPLIT_DETECTED", .bool, .ro, .dflt, .v (.int 0), .any⟩,
  ⟨0x16, 0x16, "PARTNER_SERIAL", .u64, .ro, .dflt, .v (.int 0), .any⟩,
  ⟨0x17, 0x17, "MIRROR_COMPLETE", .u16, .ro, .dflt, .v (.int 0), .any⟩]

/-- Rows of index 0x2D00 (19_power.md). -/
def objRows2D00a : List ObjRow := [
  ⟨0x1, 0x1, "POWER_FN_STATE", .u8, .rw, .dflt, .v (.int 1), .spans [(0, 1)]⟩,
  ⟨0x2, 0x2, "POWER_STATE", .u8, .ro, .dflt, .v (.int 0), .any⟩,
  ⟨0x3, 0x3, "POWER_REQUEST", .u8, .wo, .operator, .v (.int 0), .spans [(1, 3)]⟩,
  ⟨0x4, 0x4, "REQUEST_RESULT", .u8, .ro, .dflt, .v (.int 0), .any⟩,
  ⟨0x5, 0x5, "REFUSING_BLOCK", .u8, .ro, .dflt, .v (.int 0), .any⟩,
  ⟨0x6, 0x6, "REFUSAL_REASON", .u8, .ro, .dflt, .v (.int 0), .any⟩,
  ⟨0x7, 0x7, "POWER_VOTE", .u16, .rw, .dflt, .v (.int 0), .any⟩,
  ⟨0x8, 0x8, "WATCH_PERIOD", .u8, .rws, .dflt, .v (.int 10), .spans [(1, 60)]⟩,
  ⟨0x9, 0x9, "WATCH_V_MAX", .u16, .rws, .dflt, .v (.int 0), .spans [(0, 5000)]⟩,
  ⟨0xA, 0xA, "WATCH_V_MIN", .u16, .rws, .dflt, .v (.int 0), .spans [(0, 5000)]⟩,
  ⟨0xB, 0xB, "WATCH_T_MAX", .f32, .rws, .dflt, .v (.real 60), .rspans [(0, 120)]⟩,
  ⟨0xC, 0xC, "WATCH_SCANS", .u32, .ro, .dflt, .v (.int 0), .any⟩,
  ⟨0xD, 0xD, "WATCH_LAST", .domain, .ro, .dflt, .zerosPerHead 17, .any⟩,
  ⟨0xE, 0xE, "WAKE_SOURCES", .u8, .rws, .dflt, .v (.int 63), .bits 0x7F⟩,
  ⟨0xF, 0xF, "WAKE_DI_MASK", .u32, .rws, .dflt, .v (.int 0), .any⟩,
  ⟨0x10, 0x10, "WAKE_SI_MASK", .u8, .rws, .dflt, .v (.int 0), .any⟩,
  ⟨0x11, 0x11, "WAKE_TIMER", .u32, .rws, .dflt, .v (.int 0), .spans [(0, 2592000)]⟩,
  ⟨0x12, 0x12, "WAKE_CAUSE", .u8, .ro, .dflt, .v (.int 0), .any⟩,
  ⟨0x13, 0x13, "WAKE_TIME", .u64, .ro, .dflt, .v (.int 0), .any⟩,
  ⟨0x14, 0x14, "WAKE_OUT_PULSE", .u16, .rws, .dflt, .v (.int 500), .spans [(10, 10000)]⟩,
  ⟨0x15, 0x15, "SLEEP_DO_LEVELS", .u16, .rws, .dflt, .v (.int 0), .any⟩,
  ⟨0x16, 0x16, "START_STATE", .u8, .ro, .dflt, .v (.int 0), .any⟩,
  ⟨0x17, 0x17, "START_RETRIES", .u8, .ro, .dflt, .v (.int 0), .any⟩,
  ⟨0x18, 0x18, "START_DURATION", .u32, .ro, .dflt, .v (.int 0), .any⟩]

/-- Rows of index 0x2D00 (19_power.md). -/
def objRows2D00b : List ObjRow := [
  ⟨0x19, 0x19, "XTAL_RECOVERED", .bool, .ro, .dflt, .v (.int 0), .any⟩,
  ⟨0x1A, 0x1A, "POWER_RESTART", .u8, .wo, .engineer, .v (.int 0), .spans [(1, 1)]⟩,
  ⟨0x1B, 0x1B, "BROWNOUT", .bool, .ro, .dflt, .v (.int 0), .any⟩,
  ⟨0x1C, 0x1C, "BROWNOUTS", .u32, .ro, .dflt, .v (.int 0), .any⟩,
  ⟨0x1D, 0x1D, "HOLDUP_REMAINING", .u16, .ro, .dflt, .v (.int 0), .any⟩,
  ⟨0x1E, 0x1E, "HOLDUP_READY", .bool, .ro, .dflt, .v (.int 0), .any⟩,
  ⟨0x1F, 0x1F, "BROWNOUT_OPEN_MARGIN", .u16, .rws, .dflt, .v (.int 800), .spans [(600, 1500)]⟩,
  ⟨0x20, 0x20, "INPUT_VOLTAGE", .domain, .ro, .dflt, .zeros 8, .any⟩,
  ⟨0x21, 0x21, "MODULE_POWER", .f32, .ro, .dflt, .v (.real 0), .any⟩,
  ⟨0x22, 0x22, "THROTTLE_EVENTS", .u32, .ro, .dflt, .v (.int 0), .any⟩,
  ⟨0x23, 0x23, "DIE_CRITICAL", .bool, .ro, .dflt, .v (.int 0), .any⟩]

/-- Rows of index 0x2E00 (20_update.md). -/
def objRows2E00 : List ObjRow := [
  ⟨0x1, 0x1, "UPDATE_FN_STATE", .u8, .rw, .dflt, .v (.int 1), .spans [(0, 1)]⟩,
  ⟨0x2, 0x2, "UPDATE_MANIFEST", .domain, .rw, .engineer, .v (.bytes []), .lens [(0, 0), (752, 752)]⟩,
  ⟨0x3, 0x3, "UPDATE_COMMAND", .u8, .wo, .engineer, .v (.int 0), .spans [(2, 3)]⟩,
  ⟨0x4, 0x4, "UPDATE_STATE", .u8, .ro, .dflt, .v (.int 0), .any⟩,
  ⟨0x5, 0x5, "UPDATE_BLOCK", .u8, .ro, .dflt, .v (.int 0), .any⟩,
  ⟨0x6, 0x6, "ACTIVATE_SWEEP", .u64, .ro, .dflt, .v (.int 0), .any⟩,
  ⟨0x7, 0x7, "ACTIVATE_LEAD", .u8, .rws, .dflt, .v (.int 10), .spans [(5, 250)]⟩,
  ⟨0x8, 0x8, "POSTCHECK_TIME", .u16, .rws, .dflt, .v (.int 120), .spans [(30, 600)]⟩,
  ⟨0x9, 0x9, "SECURITY_EPOCH", .u16, .ro, .dflt, .epoch, .any⟩,
  ⟨0xA, 0xA, "REVERT_CAUSE", .u8, .ro, .dflt, .v (.int 0), .any⟩,
  ⟨0xB, 0xB, "UPDATES_COMMITTED", .u32, .ro, .dflt, .v (.int 0), .any⟩,
  ⟨0xC, 0xC, "UPDATES_REVERTED", .u32, .ro, .dflt, .v (.int 0), .any⟩,
  ⟨0xD, 0xD, "RUNNING_VERSIONS", .domain, .ro, .dflt, .zeros 12, .any⟩,
  ⟨0xE, 0xE, "FE_VERIFIED", .u16, .ro, .dflt, .v (.int 0), .any⟩]

/-- Rows of index 0x2E10 (20_update.md). -/
def objRows2E10 : List ObjRow := [
  ⟨0x0, 0x7FFF, "UPDATE_PIECE", .domain, .wo, .engineer, .v (.bytes []), .lens [(1, 1024)]⟩]

/-- Rows of index 0x2E20 (20_update.md). -/
def objRows2E20 : List ObjRow := [
  ⟨0x0, 0x5, "PIECES_MISSING", .u16, .ro, .dflt, .v (.int 0), .any⟩]

/-- Rows of index 0x2E21 (20_update.md). -/
def objRows2E21 : List ObjRow := [
  ⟨0x0, 0x5, "COMPONENT_STATUS", .u8, .ro, .dflt, .v (.int 0), .any⟩]

/-- Rows of index 0x2E30 (20_update.md). -/
def objRows2E30 : List ObjRow := [
  ⟨0x0, 0x1FF, "FE_IMAGE_STATUS", .u8, .ro, .dflt, .v (.int 0), .any⟩]

/-- Rows of index 0x2F00 (21_recorder.md). -/
def objRows2F00 : List ObjRow := [
  ⟨0x1, 0x1, "RECORDER_STATE", .u8, .rw, .dflt, .v (.int 1), .spans [(0, 1)]⟩,
  ⟨0x2, 0x2, "VBIN_LO", .f32, .rws, .dflt, .v (.real (5 / 2)), .rspans [(0, 5)]⟩,
  ⟨0x3, 0x3, "VBIN_HI", .f32, .rws, .dflt, .v (.real (17 / 4)), .rspans [(0, 5)]⟩,
  ⟨0x4, 0x4, "STRING_P_BIN", .f32, .rws, .dflt, .v (.real 25), .rspans [(1 / 10, 1000)]⟩,
  ⟨0x5, 0x5, "RECORDER_COMMIT_NOW", .u8, .wo, .operator, .v (.int 0), .spans [(1, 1)]⟩,
  ⟨0x6, 0x6, "RECORDER_CLEAR", .u8, .wo, .engineer, .v (.int 0), .spans [(1, 4), (0xFF, 0xFF)]⟩,
  ⟨0x7, 0x7, "RECORDER_FOREIGN", .bool, .ro, .dflt, .v (.int 0), .any⟩,
  ⟨0x8, 0x8, "COMMITS", .u32, .ro, .dflt, .v (.int 0), .any⟩,
  ⟨0x9, 0x9, "LAST_COMMIT", .time64, .ro, .dflt, .v (.int 0), .any⟩,
  ⟨0xA, 0xA, "PAGES_LOST", .u32, .ro, .dflt, .v (.int 0), .any⟩,
  ⟨0xB, 0xB, "LOG_NEWEST", .u16, .ro, .dflt, .v (.int 0), .any⟩,
  ⟨0xC, 0xC, "LOG_COUNT", .u32, .ro, .dflt, .v (.int 0), .any⟩,
  ⟨0xD, 0xD, "EXCEPTIONS_OVERWRITTEN", .u32, .ro, .dflt, .v (.int 0), .any⟩,
  ⟨0xE, 0xE, "LOG_CRC_ERRORS", .u32, .ro, .dflt, .v (.int 0), .any⟩,
  ⟨0xF, 0xF, "EXCEPTION_LOG", .domain, .ro, .dflt, .v (.bytes []), .any⟩,
  ⟨0x10, 0x10, "MODULE_PAGE", .domain, .ro, .dflt, .v (.bytes []), .any⟩]

/-- Rows of index 0x2F10 (21_recorder.md). -/
def objRows2F10 : List ObjRow := [
  ⟨0x0, 0x1FFF, "CELL_PAGE", .domain, .ro, .dflt, .v (.bytes []), .any⟩]

/-- Rows of index 0x2F11 (21_recorder.md). -/
def objRows2F11 : List ObjRow := [
  ⟨0x0, 0xF, "STRING_PAGE", .domain, .ro, .dflt, .v (.bytes []), .any⟩]

/-- Rows of index 0x3000 (12_safety.md). -/
def objRows3000 : List ObjRow := [
  ⟨0x1, 0x1, "SAFETY_STATE", .u8, .safe, .dflt, .v (.int 0), .spans [(0, 1)]⟩,
  ⟨0x2, 0x2, "SAFETY_LOGIN", .string, .wo, .safety, .v (.bytes []), .chars [(0, 0), (8, 32)]⟩,
  ⟨0x3, 0x3, "SAFETY_SESSION", .bool, .ro, .dflt, .v (.int 0), .any⟩,
  ⟨0x4, 0x4, "SAFETY_PASSWORD_NEW", .string, .safe, .dflt, .v (.bytes []), .chars [(8, 32)]⟩,
  ⟨0x5, 0x5, "LOGIN_FAILURES", .u8, .ro, .dflt, .v (.int 0), .any⟩,
  ⟨0x6, 0x6, "LOCKOUT_REMAINING", .u16, .ro, .dflt, .v (.int 0), .any⟩,
  ⟨0x7, 0x7, "SAFETY_SIGNATURE", .u32, .ro, .dflt, .v (.int 0), .any⟩,
  ⟨0x8, 0x8, "SIGNATURE_CONFIRM", .u32, .safe, .dflt, .v (.int 0), .any⟩,
  ⟨0x9, 0x9, "SIGNATURE_RUNNING", .u32, .ro, .dflt, .v (.int 0), .any⟩,
  ⟨0xA, 0xA, "SAFETY_FAULT_CAUSE", .u8, .ro, .dflt, .v (.int 0), .any⟩,
  ⟨0xB, 0xB, "SAFETY_RESTART", .u8, .safe, .dflt, .v (.int 0), .spans [(1, 1)]⟩,
  ⟨0xC, 0xC, "SAFE_RESET", .u8, .wo, .operator, .v (.int 0), .spans [(1, 1)]⟩,
  ⟨0xD, 0xD, "SAFE_RESET_REMOTE", .bool, .safe, .dflt, .v (.int 0), .spans [(0, 1)]⟩,
  ⟨0xE, 0xE, "TWO_HAND_STRING", .u8, .safe, .dflt, .v (.int 0), .strs []⟩,
  ⟨0xF, 0xF, "SAFE_AUX_TIME", .u16, .safe, .dflt, .v (.int 100), .spans [(20, 1000)]⟩,
  ⟨0x10, 0x10, "PROOF_INTERVAL", .u16, .safe, .dflt, .v (.int 168), .spans [(1, 8760)]⟩,
  ⟨0x11, 0x11, "PROOF_GRACE", .u16, .safe, .dflt, .v (.int 24), .spans [(1, 720)]⟩,
  ⟨0x12, 0x12, "PROOF_START", .u8, .wo, .operator, .v (.int 0), .strs []⟩,
  ⟨0x13, 0x13, "CHANGE_LOG", .domain, .ro, .dflt, .v (.bytes []), .any⟩,
  ⟨0x14, 0x14, "LOG_OVERWRITTEN", .u32, .ro, .dflt, .v (.int 0), .any⟩]

/-- Rows of index 0x3010 (12_safety.md). -/
def objRows3010 : List ObjRow := [
  ⟨0x1, 0x1, "PAIR_USE", .u8, .safe, .dflt, .v (.int 0), .spans [(0, 7)]⟩,
  ⟨0x2, 0x2, "DISCREPANCY_TIME", .u16, .safe, .dflt, .v (.int 100), .spans [(10, 3000)]⟩,
  ⟨0x3, 0x3, "SI_FILTER", .u8, .safe, .dflt, .v (.int 3), .spans [(1, 20)]⟩,
  ⟨0x4, 0x4, "TP_SOURCE_EVEN", .u8, .safe, .dflt, .tpEven, .spans [(0, 3), (0xFF, 0xFF)]⟩,
  ⟨0x5, 0x5, "TP_SOURCE_ODD", .u8, .safe, .dflt, .tpOdd, .spans [(0, 3), (0xFF, 0xFF)]⟩,
  ⟨0x6, 0x6, "OSSD_DIP_MAX", .u16, .safe, .dflt, .v (.int 300), .spans [(100, 1000)]⟩,
  ⟨0x7, 0x7, "STRING_MASK", .u16, .safe, .dflt, .maskAll, .any⟩,
  ⟨0x8, 0x8, "STOP_CATEGORY", .u8, .safe, .dflt, .v (.int 0), .spans [(0, 1)]⟩,
  ⟨0x9, 0x9, "STOP1_DELAY", .u16, .safe, .dflt, .v (.int 700), .spans [(100, 10000)]⟩,
  ⟨0xA, 0xA, "RESET_MODE", .u8, .safe, .dflt, .v (.int 1), .spans [(0, 1)]⟩,
  ⟨0xB, 0xB, "PAIR_STATE", .u8, .ro, .dflt, .v (.int 0), .any⟩,
  ⟨0xC, 0xC, "PAIR_FAULT", .u8, .ro, .dflt, .v (.int 0), .any⟩,
  ⟨0xD, 0xD, "LAST_DISCREPANCY", .u16, .ro, .dflt, .v (.int 0), .any⟩,
  ⟨0xE, 0xE, "TP_ERRORS", .u32, .ro, .dflt, .v (.int 0), .any⟩,
  ⟨0xF, 0xF, "PAIR_DEMANDING", .bool, .ro, .dflt, .v (.int 0), .any⟩]

/-- Rows of index 0x3030 (12_safety.md). -/
def objRows3030 : List ObjRow := [
  ⟨0x1, 0x1, "QSF_ROLE", .u8, .safe, .dflt, .v (.int 0), .spans [(0, 2)]⟩,
  ⟨0x2, 0x2, "QSF_TRANSPORT", .u8, .safe, .dflt, .v (.int 0), .spans [(0, 2)]⟩,
  ⟨0x3, 0x3, "QSF_CONN_ID", .u32, .safe, .dflt, .v (.int 0), .spans [(1, 4294967295)]⟩,
  ⟨0x4, 0x4, "QSF_SAFETY_ID", .u32, .safe, .dflt, .v (.int 0), .any⟩,
  ⟨0x5, 0x5, "QSF_CAN_ID", .u32, .safe, .dflt, .v (.int 0), .canId⟩,
  ⟨0x6, 0x6, "QSF_PEER_ADDR", .u32, .safe, .dflt, .v (.int 0), .any⟩,
  ⟨0x7, 0x7, "QSF_WATCHDOG", .u16, .safe, .dflt, .v (.int 100), .spans [(10, 1000)]⟩,
  ⟨0x8, 0x8, "QSF_CYCLE", .u16, .safe, .dflt, .v (.int 20), .spans [(5, 500)]⟩,
  ⟨0x9, 0x9, "QSF_BIT", .u8, .safe, .dflt, .v (.int 0), .spans [(0, 31)]⟩,
  ⟨0xA, 0xA, "QSF_STRING_MASK", .u16, .safe, .dflt, .maskAll, .any⟩,
  ⟨0xB, 0xB, "QSF_STOP_CATEGORY", .u8, .safe, .dflt, .v (.int 0), .spans [(0, 1)]⟩,
  ⟨0xC, 0xC, "QSF_RESET_MODE", .u8, .safe, .dflt, .v (.int 1), .spans [(0, 1)]⟩,
  ⟨0xD, 0xD, "QSF_STATE", .u8, .ro, .dflt, .v (.int 0), .any⟩,
  ⟨0xE, 0xE, "QSF_RX_BITS", .u32, .ro, .dflt, .v (.int 0), .any⟩,
  ⟨0xF, 0xF, "QSF_REJECTED", .u32, .ro, .dflt, .v (.int 0), .any⟩]

/-- Rows of index 0x4000 (04_sweep.md). -/
def objRows4000 : List ObjRow := [
  ⟨0x0, 0x1FFF, "CELL_VMEAN", .u32, .ro, .dflt, .v (.int 0), .any⟩]

/-- Rows of index 0x4001 (04_sweep.md). -/
def objRows4001 : List ObjRow := [
  ⟨0x0, 0x1FFF, "CELL_AGE", .u16, .ro, .dflt, .v (.int 65535), .any⟩]

/-- Rows of index 0x4002 (04_sweep.md). -/
def objRows4002 : List ObjRow := [
  ⟨0x0, 0x1FFF, "CELL_MEAS_FLAGS", .u16, .ro, .dflt, .v (.int 1), .any⟩]

/-- Rows of index 0x4003 (04_sweep.md). -/
def objRows4003 : List ObjRow := [
  ⟨0x0, 0x1FFF, "Z_A_RE", .f32, .ro, .dflt, .v (.real 0), .any⟩]

/-- Rows of index 0x4004 (04_sweep.md). -/
def objRows4004 : List ObjRow := [
  ⟨0x0, 0x1FFF, "Z_A_IM", .f32, .ro, .dflt, .v (.real 0), .any⟩]

/-- Rows of index 0x4005 (04_sweep.md). -/
def objRows4005 : List ObjRow := [
  ⟨0x0, 0x1FFF, "Z_B_RE", .f32, .ro, .dflt, .v (.real 0), .any⟩]

/-- Rows of index 0x4006 (04_sweep.md). -/
def objRows4006 : List ObjRow := [
  ⟨0x0, 0x1FFF, "Z_B_IM", .f32, .ro, .dflt, .v (.real 0), .any⟩]

/-- Rows of index 0x4007 (04_sweep.md). -/
def objRows4007 : List ObjRow := [
  ⟨0x0, 0x1FFF, "Z_P_RE", .f32, .ro, .dflt, .v (.real 0), .any⟩]

/-- Rows of index 0x4008 (04_sweep.md). -/
def objRows4008 : List ObjRow := [
  ⟨0x0, 0x1FFF, "Z_P_IM", .f32, .ro, .dflt, .v (.real 0), .any⟩]

/-- Rows of index 0x4010 (05_balancing.md). -/
def objRows4010 : List ObjRow := [
  ⟨0x0, 0x1FFF, "BLEED_TARGET", .f32, .ro, .dflt, .v (.real 0), .any⟩]

/-- Rows of index 0x4011 (05_balancing.md). -/
def objRows4011 : List ObjRow := [
  ⟨0x0, 0x1FFF, "BLEED_DUTY", .u8, .ro, .dflt, .v (.int 0), .any⟩]

/-- Rows of index 0x4012 (05_balancing.md). -/
def objRows4012 : List ObjRow := [
  ⟨0x0, 0x1FFF, "BLEED_INHIBIT", .u8, .ro, .dflt, .v (.int 0), .any⟩]

/-- Rows of index 0x4013 (05_balancing.md). -/
def objRows4013 : List ObjRow := [
  ⟨0x0, 0x1FFF, "BLEED_CHARGE_TOTAL", .f64, .ro, .dflt, .v (.real 0), .any⟩]

/-- Rows of index 0x4014 (05_balancing.md). -/
def objRows4014 : List ObjRow := [
  ⟨0x0, 0x1FFF, "BLEED_CORR_BOUND", .f32, .ro, .dflt, .v (.real 0), .any⟩]

/-- Rows of index 0x4020 (06_cell_model.md). -/
def objRows4020 : List ObjRow := [
  ⟨0x0, 0x1FFF, "SOC", .f32, .ro, .dflt, .v (.real 0), .any⟩]

/-- Rows of index 0x4021 (06_cell_model.md). -/
def objRows4021 : List ObjRow := [
  ⟨0x0, 0x1FFF, "SOC_BOUND", .f32, .ro, .dflt, .v (.real 100), .any⟩]

/-- Rows of index 0x4022 (06_cell_model.md). -/
def objRows4022 : List ObjRow := [
  ⟨0x0, 0x1FFF, "SOE", .f32, .ro, .dflt, .v (.real 0), .any⟩]

/-- Rows of index 0x4023 (06_cell_model.md). -/
def objRows4023 : List ObjRow := [
  ⟨0x0, 0x1FFF, "SOE_ROOM", .f32, .ro, .dflt, .v (.real 0), .any⟩]

/-- Rows of index 0x4024 (06_cell_model.md). -/
def objRows4024 : List ObjRow := [
  ⟨0x0, 0x1FFF, "SOE_BOUND", .f32, .ro, .dflt, .v (.real 0), .any⟩]

/-- Rows of index 0x4025 (06_cell_model.md). -/
def objRows4025 : List ObjRow := [
  ⟨0x0, 0x1FFF, "SOH_C", .f32, .ro, .dflt, .v (.real 100), .any⟩]

/-- Rows of index 0x4026 (06_cell_model.md). -/
def objRows4026 : List ObjRow := [
  ⟨0x0, 0x1FFF, "SOH_C_BOUND", .f32, .ro, .dflt, .v (.real 0), .any⟩]

/-- Rows of index 0x4027 (06_cell_model.md). -/
def objRows4027 : List ObjRow := [
  ⟨0x0, 0x1FFF, "SOH_R", .f32, .ro, .dflt, .v (.real 100), .any⟩]

/-- Rows of index 0x4028 (06_cell_model.md). -/
def objRows4028 : List ObjRow := [
  ⟨0x0, 0x1FFF, "SOH_R_BOUND", .f32, .ro, .dflt, .v (.real 0), .any⟩]

/-- Rows of index 0x4029 (06_cell_model.md). -/
def objRows4029 : List ObjRow := [
  ⟨0x0, 0x1FFF, "CORE_TEMP", .f32, .ro, .dflt, .v (.real 0), .any⟩]

/-- Rows of index 0x402A (06_cell_model.md). -/
def objRows402A : List ObjRow := [
  ⟨0x0, 0x1FFF, "CORE_TEMP_BOUND", .f32, .ro, .dflt, .v (.real 0), .any⟩]

/-- Rows of index 0x402B (06_cell_model.md). -/
def objRows402B : List ObjRow := [
  ⟨0x0, 0x1FFF, "Z_TEMP", .f32, .ro, .dflt, .v (.real 0), .any⟩]

/-- Rows of index 0x402C (06_cell_model.md). -/
def objRows402C : List ObjRow := [
  ⟨0x0, 0x1FFF, "Z_TEMP_BOUND", .f32, .ro, .dflt, .v (.real 0), .any⟩]

/-- Rows of index 0x402D (06_cell_model.md). -/
def objRows402D : List ObjRow := [
  ⟨0x0, 0x1FFF, "CAPACITY", .f32, .ro, .dflt, .v (.real 0), .any⟩]

/-- Rows of index 0x402E (06_cell_model.md). -/
def objRows402E : List ObjRow := [
  ⟨0x0, 0x1FFF, "EST_FLAGS", .u16, .ro, .dflt, .v (.int 1), .any⟩]

/-- Rows of index 0x402F (06_cell_model.md). -/
def objRows402F : List ObjRow := [
  ⟨0x0, 0x1FFF, "EST_AGE", .u16, .ro, .dflt, .v (.int 65535), .any⟩]

/-- Rows of index 0x4030 (06_cell_model.md). -/
def objRows4030 : List ObjRow := [
  ⟨0x0, 0x1FFF, "SOP_CHG_2S", .f32, .ro, .dflt, .v (.real 0), .any⟩]

/-- Rows of index 0x4031 (06_cell_model.md). -/
def objRows4031 : List ObjRow := [
  ⟨0x0, 0x1FFF, "SOP_CHG_10S", .f32, .ro, .dflt, .v (.real 0), .any⟩]

/-- Rows of index 0x4032 (06_cell_model.md). -/
def objRows4032 : List ObjRow := [
  ⟨0x0, 0x1FFF, "SOP_CHG_60S", .f32, .ro, .dflt, .v (.real 0), .any⟩]

/-- Rows of index 0x4033 (06_cell_model.md). -/
def objRows4033 : List ObjRow := [
  ⟨0x0, 0x1FFF, "SOP_DIS_2S", .f32, .ro, .dflt, .v (.real 0), .any⟩]

/-- Rows of index 0x4034 (06_cell_model.md). -/
def objRows4034 : List ObjRow := [
  ⟨0x0, 0x1FFF, "SOP_DIS_10S", .f32, .ro, .dflt, .v (.real 0), .any⟩]

/-- Rows of index 0x4035 (06_cell_model.md). -/
def objRows4035 : List ObjRow := [
  ⟨0x0, 0x1FFF, "SOP_DIS_60S", .f32, .ro, .dflt, .v (.real 0), .any⟩]

/-- Rows of index 0x4036 (06_cell_model.md). -/
def objRows4036 : List ObjRow := [
  ⟨0x0, 0x1FFF, "SOP_CHG_2S_BOUND", .f32, .ro, .dflt, .v (.real 0), .any⟩]

/-- Rows of index 0x4037 (06_cell_model.md). -/
def objRows4037 : List ObjRow := [
  ⟨0x0, 0x1FFF, "SOP_CHG_10S_BOUND", .f32, .ro, .dflt, .v (.real 0), .any⟩]

/-- Rows of index 0x4038 (06_cell_model.md). -/
def objRows4038 : List ObjRow := [
  ⟨0x0, 0x1FFF, "SOP_CHG_60S_BOUND", .f32, .ro, .dflt, .v (.real 0), .any⟩]

/-- Rows of index 0x4039 (06_cell_model.md). -/
def objRows4039 : List ObjRow := [
  ⟨0x0, 0x1FFF, "SOP_DIS_2S_BOUND", .f32, .ro, .dflt, .v (.real 0), .any⟩]

/-- Rows of index 0x403A (06_cell_model.md). -/
def objRows403A : List ObjRow := [
  ⟨0x0, 0x1FFF, "SOP_DIS_10S_BOUND", .f32, .ro, .dflt, .v (.real 0), .any⟩]

/-- Rows of index 0x403B (06_cell_model.md). -/
def objRows403B : List ObjRow := [
  ⟨0x0, 0x1FFF, "SOP_DIS_60S_BOUND", .f32, .ro, .dflt, .v (.real 0), .any⟩]

/-- Rows of index 0x403C (06_cell_model.md). -/
def objRows403C : List ObjRow := [
  ⟨0x0, 0x1FFF, "SOP_AGE", .u8, .ro, .dflt, .v (.int 255), .any⟩]

/-- Rows of index 0x4040 (07_abacus.md). -/
def objRows4040 : List ObjRow := [
  ⟨0x0, 0x1FFF, "CELL_DEAL_FLAGS", .u16, .ro, .dflt, .v (.int 0), .any⟩]

/-- Rows of index 0x4041 (07_abacus.md). -/
def objRows4041 : List ObjRow := [
  ⟨0x0, 0x1FFF, "CELL_RELIN", .u8, .ro, .dflt, .v (.int 0), .any⟩]

/-- Rows of index 0x4042 (07_abacus.md). -/
def objRows4042 : List ObjRow := [
  ⟨0x0, 0x1FFF, "CELL_DEFERRALS", .u32, .ro, .dflt, .v (.int 0), .any⟩]

/-- Rows of index 0x4050 (09_temperature.md). -/
def objRows4050 : List ObjRow := [
  ⟨0x0, 0x1FFF, "CORE_RATE_10", .f32, .ro, .dflt, .v .nan, .any⟩]

/-- Rows of index 0x4051 (09_temperature.md). -/
def objRows4051 : List ObjRow := [
  ⟨0x0, 0x1FFF, "CORE_RATE_60", .f32, .ro, .dflt, .v .nan, .any⟩]

/-- Rows of index 0x5000 (09_temperature.md). -/
def objRows5000 : List ObjRow := [
  ⟨0x0, 0xFFF, "SENSOR_TEMP", .f32, .ro, .dflt, .v .nan, .any⟩]

/-- Rows of index 0x5001 (09_temperature.md). -/
def objRows5001 : List ObjRow := [
  ⟨0x0, 0xFFF, "SENSOR_RAW", .u16, .ro, .dflt, .v (.int 0), .any⟩]

/-- Rows of index 0x5002 (09_temperature.md). -/
def objRows5002 : List ObjRow := [
  ⟨0x0, 0xFFF, "SENSOR_STATUS", .u8, .ro, .dflt, .v (.int 0), .any⟩]

/-- Rows of index 0x5003 (09_temperature.md). -/
def objRows5003 : List ObjRow := [
  ⟨0x0, 0xFFF, "SENSOR_FLAGS", .u16, .ro, .dflt, .v (.int 0), .any⟩]

/-- Rows of index 0x5004 (09_temperature.md). -/
def objRows5004 : List ObjRow := [
  ⟨0x0, 0xFFF, "SENSOR_AGE", .u16, .ro, .dflt, .v (.int 65535), .any⟩]

/-- Rows of index 0x5005 (09_temperature.md). -/
def objRows5005 : List ObjRow := [
  ⟨0x0, 0xFFF, "SENSOR_OFFSET", .f32, .ro, .dflt, .v (.real 0), .any⟩]

/-- Rows of index 0x5006 (09_temperature.md). -/
def objRows5006 : List ObjRow := [
  ⟨0x0, 0xFFF, "TEMP_SUSPECT_TIMER", .f32, .ro, .dflt, .v (.real 0), .any⟩]

/-- Rows of index 0x5007 (09_temperature.md). -/
def objRows5007 : List ObjRow := [
  ⟨0x0, 0xFFF, "SENSOR_RATE_10", .f32, .ro, .dflt, .v .nan, .any⟩]

/-- Rows of index 0x5008 (09_temperature.md). -/
def objRows5008 : List ObjRow := [
  ⟨0x0, 0xFFF, "SENSOR_RATE_60", .f32, .ro, .dflt, .v .nan, .any⟩]

/-- Rows of index 0x6000 (04_sweep.md). -/
def objRows6000 : List ObjRow := [
  ⟨0x0, 0xF, "CI_SCALE", .f32, .rws, .dflt, .v (.real 1000), .rspans [(1, 10000)]⟩]

/-- Rows of index 0x6001 (04_sweep.md). -/
def objRows6001 : List ObjRow := [
  ⟨0x0, 0xF, "CI_OFFSET", .f32, .rws, .dflt, .v (.real 0), .rspans [(-100, 100)]⟩]

/-- Rows of index 0x6002 (04_sweep.md). -/
def objRows6002 : List ObjRow := [
  ⟨0x0, 0xF, "CI_FAULT", .bool, .ro, .dflt, .v (.int 0), .any⟩]

/-- Rows of index 0x6003 (04_sweep.md). -/
def objRows6003 : List ObjRow := [
  ⟨0x0, 0xF, "STRING_I_MEAN", .f32, .ro, .dflt, .v (.real 0), .any⟩]

/-- Rows of index 0x6004 (04_sweep.md). -/
def objRows6004 : List ObjRow := [
  ⟨0x0, 0xF, "STRING_CHARGE", .f64, .ro, .dflt, .v (.real 0), .any⟩]

/-- Rows of index 0x6005 (04_sweep.md). -/
def objRows6005 : List ObjRow := [
  ⟨0x0, 0xF, "STRING_I_A_RE", .f32, .ro, .dflt, .v (.real 0), .any⟩]

/-- Rows of index 0x6006 (04_sweep.md). -/
def objRows6006 : List ObjRow := [
  ⟨0x0, 0xF, "STRING_I_A_IM", .f32, .ro, .dflt, .v (.real 0), .any⟩]

/-- Rows of index 0x6007 (04_sweep.md). -/
def objRows6007 : List ObjRow := [
  ⟨0x0, 0xF, "STRING_I_B_RE", .f32, .ro, .dflt, .v (.real 0), .any⟩]

/-- Rows of index 0x6008 (04_sweep.md). -/
def objRows6008 : List ObjRow := [
  ⟨0x0, 0xF, "STRING_I_B_IM", .f32, .ro, .dflt, .v (.real 0), .any⟩]

/-- Rows of index 0x6010 (05_balancing.md). -/
def objRows6010 : List ObjRow := [
  ⟨0x0, 0xF, "BAL_ALIGN", .u8, .rws, .dflt, .v (.int 0), .spans [(0, 2)]⟩]

/-- Rows of index 0x6011 (05_balancing.md). -/
def objRows6011 : List ObjRow := [
  ⟨0x0, 0xF, "BAL_STRING_STATE", .u8, .ro, .dflt, .v (.int 1), .any⟩]

/-- Rows of index 0x6020 (06_cell_model.md). -/
def objRows6020 : List ObjRow := [
  ⟨0x0, 0xF, "PROFILE_SELECT", .u8, .rws, .dflt, .v (.int 0), .spans [(0, 3)]⟩]

/-- Rows of index 0x6021 (06_cell_model.md). -/
def objRows6021 : List ObjRow := [
  ⟨0x0, 0xF, "CALIBRATION_WANTED", .bool, .ro, .dflt, .v (.int 0), .any⟩]

/-- Rows of index 0x6022 (06_cell_model.md). -/
def objRows6022 : List ObjRow := [
  ⟨0x0, 0xF, "CAL_WORST_CELL", .u16, .ro, .dflt, .v (.int 0), .any⟩]

/-- Rows of index 0x6023 (06_cell_model.md). -/
def objRows6023 : List ObjRow := [
  ⟨0x0, 0xF, "CAL_WORST_BOUND", .f32, .ro, .dflt, .v (.real 0), .any⟩]

/-- Rows of index 0x6024 (06_cell_model.md). -/
def objRows6024 : List ObjRow := [
  ⟨0x0, 0xF, "ANCHOR_STATE", .u8, .ro, .dflt, .v (.int 0), .any⟩]

/-- Rows of index 0x6025 (06_cell_model.md). -/
def objRows6025 : List ObjRow := [
  ⟨0x0, 0xF, "ANCHOR_TIMER", .u16, .ro, .dflt, .v (.int 0), .any⟩]

/-- Rows of index 0x6026 (06_cell_model.md). -/
def objRows6026 : List ObjRow := [
  ⟨0x0, 0xF, "ANCHOR_LAST_KIND", .u8, .ro, .dflt, .v (.int 0), .any⟩]

/-- Rows of index 0x6027 (06_cell_model.md). -/
def objRows6027 : List ObjRow := [
  ⟨0x0, 0xF, "ANCHOR_LAST_TIME", .time64, .ro, .dflt, .v (.int 0), .any⟩]

/-- Rows of index 0x6028 (06_cell_model.md). -/
def objRows6028 : List ObjRow := [
  ⟨0x0, 0xF, "STRING_SOE", .f32, .ro, .dflt, .v (.real 0), .any⟩]

/-- Rows of index 0x6029 (06_cell_model.md). -/
def objRows6029 : List ObjRow := [
  ⟨0x0, 0xF, "STRING_SOE_ROOM", .f32, .ro, .dflt, .v (.real 0), .any⟩]

/-- Rows of index 0x602A (06_cell_model.md). -/
def objRows602A : List ObjRow := [
  ⟨0x0, 0xF, "STRING_SOE_BOUND", .f32, .ro, .dflt, .v (.real 0), .any⟩]

/-- Rows of index 0x602B (06_cell_model.md). -/
def objRows602B : List ObjRow := [
  ⟨0x0, 0xF, "STRING_SOP_CHG_2S", .f32, .ro, .dflt, .v (.real 0), .any⟩]

/-- Rows of index 0x602C (06_cell_model.md). -/
def objRows602C : List ObjRow := [
  ⟨0x0, 0xF, "STRING_SOP_CHG_10S", .f32, .ro, .dflt, .v (.real 0), .any⟩]

/-- Rows of index 0x602D (06_cell_model.md). -/
def objRows602D : List ObjRow := [
  ⟨0x0, 0xF, "STRING_SOP_CHG_60S", .f32, .ro, .dflt, .v (.real 0), .any⟩]

/-- Rows of index 0x602E (06_cell_model.md). -/
def objRows602E : List ObjRow := [
  ⟨0x0, 0xF, "STRING_SOP_DIS_2S", .f32, .ro, .dflt, .v (.real 0), .any⟩]

/-- Rows of index 0x602F (06_cell_model.md). -/
def objRows602F : List ObjRow := [
  ⟨0x0, 0xF, "STRING_SOP_DIS_10S", .f32, .ro, .dflt, .v (.real 0), .any⟩]

/-- Rows of index 0x6030 (06_cell_model.md). -/
def objRows6030 : List ObjRow := [
  ⟨0x0, 0xF, "STRING_SOP_DIS_60S", .f32, .ro, .dflt, .v (.real 0), .any⟩]

/-- Rows of index 0x6031 (06_cell_model.md). -/
def objRows6031 : List ObjRow := [
  ⟨0x0, 0xF, "CI_GAIN_UNC", .f32, .rws, .dflt, .v (.real (1 / 10)), .rspans [(0, 5)]⟩]

/-- Rows of index 0x6032 (06_cell_model.md). -/
def objRows6032 : List ObjRow := [
  ⟨0x0, 0xF, "CI_OFFSET_UNC", .f32, .rws, .dflt, .v (.real (1 / 20)), .rspans [(0, 10)]⟩]

/-- Rows of index 0x6040 (09_temperature.md). -/
def objRows6040 : List ObjRow := [
  ⟨0x0, 0xF, "LT_STRING_RAISED", .u16, .ro, .dflt, .v (.int 0), .any⟩]

/-- Rows of index 0x6041 (09_temperature.md). -/
def objRows6041 : List ObjRow := [
  ⟨0x0, 0xF, "RT_STRING_RAISED", .u8, .ro, .dflt, .v (.int 0), .any⟩]

/-- Rows of index 0x6050 (11_protection.md). -/
def objRows6050 : List ObjRow := [
  ⟨0x0, 0xF, "STRING_COMMAND", .u8, .wo, .operator, .v (.int 0), .spans [(1, 2)]⟩]

/-- Rows of index 0x6051 (11_protection.md). -/
def objRows6051 : List ObjRow := [
  ⟨0x0, 0xF, "STRING_SEQ_STATE", .u8, .ro, .dflt, .v (.int 0), .any⟩]

/-- Rows of index 0x6052 (11_protection.md). -/
def objRows6052 : List ObjRow := [
  ⟨0x0, 0xF, "PROT_ACTION", .u8, .ro, .dflt, .v (.int 0), .any⟩]

/-- Rows of index 0x6053 (11_protection.md). -/
def objRows6053 : List ObjRow := [
  ⟨0x0, 0xF, "PROT_LATCH", .u8, .ro, .dflt, .v (.int 0), .any⟩]

/-- Rows of index 0x6054 (11_protection.md). -/
def objRows6054 : List ObjRow := [
  ⟨0x0, 0xF, "PROT_CAUSE", .u32, .ro, .dflt, .v (.int 0), .any⟩]

/-- Rows of index 0x6055 (11_protection.md). -/
def objRows6055 : List ObjRow := [
  ⟨0x0, 0xF, "PROT_LIMIT_CHG", .u8, .ro, .dflt, .v (.int 100), .any⟩]

/-- Rows of index 0x6056 (11_protection.md). -/
def objRows6056 : List ObjRow := [
  ⟨0x0, 0xF, "PROT_LIMIT_DIS", .u8, .ro, .dflt, .v (.int 100), .any⟩]

/-- Rows of index 0x6057 (11_protection.md). -/
def objRows6057 : List ObjRow := [
  ⟨0x0, 0xF, "OC_CHG_LEVEL", .f32, .rws, .dflt, .v (.real 500), .rspans [(1, 10000)]⟩]

/-- Rows of index 0x6058 (11_protection.md). -/
def objRows6058 : List ObjRow := [
  ⟨0x0, 0xF, "OC_DIS_LEVEL", .f32, .rws, .dflt, .v (.real 500), .rspans [(1, 10000)]⟩]

/-- Rows of index 0x6059 (11_protection.md). -/
def objRows6059 : List ObjRow := [
  ⟨0x0, 0xF, "STRING_VOLTAGE", .f32, .ro, .dflt, .v .nan, .any⟩]

/-- Rows of index 0x605A (11_protection.md). -/
def objRows605A : List ObjRow := [
  ⟨0x0, 0xF, "BUS_VOLTAGE", .f32, .ro, .dflt, .v .nan, .any⟩]

/-- Rows of index 0x605B (11_protection.md). -/
def objRows605B : List ObjRow := [
  ⟨0x0, 0xF, "CLOSE_REFUSAL", .u8, .ro, .dflt, .v (.int 0), .any⟩]

/-- Rows of index 0x605C (11_protection.md). -/
def objRows605C : List ObjRow := [
  ⟨0x0, 0xF, "CONTACTOR_STATUS", .u16, .ro, .dflt, .v (.int 0), .any⟩]

/-- Rows of index 0x605D (11_protection.md). -/
def objRows605D : List ObjRow := [
  ⟨0x0, 0xF, "BREAKS_UNDER_LOAD", .u32, .ro, .dflt, .v (.int 0), .any⟩]

/-- Rows of index 0x605E (11_protection.md). -/
def objRows605E : List ObjRow := [
  ⟨0x0, 0xF, "LAST_BREAK_CURRENT", .f32, .ro, .dflt, .v (.real 0), .any⟩]

/-- Rows of index 0x605F (11_protection.md). -/
def objRows605F : List ObjRow := [
  ⟨0x0, 0xF, "OPERATIONS", .u32, .ro, .dflt, .v (.int 0), .any⟩]

/-- Rows of index 0x6060 (11_protection.md). -/
def objRows6060 : List ObjRow := [
  ⟨0x0, 0x2F, "AUX_INPUT", .u8, .rws, .dflt, .v (.int 255), .spans [(0, 15), (0x20, 0x3F), (0xFF, 0xFF)]⟩]

/-- Rows of index 0x6061 (11_protection.md). -/
def objRows6061 : List ObjRow := [
  ⟨0x0, 0x2F, "AUX_NC", .bool, .rws, .dflt, .v (.int 1), .spans [(0, 1)]⟩]

/-- Rows of index 0x6070 (12_safety.md). -/
def objRows6070 : List ObjRow := [
  ⟨0x0, 0xF, "SAFE_STRING_FLAGS", .u16, .ro, .dflt, .v (.int 0), .any⟩]

/-- Rows of index 0x6071 (12_safety.md). -/
def objRows6071 : List ObjRow := [
  ⟨0x0, 0xF, "PROOF_STATE", .u8, .ro, .dflt, .v (.int 6), .any⟩]

/-- Rows of index 0x6072 (12_safety.md). -/
def objRows6072 : List ObjRow := [
  ⟨0x0, 0xF, "PROOF_LAST", .time64, .ro, .dflt, .v (.int 0), .any⟩]

/-- Rows of index 0x6080 (13_dispatch.md). -/
def objRows6080 : List ObjRow := [
  ⟨0x0, 0xF, "STRING_LIMIT_CHG", .f32, .ro, .dflt, .v (.real 0), .any⟩]

/-- Rows of index 0x6081 (13_dispatch.md). -/
def objRows6081 : List ObjRow := [
  ⟨0x0, 0xF, "STRING_LIMIT_DIS", .f32, .ro, .dflt, .v (.real 0), .any⟩]

/-- Rows of index 0x6082 (13_dispatch.md). -/
def objRows6082 : List ObjRow := [
  ⟨0x0, 0xF, "STRING_SETPOINT", .f32, .ro, .dflt, .v (.real 0), .any⟩]

/-- Rows of index 0x6083 (13_dispatch.md). -/
def objRows6083 : List ObjRow := [
  ⟨0x0, 0xF, "STRING_SHARE", .f32, .ro, .dflt, .v (.real 0), .any⟩]

/-- Rows of index 0x6084 (13_dispatch.md). -/
def objRows6084 : List ObjRow := [
  ⟨0x0, 0xF, "CAL_ALLOWED", .bool, .rws, .dflt, .v (.int 1), .spans [(0, 1)]⟩]

/-- Rows of index 0x7000 (03_krytlink.md). -/
def objRows7000 : List ObjRow := [
  ⟨0x0, 0x1FF, "FE_UID", .u64, .ro, .dflt, .v (.int 0), .any⟩]

/-- Rows of index 0x7001 (03_krytlink.md). -/
def objRows7001 : List ObjRow := [
  ⟨0x0, 0x1FF, "FE_STATUS", .u8, .ro, .dflt, .v (.int 3), .any⟩]

/-- Rows of index 0x7002 (03_krytlink.md). -/
def objRows7002 : List ObjRow := [
  ⟨0x0, 0x1FF, "FE_DELAY_A", .u32, .ro, .dflt, .v (.int 0), .any⟩]

/-- Rows of index 0x7003 (03_krytlink.md). -/
def objRows7003 : List ObjRow := [
  ⟨0x0, 0x1FF, "FE_DELAY_B", .u32, .ro, .dflt, .v (.int 0), .any⟩]

/-- Rows of index 0x7004 (03_krytlink.md). -/
def objRows7004 : List ObjRow := [
  ⟨0x0, 0x1FF, "FE_STATE", .u8, .ro, .dflt, .v (.int 0), .any⟩]

/-- Rows of index 0x7005 (03_krytlink.md). -/
def objRows7005 : List ObjRow := [
  ⟨0x0, 0x1FF, "FE_LINK_ERRORS", .u32, .ro, .dflt, .v (.int 0), .any⟩]

/-- Rows of index 0x7010 (05_balancing.md). -/
def objRows7010 : List ObjRow := [
  ⟨0x0, 0x1FF, "LEAD_CAL_STATUS", .u8, .ro, .dflt, .v (.int 0), .any⟩]

/-- Rows of index 0x7011 (05_balancing.md). -/
def objRows7011 : List ObjRow := [
  ⟨0x0, 0x1FF, "LEAD_P", .domain, .rws, .dflt, .v (.bytes []), .lens [(0, 0), (128, 128)]⟩]

/-- Rows of index 0x7020 (09_temperature.md). -/
def objRows7020 : List ObjRow := [
  ⟨0x0, 0x1FF, "FE_DIE_TEMP", .f32, .ro, .dflt, .v .nan, .any⟩]

/-- Index map (Table 15.5), part 1. -/
def objGroups1 : List ObjGroup := [
  ⟨0x1000, 1, objRows1000, 0x00000000, 0, .all⟩,
  ⟨0x2000, 1, objRows2000, 0x20000001, 0, .all⟩,
  ⟨0x2010, 4, objRows2010, 0x20100001, 65536, .all⟩,
  ⟨0x2020, 1, objRows2020, 0x20200001, 0, .all⟩,
  ⟨0x2100, 1, objRows2100, 0x21000001, 0, .all⟩,
  ⟨0x2110, 8, objRows2110, 0x21000001, 0, .heads⟩,
  ⟨0x2200, 1, objRows2200, 0x22000001, 0, .all⟩,
  ⟨0x2230, 1, objRows2230, 0x22300001, 0, .all⟩,
  ⟨0x2240, 16, objRows2240, 0x22300001, 0, .all⟩,
  ⟨0x2250, 8, objRows2250, 0x22300001, 0, .all⟩,
  ⟨0x2300, 1, objRows2300, 0x23000001, 0, .all⟩,
  ⟨0x2400, 1, objRows2400, 0x24000001, 0, .all⟩,
  ⟨0x2410, 1, objRows2410, 0x24000001, 0, .all⟩,
  ⟨0x2418, 1, objRows2418, 0x24000001, 0, .all⟩,
  ⟨0x2420, 1, objRows2420, 0x24000001, 0, .all⟩,
  ⟨0x2500, 1, objRows2500, 0x25000001, 0, .all⟩,
  ⟨0x2510, 16, objRows2510a ++ objRows2510b ++ objRows2510c ++ objRows2510d, 0x25100001, 65536, .all⟩,
  ⟨0x2600, 1, objRows2600a ++ objRows2600b, 0x26000001, 0, .all⟩,
  ⟨0x2610, 16, objRows2610, 0x26000001, 0, .all⟩,
  ⟨0x2700, 1, objRows2700a ++ objRows2700b, 0x27000001, 0, .all⟩,
  ⟨0x2710, 1, objRows2710, 0x27100001, 0, .all⟩,
  ⟨0x2810, 2, objRows2810a ++ objRows2810b, 0x28100001, 65536, .all⟩,
  ⟨0x2818, 2, objRows2818, 0x28100001, 65536, .all⟩,
  ⟨0x281A, 2, objRows281A, 0x28100001, 65536, .all⟩,
  ⟨0x2900, 1, objRows2900, 0x29000001, 0, .all⟩,
  ⟨0x2910, 16, objRows2910, 0x29100001, 65536, .all⟩,
  ⟨0x2A00, 1, objRows2A00, 0x2A000001, 0, .all⟩,
  ⟨0x2A10, 1, objRows2A10, 0x2A000001, 0, .all⟩,
  ⟨0x2A11, 1, objRows2A11, 0x2A000001, 0, .all⟩,
  ⟨0x2A12, 1, objRows2A12, 0x2A000001, 0, .all⟩]

/-- Index map (Table 15.5), part 2. -/
def objGroups2 : List ObjGroup := [
  ⟨0x2B00, 1, objRows2B00, 0x2B000001, 0, .all⟩,
  ⟨0x2B10, 1, objRows2B10, 0x2B000001, 0, .all⟩,
  ⟨0x2B11, 1, objRows2B11, 0x2B000001, 0, .all⟩,
  ⟨0x2B20, 1, objRows2B20, 0x2B000001, 0, .contactors⟩,
  ⟨0x2B21, 1, objRows2B21, 0x2B000001, 0, .contactors⟩,
  ⟨0x2B30, 4, objRows2B30, 0x2B000001, 0, .all⟩,
  ⟨0x2B40, 2, objRows2B40, 0x2B000001, 0, .all⟩,
  ⟨0x2C00, 1, objRows2C00, 0x2C000001, 0, .all⟩,
  ⟨0x2D00, 1, objRows2D00a ++ objRows2D00b, 0x2D000001, 0, .all⟩,
  ⟨0x2E00, 1, objRows2E00, 0x2E000001, 0, .all⟩,
  ⟨0x2E10, 6, objRows2E10, 0x2E000001, 0, .all⟩,
  ⟨0x2E20, 1, objRows2E20, 0x2E000001, 0, .all⟩,
  ⟨0x2E21, 1, objRows2E21, 0x2E000001, 0, .all⟩,
  ⟨0x2E30, 1, objRows2E30, 0x2E000001, 0, .frontEnds⟩,
  ⟨0x2F00, 1, objRows2F00, 0x2F000001, 0, .all⟩,
  ⟨0x2F10, 1, objRows2F10, 0x2F000001, 0, .cells⟩,
  ⟨0x2F11, 1, objRows2F11, 0x2F000001, 0, .strings⟩,
  ⟨0x3000, 1, objRows3000, 0x30000001, 0, .all⟩,
  ⟨0x3010, 8, objRows3010, 0x30000001, 0, .all⟩,
  ⟨0x3030, 8, objRows3030, 0x30000001, 0, .all⟩,
  ⟨0x4000, 1, objRows4000, 0x22000001, 0, .cells⟩,
  ⟨0x4001, 1, objRows4001, 0x22000001, 0, .cells⟩,
  ⟨0x4002, 1, objRows4002, 0x22000001, 0, .cells⟩,
  ⟨0x4003, 1, objRows4003, 0x22000001, 0, .cells⟩,
  ⟨0x4004, 1, objRows4004, 0x22000001, 0, .cells⟩,
  ⟨0x4005, 1, objRows4005, 0x22000001, 0, .cells⟩,
  ⟨0x4006, 1, objRows4006, 0x22000001, 0, .cells⟩,
  ⟨0x4007, 1, objRows4007, 0x22000001, 0, .cells⟩,
  ⟨0x4008, 1, objRows4008, 0x22000001, 0, .cells⟩,
  ⟨0x4010, 1, objRows4010, 0x23000001, 0, .cells⟩]

/-- Index map (Table 15.5), part 3. -/
def objGroups3 : List ObjGroup := [
  ⟨0x4011, 1, objRows4011, 0x23000001, 0, .cells⟩,
  ⟨0x4012, 1, objRows4012, 0x23000001, 0, .cells⟩,
  ⟨0x4013, 1, objRows4013, 0x23000001, 0, .cells⟩,
  ⟨0x4014, 1, objRows4014, 0x23000001, 0, .cells⟩,
  ⟨0x4020, 1, objRows4020, 0x24000001, 0, .cells⟩,
  ⟨0x4021, 1, objRows4021, 0x24000001, 0, .cells⟩,
  ⟨0x4022, 1, objRows4022, 0x24000001, 0, .cells⟩,
  ⟨0x4023, 1, objRows4023, 0x24000001, 0, .cells⟩,
  ⟨0x4024, 1, objRows4024, 0x24000001, 0, .cells⟩,
  ⟨0x4025, 1, objRows4025, 0x24000001, 0, .cells⟩,
  ⟨0x4026, 1, objRows4026, 0x24000001, 0, .cells⟩,
  ⟨0x4027, 1, objRows4027, 0x24000001, 0, .cells⟩,
  ⟨0x4028, 1, objRows4028, 0x24000001, 0, .cells⟩,
  ⟨0x4029, 1, objRows4029, 0x24000001, 0, .cells⟩,
  ⟨0x402A, 1, objRows402A, 0x24000001, 0, .cells⟩,
  ⟨0x402B, 1, objRows402B, 0x24000001, 0, .cells⟩,
  ⟨0x402C, 1, objRows402C, 0x24000001, 0, .cells⟩,
  ⟨0x402D, 1, objRows402D, 0x24000001, 0, .cells⟩,
  ⟨0x402E, 1, objRows402E, 0x24000001, 0, .cells⟩,
  ⟨0x402F, 1, objRows402F, 0x24000001, 0, .cells⟩,
  ⟨0x4030, 1, objRows4030, 0x24000001, 0, .cells⟩,
  ⟨0x4031, 1, objRows4031, 0x24000001, 0, .cells⟩,
  ⟨0x4032, 1, objRows4032, 0x24000001, 0, .cells⟩,
  ⟨0x4033, 1, objRows4033, 0x24000001, 0, .cells⟩,
  ⟨0x4034, 1, objRows4034, 0x24000001, 0, .cells⟩,
  ⟨0x4035, 1, objRows4035, 0x24000001, 0, .cells⟩,
  ⟨0x4036, 1, objRows4036, 0x24000001, 0, .cells⟩,
  ⟨0x4037, 1, objRows4037, 0x24000001, 0, .cells⟩,
  ⟨0x4038, 1, objRows4038, 0x24000001, 0, .cells⟩,
  ⟨0x4039, 1, objRows4039, 0x24000001, 0, .cells⟩]

/-- Index map (Table 15.5), part 4. -/
def objGroups4 : List ObjGroup := [
  ⟨0x403A, 1, objRows403A, 0x24000001, 0, .cells⟩,
  ⟨0x403B, 1, objRows403B, 0x24000001, 0, .cells⟩,
  ⟨0x403C, 1, objRows403C, 0x24000001, 0, .cells⟩,
  ⟨0x4040, 1, objRows4040, 0x24000001, 0, .cells⟩,
  ⟨0x4041, 1, objRows4041, 0x24000001, 0, .cells⟩,
  ⟨0x4042, 1, objRows4042, 0x24000001, 0, .cells⟩,
  ⟨0x4050, 1, objRows4050, 0x22300001, 0, .cells⟩,
  ⟨0x4051, 1, objRows4051, 0x22300001, 0, .cells⟩,
  ⟨0x5000, 1, objRows5000, 0x22300001, 0, .sensors⟩,
  ⟨0x5001, 1, objRows5001, 0x22300001, 0, .sensors⟩,
  ⟨0x5002, 1, objRows5002, 0x22300001, 0, .sensors⟩,
  ⟨0x5003, 1, objRows5003, 0x22300001, 0, .sensors⟩,
  ⟨0x5004, 1, objRows5004, 0x22300001, 0, .sensors⟩,
  ⟨0x5005, 1, objRows5005, 0x22300001, 0, .sensors⟩,
  ⟨0x5006, 1, objRows5006, 0x22300001, 0, .sensors⟩,
  ⟨0x5007, 1, objRows5007, 0x22300001, 0, .sensors⟩,
  ⟨0x5008, 1, objRows5008, 0x22300001, 0, .sensors⟩,
  ⟨0x6000, 1, objRows6000, 0x22000001, 0, .strings⟩,
  ⟨0x6001, 1, objRows6001, 0x22000001, 0, .strings⟩,
  ⟨0x6002, 1, objRows6002, 0x22000001, 0, .strings⟩,
  ⟨0x6003, 1, objRows6003, 0x22000001, 0, .strings⟩,
  ⟨0x6004, 1, objRows6004, 0x22000001, 0, .strings⟩,
  ⟨0x6005, 1, objRows6005, 0x22000001, 0, .strings⟩,
  ⟨0x6006, 1, objRows6006, 0x22000001, 0, .strings⟩,
  ⟨0x6007, 1, objRows6007, 0x22000001, 0, .strings⟩,
  ⟨0x6008, 1, objRows6008, 0x22000001, 0, .strings⟩,
  ⟨0x6010, 1, objRows6010, 0x23000001, 0, .strings⟩,
  ⟨0x6011, 1, objRows6011, 0x23000001, 0, .strings⟩,
  ⟨0x6020, 1, objRows6020, 0x24000001, 0, .strings⟩,
  ⟨0x6021, 1, objRows6021, 0x24000001, 0, .strings⟩]

/-- Index map (Table 15.5), part 5. -/
def objGroups5 : List ObjGroup := [
  ⟨0x6022, 1, objRows6022, 0x24000001, 0, .strings⟩,
  ⟨0x6023, 1, objRows6023, 0x24000001, 0, .strings⟩,
  ⟨0x6024, 1, objRows6024, 0x24000001, 0, .strings⟩,
  ⟨0x6025, 1, objRows6025, 0x24000001, 0, .strings⟩,
  ⟨0x6026, 1, objRows6026, 0x24000001, 0, .strings⟩,
  ⟨0x6027, 1, objRows6027, 0x24000001, 0, .strings⟩,
  ⟨0x6028, 1, objRows6028, 0x24000001, 0, .strings⟩,
  ⟨0x6029, 1, objRows6029, 0x24000001, 0, .strings⟩,
  ⟨0x602A, 1, objRows602A, 0x24000001, 0, .strings⟩,
  ⟨0x602B, 1, objRows602B, 0x24000001, 0, .strings⟩,
  ⟨0x602C, 1, objRows602C, 0x24000001, 0, .strings⟩,
  ⟨0x602D, 1, objRows602D, 0x24000001, 0, .strings⟩,
  ⟨0x602E, 1, objRows602E, 0x24000001, 0, .strings⟩,
  ⟨0x602F, 1, objRows602F, 0x24000001, 0, .strings⟩,
  ⟨0x6030, 1, objRows6030, 0x24000001, 0, .strings⟩,
  ⟨0x6031, 1, objRows6031, 0x24000001, 0, .strings⟩,
  ⟨0x6032, 1, objRows6032, 0x24000001, 0, .strings⟩,
  ⟨0x6040, 1, objRows6040, 0x22300001, 0, .strings⟩,
  ⟨0x6041, 1, objRows6041, 0x22300001, 0, .strings⟩,
  ⟨0x6050, 1, objRows6050, 0x26000001, 0, .strings⟩,
  ⟨0x6051, 1, objRows6051, 0x26000001, 0, .strings⟩,
  ⟨0x6052, 1, objRows6052, 0x26000001, 0, .strings⟩,
  ⟨0x6053, 1, objRows6053, 0x26000001, 0, .strings⟩,
  ⟨0x6054, 1, objRows6054, 0x26000001, 0, .strings⟩,
  ⟨0x6055, 1, objRows6055, 0x26000001, 0, .strings⟩,
  ⟨0x6056, 1, objRows6056, 0x26000001, 0, .strings⟩,
  ⟨0x6057, 1, objRows6057, 0x26000001, 0, .strings⟩,
  ⟨0x6058, 1, objRows6058, 0x26000001, 0, .strings⟩,
  ⟨0x6059, 1, objRows6059, 0x26000001, 0, .strings⟩,
  ⟨0x605A, 1, objRows605A, 0x26000001, 0, .strings⟩]

/-- Index map (Table 15.5), part 6. -/
def objGroups6 : List ObjGroup := [
  ⟨0x605B, 1, objRows605B, 0x26000001, 0, .strings⟩,
  ⟨0x605C, 1, objRows605C, 0x26000001, 0, .strings⟩,
  ⟨0x605D, 1, objRows605D, 0x26000001, 0, .strings⟩,
  ⟨0x605E, 1, objRows605E, 0x26000001, 0, .strings⟩,
  ⟨0x605F, 1, objRows605F, 0x26000001, 0, .strings⟩,
  ⟨0x6060, 1, objRows6060, 0x26000001, 0, .contactors⟩,
  ⟨0x6061, 1, objRows6061, 0x26000001, 0, .contactors⟩,
  ⟨0x6070, 1, objRows6070, 0x30000001, 0, .strings⟩,
  ⟨0x6071, 1, objRows6071, 0x30000001, 0, .strings⟩,
  ⟨0x6072, 1, objRows6072, 0x30000001, 0, .strings⟩,
  ⟨0x6080, 1, objRows6080, 0x27000001, 0, .strings⟩,
  ⟨0x6081, 1, objRows6081, 0x27000001, 0, .strings⟩,
  ⟨0x6082, 1, objRows6082, 0x27000001, 0, .strings⟩,
  ⟨0x6083, 1, objRows6083, 0x27000001, 0, .strings⟩,
  ⟨0x6084, 1, objRows6084, 0x27000001, 0, .strings⟩,
  ⟨0x7000, 1, objRows7000, 0x21000001, 0, .frontEnds⟩,
  ⟨0x7001, 1, objRows7001, 0x21000001, 0, .frontEnds⟩,
  ⟨0x7002, 1, objRows7002, 0x21000001, 0, .frontEnds⟩,
  ⟨0x7003, 1, objRows7003, 0x21000001, 0, .frontEnds⟩,
  ⟨0x7004, 1, objRows7004, 0x21000001, 0, .frontEnds⟩,
  ⟨0x7005, 1, objRows7005, 0x21000001, 0, .frontEnds⟩,
  ⟨0x7010, 1, objRows7010, 0x23000001, 0, .frontEnds⟩,
  ⟨0x7011, 1, objRows7011, 0x23000001, 0, .frontEnds⟩,
  ⟨0x7020, 1, objRows7020, 0x22300001, 0, .frontEnds⟩]

/-- The index map: the dictionary holds exactly these indices (R367). -/
def objGroups : List ObjGroup := objGroups1 ++ objGroups2 ++ objGroups3 ++ objGroups4 ++ objGroups5 ++ objGroups6

end Sys2Proof.Machine
end

