-- ==== Sys2Proof/Machine/Objects.lean ====
section
/-!
DEFINITION. The keys of the dictionary objects (R13, R360, R367): each object named in the object tables of
the spec under its own name; an object that repeats (a head, a loop, a channel, a cell, a string) takes the
number of the instance, and a region object of a loop the region too (R260). A key is index × 65,536 + subindex.
-/

namespace Sys2Proof.Machine.Obj

/-- 0x2000:01 TIME_STATE, U8, RW (R57, 02_time.md). -/
def TIME_STATE : Nat := 0x20000001
/-- 0x2000:02 PTP_ENABLE, BOOL, RWS (R57, 02_time.md). -/
def PTP_ENABLE : Nat := 0x20000002
/-- 0x2000:03 PTP_PROFILE, U8, RWS (R57, 02_time.md). -/
def PTP_PROFILE : Nat := 0x20000003
/-- 0x2000:04 PTP_DOMAIN, U8, RWS (R57, 02_time.md). -/
def PTP_DOMAIN : Nat := 0x20000004
/-- 0x2000:05 PTP_LOCK_LIMIT, U32, RWS (R57, 02_time.md). -/
def PTP_LOCK_LIMIT : Nat := 0x20000005
/-- 0x2000:06 OFFSET_LARGE_LIMIT, U32, RWS (R57, 02_time.md). -/
def OFFSET_LARGE_LIMIT : Nat := 0x20000006
/-- 0x2000:07 P_SET, TIME64, WO (R57, 02_time.md). -/
def P_SET : Nat := 0x20000007
/-- 0x2000:08 P_STATE, U8, RO (R57, 02_time.md). -/
def P_STATE : Nat := 0x20000008
/-- 0x2000:09 OFFSET_LARGE, BOOL, RO (R57, 02_time.md). -/
def OFFSET_LARGE : Nat := 0x20000009
/-- 0x2000:0A P_SECONDS, U64, RO (R57, 02_time.md). -/
def P_SECONDS : Nat := 0x2000000A
/-- 0x2000:0B P_NANOSECONDS, U32, RO (R57, 02_time.md). -/
def P_NANOSECONDS : Nat := 0x2000000B
/-- 0x2000:0C L_NOW, U64, RO (R57, 02_time.md). -/
def L_NOW : Nat := 0x2000000C
/-- 0x2000:0D P_STEP_L, U64, RO (R57, 02_time.md). -/
def P_STEP_L : Nat := 0x2000000D
/-- 0x2000:0E P_STEP_SIZE, I64, RO (R57, 02_time.md). -/
def P_STEP_SIZE : Nat := 0x2000000E
/-- 0x2000:0F PTP_OFFSET, I64, RO (R57, 02_time.md). -/
def PTP_OFFSET : Nat := 0x2000000F
/-- 0x2000:10 PTP_RATE, I32, RO (R57, 02_time.md). -/
def PTP_RATE : Nat := 0x20000010
/-- 0x2000:11 PTP_PORT, U8, RO (R57, 02_time.md). -/
def PTP_PORT : Nat := 0x20000011
/-- 0x2000:12 PTP_MASTER_ID, U64, RO (R57, 02_time.md). -/
def PTP_MASTER_ID : Nat := 0x20000012
/-- 0x2000:13 XTAL_COMP, I32, RO (R57, 02_time.md). -/
def XTAL_COMP : Nat := 0x20000013
/-- 0x2000:14 XTAL_TABLE, DOMAIN, RO (R57, 02_time.md). -/
def XTAL_TABLE : Nat := 0x20000014
/-- 0x2010:01 MK_STATE, U8, RW (R58, 02_time.md). -/
def MK_STATE (n : Nat) : Nat := 0x20100001 + 0x10000 * n
/-- 0x2010:02 MK_BASE, U8, RWS (R58, 02_time.md). -/
def MK_BASE (n : Nat) : Nat := 0x20100002 + 0x10000 * n
/-- 0x2010:03 MK_MODE, U8, RWS (R58, 02_time.md). -/
def MK_MODE (n : Nat) : Nat := 0x20100003 + 0x10000 * n
/-- 0x2010:04 MK_START, U64, RWS (R58, 02_time.md). -/
def MK_START (n : Nat) : Nat := 0x20100004 + 0x10000 * n
/-- 0x2010:05 MK_START_ANGLE, U32, RWS (R58, 02_time.md). -/
def MK_START_ANGLE (n : Nat) : Nat := 0x20100005 + 0x10000 * n
/-- 0x2010:06 MK_PERIOD, U64, RWS (R58, 02_time.md). -/
def MK_PERIOD (n : Nat) : Nat := 0x20100006 + 0x10000 * n
/-- 0x2010:07 MK_WIDTH, U32, RWS (R58, 02_time.md). -/
def MK_WIDTH (n : Nat) : Nat := 0x20100007 + 0x10000 * n
/-- 0x2010:08 MK_SKIPPED, U32, RO (R58, 02_time.md). -/
def MK_SKIPPED (n : Nat) : Nat := 0x20100008 + 0x10000 * n
/-- 0x2010:09 MK_LATE, BOOL, RO (R58, 02_time.md). -/
def MK_LATE (n : Nat) : Nat := 0x20100009 + 0x10000 * n
/-- 0x2020:01 ANGLE_STATE, U8, RW (R59, 02_time.md). -/
def ANGLE_STATE : Nat := 0x20200001
/-- 0x2020:02 ANGLE_SOURCE, U8, RWS (R59, 02_time.md). -/
def ANGLE_SOURCE : Nat := 0x20200002
/-- 0x2020:03 M_NOMINAL_FREQ, F32, RWS (R59, 02_time.md). -/
def M_NOMINAL_FREQ : Nat := 0x20200003
/-- 0x2020:04 ANG_OFFSET, I32, RWS (R59, 02_time.md). -/
def ANG_OFFSET : Nat := 0x20200004
/-- 0x2020:05 ANG_MSG_CHANNEL, U8, RWS (R59, 02_time.md). -/
def ANG_MSG_CHANNEL : Nat := 0x20200005
/-- 0x2020:06 ANG_MSG_ID, U32, RWS (R59, 02_time.md). -/
def ANG_MSG_ID : Nat := 0x20200006
/-- 0x2020:07 ANG_MSG_TIMEOUT, U16, RWS (R59, 02_time.md). -/
def ANG_MSG_TIMEOUT : Nat := 0x20200007
/-- 0x2020:08 ANGLE_SLEW_MAX, U16, RWS (R59, 02_time.md). -/
def ANGLE_SLEW_MAX : Nat := 0x20200008
/-- 0x2020:09 M_HOLDOVER_MAX, U16, RWS (R59, 02_time.md). -/
def M_HOLDOVER_MAX : Nat := 0x20200009
/-- 0x2020:0A M_STATE, U8, RO (R59, 02_time.md). -/
def M_STATE : Nat := 0x2020000A
/-- 0x2020:0B M_ANGLE, U32, RO (R59, 02_time.md). -/
def M_ANGLE : Nat := 0x2020000B
/-- 0x2020:0C M_FREQ_WORD, U32, RO (R59, 02_time.md). -/
def M_FREQ_WORD : Nat := 0x2020000C
/-- 0x2020:0D M_CYCLE_COUNT, U64, RO (R59, 02_time.md). -/
def M_CYCLE_COUNT : Nat := 0x2020000D
/-- 0x2020:0E M_PHASE_ERROR, I32, RO (R59, 02_time.md). -/
def M_PHASE_ERROR : Nat := 0x2020000E
/-- 0x2020:0F ANG_GLITCHES, U32, RO (R59, 02_time.md). -/
def ANG_GLITCHES : Nat := 0x2020000F
/-- 0x2200:02 SWEEP_CYCLES, U8, RWS (R60, 02_time.md). -/
def SWEEP_CYCLES : Nat := 0x22000002
/-- 0x2200:03 SWEEP_ANGLE, U32, RWS (R60, 02_time.md). -/
def SWEEP_ANGLE : Nat := 0x22000003
/-- 0x2200:04 WINDOW_CYCLES, U8, RWS (R60, 02_time.md). -/
def WINDOW_CYCLES : Nat := 0x22000004
/-- 0x2200:05 SWEEP_DITHER, BOOL, RWS (R60, 02_time.md). -/
def SWEEP_DITHER : Nat := 0x22000005
/-- 0x2200:06 SWEEP_CYCLES_EFFECTIVE, U8, RO (R60, 02_time.md). -/
def SWEEP_CYCLES_EFFECTIVE : Nat := 0x22000006
/-- 0x2200:07 SWEEP_COUNT, U64, RO (R60, 02_time.md). -/
def SWEEP_COUNT : Nat := 0x22000007
/-- 0x2200:08 WINDOW_UNLOCKED, BOOL, RO (R60, 02_time.md). -/
def WINDOW_UNLOCKED : Nat := 0x22000008
/-- 0x2200:09 SWEEP_FREE_RUN, BOOL, RO (R60, 02_time.md). -/
def SWEEP_FREE_RUN : Nat := 0x22000009
/-- 0x2100:01 CHAIN_STATE, U8, RW (R97, 03_krytlink.md). -/
def CHAIN_STATE : Nat := 0x21000001
/-- 0x2100:02 POSITION_MAP, DOMAIN, RWS (R97, 03_krytlink.md). -/
def POSITION_MAP : Nat := 0x21000002
/-- 0x2100:03 ECHO_PERIOD, U16, RWS (R97, 03_krytlink.md). -/
def ECHO_PERIOD : Nat := 0x21000003
/-- 0x2100:04 ACCEPT_DEVICE, U16, WO (R97, 03_krytlink.md). -/
def ACCEPT_DEVICE : Nat := 0x21000004
/-- 0x2100:05 ENUM_DONE, BOOL, RO (R97, 03_krytlink.md). -/
def ENUM_DONE : Nat := 0x21000005
/-- 0x2100:06 MAP_MISMATCHES, U16, RO (R97, 03_krytlink.md). -/
def MAP_MISMATCHES : Nat := 0x21000006
/-- 0x2100:07 MAP_ERROR_ENTRY, U16, RO (R97, 03_krytlink.md). -/
def MAP_ERROR_ENTRY : Nat := 0x21000007
/-- 0x2110:01 HEAD_SHAPE, U8, RWS (R98, 03_krytlink.md). -/
def HEAD_SHAPE (n : Nat) : Nat := 0x21100001 + 0x10000 * n
/-- 0x2110:02 HEAD_PEER, U8, RWS (R98, 03_krytlink.md). -/
def HEAD_PEER (n : Nat) : Nat := 0x21100002 + 0x10000 * n
/-- 0x2110:03 HEAD_ROLE, U8, RO (R98, 03_krytlink.md). -/
def HEAD_ROLE (n : Nat) : Nat := 0x21100003 + 0x10000 * n
/-- 0x2110:04 HEAD_DEVICES, U8, RO (R98, 03_krytlink.md). -/
def HEAD_DEVICES (n : Nat) : Nat := 0x21100004 + 0x10000 * n
/-- 0x2110:05 HEAD_TURN_ADDR, U8, RO (R98, 03_krytlink.md). -/
def HEAD_TURN_ADDR (n : Nat) : Nat := 0x21100005 + 0x10000 * n
/-- 0x2110:06 HEAD_TURN_CAUSE, U8, RO (R98, 03_krytlink.md). -/
def HEAD_TURN_CAUSE (n : Nat) : Nat := 0x21100006 + 0x10000 * n
/-- 0x2110:07 HEAD_CONTINUITY, BOOL, RO (R98, 03_krytlink.md). -/
def HEAD_CONTINUITY (n : Nat) : Nat := 0x21100007 + 0x10000 * n
/-- 0x2110:08 HEAD_TONE, BOOL, RO (R98, 03_krytlink.md). -/
def HEAD_TONE (n : Nat) : Nat := 0x21100008 + 0x10000 * n
/-- 0x2110:09 HEAD_CRC_ERRORS, U32, RO (R98, 03_krytlink.md). -/
def HEAD_CRC_ERRORS (n : Nat) : Nat := 0x21100009 + 0x10000 * n
/-- 0x2110:0A HEAD_TIMEOUTS, U32, RO (R98, 03_krytlink.md). -/
def HEAD_TIMEOUTS (n : Nat) : Nat := 0x2110000A + 0x10000 * n
/-- 0x2110:0B HEAD_BREAKS, U32, RO (R98, 03_krytlink.md). -/
def HEAD_BREAKS (n : Nat) : Nat := 0x2110000B + 0x10000 * n
/-- 0x2110:0C HEAD_UNEXPECTED, U8, RO (R98, 03_krytlink.md). -/
def HEAD_UNEXPECTED (n : Nat) : Nat := 0x2110000C + 0x10000 * n
/-- 0x2110:0D HEAD_ENUM_FAULT, U8, RO (R98, 03_krytlink.md). -/
def HEAD_ENUM_FAULT (n : Nat) : Nat := 0x2110000D + 0x10000 * n
/-- 0x2110:0E CHAIN_TOO_LONG, BOOL, RO (R98, 03_krytlink.md). -/
def CHAIN_TOO_LONG (n : Nat) : Nat := 0x2110000E + 0x10000 * n
/-- 0x7000:0000–01FF FE_UID, U64, RO (R99, 03_krytlink.md). -/
def FE_UID (n : Nat) : Nat := 0x70000000 + n
/-- 0x7001:0000–01FF FE_STATUS, U8, RO (R99, 03_krytlink.md). -/
def FE_STATUS (n : Nat) : Nat := 0x70010000 + n
/-- 0x7002:0000–01FF FE_DELAY_A, U32, RO (R99, 03_krytlink.md). -/
def FE_DELAY_A (n : Nat) : Nat := 0x70020000 + n
/-- 0x7003:0000–01FF FE_DELAY_B, U32, RO (R99, 03_krytlink.md). -/
def FE_DELAY_B (n : Nat) : Nat := 0x70030000 + n
/-- 0x7004:0000–01FF FE_STATE, U8, RO (R99, 03_krytlink.md). -/
def FE_STATE (n : Nat) : Nat := 0x70040000 + n
/-- 0x7005:0000–01FF FE_LINK_ERRORS, U32, RO (R99, 03_krytlink.md). -/
def FE_LINK_ERRORS (n : Nat) : Nat := 0x70050000 + n
/-- 0x2200:01 SWEEP_STATE, U8, RW (R119, 04_sweep.md). -/
def SWEEP_STATE : Nat := 0x22000001
/-- 0x2200:0A SYNC_LEAD, U32, RWS (R119, 04_sweep.md). -/
def SYNC_LEAD : Nat := 0x2200000A
/-- 0x2200:0B HARMONIC_A, U8, RWS (R119, 04_sweep.md). -/
def HARMONIC_A : Nat := 0x2200000B
/-- 0x2200:0C HARMONIC_B, U8, RWS (R119, 04_sweep.md). -/
def HARMONIC_B : Nat := 0x2200000C
/-- 0x2200:0D IMP_MIN_CURRENT, F32, RWS (R119, 04_sweep.md). -/
def IMP_MIN_CURRENT : Nat := 0x2200000D
/-- 0x2200:0E PILOT_ENABLE, BOOL, RWS (R119, 04_sweep.md). -/
def PILOT_ENABLE : Nat := 0x2200000E
/-- 0x2200:0F PILOT_HARMONIC, U8, RWS (R119, 04_sweep.md). -/
def PILOT_HARMONIC : Nat := 0x2200000F
/-- 0x2200:10 PILOT_SWEEPS_PER_PERIOD, U16, RWS (R119, 04_sweep.md). -/
def PILOT_SWEEPS_PER_PERIOD : Nat := 0x22000010
/-- 0x2200:11 PILOT_PERIODS, U8, RWS (R119, 04_sweep.md). -/
def PILOT_PERIODS : Nat := 0x22000011
/-- 0x2200:12 PILOT_AMPLITUDE, U16, RWS (R119, 04_sweep.md). -/
def PILOT_AMPLITUDE : Nat := 0x22000012
/-- 0x2200:13 PILOT_ACTIVE, BOOL, RO (R119, 04_sweep.md). -/
def PILOT_ACTIVE : Nat := 0x22000013
/-- 0x2200:14 READ_LIMIT, U32, RO (R119, 04_sweep.md). -/
def READ_LIMIT : Nat := 0x22000014
/-- 0x2200:15 STALE_CELLS, U16, RO (R119, 04_sweep.md). -/
def STALE_CELLS : Nat := 0x22000015
/-- 0x2200:16 SEGMENT_READS, U32, RO (R119, 04_sweep.md). -/
def SEGMENT_READS : Nat := 0x22000016
/-- 0x2200:17 LATE_BLOCKS, U32, RO (R119, 04_sweep.md). -/
def LATE_BLOCKS : Nat := 0x22000017
/-- 0x2110:0F BREAK_HOP, U8, RO (R120, 04_sweep.md). -/
def BREAK_HOP (n : Nat) : Nat := 0x2110000F + 0x10000 * n
/-- 0x2110:10 BREAK_SWEEP, U64, RO (R120, 04_sweep.md). -/
def BREAK_SWEEP (n : Nat) : Nat := 0x21100010 + 0x10000 * n
/-- 0x2110:11 SEGMENT_DEVICES, U8, RO (R120, 04_sweep.md). -/
def SEGMENT_DEVICES (n : Nat) : Nat := 0x21100011 + 0x10000 * n
/-- 0x2110:12 ARRIVAL_WAIT, U32, RO (R120, 04_sweep.md). -/
def ARRIVAL_WAIT (n : Nat) : Nat := 0x21100012 + 0x10000 * n
/-- 0x6000:00–0F CI_SCALE, F32, RWS (R121, 04_sweep.md). -/
def CI_SCALE (n : Nat) : Nat := 0x60000000 + n
/-- 0x6001:00–0F CI_OFFSET, F32, RWS (R121, 04_sweep.md). -/
def CI_OFFSET (n : Nat) : Nat := 0x60010000 + n
/-- 0x6002:00–0F CI_FAULT, BOOL, RO (R121, 04_sweep.md). -/
def CI_FAULT (n : Nat) : Nat := 0x60020000 + n
/-- 0x6003:00–0F STRING_I_MEAN, F32, RO (R121, 04_sweep.md). -/
def STRING_I_MEAN (n : Nat) : Nat := 0x60030000 + n
/-- 0x6004:00–0F STRING_CHARGE, F64, RO (R121, 04_sweep.md). -/
def STRING_CHARGE (n : Nat) : Nat := 0x60040000 + n
/-- 0x6005:00–0F STRING_I_A_RE, F32, RO (R121, 04_sweep.md). -/
def STRING_I_A_RE (n : Nat) : Nat := 0x60050000 + n
/-- 0x6006:00–0F STRING_I_A_IM, F32, RO (R121, 04_sweep.md). -/
def STRING_I_A_IM (n : Nat) : Nat := 0x60060000 + n
/-- 0x6007:00–0F STRING_I_B_RE, F32, RO (R121, 04_sweep.md). -/
def STRING_I_B_RE (n : Nat) : Nat := 0x60070000 + n
/-- 0x6008:00–0F STRING_I_B_IM, F32, RO (R121, 04_sweep.md). -/
def STRING_I_B_IM (n : Nat) : Nat := 0x60080000 + n
/-- 0x4000:0000–1FFF CELL_VMEAN, U32, RO (R121, 04_sweep.md). -/
def CELL_VMEAN (n : Nat) : Nat := 0x40000000 + n
/-- 0x4001:0000–1FFF CELL_AGE, U16, RO (R121, 04_sweep.md). -/
def CELL_AGE (n : Nat) : Nat := 0x40010000 + n
/-- 0x4002:0000–1FFF CELL_MEAS_FLAGS, U16, RO (R121, 04_sweep.md). -/
def CELL_MEAS_FLAGS (n : Nat) : Nat := 0x40020000 + n
/-- 0x4003:0000–1FFF Z_A_RE, F32, RO (R121, 04_sweep.md). -/
def Z_A_RE (n : Nat) : Nat := 0x40030000 + n
/-- 0x4004:0000–1FFF Z_A_IM, F32, RO (R121, 04_sweep.md). -/
def Z_A_IM (n : Nat) : Nat := 0x40040000 + n
/-- 0x4005:0000–1FFF Z_B_RE, F32, RO (R121, 04_sweep.md). -/
def Z_B_RE (n : Nat) : Nat := 0x40050000 + n
/-- 0x4006:0000–1FFF Z_B_IM, F32, RO (R121, 04_sweep.md). -/
def Z_B_IM (n : Nat) : Nat := 0x40060000 + n
/-- 0x4007:0000–1FFF Z_P_RE, F32, RO (R121, 04_sweep.md). -/
def Z_P_RE (n : Nat) : Nat := 0x40070000 + n
/-- 0x4008:0000–1FFF Z_P_IM, F32, RO (R121, 04_sweep.md). -/
def Z_P_IM (n : Nat) : Nat := 0x40080000 + n
/-- 0x2300:01 BAL_STATE, U8, RW (R139, 05_balancing.md). -/
def BAL_STATE : Nat := 0x23000001
/-- 0x2300:02 BLANKING, BOOL, RWS (R139, 05_balancing.md). -/
def BLANKING : Nat := 0x23000002
/-- 0x2300:03 BALANCE_PERIOD, U8, RWS (R139, 05_balancing.md). -/
def BALANCE_PERIOD : Nat := 0x23000003
/-- 0x2300:04 BAL_HORIZON, U32, RWS (R139, 05_balancing.md). -/
def BAL_HORIZON : Nat := 0x23000004
/-- 0x2300:05 BAL_DEADBAND, F32, RWS (R139, 05_balancing.md). -/
def BAL_DEADBAND : Nat := 0x23000005
/-- 0x2300:06 BAL_SOC_BOUND_MAX, F32, RWS (R139, 05_balancing.md). -/
def BAL_SOC_BOUND_MAX : Nat := 0x23000006
/-- 0x2300:07 BAL_V_MIN, U16, RWS (R139, 05_balancing.md). -/
def BAL_V_MIN : Nat := 0x23000007
/-- 0x2300:08 BLEED_PWM_SET, U16, RWS (R139, 05_balancing.md). -/
def BLEED_PWM_SET : Nat := 0x23000008
/-- 0x2300:09 LEAD_CAL_START, U16, WO (R139, 05_balancing.md). -/
def LEAD_CAL_START : Nat := 0x23000009
/-- 0x2300:0A LEAD_CAL_STATE, U8, RO (R139, 05_balancing.md). -/
def LEAD_CAL_STATE : Nat := 0x2300000A
/-- 0x2300:0B LEAD_CAL_REPEATS, U8, RWS (R139, 05_balancing.md). -/
def LEAD_CAL_REPEATS : Nat := 0x2300000B
/-- 0x2300:0C LEAD_CAL_I_STEP, F32, RWS (R139, 05_balancing.md). -/
def LEAD_CAL_I_STEP : Nat := 0x2300000C
/-- 0x2300:0D LEAD_CAL_TOL, U8, RWS (R139, 05_balancing.md). -/
def LEAD_CAL_TOL : Nat := 0x2300000D
/-- 0x2300:0E LEAD_CAL_NEEDED, BOOL, RO (R139, 05_balancing.md). -/
def LEAD_CAL_NEEDED : Nat := 0x2300000E
/-- 0x2300:0F BAL_AMBIGUOUS_SWEEPS, U32, RO (R139, 05_balancing.md). -/
def BAL_AMBIGUOUS_SWEEPS : Nat := 0x2300000F
/-- 0x6010:00–0F BAL_ALIGN, U8, RWS (R140, 05_balancing.md). -/
def BAL_ALIGN (n : Nat) : Nat := 0x60100000 + n
/-- 0x6011:00–0F BAL_STRING_STATE, U8, RO (R140, 05_balancing.md). -/
def BAL_STRING_STATE (n : Nat) : Nat := 0x60110000 + n
/-- 0x4010:0000–1FFF BLEED_TARGET, F32, RO (R141, 05_balancing.md). -/
def BLEED_TARGET (n : Nat) : Nat := 0x40100000 + n
/-- 0x4011:0000–1FFF BLEED_DUTY, U8, RO (R141, 05_balancing.md). -/
def BLEED_DUTY (n : Nat) : Nat := 0x40110000 + n
/-- 0x4012:0000–1FFF BLEED_INHIBIT, U8, RO (R141, 05_balancing.md). -/
def BLEED_INHIBIT (n : Nat) : Nat := 0x40120000 + n
/-- 0x4013:0000–1FFF BLEED_CHARGE_TOTAL, F64, RO (R141, 05_balancing.md). -/
def BLEED_CHARGE_TOTAL (n : Nat) : Nat := 0x40130000 + n
/-- 0x4014:0000–1FFF BLEED_CORR_BOUND, F32, RO (R141, 05_balancing.md). -/
def BLEED_CORR_BOUND (n : Nat) : Nat := 0x40140000 + n
/-- 0x7010:0000–01FF LEAD_CAL_STATUS, U8, RO (R142, 05_balancing.md). -/
def LEAD_CAL_STATUS (n : Nat) : Nat := 0x70100000 + n
/-- 0x7011:0000–01FF LEAD_P, DOMAIN, RWS (R142, 05_balancing.md). -/
def LEAD_P (n : Nat) : Nat := 0x70110000 + n
/-- 0x2400:01 EST_STATE, U8, RW (R170, 06_cell_model.md). -/
def EST_STATE : Nat := 0x24000001
/-- 0x2400:02 SOC_BOUND_MAX, F32, RWS (R170, 06_cell_model.md). -/
def SOC_BOUND_MAX : Nat := 0x24000002
/-- 0x2400:03 TAPER_CURRENT, F32, RWS (R170, 06_cell_model.md). -/
def TAPER_CURRENT : Nat := 0x24000003
/-- 0x2400:04 TAPER_BAND, U16, RWS (R170, 06_cell_model.md). -/
def TAPER_BAND : Nat := 0x24000004
/-- 0x2400:05 TAPER_TIME, U16, RWS (R170, 06_cell_model.md). -/
def TAPER_TIME : Nat := 0x24000005
/-- 0x2400:06 KNEE_CURRENT, F32, RWS (R170, 06_cell_model.md). -/
def KNEE_CURRENT : Nat := 0x24000006
/-- 0x2400:07 KNEE_BAND, U16, RWS (R170, 06_cell_model.md). -/
def KNEE_BAND : Nat := 0x24000007
/-- 0x2400:08 KNEE_TIME, U16, RWS (R170, 06_cell_model.md). -/
def KNEE_TIME : Nat := 0x24000008
/-- 0x2400:09 REST_CURRENT, F32, RWS (R170, 06_cell_model.md). -/
def REST_CURRENT : Nat := 0x24000009
/-- 0x2400:0A REST_TIME, U16, RWS (R170, 06_cell_model.md). -/
def REST_TIME : Nat := 0x2400000A
/-- 0x2400:0B ITER_TOL, F32, RWS (R170, 06_cell_model.md). -/
def ITER_TOL : Nat := 0x2400000B
/-- 0x2400:0C PROFILE_0, DOMAIN, RWS (R170, 06_cell_model.md). -/
def PROFILE_0 : Nat := 0x2400000C
/-- 0x2400:0D PROFILE_1, DOMAIN, RWS (R170, 06_cell_model.md). -/
def PROFILE_1 : Nat := 0x2400000D
/-- 0x2400:0E PROFILE_2, DOMAIN, RWS (R170, 06_cell_model.md). -/
def PROFILE_2 : Nat := 0x2400000E
/-- 0x2400:0F PROFILE_3, DOMAIN, RWS (R170, 06_cell_model.md). -/
def PROFILE_3 : Nat := 0x2400000F
/-- 0x2400:10 PROFILES_VALID, U8, RO (R170, 06_cell_model.md). -/
def PROFILES_VALID : Nat := 0x24000010
/-- 0x2400:11 EST_OUTLIERS, U32, RO (R170, 06_cell_model.md). -/
def EST_OUTLIERS : Nat := 0x24000011
/-- 0x2400:12 EST_CLAMPS, U32, RO (R170, 06_cell_model.md). -/
def EST_CLAMPS : Nat := 0x24000012
/-- 0x2400:13 ANCHORS_MISSED, U32, RO (R170, 06_cell_model.md). -/
def ANCHORS_MISSED : Nat := 0x24000013
/-- 0x6020:00–0F PROFILE_SELECT, U8, RWS (R171, 06_cell_model.md). -/
def PROFILE_SELECT (n : Nat) : Nat := 0x60200000 + n
/-- 0x6021:00–0F CALIBRATION_WANTED, BOOL, RO (R171, 06_cell_model.md). -/
def CALIBRATION_WANTED (n : Nat) : Nat := 0x60210000 + n
/-- 0x6022:00–0F CAL_WORST_CELL, U16, RO (R171, 06_cell_model.md). -/
def CAL_WORST_CELL (n : Nat) : Nat := 0x60220000 + n
/-- 0x6023:00–0F CAL_WORST_BOUND, F32, RO (R171, 06_cell_model.md). -/
def CAL_WORST_BOUND (n : Nat) : Nat := 0x60230000 + n
/-- 0x6024:00–0F ANCHOR_STATE, U8, RO (R171, 06_cell_model.md). -/
def ANCHOR_STATE (n : Nat) : Nat := 0x60240000 + n
/-- 0x6025:00–0F ANCHOR_TIMER, U16, RO (R171, 06_cell_model.md). -/
def ANCHOR_TIMER (n : Nat) : Nat := 0x60250000 + n
/-- 0x6026:00–0F ANCHOR_LAST_KIND, U8, RO (R171, 06_cell_model.md). -/
def ANCHOR_LAST_KIND (n : Nat) : Nat := 0x60260000 + n
/-- 0x6027:00–0F ANCHOR_LAST_TIME, TIME64, RO (R171, 06_cell_model.md). -/
def ANCHOR_LAST_TIME (n : Nat) : Nat := 0x60270000 + n
/-- 0x6028:00–0F STRING_SOE, F32, RO (R171, 06_cell_model.md). -/
def STRING_SOE (n : Nat) : Nat := 0x60280000 + n
/-- 0x6029:00–0F STRING_SOE_ROOM, F32, RO (R171, 06_cell_model.md). -/
def STRING_SOE_ROOM (n : Nat) : Nat := 0x60290000 + n
/-- 0x602A:00–0F STRING_SOE_BOUND, F32, RO (R171, 06_cell_model.md). -/
def STRING_SOE_BOUND (n : Nat) : Nat := 0x602A0000 + n
/-- 0x602B:00–0F STRING_SOP_CHG_2S, F32, RO (R171, 06_cell_model.md). -/
def STRING_SOP_CHG_2S (n : Nat) : Nat := 0x602B0000 + n
/-- 0x602C:00–0F STRING_SOP_CHG_10S, F32, RO (R171, 06_cell_model.md). -/
def STRING_SOP_CHG_10S (n : Nat) : Nat := 0x602C0000 + n
/-- 0x602D:00–0F STRING_SOP_CHG_60S, F32, RO (R171, 06_cell_model.md). -/
def STRING_SOP_CHG_60S (n : Nat) : Nat := 0x602D0000 + n
/-- 0x602E:00–0F STRING_SOP_DIS_2S, F32, RO (R171, 06_cell_model.md). -/
def STRING_SOP_DIS_2S (n : Nat) : Nat := 0x602E0000 + n
/-- 0x602F:00–0F STRING_SOP_DIS_10S, F32, RO (R171, 06_cell_model.md). -/
def STRING_SOP_DIS_10S (n : Nat) : Nat := 0x602F0000 + n
/-- 0x6030:00–0F STRING_SOP_DIS_60S, F32, RO (R171, 06_cell_model.md). -/
def STRING_SOP_DIS_60S (n : Nat) : Nat := 0x60300000 + n
/-- 0x6031:00–0F CI_GAIN_UNC, F32, RWS (R171, 06_cell_model.md). -/
def CI_GAIN_UNC (n : Nat) : Nat := 0x60310000 + n
/-- 0x6032:00–0F CI_OFFSET_UNC, F32, RWS (R171, 06_cell_model.md). -/
def CI_OFFSET_UNC (n : Nat) : Nat := 0x60320000 + n
/-- 0x4020:0000–1FFF SOC, F32, RO (R172, 06_cell_model.md). -/
def SOC (n : Nat) : Nat := 0x40200000 + n
/-- 0x4021:0000–1FFF SOC_BOUND, F32, RO (R172, 06_cell_model.md). -/
def SOC_BOUND (n : Nat) : Nat := 0x40210000 + n
/-- 0x4022:0000–1FFF SOE, F32, RO (R172, 06_cell_model.md). -/
def SOE (n : Nat) : Nat := 0x40220000 + n
/-- 0x4023:0000–1FFF SOE_ROOM, F32, RO (R172, 06_cell_model.md). -/
def SOE_ROOM (n : Nat) : Nat := 0x40230000 + n
/-- 0x4024:0000–1FFF SOE_BOUND, F32, RO (R172, 06_cell_model.md). -/
def SOE_BOUND (n : Nat) : Nat := 0x40240000 + n
/-- 0x4025:0000–1FFF SOH_C, F32, RO (R172, 06_cell_model.md). -/
def SOH_C (n : Nat) : Nat := 0x40250000 + n
/-- 0x4026:0000–1FFF SOH_C_BOUND, F32, RO (R172, 06_cell_model.md). -/
def SOH_C_BOUND (n : Nat) : Nat := 0x40260000 + n
/-- 0x4027:0000–1FFF SOH_R, F32, RO (R172, 06_cell_model.md). -/
def SOH_R (n : Nat) : Nat := 0x40270000 + n
/-- 0x4028:0000–1FFF SOH_R_BOUND, F32, RO (R172, 06_cell_model.md). -/
def SOH_R_BOUND (n : Nat) : Nat := 0x40280000 + n
/-- 0x4029:0000–1FFF CORE_TEMP, F32, RO (R172, 06_cell_model.md). -/
def CORE_TEMP (n : Nat) : Nat := 0x40290000 + n
/-- 0x402A:0000–1FFF CORE_TEMP_BOUND, F32, RO (R172, 06_cell_model.md). -/
def CORE_TEMP_BOUND (n : Nat) : Nat := 0x402A0000 + n
/-- 0x402B:0000–1FFF Z_TEMP, F32, RO (R172, 06_cell_model.md). -/
def Z_TEMP (n : Nat) : Nat := 0x402B0000 + n
/-- 0x402C:0000–1FFF Z_TEMP_BOUND, F32, RO (R172, 06_cell_model.md). -/
def Z_TEMP_BOUND (n : Nat) : Nat := 0x402C0000 + n
/-- 0x402D:0000–1FFF CAPACITY, F32, RO (R172, 06_cell_model.md). -/
def CAPACITY (n : Nat) : Nat := 0x402D0000 + n
/-- 0x402E:0000–1FFF EST_FLAGS, U16, RO (R172, 06_cell_model.md). -/
def EST_FLAGS (n : Nat) : Nat := 0x402E0000 + n
/-- 0x402F:0000–1FFF EST_AGE, U16, RO (R172, 06_cell_model.md). -/
def EST_AGE (n : Nat) : Nat := 0x402F0000 + n
/-- 0x4030:0000–1FFF SOP_CHG_2S, F32, RO (R172, 06_cell_model.md). -/
def SOP_CHG_2S (n : Nat) : Nat := 0x40300000 + n
/-- 0x4031:0000–1FFF SOP_CHG_10S, F32, RO (R172, 06_cell_model.md). -/
def SOP_CHG_10S (n : Nat) : Nat := 0x40310000 + n
/-- 0x4032:0000–1FFF SOP_CHG_60S, F32, RO (R172, 06_cell_model.md). -/
def SOP_CHG_60S (n : Nat) : Nat := 0x40320000 + n
/-- 0x4033:0000–1FFF SOP_DIS_2S, F32, RO (R172, 06_cell_model.md). -/
def SOP_DIS_2S (n : Nat) : Nat := 0x40330000 + n
/-- 0x4034:0000–1FFF SOP_DIS_10S, F32, RO (R172, 06_cell_model.md). -/
def SOP_DIS_10S (n : Nat) : Nat := 0x40340000 + n
/-- 0x4035:0000–1FFF SOP_DIS_60S, F32, RO (R172, 06_cell_model.md). -/
def SOP_DIS_60S (n : Nat) : Nat := 0x40350000 + n
/-- 0x4036:0000–1FFF SOP_CHG_2S_BOUND, F32, RO (R172, 06_cell_model.md). -/
def SOP_CHG_2S_BOUND (n : Nat) : Nat := 0x40360000 + n
/-- 0x4037:0000–1FFF SOP_CHG_10S_BOUND, F32, RO (R172, 06_cell_model.md). -/
def SOP_CHG_10S_BOUND (n : Nat) : Nat := 0x40370000 + n
/-- 0x4038:0000–1FFF SOP_CHG_60S_BOUND, F32, RO (R172, 06_cell_model.md). -/
def SOP_CHG_60S_BOUND (n : Nat) : Nat := 0x40380000 + n
/-- 0x4039:0000–1FFF SOP_DIS_2S_BOUND, F32, RO (R172, 06_cell_model.md). -/
def SOP_DIS_2S_BOUND (n : Nat) : Nat := 0x40390000 + n
/-- 0x403A:0000–1FFF SOP_DIS_10S_BOUND, F32, RO (R172, 06_cell_model.md). -/
def SOP_DIS_10S_BOUND (n : Nat) : Nat := 0x403A0000 + n
/-- 0x403B:0000–1FFF SOP_DIS_60S_BOUND, F32, RO (R172, 06_cell_model.md). -/
def SOP_DIS_60S_BOUND (n : Nat) : Nat := 0x403B0000 + n
/-- 0x403C:0000–1FFF SOP_AGE, U8, RO (R172, 06_cell_model.md). -/
def SOP_AGE (n : Nat) : Nat := 0x403C0000 + n
/-- 0x2410:01 ABACUS_CLOCK, U16, RO (R199, 07_abacus.md). -/
def ABACUS_CLOCK : Nat := 0x24100001
/-- 0x2410:02 THROTTLED, BOOL, RO (R199, 07_abacus.md). -/
def THROTTLED : Nat := 0x24100002
/-- 0x2410:03 ROD_BUDGET, U32, RO (R199, 07_abacus.md). -/
def ROD_BUDGET : Nat := 0x24100003
/-- 0x2410:04 FLOOR_LOAD, U32, RO (R199, 07_abacus.md). -/
def FLOOR_LOAD : Nat := 0x24100004
/-- 0x2410:05 ENGINE_LOAD, U8, RO (R199, 07_abacus.md). -/
def ENGINE_LOAD : Nat := 0x24100005
/-- 0x2410:06 DEFERRED_CELLS, U16, RO (R199, 07_abacus.md). -/
def DEFERRED_CELLS : Nat := 0x24100006
/-- 0x2410:07 LAGGED_CELLS, U16, RO (R199, 07_abacus.md). -/
def LAGGED_CELLS : Nat := 0x24100007
/-- 0x2410:08 DEFERRED_TOTAL, U64, RO (R199, 07_abacus.md). -/
def DEFERRED_TOTAL : Nat := 0x24100008
/-- 0x2410:09 RELIN_MEAN, F32, RO (R199, 07_abacus.md). -/
def RELIN_MEAN : Nat := 0x24100009
/-- 0x2410:0A SYNCHRONOUS_STEP, BOOL, RO (R199, 07_abacus.md). -/
def SYNCHRONOUS_STEP : Nat := 0x2410000A
/-- 0x2410:0B STEP_DETECT_CURRENT, F32, RWS (R199, 07_abacus.md). -/
def STEP_DETECT_CURRENT : Nat := 0x2410000B
/-- 0x2410:0C KERNEL_OVERRUNS, U32, RO (R199, 07_abacus.md). -/
def KERNEL_OVERRUNS : Nat := 0x2410000C
/-- 0x2410:0D FORCED_SLICES, U32, RO (R199, 07_abacus.md). -/
def FORCED_SLICES : Nat := 0x2410000D
/-- 0x2410:0E ROD_FENCED, U16, RO (R199, 07_abacus.md). -/
def ROD_FENCED : Nat := 0x2410000E
/-- 0x2410:0F ABACUS_DEGRADED, BOOL, RO (R199, 07_abacus.md). -/
def ABACUS_DEGRADED : Nat := 0x2410000F
/-- 0x2410:10 KERNEL_ID, U32, RO (R199, 07_abacus.md). -/
def KERNEL_ID : Nat := 0x24100010
/-- 0x2410:11 KERNEL_VERSION, U32, RO (R199, 07_abacus.md). -/
def KERNEL_VERSION : Nat := 0x24100011
/-- 0x2410:12 KERNEL_SIGNER, U8, RO (R199, 07_abacus.md). -/
def KERNEL_SIGNER : Nat := 0x24100012
/-- 0x2410:13 ABACUS_KEY, DOMAIN, RWS (R199, 07_abacus.md). -/
def ABACUS_KEY : Nat := 0x24100013
/-- 0x2410:14 KERNEL_COSTS, DOMAIN, RO (R199, 07_abacus.md). -/
def KERNEL_COSTS : Nat := 0x24100014
/-- 0x2410:15 RECORD_FORMAT, U16, RO (R199, 07_abacus.md). -/
def RECORD_FORMAT : Nat := 0x24100015
/-- 0x2418:01 CSM_CORRECTED, U32, RO (R200, 07_abacus.md). -/
def CSM_CORRECTED : Nat := 0x24180001
/-- 0x2418:02 CSM_UNCORRECTABLE, U32, RO (R200, 07_abacus.md). -/
def CSM_UNCORRECTABLE : Nat := 0x24180002
/-- 0x2418:03 CSM_RECORD_CRC_ERRORS, U32, RO (R200, 07_abacus.md). -/
def CSM_RECORD_CRC_ERRORS : Nat := 0x24180003
/-- 0x2418:04 CSM_SCRUB_PASSES, U32, RO (R200, 07_abacus.md). -/
def CSM_SCRUB_PASSES : Nat := 0x24180004
/-- 0x2418:05 CSM_SCRUB_PASS_TIME, U16, RO (R200, 07_abacus.md). -/
def CSM_SCRUB_PASS_TIME : Nat := 0x24180005
/-- 0x2418:06 CSM_LAST_ERROR_WORD, U32, RO (R200, 07_abacus.md). -/
def CSM_LAST_ERROR_WORD : Nat := 0x24180006
/-- 0x2418:07 REINIT_MIRROR, U32, RO (R200, 07_abacus.md). -/
def REINIT_MIRROR : Nat := 0x24180007
/-- 0x2418:08 REINIT_COLD, U32, RO (R200, 07_abacus.md). -/
def REINIT_COLD : Nat := 0x24180008
/-- 0x4040:0000–1FFF CELL_DEAL_FLAGS, U16, RO (R201, 07_abacus.md). -/
def CELL_DEAL_FLAGS (n : Nat) : Nat := 0x40400000 + n
/-- 0x4041:0000–1FFF CELL_RELIN, U8, RO (R201, 07_abacus.md). -/
def CELL_RELIN (n : Nat) : Nat := 0x40410000 + n
/-- 0x4042:0000–1FFF CELL_DEFERRALS, U32, RO (R201, 07_abacus.md). -/
def CELL_DEFERRALS (n : Nat) : Nat := 0x40420000 + n
/-- 0x2420:01 CUSTODY_STATE, U8, RO (R218, 08_state_custody.md). -/
def CUSTODY_STATE : Nat := 0x24200001
/-- 0x2420:02 RESTORE_TIMEOUT, U16, RWS (R218, 08_state_custody.md). -/
def RESTORE_TIMEOUT : Nat := 0x24200002
/-- 0x2420:03 PARTNER_PREFERENCE, U16, RWS (R218, 08_state_custody.md). -/
def PARTNER_PREFERENCE : Nat := 0x24200003
/-- 0x2420:04 CHECKPOINT_PERIOD, U16, RWS (R218, 08_state_custody.md). -/
def CHECKPOINT_PERIOD : Nat := 0x24200004
/-- 0x2420:05 CHECKPOINT_DEMAND, U8, WO (R218, 08_state_custody.md). -/
def CHECKPOINT_DEMAND : Nat := 0x24200005
/-- 0x2420:06 CHECKPOINT, DOMAIN, WO (R218, 08_state_custody.md). -/
def CHECKPOINT : Nat := 0x24200006
/-- 0x2420:07 CONTAINER_ID, U32, RWS (R218, 08_state_custody.md). -/
def CONTAINER_ID : Nat := 0x24200007
/-- 0x2420:08 CHECKPOINT_PEER, U8, RWS (R218, 08_state_custody.md). -/
def CHECKPOINT_PEER : Nat := 0x24200008
/-- 0x2420:09 LAST_GEN_SENT, U64, RO (R218, 08_state_custody.md). -/
def LAST_GEN_SENT : Nat := 0x24200009
/-- 0x2420:0A LAST_GEN_SEALED, U64, RO (R218, 08_state_custody.md). -/
def LAST_GEN_SEALED : Nat := 0x2420000A
/-- 0x2420:0B LAST_GEN_RESTORED, U64, RO (R218, 08_state_custody.md). -/
def LAST_GEN_RESTORED : Nat := 0x2420000B
/-- 0x2420:0C RESTORE_GAP, U64, RO (R218, 08_state_custody.md). -/
def RESTORE_GAP : Nat := 0x2420000C
/-- 0x2420:0D RESTORE_GAP_CURRENT, F32, RWS (R218, 08_state_custody.md). -/
def RESTORE_GAP_CURRENT : Nat := 0x2420000D
/-- 0x2420:0E RESTORE_GAP_UNSET, U32, RWS (R218, 08_state_custody.md). -/
def RESTORE_GAP_UNSET : Nat := 0x2420000E
/-- 0x2420:0F CHECKPOINTS_ABANDONED, U32, RO (R218, 08_state_custody.md). -/
def CHECKPOINTS_ABANDONED : Nat := 0x2420000F
/-- 0x2420:10 RESTORE_REFUSED_CELLS, U16, RO (R218, 08_state_custody.md). -/
def RESTORE_REFUSED_CELLS : Nat := 0x24200010
/-- 0x2420:11 RESTORE_REFUSAL, U8, RO (R218, 08_state_custody.md). -/
def RESTORE_REFUSAL : Nat := 0x24200011
/-- 0x2420:12 EMERGENCY_CHECKPOINTS, U32, RO (R218, 08_state_custody.md). -/
def EMERGENCY_CHECKPOINTS : Nat := 0x24200012
/-- 0x2230:01 TEMP_STATE, U8, RW (R237, 09_temperature.md). -/
def TEMP_STATE : Nat := 0x22300001
/-- 0x2230:02 GEOMETRY_MAP, DOMAIN, RWS (R237, 09_temperature.md). -/
def GEOMETRY_MAP : Nat := 0x22300002
/-- 0x2230:03 NTC_R25, F32, RWS (R237, 09_temperature.md). -/
def NTC_R25 : Nat := 0x22300003
/-- 0x2230:04 NTC_BETA, F32, RWS (R237, 09_temperature.md). -/
def NTC_BETA : Nat := 0x22300004
/-- 0x2230:05 TEMP_CROSS_LIMIT, F32, RWS (R237, 09_temperature.md). -/
def TEMP_CROSS_LIMIT : Nat := 0x22300005
/-- 0x2230:06 TEMP_SUSPECT_TIME, U16, RWS (R237, 09_temperature.md). -/
def TEMP_SUSPECT_TIME : Nat := 0x22300006
/-- 0x2230:07 SENSOR_RESET, U16, WO (R237, 09_temperature.md). -/
def SENSOR_RESET : Nat := 0x22300007
/-- 0x2230:08 GEO_ERROR_INDEX, U16, RO (R237, 09_temperature.md). -/
def GEO_ERROR_INDEX : Nat := 0x22300008
/-- 0x2230:09 SENSORS_SUSPECT, U16, RO (R237, 09_temperature.md). -/
def SENSORS_SUSPECT : Nat := 0x22300009
/-- 0x2230:0A SENSORS_FAILED, U16, RO (R237, 09_temperature.md). -/
def SENSORS_FAILED : Nat := 0x2230000A
/-- 0x2230:0B MODULE_DIE_TEMP, DOMAIN, RO (R237, 09_temperature.md). -/
def MODULE_DIE_TEMP : Nat := 0x2230000B
/-- 0x2240:01 LT_SOURCE, U8, RWS (R238, 09_temperature.md). -/
def LT_SOURCE (n : Nat) : Nat := 0x22400001 + 0x10000 * n
/-- 0x2240:02 LT_DIRECTION, U8, RWS (R238, 09_temperature.md). -/
def LT_DIRECTION (n : Nat) : Nat := 0x22400002 + 0x10000 * n
/-- 0x2240:03 LT_LEVEL, F32, RWS (R238, 09_temperature.md). -/
def LT_LEVEL (n : Nat) : Nat := 0x22400003 + 0x10000 * n
/-- 0x2240:04 LT_HYST, F32, RWS (R238, 09_temperature.md). -/
def LT_HYST (n : Nat) : Nat := 0x22400004 + 0x10000 * n
/-- 0x2240:05 LT_DWELL, U32, RWS (R238, 09_temperature.md). -/
def LT_DWELL (n : Nat) : Nat := 0x22400005 + 0x10000 * n
/-- 0x2240:06 LT_COUNT, U16, RO (R238, 09_temperature.md). -/
def LT_COUNT (n : Nat) : Nat := 0x22400006 + 0x10000 * n
/-- 0x2240:07 LT_CROSSINGS, U32, RO (R238, 09_temperature.md). -/
def LT_CROSSINGS (n : Nat) : Nat := 0x22400007 + 0x10000 * n
/-- 0x2250:01 RT_SOURCE, U8, RWS (R238, 09_temperature.md). -/
def RT_SOURCE (n : Nat) : Nat := 0x22500001 + 0x10000 * n
/-- 0x2250:02 RT_WINDOW, U8, RWS (R238, 09_temperature.md). -/
def RT_WINDOW (n : Nat) : Nat := 0x22500002 + 0x10000 * n
/-- 0x2250:03 RT_LEVEL, F32, RWS (R238, 09_temperature.md). -/
def RT_LEVEL (n : Nat) : Nat := 0x22500003 + 0x10000 * n
/-- 0x2250:04 RT_HYST, F32, RWS (R238, 09_temperature.md). -/
def RT_HYST (n : Nat) : Nat := 0x22500004 + 0x10000 * n
/-- 0x2250:05 RT_DWELL, U32, RWS (R238, 09_temperature.md). -/
def RT_DWELL (n : Nat) : Nat := 0x22500005 + 0x10000 * n
/-- 0x2250:06 RT_COUNT, U16, RO (R238, 09_temperature.md). -/
def RT_COUNT (n : Nat) : Nat := 0x22500006 + 0x10000 * n
/-- 0x2250:07 RT_CROSSINGS, U32, RO (R238, 09_temperature.md). -/
def RT_CROSSINGS (n : Nat) : Nat := 0x22500007 + 0x10000 * n
/-- 0x5000:0000–0FFF SENSOR_TEMP, F32, RO (R239, 09_temperature.md). -/
def SENSOR_TEMP (n : Nat) : Nat := 0x50000000 + n
/-- 0x5001:0000–0FFF SENSOR_RAW, U16, RO (R239, 09_temperature.md). -/
def SENSOR_RAW (n : Nat) : Nat := 0x50010000 + n
/-- 0x5002:0000–0FFF SENSOR_STATUS, U8, RO (R239, 09_temperature.md). -/
def SENSOR_STATUS (n : Nat) : Nat := 0x50020000 + n
/-- 0x5003:0000–0FFF SENSOR_FLAGS, U16, RO (R239, 09_temperature.md). -/
def SENSOR_FLAGS (n : Nat) : Nat := 0x50030000 + n
/-- 0x5004:0000–0FFF SENSOR_AGE, U16, RO (R239, 09_temperature.md). -/
def SENSOR_AGE (n : Nat) : Nat := 0x50040000 + n
/-- 0x5005:0000–0FFF SENSOR_OFFSET, F32, RO (R239, 09_temperature.md). -/
def SENSOR_OFFSET (n : Nat) : Nat := 0x50050000 + n
/-- 0x5006:0000–0FFF TEMP_SUSPECT_TIMER, F32, RO (R239, 09_temperature.md). -/
def TEMP_SUSPECT_TIMER (n : Nat) : Nat := 0x50060000 + n
/-- 0x5007:0000–0FFF SENSOR_RATE_10, F32, RO (R239, 09_temperature.md). -/
def SENSOR_RATE_10 (n : Nat) : Nat := 0x50070000 + n
/-- 0x5008:0000–0FFF SENSOR_RATE_60, F32, RO (R239, 09_temperature.md). -/
def SENSOR_RATE_60 (n : Nat) : Nat := 0x50080000 + n
/-- 0x6040:00–0F LT_STRING_RAISED, U16, RO (R240, 09_temperature.md). -/
def LT_STRING_RAISED (n : Nat) : Nat := 0x60400000 + n
/-- 0x6041:00–0F RT_STRING_RAISED, U8, RO (R240, 09_temperature.md). -/
def RT_STRING_RAISED (n : Nat) : Nat := 0x60410000 + n
/-- 0x4050:0000–1FFF CORE_RATE_10, F32, RO (R240, 09_temperature.md). -/
def CORE_RATE_10 (n : Nat) : Nat := 0x40500000 + n
/-- 0x4051:0000–1FFF CORE_RATE_60, F32, RO (R240, 09_temperature.md). -/
def CORE_RATE_60 (n : Nat) : Nat := 0x40510000 + n
/-- 0x7020:0000–01FF FE_DIE_TEMP, F32, RO (R240, 09_temperature.md). -/
def FE_DIE_TEMP (n : Nat) : Nat := 0x70200000 + n
/-- 0x2500:01 THERMAL_STATE, U8, RW (R259, 10_thermal_loops.md). -/
def THERMAL_STATE : Nat := 0x25000001
/-- 0x2500:02 LOOPS_RUNNING, U16, RO (R259, 10_thermal_loops.md). -/
def LOOPS_RUNNING : Nat := 0x25000002
/-- 0x2500:03 LOOPS_FAULT, U16, RO (R259, 10_thermal_loops.md). -/
def LOOPS_FAULT : Nat := 0x25000003
/-- 0x2510:01 LOOP_STATE, U8, RW (R260, 10_thermal_loops.md). -/
def LOOP_STATE (n : Nat) : Nat := 0x25100001 + 0x10000 * n
/-- 0x2510:02 LOOP_ZONE, U8, RWS (R260, 10_thermal_loops.md). -/
def LOOP_ZONE (n : Nat) : Nat := 0x25100002 + 0x10000 * n
/-- 0x2510:03 SENSE_SOURCE, U8, RWS (R260, 10_thermal_loops.md). -/
def SENSE_SOURCE (n : Nat) : Nat := 0x25100003 + 0x10000 * n
/-- 0x2510:04 SENSE_ARG, U16, RWS (R260, 10_thermal_loops.md). -/
def SENSE_ARG (n : Nat) : Nat := 0x25100004 + 0x10000 * n
/-- 0x2510:05 SENSE_CAN_ID, U32, RWS (R260, 10_thermal_loops.md). -/
def SENSE_CAN_ID (n : Nat) : Nat := 0x25100005 + 0x10000 * n
/-- 0x2510:06 SENSE_CAN_CHANNEL, U8, RWS (R260, 10_thermal_loops.md). -/
def SENSE_CAN_CHANNEL (n : Nat) : Nat := 0x25100006 + 0x10000 * n
/-- 0x2510:07 SENSE_CAN_OFFSET, U8, RWS (R260, 10_thermal_loops.md). -/
def SENSE_CAN_OFFSET (n : Nat) : Nat := 0x25100007 + 0x10000 * n
/-- 0x2510:08 SENSE_TIMEOUT, U32, RWS (R260, 10_thermal_loops.md). -/
def SENSE_TIMEOUT (n : Nat) : Nat := 0x25100008 + 0x10000 * n
/-- 0x2510:09 SP_SOURCE, U8, RWS (R260, 10_thermal_loops.md). -/
def SP_SOURCE (n : Nat) : Nat := 0x25100009 + 0x10000 * n
/-- 0x2510:0A SP_VALUE, F32, RW (R260, 10_thermal_loops.md). -/
def SP_VALUE (n : Nat) : Nat := 0x2510000A + 0x10000 * n
/-- 0x2510:0B SP_IN_LO, F32, RWS (R260, 10_thermal_loops.md). -/
def SP_IN_LO (n : Nat) : Nat := 0x2510000B + 0x10000 * n
/-- 0x2510:0C SP_IN_HI, F32, RWS (R260, 10_thermal_loops.md). -/
def SP_IN_HI (n : Nat) : Nat := 0x2510000C + 0x10000 * n
/-- 0x2510:0D SP_LO, F32, RWS (R260, 10_thermal_loops.md). -/
def SP_LO (n : Nat) : Nat := 0x2510000D + 0x10000 * n
/-- 0x2510:0E SP_HI, F32, RWS (R260, 10_thermal_loops.md). -/
def SP_HI (n : Nat) : Nat := 0x2510000E + 0x10000 * n
/-- 0x2510:0F SP_MIN, F32, RWS (R260, 10_thermal_loops.md). -/
def SP_MIN (n : Nat) : Nat := 0x2510000F + 0x10000 * n
/-- 0x2510:10 SP_MAX, F32, RWS (R260, 10_thermal_loops.md). -/
def SP_MAX (n : Nat) : Nat := 0x25100010 + 0x10000 * n
/-- 0x2510:11 LOOP_ACTION, U8, RWS (R260, 10_thermal_loops.md). -/
def LOOP_ACTION (n : Nat) : Nat := 0x25100011 + 0x10000 * n
/-- 0x2510:12 OUT_A, U8, RWS (R260, 10_thermal_loops.md). -/
def OUT_A (n : Nat) : Nat := 0x25100012 + 0x10000 * n
/-- 0x2510:13 OUT_B, U8, RWS (R260, 10_thermal_loops.md). -/
def OUT_B (n : Nat) : Nat := 0x25100013 + 0x10000 * n
/-- 0x2510:14 PULSE_WIDTH, U16, RWS (R260, 10_thermal_loops.md). -/
def PULSE_WIDTH (n : Nat) : Nat := 0x25100014 + 0x10000 * n
/-- 0x2510:15 OUT_CAN_ID, U32, RWS (R260, 10_thermal_loops.md). -/
def OUT_CAN_ID (n : Nat) : Nat := 0x25100015 + 0x10000 * n
/-- 0x2510:16 OUT_CAN_CHANNEL, U8, RWS (R260, 10_thermal_loops.md). -/
def OUT_CAN_CHANNEL (n : Nat) : Nat := 0x25100016 + 0x10000 * n
/-- 0x2510:17 LAW_REQ, U8, RW (R260, 10_thermal_loops.md). -/
def LAW_REQ (n : Nat) : Nat := 0x25100017 + 0x10000 * n
/-- 0x2510:18 MANUAL, BOOL, RW (R260, 10_thermal_loops.md). -/
def MANUAL (n : Nat) : Nat := 0x25100018 + 0x10000 * n
/-- 0x2510:19 MANUAL_OUT, I32, RW (R260, 10_thermal_loops.md). -/
def MANUAL_OUT (n : Nat) : Nat := 0x25100019 + 0x10000 * n
/-- 0x2510:1A HANDOVER_MAX, U16, RWS (R260, 10_thermal_loops.md). -/
def HANDOVER_MAX (n : Nat) : Nat := 0x2510001A + 0x10000 * n
/-- 0x2510:1B SCHED_SOURCE, U8, RWS (R260, 10_thermal_loops.md). -/
def SCHED_SOURCE (n : Nat) : Nat := 0x2510001B + 0x10000 * n
/-- 0x2510:1C SCHED_ARG, U8, RWS (R260, 10_thermal_loops.md). -/
def SCHED_ARG (n : Nat) : Nat := 0x2510001C + 0x10000 * n
/-- 0x2510:1D SCHED_VALUE, F32, RW (R260, 10_thermal_loops.md). -/
def SCHED_VALUE (n : Nat) : Nat := 0x2510001D + 0x10000 * n
/-- 0x2510:1E REGION_COUNT, U8, RWS (R260, 10_thermal_loops.md). -/
def REGION_COUNT (n : Nat) : Nat := 0x2510001E + 0x10000 * n
/-- 0x2510:1F SCHED_T1, F32, RWS (R260, 10_thermal_loops.md). -/
def SCHED_T1 (n : Nat) : Nat := 0x2510001F + 0x10000 * n
/-- 0x2510:20 SCHED_T2, F32, RWS (R260, 10_thermal_loops.md). -/
def SCHED_T2 (n : Nat) : Nat := 0x25100020 + 0x10000 * n
/-- 0x2510:21 SCHED_T3, F32, RWS (R260, 10_thermal_loops.md). -/
def SCHED_T3 (n : Nat) : Nat := 0x25100021 + 0x10000 * n
/-- 0x2510:22 SCHED_HYST, F32, RWS (R260, 10_thermal_loops.md). -/
def SCHED_HYST (n : Nat) : Nat := 0x25100022 + 0x10000 * n
/-- 0x2510:23 MODEL_TAU, F32, RWS (R260, 10_thermal_loops.md). -/
def MODEL_TAU (n : Nat) : Nat := 0x25100023 + 0x10000 * n
/-- 0x2510:24 MODEL_T_OFF, F32, RWS (R260, 10_thermal_loops.md). -/
def MODEL_T_OFF (n : Nat) : Nat := 0x25100024 + 0x10000 * n
/-- 0x2510:25 MODEL_T_ON, F32, RWS (R260, 10_thermal_loops.md). -/
def MODEL_T_ON (n : Nat) : Nat := 0x25100025 + 0x10000 * n
/-- 0x2510:26 PULSES_FULL, U32, RWS (R260, 10_thermal_loops.md). -/
def PULSES_FULL (n : Nat) : Nat := 0x25100026 + 0x10000 * n
/-- 0x2510:27 PLAUS_LIMIT, F32, RWS (R260, 10_thermal_loops.md). -/
def PLAUS_LIMIT (n : Nat) : Nat := 0x25100027 + 0x10000 * n
/-- 0x2510:28 BAND_HALF, F32, RW (R260, 10_thermal_loops.md). -/
def BAND_HALF (n r : Nat) : Nat := 0x25100028 + 0x10000 * n + 4 * r
/-- 0x2510:29 MIN_ON, U32, RW (R260, 10_thermal_loops.md). -/
def MIN_ON (n r : Nat) : Nat := 0x25100029 + 0x10000 * n + 4 * r
/-- 0x2510:2A MIN_OFF, U32, RW (R260, 10_thermal_loops.md). -/
def MIN_OFF (n r : Nat) : Nat := 0x2510002A + 0x10000 * n + 4 * r
/-- 0x2510:2B GAIN, F32, RW (R260, 10_thermal_loops.md). -/
def GAIN (n r : Nat) : Nat := 0x2510002B + 0x10000 * n + 4 * r
/-- 0x2510:38 PLAUS_TIME, U32, RWS (R260, 10_thermal_loops.md). -/
def PLAUS_TIME (n : Nat) : Nat := 0x25100038 + 0x10000 * n
/-- 0x2510:39 FALLBACK, U8, RWS (R260, 10_thermal_loops.md). -/
def FALLBACK (n : Nat) : Nat := 0x25100039 + 0x10000 * n
/-- 0x2510:40 SENSED, F32, RO (R261, 10_thermal_loops.md). -/
def SENSED (n : Nat) : Nat := 0x25100040 + 0x10000 * n
/-- 0x2510:41 SETPOINT, F32, RO (R261, 10_thermal_loops.md). -/
def SETPOINT (n : Nat) : Nat := 0x25100041 + 0x10000 * n
/-- 0x2510:42 LOOP_ERROR, F32, RO (R261, 10_thermal_loops.md). -/
def LOOP_ERROR (n : Nat) : Nat := 0x25100042 + 0x10000 * n
/-- 0x2510:43 REGION, U8, RO (R261, 10_thermal_loops.md). -/
def REGION (n : Nat) : Nat := 0x25100043 + 0x10000 * n
/-- 0x2510:44 REGION_CHANGES, U32, RO (R261, 10_thermal_loops.md). -/
def REGION_CHANGES (n : Nat) : Nat := 0x25100044 + 0x10000 * n
/-- 0x2510:45 BAND_OUT, BOOL, RO (R261, 10_thermal_loops.md). -/
def BAND_OUT (n : Nat) : Nat := 0x25100045 + 0x10000 * n
/-- 0x2510:46 BAND_SWITCHES, U32, RO (R261, 10_thermal_loops.md). -/
def BAND_SWITCHES (n : Nat) : Nat := 0x25100046 + 0x10000 * n
/-- 0x2510:47 ACCUMULATOR, U32, RO (R261, 10_thermal_loops.md). -/
def ACCUMULATOR (n : Nat) : Nat := 0x25100047 + 0x10000 * n
/-- 0x2510:48 PENDING, I32, RO (R261, 10_thermal_loops.md). -/
def PENDING (n : Nat) : Nat := 0x25100048 + 0x10000 * n
/-- 0x2510:49 PULSE_COUNT, I64, RO (R261, 10_thermal_loops.md). -/
def PULSE_COUNT (n : Nat) : Nat := 0x25100049 + 0x10000 * n
/-- 0x2510:4A CARRY_DROPPED, U32, RO (R261, 10_thermal_loops.md). -/
def CARRY_DROPPED (n : Nat) : Nat := 0x2510004A + 0x10000 * n
/-- 0x2510:4B HANDOVER_FORCED, U32, RO (R261, 10_thermal_loops.md). -/
def HANDOVER_FORCED (n : Nat) : Nat := 0x2510004B + 0x10000 * n
/-- 0x2510:4C MODEL_PREDICTION, F32, RO (R261, 10_thermal_loops.md). -/
def MODEL_PREDICTION (n : Nat) : Nat := 0x2510004C + 0x10000 * n
/-- 0x2510:4D PLAUS_RESIDUAL, F32, RO (R261, 10_thermal_loops.md). -/
def PLAUS_RESIDUAL (n : Nat) : Nat := 0x2510004D + 0x10000 * n
/-- 0x2510:4E POSITION, U32, RO (R261, 10_thermal_loops.md). -/
def POSITION (n : Nat) : Nat := 0x2510004E + 0x10000 * n
/-- 0x2510:4F FAULT_CAUSE, U8, RO (R261, 10_thermal_loops.md). -/
def FAULT_CAUSE (n : Nat) : Nat := 0x2510004F + 0x10000 * n
/-- 0x2510:50 LOOP_FLAGS, U16, RO (R261, 10_thermal_loops.md). -/
def LOOP_FLAGS (n : Nat) : Nat := 0x25100050 + 0x10000 * n
/-- 0x2510:51 FALLBACK_PENDING, I32, RO (R261, 10_thermal_loops.md). -/
def FALLBACK_PENDING (n : Nat) : Nat := 0x25100051 + 0x10000 * n
/-- 0x2600:01 PROT_STATE, U8, RW (R285, 11_protection.md). -/
def PROT_STATE : Nat := 0x26000001
/-- 0x2600:02 PCS_ARRANGEMENT, U8, RWS (R285, 11_protection.md). -/
def PCS_ARRANGEMENT : Nat := 0x26000002
/-- 0x2600:03 STALE_LIMIT, U32, RWS (R285, 11_protection.md). -/
def STALE_LIMIT : Nat := 0x26000003
/-- 0x2600:04 STALE_ACTION, U8, RWS (R285, 11_protection.md). -/
def STALE_ACTION : Nat := 0x26000004
/-- 0x2600:05 HW_OV_ACTION, U8, RWS (R285, 11_protection.md). -/
def HW_OV_ACTION : Nat := 0x26000005
/-- 0x2600:06 HW_UV_ACTION, U8, RWS (R285, 11_protection.md). -/
def HW_UV_ACTION : Nat := 0x26000006
/-- 0x2600:07 HW_OV_MARGIN, U16, RWS (R285, 11_protection.md). -/
def HW_OV_MARGIN : Nat := 0x26000007
/-- 0x2600:08 HW_UV_MARGIN, U16, RWS (R285, 11_protection.md). -/
def HW_UV_MARGIN : Nat := 0x26000008
/-- 0x2600:09 CI_FAULT_TIME, U16, RWS (R285, 11_protection.md). -/
def CI_FAULT_TIME : Nat := 0x26000009
/-- 0x2600:0A CI_FAULT_ACTION, U8, RWS (R285, 11_protection.md). -/
def CI_FAULT_ACTION : Nat := 0x2600000A
/-- 0x2600:0B ISO_MSG_CHANNEL, U8, RWS (R285, 11_protection.md). -/
def ISO_MSG_CHANNEL : Nat := 0x2600000B
/-- 0x2600:0C ISO_MSG_ID, U32, RWS (R285, 11_protection.md). -/
def ISO_MSG_ID : Nat := 0x2600000C
/-- 0x2600:0D ISO_MSG_TIMEOUT, U16, RWS (R285, 11_protection.md). -/
def ISO_MSG_TIMEOUT : Nat := 0x2600000D
/-- 0x2600:0E ISO_WARN, U32, RWS (R285, 11_protection.md). -/
def ISO_WARN : Nat := 0x2600000E
/-- 0x2600:0F ISO_TRIP, U32, RWS (R285, 11_protection.md). -/
def ISO_TRIP : Nat := 0x2600000F
/-- 0x2600:10 ISO_TRIP_ACTION, U8, RWS (R285, 11_protection.md). -/
def ISO_TRIP_ACTION : Nat := 0x26000010
/-- 0x2600:11 ISO_LOST_ACTION, U8, RWS (R285, 11_protection.md). -/
def ISO_LOST_ACTION : Nat := 0x26000011
/-- 0x2600:12 BUS_MSG_CHANNEL, U8, RWS (R285, 11_protection.md). -/
def BUS_MSG_CHANNEL : Nat := 0x26000012
/-- 0x2600:13 BUS_MSG_ID, U32, RWS (R285, 11_protection.md). -/
def BUS_MSG_ID : Nat := 0x26000013
/-- 0x2600:14 BUS_MSG_TIMEOUT, U16, RWS (R285, 11_protection.md). -/
def BUS_MSG_TIMEOUT : Nat := 0x26000014
/-- 0x2600:15 BREAK_CURRENT, F32, RWS (R285, 11_protection.md). -/
def BREAK_CURRENT : Nat := 0x26000015
/-- 0x2600:16 BREAK_WAIT, U16, RWS (R285, 11_protection.md). -/
def BREAK_WAIT : Nat := 0x26000016
/-- 0x2600:17 NEG_OPEN_DELAY, U16, RWS (R285, 11_protection.md). -/
def NEG_OPEN_DELAY : Nat := 0x26000017
/-- 0x2600:18 CONTACT_TIME, U16, RWS (R285, 11_protection.md). -/
def CONTACT_TIME : Nat := 0x26000018
/-- 0x2600:19 PRECHARGE_DV, F32, RWS (R285, 11_protection.md). -/
def PRECHARGE_DV : Nat := 0x26000019
/-- 0x2600:1A PRECHARGE_TIMEOUT, U16, RWS (R285, 11_protection.md). -/
def PRECHARGE_TIMEOUT : Nat := 0x2600001A
/-- 0x2600:1B PRECHARGE_OVERLAP, U16, RWS (R285, 11_protection.md). -/
def PRECHARGE_OVERLAP : Nat := 0x2600001B
/-- 0x2600:1C PRECHARGE_COOLDOWN, U16, RWS (R285, 11_protection.md). -/
def PRECHARGE_COOLDOWN : Nat := 0x2600001C
/-- 0x2600:1D PRECHARGE_ATTEMPTS, U8, RWS (R285, 11_protection.md). -/
def PRECHARGE_ATTEMPTS : Nat := 0x2600001D
/-- 0x2600:1E WELD_CURRENT, F32, RWS (R285, 11_protection.md). -/
def WELD_CURRENT : Nat := 0x2600001E
/-- 0x2600:1F WELD_DV, F32, RWS (R285, 11_protection.md). -/
def WELD_DV : Nat := 0x2600001F
/-- 0x2600:20 WELD_CHECK_TIME, U16, RWS (R285, 11_protection.md). -/
def WELD_CHECK_TIME : Nat := 0x26000020
/-- 0x2600:21 PROT_RESET, U8, WO (R285, 11_protection.md). -/
def PROT_RESET : Nat := 0x26000021
/-- 0x2600:22 WELD_CLEAR, U8, WO (R285, 11_protection.md). -/
def WELD_CLEAR : Nat := 0x26000022
/-- 0x2600:23 CONTAINER_TRIPPED, BOOL, RO (R285, 11_protection.md). -/
def CONTAINER_TRIPPED : Nat := 0x26000023
/-- 0x2600:24 ISO_RESISTANCE, U32, RO (R285, 11_protection.md). -/
def ISO_RESISTANCE : Nat := 0x26000024
/-- 0x2610:01 PR_SOURCE, U8, RWS (R286, 11_protection.md). -/
def PR_SOURCE (n : Nat) : Nat := 0x26100001 + 0x10000 * n
/-- 0x2610:02 PR_ARG, U8, RWS (R286, 11_protection.md). -/
def PR_ARG (n : Nat) : Nat := 0x26100002 + 0x10000 * n
/-- 0x2610:03 PR_DIRECTION, U8, RWS (R286, 11_protection.md). -/
def PR_DIRECTION (n : Nat) : Nat := 0x26100003 + 0x10000 * n
/-- 0x2610:04 PR_REF, U8, RWS (R286, 11_protection.md). -/
def PR_REF (n : Nat) : Nat := 0x26100004 + 0x10000 * n
/-- 0x2610:05 PR_OFFSET, F32, RWS (R286, 11_protection.md). -/
def PR_OFFSET (n : Nat) : Nat := 0x26100005 + 0x10000 * n
/-- 0x2610:06 PR_HYST, F32, RWS (R286, 11_protection.md). -/
def PR_HYST (n : Nat) : Nat := 0x26100006 + 0x10000 * n
/-- 0x2610:07 PR_DWELL, U32, RWS (R286, 11_protection.md). -/
def PR_DWELL (n : Nat) : Nat := 0x26100007 + 0x10000 * n
/-- 0x2610:08 PR_ACTION, U8, RWS (R286, 11_protection.md). -/
def PR_ACTION (n : Nat) : Nat := 0x26100008 + 0x10000 * n
/-- 0x2610:09 PR_LIMIT_DIR, U8, RWS (R286, 11_protection.md). -/
def PR_LIMIT_DIR (n : Nat) : Nat := 0x26100009 + 0x10000 * n
/-- 0x2610:0A PR_LIMIT_PCT, U8, RWS (R286, 11_protection.md). -/
def PR_LIMIT_PCT (n : Nat) : Nat := 0x2610000A + 0x10000 * n
/-- 0x2610:0B PR_OPEN_MODE, U8, RWS (R286, 11_protection.md). -/
def PR_OPEN_MODE (n : Nat) : Nat := 0x2610000B + 0x10000 * n
/-- 0x2610:0C PR_COUNT, U16, RO (R286, 11_protection.md). -/
def PR_COUNT (n : Nat) : Nat := 0x2610000C + 0x10000 * n
/-- 0x6050:00–0F STRING_COMMAND, U8, WO (R287, 11_protection.md). -/
def STRING_COMMAND (n : Nat) : Nat := 0x60500000 + n
/-- 0x6051:00–0F STRING_SEQ_STATE, U8, RO (R287, 11_protection.md). -/
def STRING_SEQ_STATE (n : Nat) : Nat := 0x60510000 + n
/-- 0x6052:00–0F PROT_ACTION, U8, RO (R287, 11_protection.md). -/
def PROT_ACTION (n : Nat) : Nat := 0x60520000 + n
/-- 0x6053:00–0F PROT_LATCH, U8, RO (R287, 11_protection.md). -/
def PROT_LATCH (n : Nat) : Nat := 0x60530000 + n
/-- 0x6054:00–0F PROT_CAUSE, U32, RO (R287, 11_protection.md). -/
def PROT_CAUSE (n : Nat) : Nat := 0x60540000 + n
/-- 0x6055:00–0F PROT_LIMIT_CHG, U8, RO (R287, 11_protection.md). -/
def PROT_LIMIT_CHG (n : Nat) : Nat := 0x60550000 + n
/-- 0x6056:00–0F PROT_LIMIT_DIS, U8, RO (R287, 11_protection.md). -/
def PROT_LIMIT_DIS (n : Nat) : Nat := 0x60560000 + n
/-- 0x6057:00–0F OC_CHG_LEVEL, F32, RWS (R287, 11_protection.md). -/
def OC_CHG_LEVEL (n : Nat) : Nat := 0x60570000 + n
/-- 0x6058:00–0F OC_DIS_LEVEL, F32, RWS (R287, 11_protection.md). -/
def OC_DIS_LEVEL (n : Nat) : Nat := 0x60580000 + n
/-- 0x6059:00–0F STRING_VOLTAGE, F32, RO (R287, 11_protection.md). -/
def STRING_VOLTAGE (n : Nat) : Nat := 0x60590000 + n
/-- 0x605A:00–0F BUS_VOLTAGE, F32, RO (R287, 11_protection.md). -/
def BUS_VOLTAGE (n : Nat) : Nat := 0x605A0000 + n
/-- 0x605B:00–0F CLOSE_REFUSAL, U8, RO (R287, 11_protection.md). -/
def CLOSE_REFUSAL (n : Nat) : Nat := 0x605B0000 + n
/-- 0x605C:00–0F CONTACTOR_STATUS, U16, RO (R287, 11_protection.md). -/
def CONTACTOR_STATUS (n : Nat) : Nat := 0x605C0000 + n
/-- 0x605D:00–0F BREAKS_UNDER_LOAD, U32, RO (R287, 11_protection.md). -/
def BREAKS_UNDER_LOAD (n : Nat) : Nat := 0x605D0000 + n
/-- 0x605E:00–0F LAST_BREAK_CURRENT, F32, RO (R287, 11_protection.md). -/
def LAST_BREAK_CURRENT (n : Nat) : Nat := 0x605E0000 + n
/-- 0x605F:00–0F OPERATIONS, U32, RO (R287, 11_protection.md). -/
def OPERATIONS (n : Nat) : Nat := 0x605F0000 + n
/-- 0x6060:00–2F AUX_INPUT, U8, RWS (R287, 11_protection.md). -/
def AUX_INPUT (n : Nat) : Nat := 0x60600000 + n
/-- 0x6061:00–2F AUX_NC, BOOL, RWS (R287, 11_protection.md). -/
def AUX_NC (n : Nat) : Nat := 0x60610000 + n
/-- 0x3000:01 SAFETY_STATE, U8, SAFE (R317, 12_safety.md). -/
def SAFETY_STATE : Nat := 0x30000001
/-- 0x3000:02 SAFETY_LOGIN, STRING, WO (R317, 12_safety.md). -/
def SAFETY_LOGIN : Nat := 0x30000002
/-- 0x3000:03 SAFETY_SESSION, BOOL, RO (R317, 12_safety.md). -/
def SAFETY_SESSION : Nat := 0x30000003
/-- 0x3000:04 SAFETY_PASSWORD_NEW, STRING, SAFE (R317, 12_safety.md). -/
def SAFETY_PASSWORD_NEW : Nat := 0x30000004
/-- 0x3000:05 LOGIN_FAILURES, U8, RO (R317, 12_safety.md). -/
def LOGIN_FAILURES : Nat := 0x30000005
/-- 0x3000:06 LOCKOUT_REMAINING, U16, RO (R317, 12_safety.md). -/
def LOCKOUT_REMAINING : Nat := 0x30000006
/-- 0x3000:07 SAFETY_SIGNATURE, U32, RO (R317, 12_safety.md). -/
def SAFETY_SIGNATURE : Nat := 0x30000007
/-- 0x3000:08 SIGNATURE_CONFIRM, U32, SAFE (R317, 12_safety.md). -/
def SIGNATURE_CONFIRM : Nat := 0x30000008
/-- 0x3000:09 SIGNATURE_RUNNING, U32, RO (R317, 12_safety.md). -/
def SIGNATURE_RUNNING : Nat := 0x30000009
/-- 0x3000:0A SAFETY_FAULT_CAUSE, U8, RO (R317, 12_safety.md). -/
def SAFETY_FAULT_CAUSE : Nat := 0x3000000A
/-- 0x3000:0B SAFETY_RESTART, U8, SAFE (R317, 12_safety.md). -/
def SAFETY_RESTART : Nat := 0x3000000B
/-- 0x3000:0C SAFE_RESET, U8, WO (R317, 12_safety.md). -/
def SAFE_RESET : Nat := 0x3000000C
/-- 0x3000:0D SAFE_RESET_REMOTE, BOOL, SAFE (R317, 12_safety.md). -/
def SAFE_RESET_REMOTE : Nat := 0x3000000D
/-- 0x3000:0E TWO_HAND_STRING, U8, SAFE (R317, 12_safety.md). -/
def TWO_HAND_STRING : Nat := 0x3000000E
/-- 0x3000:0F SAFE_AUX_TIME, U16, SAFE (R317, 12_safety.md). -/
def SAFE_AUX_TIME : Nat := 0x3000000F
/-- 0x3000:10 PROOF_INTERVAL, U16, SAFE (R317, 12_safety.md). -/
def PROOF_INTERVAL : Nat := 0x30000010
/-- 0x3000:11 PROOF_GRACE, U16, SAFE (R317, 12_safety.md). -/
def PROOF_GRACE : Nat := 0x30000011
/-- 0x3000:12 PROOF_START, U8, WO (R317, 12_safety.md). -/
def PROOF_START : Nat := 0x30000012
/-- 0x3000:13 CHANGE_LOG, DOMAIN, RO (R317, 12_safety.md). -/
def CHANGE_LOG : Nat := 0x30000013
/-- 0x3000:14 LOG_OVERWRITTEN, U32, RO (R317, 12_safety.md). -/
def LOG_OVERWRITTEN : Nat := 0x30000014
/-- 0x3010:01 PAIR_USE, U8, SAFE (R318, 12_safety.md). -/
def PAIR_USE (n : Nat) : Nat := 0x30100001 + 0x10000 * n
/-- 0x3010:02 DISCREPANCY_TIME, U16, SAFE (R318, 12_safety.md). -/
def DISCREPANCY_TIME (n : Nat) : Nat := 0x30100002 + 0x10000 * n
/-- 0x3010:03 SI_FILTER, U8, SAFE (R318, 12_safety.md). -/
def SI_FILTER (n : Nat) : Nat := 0x30100003 + 0x10000 * n
/-- 0x3010:04 TP_SOURCE_EVEN, U8, SAFE (R318, 12_safety.md). -/
def TP_SOURCE_EVEN (n : Nat) : Nat := 0x30100004 + 0x10000 * n
/-- 0x3010:05 TP_SOURCE_ODD, U8, SAFE (R318, 12_safety.md). -/
def TP_SOURCE_ODD (n : Nat) : Nat := 0x30100005 + 0x10000 * n
/-- 0x3010:06 OSSD_DIP_MAX, U16, SAFE (R318, 12_safety.md). -/
def OSSD_DIP_MAX (n : Nat) : Nat := 0x30100006 + 0x10000 * n
/-- 0x3010:07 STRING_MASK, U16, SAFE (R318, 12_safety.md). -/
def STRING_MASK (n : Nat) : Nat := 0x30100007 + 0x10000 * n
/-- 0x3010:08 STOP_CATEGORY, U8, SAFE (R318, 12_safety.md). -/
def STOP_CATEGORY (n : Nat) : Nat := 0x30100008 + 0x10000 * n
/-- 0x3010:09 STOP1_DELAY, U16, SAFE (R318, 12_safety.md). -/
def STOP1_DELAY (n : Nat) : Nat := 0x30100009 + 0x10000 * n
/-- 0x3010:0A RESET_MODE, U8, SAFE (R318, 12_safety.md). -/
def RESET_MODE (n : Nat) : Nat := 0x3010000A + 0x10000 * n
/-- 0x3010:0B PAIR_STATE, U8, RO (R318, 12_safety.md). -/
def PAIR_STATE (n : Nat) : Nat := 0x3010000B + 0x10000 * n
/-- 0x3010:0C PAIR_FAULT, U8, RO (R318, 12_safety.md). -/
def PAIR_FAULT (n : Nat) : Nat := 0x3010000C + 0x10000 * n
/-- 0x3010:0D LAST_DISCREPANCY, U16, RO (R318, 12_safety.md). -/
def LAST_DISCREPANCY (n : Nat) : Nat := 0x3010000D + 0x10000 * n
/-- 0x3010:0E TP_ERRORS, U32, RO (R318, 12_safety.md). -/
def TP_ERRORS (n : Nat) : Nat := 0x3010000E + 0x10000 * n
/-- 0x3010:0F PAIR_DEMANDING, BOOL, RO (R318, 12_safety.md). -/
def PAIR_DEMANDING (n : Nat) : Nat := 0x3010000F + 0x10000 * n
/-- 0x3030:01 QSF_ROLE, U8, SAFE (R319, 12_safety.md). -/
def QSF_ROLE (n : Nat) : Nat := 0x30300001 + 0x10000 * n
/-- 0x3030:02 QSF_TRANSPORT, U8, SAFE (R319, 12_safety.md). -/
def QSF_TRANSPORT (n : Nat) : Nat := 0x30300002 + 0x10000 * n
/-- 0x3030:03 QSF_CONN_ID, U32, SAFE (R319, 12_safety.md). -/
def QSF_CONN_ID (n : Nat) : Nat := 0x30300003 + 0x10000 * n
/-- 0x3030:04 QSF_SAFETY_ID, U32, SAFE (R319, 12_safety.md). -/
def QSF_SAFETY_ID (n : Nat) : Nat := 0x30300004 + 0x10000 * n
/-- 0x3030:05 QSF_CAN_ID, U32, SAFE (R319, 12_safety.md). -/
def QSF_CAN_ID (n : Nat) : Nat := 0x30300005 + 0x10000 * n
/-- 0x3030:06 QSF_PEER_ADDR, U32, SAFE (R319, 12_safety.md). -/
def QSF_PEER_ADDR (n : Nat) : Nat := 0x30300006 + 0x10000 * n
/-- 0x3030:07 QSF_WATCHDOG, U16, SAFE (R319, 12_safety.md). -/
def QSF_WATCHDOG (n : Nat) : Nat := 0x30300007 + 0x10000 * n
/-- 0x3030:08 QSF_CYCLE, U16, SAFE (R319, 12_safety.md). -/
def QSF_CYCLE (n : Nat) : Nat := 0x30300008 + 0x10000 * n
/-- 0x3030:09 QSF_BIT, U8, SAFE (R319, 12_safety.md). -/
def QSF_BIT (n : Nat) : Nat := 0x30300009 + 0x10000 * n
/-- 0x3030:0A QSF_STRING_MASK, U16, SAFE (R319, 12_safety.md). -/
def QSF_STRING_MASK (n : Nat) : Nat := 0x3030000A + 0x10000 * n
/-- 0x3030:0B QSF_STOP_CATEGORY, U8, SAFE (R319, 12_safety.md). -/
def QSF_STOP_CATEGORY (n : Nat) : Nat := 0x3030000B + 0x10000 * n
/-- 0x3030:0C QSF_RESET_MODE, U8, SAFE (R319, 12_safety.md). -/
def QSF_RESET_MODE (n : Nat) : Nat := 0x3030000C + 0x10000 * n
/-- 0x3030:0D QSF_STATE, U8, RO (R319, 12_safety.md). -/
def QSF_STATE (n : Nat) : Nat := 0x3030000D + 0x10000 * n
/-- 0x3030:0E QSF_RX_BITS, U32, RO (R319, 12_safety.md). -/
def QSF_RX_BITS (n : Nat) : Nat := 0x3030000E + 0x10000 * n
/-- 0x3030:0F QSF_REJECTED, U32, RO (R319, 12_safety.md). -/
def QSF_REJECTED (n : Nat) : Nat := 0x3030000F + 0x10000 * n
/-- 0x6070:00–0F SAFE_STRING_FLAGS, U16, RO (R320, 12_safety.md). -/
def SAFE_STRING_FLAGS (n : Nat) : Nat := 0x60700000 + n
/-- 0x6071:00–0F PROOF_STATE, U8, RO (R320, 12_safety.md). -/
def PROOF_STATE (n : Nat) : Nat := 0x60710000 + n
/-- 0x6072:00–0F PROOF_LAST, TIME64, RO (R320, 12_safety.md). -/
def PROOF_LAST (n : Nat) : Nat := 0x60720000 + n
/-- 0x2700:01 DISPATCH_STATE, U8, RW (R337, 13_dispatch.md). -/
def DISPATCH_STATE : Nat := 0x27000001
/-- 0x2700:02 CMD_SOURCE, U8, RWS (R337, 13_dispatch.md). -/
def CMD_SOURCE : Nat := 0x27000002
/-- 0x2700:03 CMD_ARG, U8, RWS (R337, 13_dispatch.md). -/
def CMD_ARG : Nat := 0x27000003
/-- 0x2700:04 CMD_TIMEOUT, U16, RWS (R337, 13_dispatch.md). -/
def CMD_TIMEOUT : Nat := 0x27000004
/-- 0x2700:05 CMD_FALLBACK, U8, RWS (R337, 13_dispatch.md). -/
def CMD_FALLBACK : Nat := 0x27000005
/-- 0x2700:06 DISPATCH_COMMAND, F32, RW (R337, 13_dispatch.md). -/
def DISPATCH_COMMAND : Nat := 0x27000006
/-- 0x2700:07 CMD_CAN_ID, U32, RWS (R337, 13_dispatch.md). -/
def CMD_CAN_ID : Nat := 0x27000007
/-- 0x2700:08 CMD_CAN_CHANNEL, U8, RWS (R337, 13_dispatch.md). -/
def CMD_CAN_CHANNEL : Nat := 0x27000008
/-- 0x2700:09 CMD_IN_LO, F32, RWS (R337, 13_dispatch.md). -/
def CMD_IN_LO : Nat := 0x27000009
/-- 0x2700:0A CMD_IN_HI, F32, RWS (R337, 13_dispatch.md). -/
def CMD_IN_HI : Nat := 0x2700000A
/-- 0x2700:0B CMD_P_LO, F32, RWS (R337, 13_dispatch.md). -/
def CMD_P_LO : Nat := 0x2700000B
/-- 0x2700:0C CMD_P_HI, F32, RWS (R337, 13_dispatch.md). -/
def CMD_P_HI : Nat := 0x2700000C
/-- 0x2700:0D LIMIT_HORIZON, U8, RWS (R337, 13_dispatch.md). -/
def LIMIT_HORIZON : Nat := 0x2700000D
/-- 0x2700:0E EQUALISE_EXPONENT, F32, RWS (R337, 13_dispatch.md). -/
def EQUALISE_EXPONENT : Nat := 0x2700000E
/-- 0x2700:0F SETPOINT_CHANNEL, U8, RWS (R337, 13_dispatch.md). -/
def SETPOINT_CHANNEL : Nat := 0x2700000F
/-- 0x2700:10 SETPOINT_MSG_ID, U32, RWS (R337, 13_dispatch.md). -/
def SETPOINT_MSG_ID : Nat := 0x27000010
/-- 0x2700:11 SETPOINT_PERIOD, U16, RWS (R337, 13_dispatch.md). -/
def SETPOINT_PERIOD : Nat := 0x27000011
/-- 0x2700:12 SHARE_MIN_CURRENT, F32, RWS (R337, 13_dispatch.md). -/
def SHARE_MIN_CURRENT : Nat := 0x27000012
/-- 0x2700:13 CAL_POLICY, U8, RWS (R337, 13_dispatch.md). -/
def CAL_POLICY : Nat := 0x27000013
/-- 0x2700:14 CAL_POWER, F32, RWS (R337, 13_dispatch.md). -/
def CAL_POWER : Nat := 0x27000014
/-- 0x2700:15 CAL_TAPER_STEP, U8, RWS (R337, 13_dispatch.md). -/
def CAL_TAPER_STEP : Nat := 0x27000015
/-- 0x2700:16 CAL_MAX_TIME, U32, RWS (R337, 13_dispatch.md). -/
def CAL_MAX_TIME : Nat := 0x27000016
/-- 0x2700:17 PILOT_INTERVAL, U32, RWS (R337, 13_dispatch.md). -/
def PILOT_INTERVAL : Nat := 0x27000017
/-- 0x2700:18 PROOF_RECLOSE, BOOL, RWS (R337, 13_dispatch.md). -/
def PROOF_RECLOSE : Nat := 0x27000018
/-- 0x2700:19 COMMAND_IN_FORCE, F32, RO (R337, 13_dispatch.md). -/
def COMMAND_IN_FORCE : Nat := 0x27000019
/-- 0x2700:1A CMD_LOST, BOOL, RO (R337, 13_dispatch.md). -/
def CMD_LOST : Nat := 0x2700001A
/-- 0x2700:1B CONTAINER_LIMIT_CHG, F32, RO (R337, 13_dispatch.md). -/
def CONTAINER_LIMIT_CHG : Nat := 0x2700001B
/-- 0x2700:1C CONTAINER_LIMIT_DIS, F32, RO (R337, 13_dispatch.md). -/
def CONTAINER_LIMIT_DIS : Nat := 0x2700001C
/-- 0x2700:1D DEAL_SHORTFALL, F32, RO (R337, 13_dispatch.md). -/
def DEAL_SHORTFALL : Nat := 0x2700001D
/-- 0x2700:1E CAL_STRING, U8, RO (R337, 13_dispatch.md). -/
def CAL_STRING : Nat := 0x2700001E
/-- 0x2700:1F CAL_PHASE, U8, RO (R337, 13_dispatch.md). -/
def CAL_PHASE : Nat := 0x2700001F
/-- 0x2700:20 PILOT_GRANTS, U32, RO (R337, 13_dispatch.md). -/
def PILOT_GRANTS : Nat := 0x27000020
/-- 0x2710:01 TABLE_STATE, U8, RW (R338, 13_dispatch.md). -/
def TABLE_STATE : Nat := 0x27100001
/-- 0x2710:02 TABLE_ENABLE, BOOL, RWS (R338, 13_dispatch.md). -/
def TABLE_ENABLE : Nat := 0x27100002
/-- 0x2710:03 TABLE_ID, U16, RWS (R338, 13_dispatch.md). -/
def TABLE_ID : Nat := 0x27100003
/-- 0x2710:04 SEAT_NUMBER, U8, RWS (R338, 13_dispatch.md). -/
def SEAT_NUMBER : Nat := 0x27100004
/-- 0x2710:05 SEAT_PRIORITY, U8, RWS (R338, 13_dispatch.md). -/
def SEAT_PRIORITY : Nat := 0x27100005
/-- 0x2710:06 DEALER_ELIGIBLE, BOOL, RWS (R338, 13_dispatch.md). -/
def DEALER_ELIGIBLE : Nat := 0x27100006
/-- 0x2710:07 TABLE_SEATS_EXPECTED, U8, RWS (R338, 13_dispatch.md). -/
def TABLE_SEATS_EXPECTED : Nat := 0x27100007
/-- 0x2710:08 TABLE_GROUP, U32, RWS (R338, 13_dispatch.md). -/
def TABLE_GROUP : Nat := 0x27100008
/-- 0x2710:09 TABLE_KEY, DOMAIN, RWS (R338, 13_dispatch.md). -/
def TABLE_KEY : Nat := 0x27100009
/-- 0x2710:0A DEAL_HOLD_MAX, U16, RWS (R338, 13_dispatch.md). -/
def DEAL_HOLD_MAX : Nat := 0x2710000A
/-- 0x2710:0B TABLE_ROLE, U8, RO (R338, 13_dispatch.md). -/
def TABLE_ROLE : Nat := 0x2710000B
/-- 0x2710:0C DEALER_SEAT, U8, RO (R338, 13_dispatch.md). -/
def DEALER_SEAT : Nat := 0x2710000C
/-- 0x2710:0D SEATS_HEARD, U8, RO (R338, 13_dispatch.md). -/
def SEATS_HEARD : Nat := 0x2710000D
/-- 0x2710:0E SEAT_SHARE, F32, RO (R338, 13_dispatch.md). -/
def SEAT_SHARE : Nat := 0x2710000E
/-- 0x2710:0F SEAT_DROPPED, BOOL, RO (R338, 13_dispatch.md). -/
def SEAT_DROPPED : Nat := 0x2710000F
/-- 0x2710:10 TABLE_LOST, BOOL, RO (R338, 13_dispatch.md). -/
def TABLE_LOST : Nat := 0x27100010
/-- 0x2710:11 TABLE_AUTH_FAILS, U32, RO (R338, 13_dispatch.md). -/
def TABLE_AUTH_FAILS : Nat := 0x27100011
/-- 0x2710:12 DEALER_CHANGES, U32, RO (R338, 13_dispatch.md). -/
def DEALER_CHANGES : Nat := 0x27100012
/-- 0x6080:00–0F STRING_LIMIT_CHG, F32, RO (R339, 13_dispatch.md). -/
def STRING_LIMIT_CHG (n : Nat) : Nat := 0x60800000 + n
/-- 0x6081:00–0F STRING_LIMIT_DIS, F32, RO (R339, 13_dispatch.md). -/
def STRING_LIMIT_DIS (n : Nat) : Nat := 0x60810000 + n
/-- 0x6082:00–0F STRING_SETPOINT, F32, RO (R339, 13_dispatch.md). -/
def STRING_SETPOINT (n : Nat) : Nat := 0x60820000 + n
/-- 0x6083:00–0F STRING_SHARE, F32, RO (R339, 13_dispatch.md). -/
def STRING_SHARE (n : Nat) : Nat := 0x60830000 + n
/-- 0x6084:00–0F CAL_ALLOWED, BOOL, RWS (R339, 13_dispatch.md). -/
def CAL_ALLOWED (n : Nat) : Nat := 0x60840000 + n
/-- 0x2810:01 CAN_STATE, U8, RW (R358, 14_can.md). -/
def CAN_STATE (n : Nat) : Nat := 0x28100001 + 0x10000 * n
/-- 0x2810:02 CAN_MODE, U8, RWS (R358, 14_can.md). -/
def CAN_MODE (n : Nat) : Nat := 0x28100002 + 0x10000 * n
/-- 0x2810:03 FD_ENABLE, BOOL, RWS (R358, 14_can.md). -/
def FD_ENABLE (n : Nat) : Nat := 0x28100003 + 0x10000 * n
/-- 0x2810:04 NOM_BRP, U16, RWS (R358, 14_can.md). -/
def NOM_BRP (n : Nat) : Nat := 0x28100004 + 0x10000 * n
/-- 0x2810:05 NOM_TSEG1, U16, RWS (R358, 14_can.md). -/
def NOM_TSEG1 (n : Nat) : Nat := 0x28100005 + 0x10000 * n
/-- 0x2810:06 NOM_TSEG2, U8, RWS (R358, 14_can.md). -/
def NOM_TSEG2 (n : Nat) : Nat := 0x28100006 + 0x10000 * n
/-- 0x2810:07 NOM_SJW, U8, RWS (R358, 14_can.md). -/
def NOM_SJW (n : Nat) : Nat := 0x28100007 + 0x10000 * n
/-- 0x2810:08 DATA_BRP, U8, RWS (R358, 14_can.md). -/
def DATA_BRP (n : Nat) : Nat := 0x28100008 + 0x10000 * n
/-- 0x2810:09 DATA_TSEG1, U8, RWS (R358, 14_can.md). -/
def DATA_TSEG1 (n : Nat) : Nat := 0x28100009 + 0x10000 * n
/-- 0x2810:0A DATA_TSEG2, U8, RWS (R358, 14_can.md). -/
def DATA_TSEG2 (n : Nat) : Nat := 0x2810000A + 0x10000 * n
/-- 0x2810:0B DATA_SJW, U8, RWS (R358, 14_can.md). -/
def DATA_SJW (n : Nat) : Nat := 0x2810000B + 0x10000 * n
/-- 0x2810:0C TDC_ENABLE, BOOL, RWS (R358, 14_can.md). -/
def TDC_ENABLE (n : Nat) : Nat := 0x2810000C + 0x10000 * n
/-- 0x2810:0D TDC_OFFSET, U8, RWS (R358, 14_can.md). -/
def TDC_OFFSET (n : Nat) : Nat := 0x2810000D + 0x10000 * n
/-- 0x2810:0E BUSOFF_RECOVERY, U8, RWS (R358, 14_can.md). -/
def BUSOFF_RECOVERY (n : Nat) : Nat := 0x2810000E + 0x10000 * n
/-- 0x2810:0F BUSOFF_DELAY, U16, RWS (R358, 14_can.md). -/
def BUSOFF_DELAY (n : Nat) : Nat := 0x2810000F + 0x10000 * n
/-- 0x2810:10 RATE_CANDIDATES, DOMAIN, RWS (R358, 14_can.md). -/
def RATE_CANDIDATES (n : Nat) : Nat := 0x28100010 + 0x10000 * n
/-- 0x2810:11 DETECT_DWELL, U16, RWS (R358, 14_can.md). -/
def DETECT_DWELL (n : Nat) : Nat := 0x28100011 + 0x10000 * n
/-- 0x2810:12 DETECT_TIMEOUT, U16, RWS (R358, 14_can.md). -/
def DETECT_TIMEOUT (n : Nat) : Nat := 0x28100012 + 0x10000 * n
/-- 0x2810:13 DETECT_THEN, U8, RWS (R358, 14_can.md). -/
def DETECT_THEN (n : Nat) : Nat := 0x28100013 + 0x10000 * n
/-- 0x2810:14 FILTER_STD, DOMAIN, RWS (R358, 14_can.md). -/
def FILTER_STD (n : Nat) : Nat := 0x28100014 + 0x10000 * n
/-- 0x2810:15 FILTER_EXT, DOMAIN, RWS (R358, 14_can.md). -/
def FILTER_EXT (n : Nat) : Nat := 0x28100015 + 0x10000 * n
/-- 0x2810:16 NONMATCH_STD, U8, RWS (R358, 14_can.md). -/
def NONMATCH_STD (n : Nat) : Nat := 0x28100016 + 0x10000 * n
/-- 0x2810:17 NONMATCH_EXT, U8, RWS (R358, 14_can.md). -/
def NONMATCH_EXT (n : Nat) : Nat := 0x28100017 + 0x10000 * n
/-- 0x2810:18 REJECT_REMOTE, BOOL, RWS (R358, 14_can.md). -/
def REJECT_REMOTE (n : Nat) : Nat := 0x28100018 + 0x10000 * n
/-- 0x2810:19 FIFO_MODE, U8, RWS (R358, 14_can.md). -/
def FIFO_MODE (n : Nat) : Nat := 0x28100019 + 0x10000 * n
/-- 0x2810:1A CAN_STAMP_BASE, U8, RWS (R358, 14_can.md). -/
def CAN_STAMP_BASE (n : Nat) : Nat := 0x2810001A + 0x10000 * n
/-- 0x2810:1B CAN_WAKE_ENABLE, BOOL, RWS (R358, 14_can.md). -/
def CAN_WAKE_ENABLE (n : Nat) : Nat := 0x2810001B + 0x10000 * n
/-- 0x2810:1C RX_FIFO0_POP, DOMAIN, RO (R358, 14_can.md). -/
def RX_FIFO0_POP (n : Nat) : Nat := 0x2810001C + 0x10000 * n
/-- 0x2810:1D RX_FIFO1_POP, DOMAIN, RO (R358, 14_can.md). -/
def RX_FIFO1_POP (n : Nat) : Nat := 0x2810001D + 0x10000 * n
/-- 0x2810:1E FIFO_FILL, U16, RO (R358, 14_can.md). -/
def FIFO_FILL (n : Nat) : Nat := 0x2810001E + 0x10000 * n
/-- 0x2810:1F FIFO_LOST, U32, RO (R358, 14_can.md). -/
def FIFO_LOST (n : Nat) : Nat := 0x2810001F + 0x10000 * n
/-- 0x2810:20 TX_REQUEST, U32, WO (R358, 14_can.md). -/
def TX_REQUEST (n : Nat) : Nat := 0x28100020 + 0x10000 * n
/-- 0x2810:21 TX_CANCEL, U32, WO (R358, 14_can.md). -/
def TX_CANCEL (n : Nat) : Nat := 0x28100021 + 0x10000 * n
/-- 0x2810:22 TX_EVENT_POP, DOMAIN, RO (R358, 14_can.md). -/
def TX_EVENT_POP (n : Nat) : Nat := 0x28100022 + 0x10000 * n
/-- 0x2810:23 TX_EVENT_OVERFLOW, U32, RO (R358, 14_can.md). -/
def TX_EVENT_OVERFLOW (n : Nat) : Nat := 0x28100023 + 0x10000 * n
/-- 0x2810:24 CAN_ERROR_STATE, U8, RO (R358, 14_can.md). -/
def CAN_ERROR_STATE (n : Nat) : Nat := 0x28100024 + 0x10000 * n
/-- 0x2810:25 CAN_ERROR_COUNTERS, U32, RO (R358, 14_can.md). -/
def CAN_ERROR_COUNTERS (n : Nat) : Nat := 0x28100025 + 0x10000 * n
/-- 0x2810:26 PROTOCOL_EXCEPTIONS, U32, RO (R358, 14_can.md). -/
def PROTOCOL_EXCEPTIONS (n : Nat) : Nat := 0x28100026 + 0x10000 * n
/-- 0x2810:27 TX_SUPPRESSED, U32, RO (R358, 14_can.md). -/
def TX_SUPPRESSED (n : Nat) : Nat := 0x28100027 + 0x10000 * n
/-- 0x2810:28 CAN_DETECTED, U8, RO (R358, 14_can.md). -/
def CAN_DETECTED (n : Nat) : Nat := 0x28100028 + 0x10000 * n
/-- 0x2810:29 DATA_CONFIRMED, BOOL, RO (R358, 14_can.md). -/
def DATA_CONFIRMED (n : Nat) : Nat := 0x28100029 + 0x10000 * n
/-- 0x2810:2A DETECT_FAILED, BOOL, RO (R358, 14_can.md). -/
def DETECT_FAILED (n : Nat) : Nat := 0x2810002A + 0x10000 * n
/-- 0x2818:08–1F TX_BUFFER, DOMAIN, RW (R359, 14_can.md). -/
def TX_BUFFER (c b : Nat) : Nat := 0x28180000 + 0x10000 * c + b
/-- 0x2818:20–3F TX_STATE, U8, RO (R359, 14_can.md). -/
def TX_STATE (c b : Nat) : Nat := 0x28180020 + 0x10000 * c + b
/-- 0x281A:00–7F, 80–BF FILTER_HITS, U32, RO (R359, 14_can.md). -/
def FILTER_HITS (c e : Nat) : Nat := 0x281A0000 + 0x10000 * c + e
/-- 0x1000:01 ORDER_CODE, STRING, RO (R386, 15_dictionary.md). -/
def ORDER_CODE : Nat := 0x10000001
/-- 0x1000:02 MODULE_SERIAL, U64, RO (R386, 15_dictionary.md). -/
def MODULE_SERIAL : Nat := 0x10000002
/-- 0x1000:03 HW_REVISION, U16, RO (R386, 15_dictionary.md). -/
def HW_REVISION : Nat := 0x10000003
/-- 0x1000:04 MODULE_NAME, STRING, RW (R386, 15_dictionary.md). -/
def MODULE_NAME : Nat := 0x10000004
/-- 0x1000:05 CONFIG_SAVE, U8, WO (R386, 15_dictionary.md). -/
def CONFIG_SAVE : Nat := 0x10000005
/-- 0x1000:06 CONFIG_CRC, U32, RO (R386, 15_dictionary.md). -/
def CONFIG_CRC : Nat := 0x10000006
/-- 0x1000:07 CONFIG_SAVED_TIME, TIME64, RO (R386, 15_dictionary.md). -/
def CONFIG_SAVED_TIME : Nat := 0x10000007
/-- 0x1000:08 DICT_VERSION, U16, RO (R386, 15_dictionary.md). -/
def DICT_VERSION : Nat := 0x10000008
/-- 0x1000:09 MODULE_CERT_FP, DOMAIN, RO (R386, 15_dictionary.md). -/
def MODULE_CERT_FP : Nat := 0x10000009
/-- 0x1000:0A ABORT_LAST, U32, RO (R386, 15_dictionary.md). -/
def ABORT_LAST : Nat := 0x1000000A
/-- 0x1000:0B ABORTS_ISSUED, U32, RO (R386, 15_dictionary.md). -/
def ABORTS_ISSUED : Nat := 0x1000000B
/-- 0x2900:01 ETH_STATE, U8, RW (R387, 15_dictionary.md). -/
def ETH_STATE : Nat := 0x29000001
/-- 0x2900:02 NET_MODE, U8, RWS (R387, 15_dictionary.md). -/
def NET_MODE : Nat := 0x29000002
/-- 0x2900:03 IP_ADDR_P1, U32, RWS (R387, 15_dictionary.md). -/
def IP_ADDR_P1 : Nat := 0x29000003
/-- 0x2900:04 IP_ADDR_P2, U32, RWS (R387, 15_dictionary.md). -/
def IP_ADDR_P2 : Nat := 0x29000004
/-- 0x2900:05 NET_MASK, U32, RWS (R387, 15_dictionary.md). -/
def NET_MASK : Nat := 0x29000005
/-- 0x2900:06 GATEWAY, U32, RWS (R387, 15_dictionary.md). -/
def GATEWAY : Nat := 0x29000006
/-- 0x2900:07 VLAN_ID, U16, RWS (R387, 15_dictionary.md). -/
def VLAN_ID : Nat := 0x29000007
/-- 0x2900:08 VLAN_PRIORITY, U8, RWS (R387, 15_dictionary.md). -/
def VLAN_PRIORITY : Nat := 0x29000008
/-- 0x2900:09 RED_SUPERVISION, U16, RWS (R387, 15_dictionary.md). -/
def RED_SUPERVISION : Nat := 0x29000009
/-- 0x2900:0A NET_CONFIRM_TIME, U16, RWS (R387, 15_dictionary.md). -/
def NET_CONFIRM_TIME : Nat := 0x2900000A
/-- 0x2900:0B IDP_IDLE_TIMEOUT, U16, RWS (R387, 15_dictionary.md). -/
def IDP_IDLE_TIMEOUT : Nat := 0x2900000B
/-- 0x2900:0C IDP_CAN_ENABLE, BOOL, RWS (R387, 15_dictionary.md). -/
def IDP_CAN_ENABLE : Nat := 0x2900000C
/-- 0x2900:0D IDP_CAN_CHANNEL, U8, RWS (R387, 15_dictionary.md). -/
def IDP_CAN_CHANNEL : Nat := 0x2900000D
/-- 0x2900:0E IDP_CAN_REQ_ID, U32, RWS (R387, 15_dictionary.md). -/
def IDP_CAN_REQ_ID : Nat := 0x2900000E
/-- 0x2900:0F IDP_CAN_RESP_ID, U32, RWS (R387, 15_dictionary.md). -/
def IDP_CAN_RESP_ID : Nat := 0x2900000F
/-- 0x2900:10 IDP_CAN_ROLE, U8, RWS (R387, 15_dictionary.md). -/
def IDP_CAN_ROLE : Nat := 0x29000010
/-- 0x2900:11 DISCOVERY_ENABLE, BOOL, RWS (R387, 15_dictionary.md). -/
def DISCOVERY_ENABLE : Nat := 0x29000011
/-- 0x2900:12 DISCOVERY_GROUP, U32, RWS (R387, 15_dictionary.md). -/
def DISCOVERY_GROUP : Nat := 0x29000012
/-- 0x2900:13 LINK_STATE, U8, RO (R387, 15_dictionary.md). -/
def LINK_STATE : Nat := 0x29000013
/-- 0x2900:14 MAC_P1, U64, RO (R387, 15_dictionary.md). -/
def MAC_P1 : Nat := 0x29000014
/-- 0x2900:15 MAC_P2, U64, RO (R387, 15_dictionary.md). -/
def MAC_P2 : Nat := 0x29000015
/-- 0x2900:16 DUPLICATES_DISCARDED, U32, RO (R387, 15_dictionary.md). -/
def DUPLICATES_DISCARDED : Nat := 0x29000016
/-- 0x2900:17 WRONG_LAN, U32, RO (R387, 15_dictionary.md). -/
def WRONG_LAN : Nat := 0x29000017
/-- 0x2900:18 IDP_SESSIONS, U8, RO (R387, 15_dictionary.md). -/
def IDP_SESSIONS : Nat := 0x29000018
/-- 0x2910:01 PEER_STATE, U8, RW (R388, 15_dictionary.md). -/
def PEER_STATE (n : Nat) : Nat := 0x29100001 + 0x10000 * n
/-- 0x2910:02 PEER_FINGERPRINT, DOMAIN, RWS (R388, 15_dictionary.md). -/
def PEER_FINGERPRINT (n : Nat) : Nat := 0x29100002 + 0x10000 * n
/-- 0x2910:03 PEER_ROLE, U8, RWS (R388, 15_dictionary.md). -/
def PEER_ROLE (n : Nat) : Nat := 0x29100003 + 0x10000 * n
/-- 0x2910:04 PEER_ADDR, U32, RWS (R388, 15_dictionary.md). -/
def PEER_ADDR (n : Nat) : Nat := 0x29100004 + 0x10000 * n
/-- 0x2910:05 PEER_PUSH, BOOL, RWS (R388, 15_dictionary.md). -/
def PEER_PUSH (n : Nat) : Nat := 0x29100005 + 0x10000 * n
/-- 0x2910:06 PEER_PUSH_PORT, U16, RWS (R388, 15_dictionary.md). -/
def PEER_PUSH_PORT (n : Nat) : Nat := 0x29100006 + 0x10000 * n
/-- 0x2910:07 PEER_SESSION, BOOL, RO (R388, 15_dictionary.md). -/
def PEER_SESSION (n : Nat) : Nat := 0x29100007 + 0x10000 * n
/-- 0x2910:08 PEER_LAST_SEEN, TIME64, RO (R388, 15_dictionary.md). -/
def PEER_LAST_SEEN (n : Nat) : Nat := 0x29100008 + 0x10000 * n
/-- 0x2A00:01 PROG_STATE, U8, RW (R406, 16_program.md). -/
def PROG_STATE : Nat := 0x2A000001
/-- 0x2A00:02 PROGRAM_IMAGE, DOMAIN, RWS (R406, 16_program.md). -/
def PROGRAM_IMAGE : Nat := 0x2A000002
/-- 0x2A00:03 PROGRAM_STAGED, DOMAIN, RW (R406, 16_program.md). -/
def PROGRAM_STAGED : Nat := 0x2A000003
/-- 0x2A00:04 PROG_CYCLE, U8, RWS (R406, 16_program.md). -/
def PROG_CYCLE : Nat := 0x2A000004
/-- 0x2A00:05 PROG_WATCHDOG, U8, RWS (R406, 16_program.md). -/
def PROG_WATCHDOG : Nat := 0x2A000005
/-- 0x2A00:06 PROG_STOP_OUTPUTS, U8, RWS (R406, 16_program.md). -/
def PROG_STOP_OUTPUTS : Nat := 0x2A000006
/-- 0x2A00:07 DEBUG_MODEL, U8, RWS (R406, 16_program.md). -/
def DEBUG_MODEL : Nat := 0x2A000007
/-- 0x2A00:08 PROG_DEBUG, BOOL, RW (R406, 16_program.md). -/
def PROG_DEBUG : Nat := 0x2A000008
/-- 0x2A00:09 PROG_STEP, U8, WO (R406, 16_program.md). -/
def PROG_STEP : Nat := 0x2A000009
/-- 0x2A00:0A PROG_HELD, BOOL, RO (R406, 16_program.md). -/
def PROG_HELD : Nat := 0x2A00000A
/-- 0x2A00:0B IMAGE_CRC, U32, RO (R406, 16_program.md). -/
def IMAGE_CRC : Nat := 0x2A00000B
/-- 0x2A00:0C STAGED_CRC, U32, RO (R406, 16_program.md). -/
def STAGED_CRC : Nat := 0x2A00000C
/-- 0x2A00:0D PROG_CLOCK, U64, RO (R406, 16_program.md). -/
def PROG_CLOCK : Nat := 0x2A00000D
/-- 0x2A00:0E EXEC_TIME_LAST, U32, RO (R406, 16_program.md). -/
def EXEC_TIME_LAST : Nat := 0x2A00000E
/-- 0x2A00:0F EXEC_TIME_MAX, U32, RO (R406, 16_program.md). -/
def EXEC_TIME_MAX : Nat := 0x2A00000F
/-- 0x2A00:10 OVERRUNS, U32, RO (R406, 16_program.md). -/
def OVERRUNS : Nat := 0x2A000010
/-- 0x2A00:11 PROG_FAULT_CAUSE, U8, RO (R406, 16_program.md). -/
def PROG_FAULT_CAUSE : Nat := 0x2A000011
/-- 0x2A00:12 WRITE_REFUSALS, U32, RO (R406, 16_program.md). -/
def WRITE_REFUSALS : Nat := 0x2A000012
/-- 0x2A00:13 WRITE_ABORT_LAST, U32, RO (R406, 16_program.md). -/
def WRITE_ABORT_LAST : Nat := 0x2A000013
/-- 0x2A00:14 FORCE_COUNT, U8, RO (R406, 16_program.md). -/
def FORCE_COUNT : Nat := 0x2A000014
/-- 0x2A00:15 EXCHANGE_REQUEST, U8, WO (R406, 16_program.md). -/
def EXCHANGE_REQUEST : Nat := 0x2A000015
/-- 0x2A00:16 EXCHANGE_STATE, U8, RO (R406, 16_program.md). -/
def EXCHANGE_STATE : Nat := 0x2A000016
/-- 0x2A00:17 EXCHANGE_MATCHED, U16, RO (R406, 16_program.md). -/
def EXCHANGE_MATCHED : Nat := 0x2A000017
/-- 0x2A10:0000–0FFF VAR_VALUE, DOMAIN, RW (R407, 16_program.md). -/
def VAR_VALUE (n : Nat) : Nat := 0x2A100000 + n
/-- 0x2A11:00–3F FORCE_ENTRY, DOMAIN, RW (R407, 16_program.md). -/
def FORCE_ENTRY (n : Nat) : Nat := 0x2A110000 + n
/-- 0x2A12:0000–0FFF VAR_FORCED, BOOL, RO (R407, 16_program.md). -/
def VAR_FORCED (n : Nat) : Nat := 0x2A120000 + n
/-- 0x2B00:01 FIELD_STATE, U8, RW (R422, 17_field_io.md). -/
def FIELD_STATE : Nat := 0x2B000001
/-- 0x2B00:02 FIELD_RELEASE, U8, WO (R422, 17_field_io.md). -/
def FIELD_RELEASE : Nat := 0x2B000002
/-- 0x2B00:03 FIELD_RELEASE_AUTO, BOOL, RWS (R422, 17_field_io.md). -/
def FIELD_RELEASE_AUTO : Nat := 0x2B000003
/-- 0x2B00:04 FIELD_LATCHED, BOOL, RO (R422, 17_field_io.md). -/
def FIELD_LATCHED : Nat := 0x2B000004
/-- 0x2B00:05 FIELD_SUPPLY_FAULT, BOOL, RO (R422, 17_field_io.md). -/
def FIELD_SUPPLY_FAULT : Nat := 0x2B000005
/-- 0x2B00:06 DI_STATE, U32, RO (R422, 17_field_io.md). -/
def DI_STATE : Nat := 0x2B000006
/-- 0x2B00:07 DO_COMMAND, U16, RO (R422, 17_field_io.md). -/
def DO_COMMAND : Nat := 0x2B000007
/-- 0x2B00:08 DO_OVERLOAD, U16, RO (R422, 17_field_io.md). -/
def DO_OVERLOAD : Nat := 0x2B000008
/-- 0x2B00:09 KO_COMMAND, U64, RO (R422, 17_field_io.md). -/
def KO_COMMAND : Nat := 0x2B000009
/-- 0x2B00:0A KO_READBACK_X, U64, RO (R422, 17_field_io.md). -/
def KO_READBACK_X : Nat := 0x2B00000A
/-- 0x2B00:0B KO_READBACK_Y, U64, RO (R422, 17_field_io.md). -/
def KO_READBACK_Y : Nat := 0x2B00000B
/-- 0x2B00:0C KG_SUPPLY_OK, U8, RO (R422, 17_field_io.md). -/
def KG_SUPPLY_OK : Nat := 0x2B00000C
/-- 0x2B00:0D KG_CURRENT, DOMAIN, RO (R422, 17_field_io.md). -/
def KG_CURRENT : Nat := 0x2B00000D
/-- 0x2B00:0E KG_OVERLOADS, U32, RO (R422, 17_field_io.md). -/
def KG_OVERLOADS : Nat := 0x2B00000E
/-- 0x2B00:0F KO_CLAMP_EXCESS, U32, RO (R422, 17_field_io.md). -/
def KO_CLAMP_EXCESS : Nat := 0x2B00000F
/-- 0x2B10:00–1F DI_FILTER, U8, RWS (R423, 17_field_io.md). -/
def DI_FILTER (n : Nat) : Nat := 0x2B100000 + n
/-- 0x2B11:00–1F DI_EDGES, U32, RO (R423, 17_field_io.md). -/
def DI_EDGES (n : Nat) : Nat := 0x2B110000 + n
/-- 0x2B20:00–2F KO_CLAMP_ENERGY, F32, RO (R423, 17_field_io.md). -/
def KO_CLAMP_ENERGY (n : Nat) : Nat := 0x2B200000 + n
/-- 0x2B21:00–2F KO_SWITCHES, U64, RO (R423, 17_field_io.md). -/
def KO_SWITCHES (n : Nat) : Nat := 0x2B210000 + n
/-- 0x2B30:01 AI_MODE, U8, RWS (R424, 17_field_io.md). -/
def AI_MODE (n : Nat) : Nat := 0x2B300001 + 0x10000 * n
/-- 0x2B30:02 AI_IN_LO, F32, RWS (R424, 17_field_io.md). -/
def AI_IN_LO (n : Nat) : Nat := 0x2B300002 + 0x10000 * n
/-- 0x2B30:03 AI_IN_HI, F32, RWS (R424, 17_field_io.md). -/
def AI_IN_HI (n : Nat) : Nat := 0x2B300003 + 0x10000 * n
/-- 0x2B30:04 AI_ENG_LO, F32, RWS (R424, 17_field_io.md). -/
def AI_ENG_LO (n : Nat) : Nat := 0x2B300004 + 0x10000 * n
/-- 0x2B30:05 AI_ENG_HI, F32, RWS (R424, 17_field_io.md). -/
def AI_ENG_HI (n : Nat) : Nat := 0x2B300005 + 0x10000 * n
/-- 0x2B30:06 AI_FILTER, U16, RWS (R424, 17_field_io.md). -/
def AI_FILTER (n : Nat) : Nat := 0x2B300006 + 0x10000 * n
/-- 0x2B30:07 AI_VALUE, F32, RO (R424, 17_field_io.md). -/
def AI_VALUE (n : Nat) : Nat := 0x2B300007 + 0x10000 * n
/-- 0x2B30:08 AI_RAW, F32, RO (R424, 17_field_io.md). -/
def AI_RAW (n : Nat) : Nat := 0x2B300008 + 0x10000 * n
/-- 0x2B30:09 AI_STATUS, U8, RO (R424, 17_field_io.md). -/
def AI_STATUS (n : Nat) : Nat := 0x2B300009 + 0x10000 * n
/-- 0x2B40:01 PI_GATE, U16, RWS (R424, 17_field_io.md). -/
def PI_GATE (n : Nat) : Nat := 0x2B400001 + 0x10000 * n
/-- 0x2B40:02 PI_TIMEOUT, U16, RWS (R424, 17_field_io.md). -/
def PI_TIMEOUT (n : Nat) : Nat := 0x2B400002 + 0x10000 * n
/-- 0x2B40:03 PI_FREQ, F32, RO (R424, 17_field_io.md). -/
def PI_FREQ (n : Nat) : Nat := 0x2B400003 + 0x10000 * n
/-- 0x2B40:04 PI_DUTY, F32, RO (R424, 17_field_io.md). -/
def PI_DUTY (n : Nat) : Nat := 0x2B400004 + 0x10000 * n
/-- 0x2B40:05 PI_STATUS, U8, RO (R424, 17_field_io.md). -/
def PI_STATUS (n : Nat) : Nat := 0x2B400005 + 0x10000 * n
/-- 0x2C00:01 REDUNDANCY_STATE, U8, RW (R451, 18_pair.md). -/
def REDUNDANCY_STATE : Nat := 0x2C000001
/-- 0x2C00:02 PAIR_ENABLE, BOOL, RWS (R451, 18_pair.md). -/
def PAIR_ENABLE : Nat := 0x2C000002
/-- 0x2C00:03 PAIR_POSITION, U8, RO (R451, 18_pair.md). -/
def PAIR_POSITION : Nat := 0x2C000003
/-- 0x2C00:04 PAIR_ROLE, U8, RO (R451, 18_pair.md). -/
def PAIR_ROLE : Nat := 0x2C000004
/-- 0x2C00:05 PAIR_SYNC, U8, RO (R451, 18_pair.md). -/
def PAIR_SYNC : Nat := 0x2C000005
/-- 0x2C00:06 SYNC_BLOCK, U8, RO (R451, 18_pair.md). -/
def SYNC_BLOCK : Nat := 0x2C000006
/-- 0x2C00:07 PAIR_LINK_UP, BOOL, RO (R451, 18_pair.md). -/
def PAIR_LINK_UP : Nat := 0x2C000007
/-- 0x2C00:08 HEARTBEATS_MISSED, U32, RO (R451, 18_pair.md). -/
def HEARTBEATS_MISSED : Nat := 0x2C000008
/-- 0x2C00:09 ROLE_IN_STATE, BOOL, RO (R451, 18_pair.md). -/
def ROLE_IN_STATE : Nat := 0x2C000009
/-- 0x2C00:0A PAIR_START_WAIT, U16, RWS (R451, 18_pair.md). -/
def PAIR_START_WAIT : Nat := 0x2C00000A
/-- 0x2C00:0B ROLE_SWAP_PERIOD, U8, RWS (R451, 18_pair.md). -/
def ROLE_SWAP_PERIOD : Nat := 0x2C00000B
/-- 0x2C00:0C ROLE_SWAP_TIME, U32, RWS (R451, 18_pair.md). -/
def ROLE_SWAP_TIME : Nat := 0x2C00000C
/-- 0x2C00:0D SWAP_REQUEST, U8, WO (R451, 18_pair.md). -/
def SWAP_REQUEST : Nat := 0x2C00000D
/-- 0x2C00:0E TAKEOVERS, U32, RO (R451, 18_pair.md). -/
def TAKEOVERS : Nat := 0x2C00000E
/-- 0x2C00:0F PLANNED_SWAPS, U32, RO (R451, 18_pair.md). -/
def PLANNED_SWAPS : Nat := 0x2C00000F
/-- 0x2C00:10 SWAPS_SKIPPED, U32, RO (R451, 18_pair.md). -/
def SWAPS_SKIPPED : Nat := 0x2C000010
/-- 0x2C00:11 LAST_ROLE_CHANGE, TIME64, RO (R451, 18_pair.md). -/
def LAST_ROLE_CHANGE : Nat := 0x2C000011
/-- 0x2C00:12 LAST_CHANGE_KIND, U8, RO (R451, 18_pair.md). -/
def LAST_CHANGE_KIND : Nat := 0x2C000012
/-- 0x2C00:13 LAST_GAP_CYCLES, U8, RO (R451, 18_pair.md). -/
def LAST_GAP_CYCLES : Nat := 0x2C000013
/-- 0x2C00:14 LAST_OVERLAP, U16, RO (R451, 18_pair.md). -/
def LAST_OVERLAP : Nat := 0x2C000014
/-- 0x2C00:15 SPLIT_DETECTED, BOOL, RO (R451, 18_pair.md). -/
def SPLIT_DETECTED : Nat := 0x2C000015
/-- 0x2C00:16 PARTNER_SERIAL, U64, RO (R451, 18_pair.md). -/
def PARTNER_SERIAL : Nat := 0x2C000016
/-- 0x2C00:17 MIRROR_COMPLETE, U16, RO (R451, 18_pair.md). -/
def MIRROR_COMPLETE : Nat := 0x2C000017
/-- 0x2D00:01 POWER_FN_STATE, U8, RW (R470, 19_power.md). -/
def POWER_FN_STATE : Nat := 0x2D000001
/-- 0x2D00:02 POWER_STATE, U8, RO (R470, 19_power.md). -/
def POWER_STATE : Nat := 0x2D000002
/-- 0x2D00:03 POWER_REQUEST, U8, WO (R470, 19_power.md). -/
def POWER_REQUEST : Nat := 0x2D000003
/-- 0x2D00:04 REQUEST_RESULT, U8, RO (R470, 19_power.md). -/
def REQUEST_RESULT : Nat := 0x2D000004
/-- 0x2D00:05 REFUSING_BLOCK, U8, RO (R470, 19_power.md). -/
def REFUSING_BLOCK : Nat := 0x2D000005
/-- 0x2D00:06 REFUSAL_REASON, U8, RO (R470, 19_power.md). -/
def REFUSAL_REASON : Nat := 0x2D000006
/-- 0x2D00:07 POWER_VOTE, U16, RW (R470, 19_power.md). -/
def POWER_VOTE : Nat := 0x2D000007
/-- 0x2D00:08 WATCH_PERIOD, U8, RWS (R470, 19_power.md). -/
def WATCH_PERIOD : Nat := 0x2D000008
/-- 0x2D00:09 WATCH_V_MAX, U16, RWS (R470, 19_power.md). -/
def WATCH_V_MAX : Nat := 0x2D000009
/-- 0x2D00:0A WATCH_V_MIN, U16, RWS (R470, 19_power.md). -/
def WATCH_V_MIN : Nat := 0x2D00000A
/-- 0x2D00:0B WATCH_T_MAX, F32, RWS (R470, 19_power.md). -/
def WATCH_T_MAX : Nat := 0x2D00000B
/-- 0x2D00:0C WATCH_SCANS, U32, RO (R470, 19_power.md). -/
def WATCH_SCANS : Nat := 0x2D00000C
/-- 0x2D00:0D WATCH_LAST, DOMAIN, RO (R470, 19_power.md). -/
def WATCH_LAST : Nat := 0x2D00000D
/-- 0x2D00:0E WAKE_SOURCES, U8, RWS (R470, 19_power.md). -/
def WAKE_SOURCES : Nat := 0x2D00000E
/-- 0x2D00:0F WAKE_DI_MASK, U32, RWS (R470, 19_power.md). -/
def WAKE_DI_MASK : Nat := 0x2D00000F
/-- 0x2D00:10 WAKE_SI_MASK, U8, RWS (R470, 19_power.md). -/
def WAKE_SI_MASK : Nat := 0x2D000010
/-- 0x2D00:11 WAKE_TIMER, U32, RWS (R470, 19_power.md). -/
def WAKE_TIMER : Nat := 0x2D000011
/-- 0x2D00:12 WAKE_CAUSE, U8, RO (R470, 19_power.md). -/
def WAKE_CAUSE : Nat := 0x2D000012
/-- 0x2D00:13 WAKE_TIME, U64, RO (R470, 19_power.md). -/
def WAKE_TIME : Nat := 0x2D000013
/-- 0x2D00:14 WAKE_OUT_PULSE, U16, RWS (R470, 19_power.md). -/
def WAKE_OUT_PULSE : Nat := 0x2D000014
/-- 0x2D00:15 SLEEP_DO_LEVELS, U16, RWS (R470, 19_power.md). -/
def SLEEP_DO_LEVELS : Nat := 0x2D000015
/-- 0x2D00:16 START_STATE, U8, RO (R470, 19_power.md). -/
def START_STATE : Nat := 0x2D000016
/-- 0x2D00:17 START_RETRIES, U8, RO (R470, 19_power.md). -/
def START_RETRIES : Nat := 0x2D000017
/-- 0x2D00:18 START_DURATION, U32, RO (R470, 19_power.md). -/
def START_DURATION : Nat := 0x2D000018
/-- 0x2D00:19 XTAL_RECOVERED, BOOL, RO (R470, 19_power.md). -/
def XTAL_RECOVERED : Nat := 0x2D000019
/-- 0x2D00:1A POWER_RESTART, U8, WO (R470, 19_power.md). -/
def POWER_RESTART : Nat := 0x2D00001A
/-- 0x2D00:1B BROWNOUT, BOOL, RO (R470, 19_power.md). -/
def BROWNOUT : Nat := 0x2D00001B
/-- 0x2D00:1C BROWNOUTS, U32, RO (R470, 19_power.md). -/
def BROWNOUTS : Nat := 0x2D00001C
/-- 0x2D00:1D HOLDUP_REMAINING, U16, RO (R470, 19_power.md). -/
def HOLDUP_REMAINING : Nat := 0x2D00001D
/-- 0x2D00:1E HOLDUP_READY, BOOL, RO (R470, 19_power.md). -/
def HOLDUP_READY : Nat := 0x2D00001E
/-- 0x2D00:1F BROWNOUT_OPEN_MARGIN, U16, RWS (R470, 19_power.md). -/
def BROWNOUT_OPEN_MARGIN : Nat := 0x2D00001F
/-- 0x2D00:20 INPUT_VOLTAGE, DOMAIN, RO (R470, 19_power.md). -/
def INPUT_VOLTAGE : Nat := 0x2D000020
/-- 0x2D00:21 MODULE_POWER, F32, RO (R470, 19_power.md). -/
def MODULE_POWER : Nat := 0x2D000021
/-- 0x2D00:22 THROTTLE_EVENTS, U32, RO (R470, 19_power.md). -/
def THROTTLE_EVENTS : Nat := 0x2D000022
/-- 0x2D00:23 DIE_CRITICAL, BOOL, RO (R470, 19_power.md). -/
def DIE_CRITICAL : Nat := 0x2D000023
/-- 0x2E00:01 UPDATE_FN_STATE, U8, RW (R485, 20_update.md). -/
def UPDATE_FN_STATE : Nat := 0x2E000001
/-- 0x2E00:02 UPDATE_MANIFEST, DOMAIN, RW (R485, 20_update.md). -/
def UPDATE_MANIFEST : Nat := 0x2E000002
/-- 0x2E00:03 UPDATE_COMMAND, U8, WO (R485, 20_update.md). -/
def UPDATE_COMMAND : Nat := 0x2E000003
/-- 0x2E00:04 UPDATE_STATE, U8, RO (R485, 20_update.md). -/
def UPDATE_STATE : Nat := 0x2E000004
/-- 0x2E00:05 UPDATE_BLOCK, U8, RO (R485, 20_update.md). -/
def UPDATE_BLOCK : Nat := 0x2E000005
/-- 0x2E00:06 ACTIVATE_SWEEP, U64, RO (R485, 20_update.md). -/
def ACTIVATE_SWEEP : Nat := 0x2E000006
/-- 0x2E00:07 ACTIVATE_LEAD, U8, RWS (R485, 20_update.md). -/
def ACTIVATE_LEAD : Nat := 0x2E000007
/-- 0x2E00:08 POSTCHECK_TIME, U16, RWS (R485, 20_update.md). -/
def POSTCHECK_TIME : Nat := 0x2E000008
/-- 0x2E00:09 SECURITY_EPOCH, U16, RO (R485, 20_update.md). -/
def SECURITY_EPOCH : Nat := 0x2E000009
/-- 0x2E00:0A REVERT_CAUSE, U8, RO (R485, 20_update.md). -/
def REVERT_CAUSE : Nat := 0x2E00000A
/-- 0x2E00:0B UPDATES_COMMITTED, U32, RO (R485, 20_update.md). -/
def UPDATES_COMMITTED : Nat := 0x2E00000B
/-- 0x2E00:0C UPDATES_REVERTED, U32, RO (R485, 20_update.md). -/
def UPDATES_REVERTED : Nat := 0x2E00000C
/-- 0x2E00:0D RUNNING_VERSIONS, DOMAIN, RO (R485, 20_update.md). -/
def RUNNING_VERSIONS : Nat := 0x2E00000D
/-- 0x2E00:0E FE_VERIFIED, U16, RO (R485, 20_update.md). -/
def FE_VERIFIED : Nat := 0x2E00000E
/-- 0x2E10–0x2E15:0000–7FFF UPDATE_PIECE, DOMAIN, WO (R485, 20_update.md). -/
def UPDATE_PIECE (c n : Nat) : Nat := 0x2E100000 + 0x10000 * c + n
/-- 0x2E20:00–05 PIECES_MISSING, U16, RO (R485, 20_update.md). -/
def PIECES_MISSING (n : Nat) : Nat := 0x2E200000 + n
/-- 0x2E21:00–05 COMPONENT_STATUS, U8, RO (R485, 20_update.md). -/
def COMPONENT_STATUS (n : Nat) : Nat := 0x2E210000 + n
/-- 0x2E30:0000–01FF FE_IMAGE_STATUS, U8, RO (R485, 20_update.md). -/
def FE_IMAGE_STATUS (n : Nat) : Nat := 0x2E300000 + n
/-- 0x2F00:01 RECORDER_STATE, U8, RW (R501, 21_recorder.md). -/
def RECORDER_STATE : Nat := 0x2F000001
/-- 0x2F00:02 VBIN_LO, F32, RWS (R501, 21_recorder.md). -/
def VBIN_LO : Nat := 0x2F000002
/-- 0x2F00:03 VBIN_HI, F32, RWS (R501, 21_recorder.md). -/
def VBIN_HI : Nat := 0x2F000003
/-- 0x2F00:04 STRING_P_BIN, F32, RWS (R501, 21_recorder.md). -/
def STRING_P_BIN : Nat := 0x2F000004
/-- 0x2F00:05 RECORDER_COMMIT_NOW, U8, WO (R501, 21_recorder.md). -/
def RECORDER_COMMIT_NOW : Nat := 0x2F000005
/-- 0x2F00:06 RECORDER_CLEAR, U8, WO (R501, 21_recorder.md). -/
def RECORDER_CLEAR : Nat := 0x2F000006
/-- 0x2F00:07 RECORDER_FOREIGN, BOOL, RO (R501, 21_recorder.md). -/
def RECORDER_FOREIGN : Nat := 0x2F000007
/-- 0x2F00:08 COMMITS, U32, RO (R501, 21_recorder.md). -/
def COMMITS : Nat := 0x2F000008
/-- 0x2F00:09 LAST_COMMIT, TIME64, RO (R501, 21_recorder.md). -/
def LAST_COMMIT : Nat := 0x2F000009
/-- 0x2F00:0A PAGES_LOST, U32, RO (R501, 21_recorder.md). -/
def PAGES_LOST : Nat := 0x2F00000A
/-- 0x2F00:0B LOG_NEWEST, U16, RO (R501, 21_recorder.md). -/
def LOG_NEWEST : Nat := 0x2F00000B
/-- 0x2F00:0C LOG_COUNT, U32, RO (R501, 21_recorder.md). -/
def LOG_COUNT : Nat := 0x2F00000C
/-- 0x2F00:0D EXCEPTIONS_OVERWRITTEN, U32, RO (R501, 21_recorder.md). -/
def EXCEPTIONS_OVERWRITTEN : Nat := 0x2F00000D
/-- 0x2F00:0E LOG_CRC_ERRORS, U32, RO (R501, 21_recorder.md). -/
def LOG_CRC_ERRORS : Nat := 0x2F00000E
/-- 0x2F00:0F EXCEPTION_LOG, DOMAIN, RO (R501, 21_recorder.md). -/
def EXCEPTION_LOG : Nat := 0x2F00000F
/-- 0x2F00:10 MODULE_PAGE, DOMAIN, RO (R501, 21_recorder.md). -/
def MODULE_PAGE : Nat := 0x2F000010
/-- 0x2F10:0000–1FFF CELL_PAGE, DOMAIN, RO (R501, 21_recorder.md). -/
def CELL_PAGE (n : Nat) : Nat := 0x2F100000 + n
/-- 0x2F11:00–0F STRING_PAGE, DOMAIN, RO (R501, 21_recorder.md). -/
def STRING_PAGE (n : Nat) : Nat := 0x2F110000 + n

end Sys2Proof.Machine.Obj
end

