-- ==== Sys2Proof/Machine/Real.lean ====
section
/-!
DEFINITION. The real functions the spec's formulas use. Exact where the result is rational; elsewhere the mathematical value
within a stated bound, the rest of it free, since the spec states no rounding (log entry 114). Every function here is by
structural recursion over whole numbers, so that the kernel evaluates it.
-/

namespace Sys2Proof.Machine

/-- A computed value `y` of function `f` at `x`: the hardware's differs from it by at most 2^-20 of `scale`. -/
def inexact (f : Nat) (x y scale : Rat) : Rat := y + scale / 1048576 * rclamp (-1) 1 (Config.roundErr f x)

/-- A rational to 64 significant binary digits. -/
def digits64 (q : Rat) : Rat :=
  if q = 0 then 0 else
  let u := pow2 (64 - ((Nat.log2 q.num.natAbs : Int) - Nat.log2 q.den))
  ((q * u).floor : Rat) / u

/-- The whole square root of `n`, from the digit of weight 2^(k-1) down, `r` being found so far. -/
def isqrtFrom (n : Nat) : Nat → Nat → Nat
  | 0, r => r
  | k + 1, r => isqrtFrom n k (if (r + 2 ^ k) * (r + 2 ^ k) ≤ n then r + 2 ^ k else r)

/-- The whole square root. -/
def isqrt (n : Nat) : Nat := isqrtFrom n (Nat.log2 n / 2 + 1) 0

/-- The square root. -/
def realSqrt (q : Rat) : Rat :=
  if q < 0 then Config.unstated 0 q else
  let n := q.num.toNat
  let r := isqrt n
  let d := isqrt q.den
  if r * r = n ∧ d * d = q.den then (r : Rat) / d else
  let y : Rat := (isqrt (n * q.den * 2 ^ 80) : Rat) / ((q.den * 2 ^ 40 : Nat) : Rat)
  inexact 0 q y y

/-- `1 + x/n (1 + x/(n+1) (1 + …))`, `k` factors deep: the exponential series from its `n`-th factor. -/
def expSeries (x : Rat) : Nat → Nat → Rat
  | 0, _ => 1
  | k + 1, n => digits64 (1 + x / (n : Rat) * expSeries x k (n + 1))

/-- ln 2. -/
def ln2 : Rat := 693147180559945309417232121458 / 1000000000000000000000000000000

/-- e^x. -/
def realExp (x : Rat) : Rat :=
  if x = 0 then 1 else
  if 2000 < x then Config.unstated 1 x else
  if x < -2000 then inexact 1 x 0 (pow2 (-2000)) else
  let k := rround (x / ln2)
  let y := expSeries (digits64 (x - k * ln2)) 20 1 * pow2 k
  inexact 1 x y y

/-- `t/n + t^3/(n+2) + …`, `k` terms of the series of the area tangent, `t2` being the square of t. -/
def artanhSeries (t2 : Rat) : Nat → Nat → Rat → Rat
  | 0, _, _ => 0
  | k + 1, n, t => t / (n : Rat) + artanhSeries t2 k (n + 2) (digits64 (t * t2))

/-- The natural logarithm. -/
def realLn (x : Rat) : Rat :=
  if x ≤ 0 then Config.unstated 2 x else
  if x = 1 then 0 else
  let e : Int := (Nat.log2 x.num.toNat : Int) - Nat.log2 x.den
  let m := x * pow2 (-e)
  let (m, e) := if 4 / 3 < m then (m / 2, e + 1) else (m, e)
  let t := digits64 ((m - 1) / (m + 1))
  let y := e * ln2 + 2 * artanhSeries (digits64 (t * t)) 24 1 t
  inexact 2 x y (rabs y)

/-- x^y for `x` of at least 0. -/
def realPow (x y : Rat) : Rat :=
  if x < 0 then Config.unstated 3 x
  else if y = 0 then 1
  else if x = 0 then (if y < 0 then Config.unstated 3 y else 0)
  else if x = 1 then 1
  else realExp (y * realLn x)

/-- π to 39 digits. -/
def piDigits : Rat := 314159265358979323846264338327950288420 / 100000000000000000000000000000000000000

/-- π as the hardware holds it. -/
def realPi : Rat := inexact 4 0 piDigits piDigits

/-- `1 - a/(n(n+1)) (1 - a/((n+2)(n+3)) (1 - …))`, `k` factors deep: the cosine series in the square `a` of the angle. -/
def cosSeries (a : Rat) : Nat → Nat → Rat
  | 0, _ => 1
  | k + 1, n => digits64 (1 - a / ((n * (n + 1) : Nat) : Rat) * cosSeries a k (n + 2))

/-- cos 2πx, `x` in turns. -/
def realCosTurn (x : Rat) : Rat :=
  let f := x - (x.floor : Rat)
  let f := if 1 / 2 < f then 1 - f else f
  if f = 0 then 1 else if f = 1 / 6 then 1 / 2 else if f = 1 / 4 then 0 else if f = 1 / 3 then -1 / 2 else if f = 1 / 2 then -1 else
  inexact 5 f (cosSeries (digits64 (4 * piDigits * piDigits * f * f)) 16 1) 1

/-- sin 2πx, `x` in turns. -/
def realSinTurn (x : Rat) : Rat := realCosTurn (x - 1 / 4)

end Sys2Proof.Machine
end

