-- ==== Sys2Proof/Machine/State.lean ====
section
/-!
DEFINITION. The state of the module as plain data, the reasons a step stops, and the state right after reset.
Every dictionary object (R13) has ONE home, `State.store`: a list of (key, value) in a canonical form, in which an
object that is not listed reads the default of its object table. What the spec gives the machine beside the
dictionary (bases, histories, timers, queues, rings, sessions, records, pages, pins) stands in one structure for each
chapter. The defaults of the fields are those of a module in service with nothing done; `State.reset` is below.
-/

namespace Sys2Proof.Machine

/-- Why the machine stops. -/
inductive Fault where
  /-- Raised by a command that names a head, string, cell, output or other resource the module does not have
  (R1 to R3, R29): no such event exists on the part. Safe: the model stops. -/
  | absentResource
  deriving DecidableEq, Repr

/-- Why the model has no meaning for a command. -/
inductive Refusal where
  /-- Raised by `exec` for a command whose meaning is not written. Safe: the model stops. -/
  | notModelled (mnemonic : String)
  deriving DecidableEq, Repr

/-- The ordering codes (R1, Table 0.1). -/
inductive OrderCode where
  | ibx8192S | ibx8192M | ibx4096S
  deriving DecidableEq, Repr

/-- What manufacture and installation fix: ordering code (R1), serial number and the other factory objects (Table
15.14, 15.15), the coding plug (R511), the factory crystal table (R55). -/
structure AsBuilt where
  code : OrderCode := .ibx8192S
  serial : Nat := 1
  hwRevision : Nat := 1
  certFp : Bytes := List.replicate 32 0
  macP1 : Nat := 0
  macP2 : Nat := 0
  xtalTable : Bytes := []
  peer0Fp : Bytes := List.replicate 32 0
  epoch : Nat := 0
  plug : Nat := 0
  /-- The factory gain table of each current input at the five temperatures of R55 (R236). -/
  ciGain : List (List Rat) := []
  deriving DecidableEq, Repr

/-- A response (R372 to R374): TAG, operation (Table 15.9), index, subindex, abort code, OFFSET and COUNT of the
request, whether LAST is set, data. -/
structure Response where
  tag : Nat
  op : Nat
  index : Nat
  sub : Nat
  abort : Nat
  offset : Nat := 0
  count : Nat := 0
  last : Bool
  data : Bytes
  deriving DecidableEq, Repr

/-- A piece of a PUSH transfer as it leaves (R378, Table 15.8): the address and port it goes to, its TAG, the key of the object it
carries, OFFSET, LAST, DATA. -/
structure PushPdu where
  addr : Nat
  port : Nat
  tag : Nat
  key : Nat
  offset : Nat
  last : Bool
  data : Bytes
  deriving DecidableEq, Repr

/-- A message the module puts out, or an act at a pin. -/
inductive Output where
  | response (src : ReqSource) (x : Response)
  | canFrame (f : CanFrame) (esi : Bool)
  /-- A UDP datagram to a port and an address. -/
  | udp (port addr : Nat) (data : Bytes)
  /-- A PTP message of the ring forwarded at a port with a residence time in ns in its correction field (R41). -/
  | ptpForward (port seq residence : Nat)
  /-- A supervision frame of PRP (1) or HSR (2) (R382). -/
  | supervision (mode : Nat)
  /-- The module opens a session as DTLS client to a peer's address and port (R378). -/
  | connect (addr port : Nat)
  /-- A piece of a PUSH transfer to a peer (R378). -/
  | push (x : PushPdu)
  /-- A message on the PAIR link: (Table 18.2). -/
  | pair (m : PairMsg)
  /-- A down frame sent by a head: its bytes from KIND to CRC (Table 3.3). -/
  | chainFrame (head : Nat) (frame : Bytes)
  /-- An order to the other head of a chain to read its segment: the head and how many devices lie beyond (R114). -/
  | segmentOrder (head devices : Nat)
  /-- TONE sourced by a head from here on, or no longer (R62, R88, R460). -/
  | tone (head : Nat) (on : Bool)
  /-- WAKE or, where `long`, WAKE_LONG sent by a head (R62, R454, R465). -/
  | wakeSymbol (head : Nat) (long : Bool)
  /-- A pulse at a mark output (R52, R53). -/
  | markPulse (n : Nat) (width : Nat)
  deriving DecidableEq, Repr

/-- One record of the exception log (Table 21.4); its CRC is computed when it is read. -/
structure ExRec where
  no : Nat
  code : Nat
  source : Nat
  subject : Nat
  flags : Nat
  rep : Nat
  first : Nat
  last : Nat
  arg0 : Nat
  arg1 : Nat
  arg2 : Nat
  deriving DecidableEq, Repr

/-- A PTP master as Announce messages show it (R40, R41): the port it is heard on, its clock identity, the fields by
which the best master clock algorithm ranks it, most significant first. -/
structure PtpMaster where
  port : Nat
  id : Nat
  rank : List Nat
  deriving DecidableEq, Repr

/-- A mark output's pending instants (R52, R54): the next instant on its base, the last one emitted. -/
structure MarkSt where
  next : Option Nat := none
  last : Option Nat := none
  deriving DecidableEq, Repr

/-- The bases as they stood until a tick at which a rate, a frequency word or base P changed: base L in ticks of that tick,
base P, its rate and whether it was UNSET, the phase of base M and its frequency word. -/
structure BasePoint where
  l : Nat
  p : Int
  rate : Int
  unset : Bool
  phase : Nat
  fw : Nat
  deriving DecidableEq, Repr

/-- The bases and what belongs to them (chapter "Time bases and the mains angle"). -/
structure TimeSt where
  /-- Base L in ticks of 10 ns since power-up (R32, R33). -/
  l : Nat := 0
  /-- Base P in units of 10⁻⁸ ns, which 10 ns ticks and 0.001 ppm of rate count exactly (R32, R36). -/
  p : Int := 0
  /-- Whether base P has been stepped since power-up (R37). -/
  stepped : Bool := false
  /-- Whether the step is armed (R35, R37). -/
  armed : Bool := false
  /-- The 48-bit phase of base M (R42). -/
  phase : Nat := 0
  /-- The offset measurements since the master was selected or the step armed, latest first, at most four (R35). -/
  offsets : List Int := []
  /-- The latest changes of the bases, newest first: from them the base values at an earlier tick follow (R39, R45). -/
  past : List BasePoint := []
  /-- Sequence number of the latest Sync used (R41). -/
  syncSeq : Option Nat := none
  /-- Consecutive Sync messages within PTP_LOCK_LIMIT (R36). -/
  lockRun : Nat := 0
  /-- The rate correction in force when the slew began, while a slew is in progress (R36). -/
  savedRate : Option Int := none
  /-- Masters heard, in the order they qualified (R41). -/
  masters : List PtpMaster := []
  /-- Nanoseconds latched by a read of P_SECONDS (R57). -/
  latchedNs : Nat := 0
  /-- The last accepted ANG edge and the last edge not ignored, base L in ns (R44). -/
  angAccepted : Option Nat := none
  angEdge : Option Nat := none
  /-- The frequency word last measured from the mains, none before any measurement (R44, R45). -/
  measured : Option Nat := none
  /-- Whether the PCS angle message is the reference that is followed under ANG_THEN_PCS (R43). -/
  onPcs : Bool := false
  /-- Base L of the last valid PCS angle message (R47). -/
  pcsLast : Option Nat := none
  /-- Consecutive references within 1° (R46). -/
  goodRefs : Nat := 0
  /-- The marks of MK0 to MK3. -/
  marks : List MarkSt := [{}, {}, {}, {}]
  /-- The crystal correction in force, 10⁻⁹ (R55). -/
  xtal : Rat := 0
  /-- The latest reading of die sensor 00 in °C (R55, R452). -/
  die0 : Rat := 0
  /-- The cycle of the next sweep mark, once one is placed (R48). -/
  nextMark : Option Nat := none
  /-- The dither register and the dither offset of the next sweep (R50). -/
  lfsr : Nat := 1
  delta : Int := 0
  /-- Whether M_STATE was not LOCKED at some instant of the open window (R51). -/
  unlocked : Bool := false
  /-- Base L and base P of the latest mark and base L of the one before (R491). -/
  markL : Nat := 0
  markP : Nat := 0
  /-- Whether base P was UNSET at the latest mark: the flag of what is stamped with it (R34, R39). -/
  markUnset : Bool := false
  prevMarkL : Nat := 0
  deriving DecidableEq, Repr

/-- An open IDP session: its peer entry, its role, the responses to its last 32 TAG values, the FIFO entries and
transmit events it has popped, base L of its last valid datagram (R374, R377, R350, R355). -/
structure Session where
  peer : Nat
  role : Nat
  kept : List Response := []
  popped : List (Nat × Bytes) := []
  seen : Nat := 0
  addr : Nat := 0
  deriving DecidableEq, Repr

/-- An open DOMAIN transfer (R375): who holds it, which object, the bytes so far. -/
structure Transfer where
  src : ReqSource
  key : Nat
  data : Bytes
  deriving DecidableEq, Repr

/-- The copy that a store in flash replaced (R370): base L in ns of the store, and what flash held before it. -/
structure StoreCopy where
  l : Nat
  flash : List (Nat × (Nat × List (Nat × Val)))
  deriving DecidableEq, Repr

/-- The dictionary and the Ethernet side (chapter "Object dictionary and network access"). -/
structure IdpSt where
  sessions : List Session := []
  /-- The one session over CAN, which never ends (R379). -/
  can : Session := { peer := 16, role := 0 }
  transfers : List Transfer := []
  /-- What flash holds: per function its key, its stored state and settings (R370). -/
  flash : List (Nat × (Nat × List (Nat × Val))) := []
  /-- The RW values that CONFIG_SAVE stored (R370). -/
  flashRw : List (Nat × Val) := []
  /-- The copies that the stores of the last second replaced, latest first (R370). -/
  stores : List StoreCopy := []
  /-- The Ethernet settings in force, and those before the latest RUN until a session confirms it (R384). -/
  ethInForce : List (Nat × Val) := []
  ethBefore : Option (List (Nat × Val)) := none
  /-- By front-end index the UID with which its lead coefficients are stored, and their LEAD_CAL_STATUS (R135). -/
  leads : List (Nat × (Nat × Nat)) := []
  /-- Whether an ANNOUNCE is due after a SOLICIT (R385). -/
  solicited : Bool := false
  /-- Source, sequence number and base L of the frames of the last 400 ms (R382). -/
  seenFrames : List (Nat × Nat × Nat) := []
  deriving DecidableEq, Repr

/-- A pair of safety inputs as a controller evaluates it (Table 12.1): its state and fault cause, the both-safe memory,
the count c, whether it is demanding (R299), base L of its entry into RUN, its channels in the cycle before. -/
structure PairSt where
  st : Nat := 0
  cause : Nat := 0
  mem : Bool := false
  c : Nat := 0
  last : Nat := 0
  dem : Bool := false
  runL : Nat := 0
  even : Bool := false
  odd : Bool := false
  deriving DecidableEq, Repr

/-- A safety controller, X or Y (R289): its image of the safety inputs, its pairs, the QSF sources that are demanding,
whether the two-hand control is held or may be held again (R301), whether a DOOR demand acts by category 0 after a release,
the strings whose enable it grants, its change log. -/
structure CtlSt where
  si : Nat := 0
  pairs : List PairSt := List.replicate 8 {}
  qdem : List Bool := List.replicate 8 false
  held : Bool := false
  rearmed : Bool := true
  doorNow : Bool := false
  en : Nat := 0
  /-- Its copy of the change log, newest first (R314). -/
  log : List Bytes := []
  deriving DecidableEq, Repr

/-- A QSF connection (R309, R310): the last accepted SEQ, whether it is synchronised, base L of its fault, the producer's
next SEQ, the frames it has sent since RUN, the SAFE_BITS of the latest. -/
structure QsfSt where
  last : Option Nat := none
  synced : Bool := false
  faultL : Nat := 0
  seq : Nat := 0
  sent : Nat := 0
  bits : Nat := 0
  deriving DecidableEq, Repr

/-- A string as the safety controllers see it: whether its category 1 removal is due (R300), SAFE_WELD, OUTPUT_STUCK, the
output and step of a running proof test (R305), whether the last proof test failed, whether none has passed in time (R306). -/
structure SafeStr where
  stop1 : Bool := false
  asked : Bool := false
  weld : Bool := false
  stuck : Bool := false
  proof : Option (Nat × Nat) := none
  failed : Bool := false
  overdue : Bool := false
  deriving DecidableEq, Repr

/-- The safety controllers (chapter "Safety functions"). -/
structure SafetySt where
  /-- The IDP session that holds the safety session (R311). -/
  session : Option ReqSource := none
  /-- The salted hash of the password, once one is set (R312). -/
  pwHash : Option Nat := none
  x : CtlSt := {}
  y : CtlSt := {}
  qsf : List QsfSt := List.replicate 8 {}
  strs : List SafeStr := List.replicate 16 {}
  /-- Whether a SAFE_RESET waits for the next cycle (R299). -/
  remote : Bool := false
  /-- The exchanged items that differed in the cycle before; cycles in a row without an exchange (R291). -/
  diffs : List Nat := []
  lost : Nat := 0
  /-- Failed test pulse frames in a row, by channel (R295). -/
  tpRun : List Nat := List.replicate 16 0
  /-- Readings in a row that show an output on without an enable (R302). -/
  stuckRun : List (Nat × Nat) := []
  /-- Outputs switched off whose SI aux input has not yet shown open (R304); the outputs on and the enables of X and Y in the
  cycle before. -/
  weldTests : List Nat := []
  koBefore : Nat := 0
  enBefore : Nat × Nat := (0, 0)
  /-- The number of the latest change log entry (R314). -/
  logNo : Nat := 0
  /-- What remains of a lock-out in ms (R313). -/
  lockMs : Nat := 0
  /-- Whether a login has just failed (R313). -/
  wrong : Bool := false
  /-- Whether a login has just been refused by the lock-out (R314). -/
  barred : Bool := false
  /-- The cycles that the self-test of a SAFETY_RESTART has run (R292). -/
  selfTest : Option Nat := none
  /-- Whether the controllers of the pair's other module have made these withhold every enable (R429). -/
  yield : Bool := false
  deriving DecidableEq, Repr

/-- The answered frame whose train a head awaits (R72): kind, destination, SEQ, payload. -/
structure Await where
  kind : Nat
  dest : Nat
  seq : Nat
  payload : Bytes
  deriving DecidableEq, Repr

/-- A frame that waits for idle chain time (R72, R100). -/
structure OutFrame where
  kind : Nat
  dest : Nat
  payload : Bytes
  deriving DecidableEq, Repr

/-- What a chain head keeps (chapter "Krytlink chain", "Sweeps and chain faults"). -/
structure HeadSt where
  /-- The sequence number of its next down frame (Table 3.3). -/
  seq : Nat := 0
  /-- The answered frame whose train it awaits (R72). -/
  awaiting : Option Await := none
  /-- The frames that wait for idle chain time, oldest first. -/
  outbox : List OutFrame := []
  /-- Whether a SYNC has gone out whose READ has not: no idle chain time (R100). -/
  busy : Bool := false
  /-- The devices enumerated, in address order (R82). -/
  devs : List FoundDev := []
  /-- Whether its latest READ train was normal (R111); TURN_ADDR and TURN_CAUSE of that train (R87). -/
  normal : Bool := true
  readTurn : Option (Nat × Nat) := none
  /-- The hop and the sweep of a cut located for the first time (R111, R118). -/
  newCut : Option (Nat × Nat) := none
  /-- Consecutive SYNC or HEARTBEAT frames that did not arrive (R89). -/
  misses : Nat := 0
  /-- Whether SYNC_DELAY_B of its chain has been measured (R82, step 9). -/
  delaysB : Bool := false
  /-- Whether a segment head has stopped transmitting until the next mark (R116); whether the partner's has (BRIDGE). -/
  silent : Bool := false
  restored : Bool := false
  /-- Devices beyond the cut of an ordered segment read that has not been carried out (R114). -/
  ordered : Option Nat := none
  /-- Whether a re-addressing ENUM was sent in this sweep (R87). -/
  readdressed : Bool := false
  /-- Base L in ns of its latest READ (R108, R114). -/
  readL : Nat := 0
  deriving DecidableEq, Repr

/-- The registers of a front-end as the module last wrote them (Table 3.14). -/
structure FeRegs where
  delayA : Nat := 0
  delayB : Nat := 0
  channelMask : Nat := 0xFFFF
  ntcMask : Nat := 0xFF
  ovTrip : Nat := 4500
  uvTrip : Nat := 1500
  bleedPwm : Nat := 1376
  toneRole : Nat := 0
  ntcLimit : Nat := 0
  deriving DecidableEq, Repr

/-- The chain heads and the front-ends as the module knows them. -/
structure ChainSt where
  heads : List HeadSt := [{}, {}, {}, {}, {}, {}, {}, {}]
  regs : List (Nat × FeRegs) := []
  /-- Entries whose adopted UID becomes MATCH at the next sweep mark (R86). -/
  accepted : List Nat := []
  /-- Re-addressed front-ends with the sweep from which their blocks are used, once a SYNC has followed (R117). -/
  held : List (Nat × Option Nat) := []
  deriving DecidableEq, Repr

/-- The current input of a string within the sweep (R103, R104). -/
structure StrSweep where
  /-- Charge of the main-path samples since the latest mark, A·s. -/
  acc : Rat := 0
  /-- Whether a main-path sample since the latest mark was overrange; the same for the sweep whose mark is latest. -/
  ovr : Bool := false
  overK : Bool := false
  /-- Whether CI_FAULT stood at some instant of the open window; the same for the window that has closed. -/
  faultSeen : Bool := false
  faultK : Bool := false
  /-- Whether the window values of the latest sweep are invalid: CI_INVALID. -/
  invalid : Bool := false
  /-- The gain correction of the main path, of the window path since the latest mark and of the window that ended there (R236);
  1 for none. -/
  gainMain : Rat := 1
  gainWindow : Rat := 1
  gainPast : Rat := 1
  /-- Main-path samples in a row beyond OC_CHG_LEVEL and beyond OC_DIS_LEVEL (R267). -/
  ocChg : Nat := 0
  ocDis : Nat := 0
  /-- The last valid STRING_VOLTAGE; the string's power in W at the latest sweep tail (R251). -/
  validVolt : Rat := 0
  power : Rat := 0
  /-- The magnitudes of the last 25 main-path samples (R279). -/
  mags : List Rat := []
  deriving DecidableEq, Repr

/-- A running sum of the low-form pilot for a cell or a string (R107): complex sum, and whether every sweep was valid. -/
structure PilotSum where
  re : Rat := 0
  im : Rat := 0
  ok : Bool := true
  deriving DecidableEq, Repr

/-- The sweep in progress (chapter "Sweeps and chain faults"). -/
structure SweepSt where
  strs : List StrSweep := List.replicate 16 {}
  syncs : List SyncRec := []
  /-- The block buffer: the blocks of the sweep as received, with their heads, in order of arrival (R192). -/
  blocks : List (Nat × Bytes) := []
  /-- Front-ends that delivered a fresh block for the sweep (R109). -/
  fresh : List Nat := []
  /-- Whether the latest sweep is WINDOW_UNLOCKED (R51). -/
  unlockedK : Bool := false
  /-- Whether the Abacus deadline of the sweep has passed (R110). -/
  deadline : Bool := false
  /-- Whether the string window values of the sweep are latched (R104). -/
  latched : Bool := false
  /-- Whether the sweep tail of the latest sweep is finished (R27). -/
  tailDone : Bool := true
  /-- Function state objects of the sweep functions that have been RUN since the latest mark: they resume at the next (R28). -/
  resuming : List Nat := []
  /-- The low-form pilot: its sweep number within the set, its sums (R107). -/
  pilotK : Nat := 0
  pilotCells : List (Nat × PilotSum) := []
  pilotStrs : List (Nat × PilotSum) := []
  deriving DecidableEq, Repr

/-- A measurement slot of a cell (Table 7.3): voltages in V, impedances in mΩ, currents in A, bounds in µV, the surface
temperature in °C. -/
structure Meas where
  sweep : Nat
  flags : Nat
  surf : Nat
  vmean : Rat
  za : Rat × Rat
  zb : Rat × Rat
  zp : Option (Rat × Rat)
  /-- |I_P| of the pilot set (Table 6.3). -/
  iP : Rat
  /-- Whether BLEED_CHANGED with BLANKING 0 keeps Z_A and Z_B from being observations (R106). -/
  noZ : Bool
  corrBound : Rat
  eA : Rat
  eB : Rat
  iA : Rat
  iB : Rat
  iWindow : Rat
  tSurf : Option Rat
  deriving DecidableEq, Repr

/-- What a cell record holds beside the cell's dictionary objects (Table 7.2). -/
structure CellRec where
  /-- Whether the record holds an estimate: from a cold prior, a restore or the mirror. -/
  live : Bool := false
  /-- Whether a miscorrected word waits for the next check of RECORD_CRC (R194, R197). -/
  crcBad : Bool := false
  lastMarkL : Nat := 0
  /-- Sweep of the measurement last used (R184): below 0 where a restore carries an EST_AGE beyond the module's own count. -/
  lastSweep : Int := 0
  /-- Base P in ns at the mark of the measurement last used, and whether P_STATE was UNSET then (Table 8.5). -/
  lastMarkP : Nat := 0
  markUnset : Bool := false
  /-- Of a host-restored cell: the bound of z of its checkpoint record in percent (R208), and the bound with which Tc
  is set to the surface temperature at the first fresh block. -/
  restoredBound : Option Rat := none
  tcBound : Option Rat := none
  /-- z, d1, d2, vf, vs, h, Tc. -/
  x : List Rat := [0, 0, 0, 0, 0, 0, 0]
  drift : Rat := 0
  /-- State covariance, row by row. -/
  p : List (List Rat) := []
  /-- C in mAh, ρR, ρct, ρd, Rth, and their covariance. -/
  theta : List Rat := [0, 1, 1, 1, 0]
  pTheta : List (List Rat) := []
  lambda : List (List Rat) := []
  eta : List Rat := [0, 0, 0, 0, 0]
  refCharge : Rat := 0
  refBleed : Rat := 0
  refDrift : Rat := 0
  paramSliceL : Nat := 0
  paramSweep : Nat := 0
  /-- Whether PARAM_AGE is saturated, so that a slice falls due at the next update (R207). -/
  paramDue : Bool := false
  sopSweep : Nat := 0
  /-- The previous anchor: z, its bound, the charge and the drift since (R161); whether COLD_START or REINIT stood since. -/
  anchor : Option (Rat × Rat × Rat × Rat) := none
  anchorBroken : Bool := false
  /-- Consecutive rejections: voltage, Z_A, Z_B, pilot, temperature (R154). -/
  rejects : List Nat := [0, 0, 0, 0, 0]
  /-- Limit current, E and R of each state of power at the pessimistic corner (R166). -/
  corner : List (Rat × Rat × Rat) := []
  /-- Rth × Ph at the posterior (R224). -/
  drop : Rat := 0
  deriving DecidableEq, Repr

/-- A cell: its record with the MIRROR field (R438), its two measurement slots (R191), the values of CORE_TEMP of the last
60 s with their mark times (R232). -/
structure CellSt where
  record : CellRec := {}
  mirror : Bytes := List.replicate 64 0
  even : Option Meas := none
  odd : Option Meas := none
  temps : List (Nat × Rat) := []
  /-- BLEED_CHARGE_TOTAL and the surface temperature before the latest tail (R181). -/
  bleedBefore : Rat := 0
  tempBefore : Option Rat := none
  deriving DecidableEq, Repr

/-- The string values of a sweep as the control area keeps them (R189): cumulative charge and drift allowance in A·s,
window mean and phasors in A; the phasor magnitudes of the latest valid window up to this sweep (R145). -/
structure StrDesc where
  magA : Rat := 0
  magB : Rat := 0
  charge : Rat := 0
  drift : Rat := 0
  iMean : Rat := 0
  iA : Rat × Rat := (0, 0)
  iB : Rat × Rat := (0, 0)
  invalid : Bool := false
  deriving DecidableEq, Repr

/-- The descriptor of a sweep (R189): base L in ns of its mark, T in s, the harmonics and the frequency word of its
SYNC, the string values. -/
structure SweepDesc where
  sweep : Nat
  markL : Nat
  markP : Nat
  pUnset : Bool
  period : Rat
  harmA : Nat
  harmB : Nat
  pilot : Bool
  fw : Nat
  unlocked : Bool
  strs : List StrDesc := []
  deriving DecidableEq, Repr

/-- What the module tracks of a string from sweep to sweep: the cumulative charge and drift allowance, the latest valid
phasor magnitudes, |STRING_I_MEAN| by sweep, newest first, of which those that no later span can have as its largest are
dropped (R157), the anchor timers in s, the
armed anchor, the sweeps without a judgement (R164), the step sweeps of the last 100 (R186). -/
structure StrTrack where
  charge : Rat := 0
  drift : Rat := 0
  iA : Rat := 0
  iB : Rat := 0
  peaks : List (Nat × Rat) := []
  timers : List Rat := [0, 0, 0]
  armed : Option Nat := none
  unjudged : Rat := 0
  steps : List Bool := []
  prevMean : Rat := 0
  /-- Profile and PROFILE_CRC when the estimator function stopped (R152). -/
  stopProfile : Option (Nat × Nat) := none
  deriving DecidableEq, Repr

/-- An update in flight in a rod slot (R180, R181): the cell, whether it is LAGGED, its worst cost, whether slices are
due and forced. -/
structure InFlight where
  cell : Nat
  lagged : Bool
  worst : Nat
  sop : Bool
  par : Bool
  forced : Bool
  priority : Bool
  deriving DecidableEq, Repr

/-- A rod (R174): its updates in flight, the rod-cycles issued and the slices forced in this sweep (R183), consecutive
failures of the known-answer test (R188). -/
structure RodSt where
  slots : List InFlight := []
  used : Nat := 0
  sops : Nat := 0
  pars : Nat := 0
  fails : Nat := 0
  /-- Whether its deal of the sweep was lost (R198). -/
  lost : Bool := false
  deriving DecidableEq, Repr

/-- The Abacus and what belongs to the estimator's deals: the rods, the cells whose block of the sweep is stored in
order of arrival, those started, the priority cells of the sweep, base L of the latch, the relinearisations of the
updates of the sweep, the sweeps of the last 100 with deferred cells, the rods to be fenced at the next mark. -/
structure AbacusSt where
  rods : List RodSt := List.replicate 16 {}
  stored : List Nat := []
  started : List Nat := []
  updated : List Nat := []
  lagged : List Nat := []
  priority : List Nat := []
  latchL : Nat := 0
  relins : List (Nat × Nat) := []
  deferrals : List Bool := []
  fencePending : List Nat := []
  /-- The scrubber's next word, the words it has skipped and returns to, base L in ns at which its pass began (R196). -/
  scrubNext : Nat := 0
  scrubLater : List Nat := []
  scrubStart : Nat := 0
  /-- The invalid-record bitmap in its two copies, as the cells whose bit is set (R189, R197). -/
  bitmap : List Nat := []
  bitmap2 : List Nat := []
  /-- Cells whose measurement slot of the sweep was lost (R198). -/
  lost : List Nat := []
  /-- Whether a throttle change awaits its marks (R187): 1 to 375 MHz, 2 to 500 MHz, 3 the period after it. -/
  clockStep : Nat := 0
  deriving DecidableEq, Repr

/-- A lead calibration of a front-end in progress (R133): string current and window means of the windows of the triple
so far (none where the block was not fresh), the steps Δv of the used triples of each group, whether it is complete,
whether it is abandoned. -/
structure LeadCal where
  windows : List (Option (Rat × List Rat)) := []
  triples : List (List (List Rat)) := [[], [], []]
  done : Bool := false
  lost : Bool := false
  deriving DecidableEq, Repr

/-- A BALANCE that a front-end has acknowledged (R95, R125, R133): base L in ns of the acknowledgement, whether its MODE was
TEST, its FRAMES, its duties. -/
structure BalAck where
  l : Nat
  test : Bool
  frames : Nat
  duties : List Nat
  deriving DecidableEq, Repr

/-- A front-end as balancing sees it: BLEED_SCALE and SAFE of its last block, the BALANCE frames it has acknowledged last,
newest first (R130, R137), its lead calibration. -/
structure FeSt where
  scale : Nat := 0
  safe : Bool := false
  acks : List BalAck := []
  cal : Option LeadCal := none
  /-- VMEAN of its last fresh block in µV, with its sweep. -/
  raw : List Nat := []
  rawK : Nat := 0
  /-- Whether a duty changed to or from 0 by an inhibit since its last BALANCE (R125). -/
  due : Bool := false
  deriving DecidableEq, Repr

/-- A cell-region sensor: consecutive fresh blocks with a raw value of 0x0000 or 0xFFFF (R226), the raw value of its
fresh block of the sweep, its fresh values of the last 60 s with their mark times, latest first (R232); its status, flags
and published value as the latest sweep tail left them (R192). -/
structure SensorSt where
  bad : Nat := 0
  atTail : Option (Nat × Nat × Val) := none
  raw : Option Nat := none
  temps : List (Nat × Rat) := []
  deriving DecidableEq, Repr

/-- An element of a threshold or a protection rule (R229, R231, R269): whether it is RAISED, base L in ns of the first
evaluation of the unbroken span of the condition that would change it, its comparison at the previous evaluation. -/
structure DwellEl where
  raised : Bool := false
  since : Option Nat := none
  prev : Option Bool := none
  deriving DecidableEq, Repr

/-- The elements of the level and rate thresholds, by threshold. -/
structure TempSt where
  lt : List (List (Nat × DwellEl)) := List.replicate 16 []
  rt : List (List (Nat × DwellEl)) := List.replicate 8 []
  deriving DecidableEq, Repr

/-- The estimator, the Abacus, balancing and the sensors of the cell region. -/
structure EstSt where
  cells : List (Nat × CellSt) := []
  descs : List SweepDesc := []
  strs : List StrTrack := List.replicate 16 {}
  abacus : AbacusSt := {}
  fes : List (Nat × FeSt) := []
  sensors : List (Nat × SensorSt) := []
  /-- The first sweep whose window belongs to the running lead calibration (R133). -/
  calStart : Nat := 0
  /-- Whether a front-end of the running lead calibration was abandoned. -/
  calLost : Bool := false
  /-- The latest sweep counted in BAL_AMBIGUOUS_SWEEPS (R137). -/
  ambiguousK : Option Nat := none
  deriving DecidableEq, Repr

/-- A piece of a PUSH transfer (R378). -/
structure PushPiece where
  offset : Nat
  last : Bool
  data : Bytes
  attempts : Nat
  tag : Nat := 0
  deriving DecidableEq, Repr

/-- A checkpoint generation in progress (R211 to R213): its number, whether P_STATE was UNSET, its reason, whether it is
paced, the next segment, the SEG_CRC values so far, the offset of its next piece, the earliest and latest MARK_P. -/
structure Generation where
  number : Nat
  unset : Bool
  reason : Nat
  paced : Bool
  next : Nat := 0
  crcs : List Nat := []
  offset : Nat := 0
  firstMark : Option Nat := none
  lastMark : Option Nat := none
  sealSent : Bool := false
  sent : Nat := 0
  deriving DecidableEq, Repr

/-- Estimator state custody: base L in ns at which the wait began (R204), the host checkpoint held, the partner's offer,
which of them is applied at the next mark, the generation in progress with its unconfirmed pieces, whether another is
due, whether an emergency generation is due at the tail (R216). -/
structure CustodySt where
  waitL : Nat := 0
  host : Option Restore := none
  partner : Option Restore := none
  armed : Option Nat := none
  gen : Option Generation := none
  pieces : List PushPiece := []
  due : Option Nat := none
  emergency : Bool := false
  /-- Whether the module was active as the emergency generation fell due: it sends it, also where a swap has made it STANDBY (R449). -/
  sends : Bool := false
  /-- The module's own cumulative charge of each string in A·s as the partner's offer arrived (R205). -/
  base : List Rat := []
  deriving DecidableEq, Repr

/-- A service frame in a transmit buffer or waiting for one (R345, R351): whether it reports (R355). -/
structure SvcTx where
  frame : CanFrame
  report : Bool
  deriving DecidableEq, Repr

/-- A CAN channel (chapter "CAN FD channels"): its receive FIFOs and event queue, oldest first; the service buffers by
number and the service frames that wait for one; buffers whose cancel came too late for its attempt (R353); the candidate
that detection has applied, its error-free frames, whether it is chosen (R346); whether bus-off recovery has begun. -/
structure CanSt where
  fifo0 : List Bytes := []
  fifo1 : List Bytes := []
  events : List Bytes := []
  svc : List (Nat × SvcTx) := []
  wait : List SvcTx := []
  late : List Nat := []
  candidate : Option Nat := none
  good : Nat := 0
  chosen : Bool := false
  recovering : Bool := false
  /-- Base L in ns of a protocol exception after which the controller waits for bus idle (R340). -/
  waitIdle : Option Nat := none
  /-- The secondary sample point of the latest FD frame sent, in kernel clocks after the bit's start (R343). -/
  ssp : Nat := 0
  deriving DecidableEq, Repr

/-- A pulse input in its gate (R421): base L in ns of the start of the gate, the time stamps of the rising and of the falling edges
that an extended gate has so far. -/
structure PiSt where
  gateL : Nat := 0
  rises : List Nat := []
  falls : List Nat := []
  deriving DecidableEq, Repr

/-- The field side (chapter "Field inputs and outputs"): whether it has power; the pad latches of KO and DO; the pads that
conduct; whether a release is due at the next field cycle (R411); the group paths that have tripped with the ms their
supply has been gone (R504); the up/down counters of the inputs (R413); the readback in use (R417); the filter values of
the analog inputs and their ms in range (R419, R420); the switch-off energies of the last 60 s (R416); base L since an
overloaded DO's command has been low (R418); whether the settings of a RUN act from the next cycle (R422). -/
structure FieldSt where
  powered : Bool := true
  koLatch : Nat := 0
  doLatch : Nat := 0
  koPad : Nat := 0
  doPad : Nat := 0
  release : Bool := false
  tripped : List (Nat × Nat) := []
  counters : List Nat := List.replicate 32 0
  ko : Nat := 0
  aiF : List (Option Rat) := [none, none, none, none]
  aiMs : List Nat := [0, 0, 0, 0]
  clamps : List (Nat × List (Nat × Rat)) := []
  doLow : List (Nat × Nat) := []
  apply : Bool := false
  /-- Whether the field side has latched since the last reset and strings wait for adoption (R412). -/
  adopt : Bool := false
  pis : List PiSt := [{}, {}]
  /-- The currents of the groups in A summed over the 1 ms measurements of the running window of 1 s, and their number (R415). -/
  kgSum : List Rat := []
  kgCount : Nat := 0
  deriving DecidableEq, Repr

/-- A thermal loop (chapter "Thermal loop engine") beside its objects: the lines as driven; law and mode in force; base L of
the change while a hand-over is pending, the held lines and whether they hold a level; base L of the last BAND transition; the pulse slot: ticks left
of pulse and idle, whether it is on OUT_B; the last valid sensed value with base L of its update, whether one arrived since
the last tick, whether the latest did not count; the set-point; string power; writes to MANUAL_OUT since the last tick; the
model and whether it awaits a valid value; base L since the residual exceeds its limit; the output frame last sent: flags,
count, SEQ. -/
structure LoopSt where
  outA : Bool := false
  outB : Bool := false
  law : Nat := 0
  manual : Bool := false
  handover : Option Nat := none
  heldA : Bool := false
  heldB : Bool := false
  heldLevel : Bool := false
  bandL : Nat := 0
  slot : Nat := 0
  slotB : Bool := false
  sensed : Option Rat := none
  senseL : Nat := 0
  updated : Bool := false
  bad : Bool := false
  setpoint : Option Rat := none
  manuals : List Int := []
  model : Rat := 0
  modelInit : Bool := true
  plausL : Option Nat := none
  frameFlags : Nat := 0
  frameCount : Int := 0
  seq : Nat := 0
  deriving DecidableEq, Repr

/-- A string under protection and sequencing (chapter "String protection and contactor sequencing"): the checks raised, by
the bits of PROT_CAUSE with bit 12 for INSULATION_WARN; whether HW_OV and HW_UV were seen in a block of the sweep; its
OPEN_STRING latch; WELD_LOCKOUT; the step of the running sequence; the contactors commanded on in it (bit 0 positive, 1
negative, 2 precharge); power limits set to 0 by an opening, of the string and of the container; the voltage test; voltage
and bus validity; the precharge cooldown and the consecutive failures; readings in a row that differ from the command. -/
structure ProtStr where
  raised : Nat := 0
  hwOv : Bool := false
  hwUv : Bool := false
  openLatch : Bool := false
  lockout : Bool := false
  phase : Nat := 0
  /-- The break wait in force, in ms (R279, R467); none outside one. -/
  breakMs : Option Nat := none
  /-- Base L in ns at which the running step of the sequence began. -/
  stepL : Nat := 0
  touched : Nat := 0
  zero : Bool := false
  czero : Bool := false
  weldEval : Bool := false
  voltValid : Bool := false
  busL : Option Nat := none
  cooldown : Bool := false
  fails : Nat := 0
  outBad : List Nat := [0, 0, 0]
  deriving DecidableEq, Repr

/-- Protection: the strings, the elements of the rules, consecutive insulation messages below ISO_TRIP and ISO_WARN. -/
structure ProtSt where
  strs : List ProtStr := List.replicate 16 {}
  rules : List (List (Nat × DwellEl)) := List.replicate 16 []
  isoLow : Nat := 0
  isoWarnLow : Nat := 0
  deriving DecidableEq, Repr

/-- An OFFER as received (R329, Table 13.3): its seat and priority, its cycle, limits in kW, energies in kWh, eligible. -/
structure Offer where
  seat : Nat
  prio : Nat
  cycle : Nat
  chg : Rat
  dis : Rat
  soe : Rat
  room : Rat
  eligible : Bool
  deriving DecidableEq, Repr

/-- Dispatch and the plant table (chapter "Dispatch and the plant table"): the last fresh command value, the SEQ of the last
command frame, the plant command; the dealt shares before pilot and clamps and the single share under SHARED; the SEQ of
the next set-point frame of each converter; the closed set and the ratios of the last 10 sweeps (R323); the sweeps left of
a pilot grant and base L of its end (R334); P_cal in kW (R335); the string set to 0 for a proof test and whether it was
CLOSED (R336); the offers heard, the priority of the held dealer, missed cycles in a row, better candidates with their
cycles in a row, the cycle and sender of the accepted DEAL, the cycle of the one accepted before it, whether this dealer has stopped dealing
(R330, R331), the shortfalls of the latest deal among strings and, as dealer, among seats (R324). -/
structure DispSt where
  fresh : Val := .int 0
  lastSeq : Option Nat := none
  plant : Val := .int 0
  sops : List (Rat × Rat) := List.replicate 16 (0, 0)
  shares : List Rat := List.replicate 16 0
  single : Rat := 0
  seqs : List Nat := List.replicate 16 0
  closed : List Nat := []
  ratios : List (List Rat) := []
  grant : Nat := 0
  grantEnd : Option Nat := none
  pcal : Rat := 0
  proof : Option (Nat × Bool) := none
  reclose : Option Nat := none
  offers : List Offer := []
  dealerPrio : Nat := 0
  missed : Nat := 0
  better : List (Nat × Nat) := []
  accepted : Option (Nat × Nat × Nat) := none
  acceptedBefore : Option Nat := none
  quiet : Bool := false
  short : Rat := 0
  seatShort : Rat := 0
  deriving DecidableEq, Repr

/-- The control program (chapter "Control program"): instance data, block memory, values written online that wait for the
next scan, base L of the cycle grid, the cycle boundary of the latest scan, values last written to object bindings, the
levels it gives its DOs and which DOs it holds, whether a step is due in HOLD; base L at which an exchange was armed, and
whether writes wait for the first scan after a SNAPSHOT. -/
structure ProgSt where
  data : Bytes := []
  blocks : List (Nat × BlockSt) := []
  online : List (Nat × Bytes) := []
  gridL : Nat := 0
  boundary : Nat := 0
  written : List (Nat × Bytes) := []
  dos : Nat := 0
  mask : Nat := 0
  stepDue : Bool := false
  armedL : Nat := 0
  frozen : Bool := false
  /-- The cycle boundaries passed when the program clock stopped for debug HOLD (R399). -/
  holdK : Nat := 0
  /-- Base L in ns of the end of the latest scan (R448). -/
  endL : Nat := 0
  /-- Whether the program of a new active module awaits the SNAPSHOT of a planned swap (R448). -/
  waits : Bool := false
  deriving DecidableEq, Repr

/-- A cell of the mirror store (R439): sweep, flags, states and drift of the latest fast part, the slow parts received; the
mark of that sweep on base P in ns and the cumulative charge of the cell's string at it in A·s, for the gap charge (R437). -/
structure MirrorCell where
  sweep : Nat := 0
  flags : Nat := 0
  markP : Nat := 0
  charge : Rat := 0
  x : List Rat := []
  drift : Rat := 0
  parts : List (Nat × Bytes) := []
  deriving DecidableEq, Repr

/-- The pair (chapter "Active and standby pair"): whether ROLE_OUT is asserted; whether the die gives its alive signal;
whether the start-up wait of position 2 runs; the last heartbeat with base L of its arrival, misses since; whether a
takeover awaits its authorisation and of which kind (1 takeover, 2 planned, 3 exchange, 4 brown-out); whether a
standby lost the link with ROLE_IN asserted; the due swap with base L of its falling due; the mark announced; whether the
chains have passed to the other module; whether the swap's ROLE_OUT opening is due, and done; whether a SNAPSHOT has
been sent; the mirror store; the last CONTROL and PROGRAM messages; whether a shared write
was refused; whether TP0 to TP3 are driven. -/
structure DuoSt where
  roleOut : Bool := false
  alive : Bool := true
  startWait : Bool := false
  hb : Option Heartbeat := none
  hbL : Nat := 0
  misses : Nat := 0
  takeover : Option Nat := none
  splitWait : Bool := false
  due : Option (Nat × Nat) := none
  swapMark : Option Nat := none
  moved : Bool := false
  opening : Bool := false
  handing : Bool := false
  /-- Whether the controllers have opened ROLE_OUT because the crystal was lost with the partner SYNCED (R457). -/
  ceded : Bool := false
  /-- Whether the due swap waives every condition but SYNCED and starts at the next mark (R449, R468). -/
  waive : Bool := false
  snapSent : Bool := false
  mirror : List (Nat × MirrorCell) := []
  control : Option Control := none
  program : Option (ProgMsg × Nat) := none
  cfgRefused : Bool := false
  tpDriven : Bool := true
  /-- SYNC_BLOCK before the link loss for which `splitWait` runs: 0 for a SYNCED standby (R433, R440). -/
  splitBlock : Nat := 0
  /-- The cycle boundary before which the former active module of a planned swap still scans, in ns of base L (R448 step 6). -/
  lastB : Option Nat := none
  /-- The cells whose entry has arrived since the latest mark; those whose entry of the sweep before the swap mark has not: their
  deals wait for it (R448 step 2). -/
  heard : List Nat := []
  awaits : List Nat := []
  deriving DecidableEq, Repr

/-- The kernel of the ABACUS component as delivered: what its header declares (Table 7.1 for the Qortos kernel), its manifest
entry with the signature (empty for the kernel delivered with the module), the key that verified it: 0 Qortos, 1
integrator (R176). -/
structure KernelSt where
  head : Kernel := ⟨0, [9600, 5200, 14000, 8000], [1]⟩
  entry : Bytes := []
  signer : Nat := 0
  deriving DecidableEq, Repr

/-- A firmware set: the slot of each of components 0 to 4 and CHAIN's, their versions, PAIR_MIN_MAIN of its manifest, its
kernel. -/
structure FwSet where
  slots : List Nat := [0, 0, 0, 0, 0, 0]
  versions : List Nat := [0, 0, 0, 0, 0, 0]
  digests : List Bytes := []
  minMain : Nat := 0
  kernel : KernelSt := {}
  deriving DecidableEq, Repr

/-- A load of front-ends over one chain in idle chain time (R478, R480): the image; the slot to activate when it is done,
none for an update's own load; the addresses that still take frames with the next frame, 0 for DEST 0; the addresses whose
IMAGE_CHECK is outstanding and the sweep in which they were last sent it; failures by address. -/
structure LoadJob where
  image : Bytes
  activate : Option Nat := none
  queue : List (Nat × Nat) := []
  checks : List Nat := []
  round : Option Nat := none
  fails : List (Nat × Nat) := []
  /-- Base L in ns of the end of the latest IMAGE frame (R459). -/
  endL : Nat := 0
  deriving DecidableEq, Repr

/-- The firmware update (chapter "Firmware update"): the running set; the committed and the trial set (on COMMITTED, the set
that the inactive slots last held) of the activation
record with its state (0 COMMITTED, 1 TRIAL, 2 REVERTING) and its trial boots; the pieces of each component in its inactive
slot; the components whose hash runs; the loads by head; the UIDs of the front-ends whose load has ended; the CHAIN copy in
force; the generation demanded by an activation; base L of mark N. -/
structure UpdSt where
  running : FwSet := {}
  committed : FwSet := {}
  trial : FwSet := {}
  record : Nat := 0
  boots : Nat := 0
  pieces : List (Nat × List (Nat × Bytes)) := []
  hashing : List Nat := []
  jobs : List (Nat × LoadJob) := []
  loaded : List Nat := []
  copy : Bytes := []
  demand : Option Nat := none
  actL : Nat := 0
  deriving DecidableEq, Repr

/-- Power (chapter "Power states, start-up and brown-out"): the phase (0 in service, 1 WATCH, 2 DORMANT, 3 TRANSPORT, 4
FAILED_START, 5 start-up, 6 stopped by final stop, 7 without power); the start-up step that runs and base L of step 1;
cause of FAILED_START; whether the crystal is tried at step 3; whether READY is reported; base L of the entry into a lower
state; the request of a handshake with base L of its write; the answers of the blocks (0 asked, 1 ACCEPT, 2 DELAY) and the
generation demanded; WAKE_OUT; whether a brown-out has opened the strings; whether the release of the pads waits for the
program's first scan (R411); what the watch engine holds: reading heads with their device counts, limits (R462). -/
structure PowSt where
  phase : Nat := 0
  step : Nat := 0
  startL : Nat := 0
  cause : Nat := 0
  xtal : Bool := false
  ready : Bool := true
  entryL : Nat := 0
  request : Option (Nat × Nat) := none
  answers : List Nat := [0, 0, 0, 0, 0, 0, 0]
  demand : Option Nat := none
  wakeOut : Bool := false
  /-- Whether P1 and P2 are dropped to 100BASE-TX, and the CAN transceivers in low-power mode, by bit (R460). -/
  slowPorts : Bool := false
  canLow : Nat := 0
  opened : Bool := false
  releaseWait : Bool := false
  /-- Whether the safety controllers and the field side have restarted too, so that they receive their stored states. -/
  fresh : Bool × Bool := (false, false)
  watchHeads : List (Nat × Nat) := []
  /-- The heads that source TONE while the front-ends are in QUIET (R88, R460). -/
  toneHeads : List Nat := []
  limits : Nat × Nat × Nat := (0, 0, 0)
  deriving DecidableEq, Repr

/-- A page of the recorder (R486, Tables 21.2 and 21.3): flags; the CONTAINER_ID it holds; its two histograms as bins with
seconds; sums (throughput of a cell, times of the module); extremes with the base P value and the flag P_UNSET of their
mark; counts of the module page by place; P_BIN of a string page; how far its COMMIT_COUNT lags behind the number of
commits. -/
structure RecPage where
  flags : Nat := 0
  container : Nat := 0
  h1 : List (Nat × Rat) := []
  h2 : List (Nat × Rat) := []
  sums : List (Nat × Rat) := []
  ext : List (Nat × (Rat × Nat × Bool)) := []
  counts : List (Nat × Nat) := []
  pBin : Rat := 25
  lag : Nat := 0
  deriving DecidableEq, Repr

/-- The recorder (chapter "Event recorder"): the working image and the two committed buffers of each page, newer and older,
by page (cells, then 8,192 + string, then 8,208 for the module), pages not listed being zero; the number of commits;
whether a commit is due at the next tail; the settings under which pages accumulate: VBIN_LO, VBIN_HI, STRING_P_BIN; base L
up to which the module's times are counted. -/
structure RecSt where
  work : List (Nat × RecPage) := []
  newer : List (Nat × RecPage) := []
  older : List (Nat × RecPage) := []
  commits : Nat := 0
  due : Bool := false
  bins : Rat × Rat × Rat := (5 / 2, 17 / 4, 25)
  timesL : Nat := 0
  deriving DecidableEq, Repr

/-- The state of the module. -/
structure State where
  asBuilt : AsBuilt := {}
  /-- The dictionary objects that do not stand at their default (R13): keys strictly rising. -/
  store : List (Nat × Val) := []
  /-- Stop-required settings written while their function is STOPPED, which it takes at its next RUN (R28): what the dictionary
  shows of them, by key. `store` holds the settings in force. -/
  staged : List (Nat × Val) := []
  /-- Commands that wait, first in, first out. -/
  pending : List Instr := []
  /-- What the latest command put out. -/
  out : List Output := []
  /-- The sequence number of the next frame over Ethernet in PRP and HSR (R381). -/
  netSeq : Nat := 0
  /-- How many free values have been used. The model's own field: the spec does not name it. -/
  free : Nat := 0
  time : TimeSt := {}
  /-- The exception log, newest first (R497), its next slot and the last RECORD_NO. -/
  exLog : List ExRec := []
  exSlot : Nat := 0
  exNo : Nat := 0
  idp : IdpSt := {}
  safety : SafetySt := {}
  chain : ChainSt := {}
  sweep : SweepSt := {}
  est : EstSt := {}
  custody : CustodySt := {}
  temp : TempSt := {}
  can : List CanSt := [{}, {}]
  field : FieldSt := {}
  loops : List LoopSt := List.replicate 16 {}
  prot : ProtSt := {}
  disp : DispSt := {}
  prog : ProgSt := {}
  duo : DuoSt := {}
  upd : UpdSt := {}
  pow : PowSt := {}
  recorder : RecSt := {}
  deriving DecidableEq, Repr

/-- The function states whose default is RUNNING: until start-up gives each its state, they read STOPPED (Table 19.2). -/
def awaitingKeys : List Nat :=
  [Obj.TIME_STATE, Obj.ANGLE_STATE, Obj.CHAIN_STATE, Obj.SWEEP_STATE, Obj.TEMP_STATE, Obj.BAL_STATE, Obj.EST_STATE,
   Obj.THERMAL_STATE, Obj.PROT_STATE, Obj.DISPATCH_STATE, Obj.TABLE_STATE, Obj.CAN_STATE 0, Obj.CAN_STATE 1, Obj.ETH_STATE,
   Obj.PEER_STATE 0, Obj.FIELD_STATE, Obj.REDUNDANCY_STATE, Obj.POWER_FN_STATE]

/-- The module right after reset: the supply monitors have just released the carrier (Table 19.2, step 1), which is a cold
start; every other object stands at the default of its table, base L at 0, every pad off. -/
def State.reset : State where
  store := (awaitingKeys.map fun k => (k, .int 0)) ++
    [(Obj.WAKE_CAUSE, .int 0x80), (Obj.UPDATE_FN_STATE, .int 0), (Obj.RECORDER_STATE, .int 0)]
  pow := { phase := 5, step := 2, xtal := true, ready := false, fresh := (true, true) }
  field := { powered := false }
  duo := { alive := false, tpDriven := false }
  recorder := { work := [(8208, { counts := [(0, 1)] })] }

end Sys2Proof.Machine
end

