-- ==== Sys2Proof/Machine/Ops.lean ====
section
/-!
DEFINITION. The named operations over the state: association lists in canonical form, the object store with the
defaults of the object tables, the bases as they are read, free values, outputs, the exception log, and the checks
and codes that every family uses.
-/

namespace Sys2Proof.Machine

/-! ### Association lists, keys strictly rising -/

/-- The entry at a key. -/
def amGet? {α : Type} : List (Nat × α) → Nat → Option α
  | [], _ => none
  | (k, v) :: r, key => if k = key then some v else amGet? r key

/-- The entry at a key, `d` where there is none. -/
def amGetD {α : Type} (m : List (Nat × α)) (key : Nat) (d : α) : α := (amGet? m key).getD d

/-- The list without a key. -/
def amErase {α : Type} : List (Nat × α) → Nat → List (Nat × α)
  | [], _ => []
  | (k, v) :: r, key => if k = key then amErase r key else (k, v) :: amErase r key

/-- The list with a value at a key, keys kept strictly rising. -/
def amSet {α : Type} : List (Nat × α) → Nat → α → List (Nat × α)
  | [], key, w => [(key, w)]
  | (k, v) :: r, key, w =>
    if k = key then (key, w) :: r else if key < k then (key, w) :: (k, v) :: r else (k, v) :: amSet r key w

/-- Whether the keys rise strictly and all lie above `lo`. -/
def amSorted {α : Type} : Option Nat → List (Nat × α) → Bool
  | _, [] => true
  | lo, (k, _) :: r => (match lo with | none => true | some l => decide (l < k)) && amSorted (some k) r

/-! ### Object tables -/

/-- The line of the index map that holds an index (R367). -/
def findGroup (idx : Nat) : Option ObjGroup := objGroups.find? fun g => Nat.ble g.first idx && Nat.blt idx (g.first + g.count)

/-- The row of a subindex. -/
def ObjGroup.row? (g : ObjGroup) (sub : Nat) : Option ObjRow := g.rows.find? fun r => Nat.ble r.lo sub && Nat.ble sub r.hi

/-- The row of a key with the line that holds it. -/
def findRow (key : Nat) : Option (ObjGroup × ObjRow) :=
  (findGroup (key / 65536)).bind fun g => (g.row? (key % 65536)).map fun r => (g, r)

/-- The function state object that governs a key; 0 for none (R367). -/
def ObjGroup.fnKey (g : ObjGroup) (idx : Nat) : Nat := g.fn + g.fnStep * (idx - g.first)

/-- Whether the ordering code is IBX-4096-S (R2). -/
def AsBuilt.small (a : AsBuilt) : Bool := a.code == .ibx4096S
/-- Chain heads, strings, contactor outputs, cells, sensors and front-ends of the ordering code (R1, R29). -/
def AsBuilt.heads (a : AsBuilt) : Nat := if a.small then 4 else 8
def AsBuilt.strings (a : AsBuilt) : Nat := if a.small then 8 else 16
def AsBuilt.contactors (a : AsBuilt) : Nat := if a.small then 24 else 48
def AsBuilt.cells (a : AsBuilt) : Nat := if a.small then 4096 else 8192
def AsBuilt.sensors (a : AsBuilt) : Nat := if a.small then 2048 else 4096
def AsBuilt.frontEnds (a : AsBuilt) : Nat := if a.small then 256 else 512

/-- How many instances or elements an index has on the ordering code (R3, R368). -/
def AsBuilt.limit (a : AsBuilt) : Lim → Nat
  | .all => 65536
  | .heads => a.heads
  | .strings => a.strings
  | .contactors => a.contactors
  | .cells => a.cells
  | .sensors => a.sensors
  | .frontEnds => a.frontEnds

/-- The ASCII bytes of a text. -/
def asciiBytes (t : String) : Bytes := t.toList.map fun c => BitVec.ofNat 8 c.toNat

/-- The text of an ordering code (Table 0.1). -/
def OrderCode.text : OrderCode → String
  | .ibx8192S => "IBX-8192-S"
  | .ibx8192M => "IBX-8192-M"
  | .ibx4096S => "IBX-4096-S"

/-- The default of an object table for an instance of an index, on a module as built. -/
def Dflt.value (a : AsBuilt) (inst : Nat) : Dflt → Val
  | .v x => x
  | .zeros n => .bytes (List.replicate n 0)
  | .zerosPerHead n => .bytes (List.replicate (a.heads * n) 0)
  | .peer f r => .int (if inst = 0 then f else r)
  | .listed l r => (l[inst]?).getD r
  | .peerFp => .bytes (if inst = 0 then a.peer0Fp else [])
  | .tpEven => .int (2 * (inst % 2 : Nat))
  | .tpOdd => .int (2 * (inst % 2 : Nat) + 1)
  | .maskAll => .int (if a.small then 0x00FF else 0xFFFF)
  | .orderCode => .bytes (asciiBytes a.code.text)
  | .serial => .int a.serial
  | .hwRevision => .int a.hwRevision
  | .certFp => .bytes a.certFp
  | .macP1 => .int a.macP1
  | .macP2 => .int a.macP2
  | .xtalTable => .bytes a.xtalTable
  | .epoch => .int a.epoch

/-- What an object that the store does not list reads: the default of its table; 0 for a key no table holds. -/
def objDefault (a : AsBuilt) (key : Nat) : Val :=
  match findRow key with
  | some (g, r) => r.dflt.value a (key / 65536 - g.first)
  | none => .int 0

/-! ### Reading and writing objects -/

/-- The value of an object. -/
def State.v (s : State) (key : Nat) : Val :=
  match amGet? s.store key with
  | some v => v
  | none => objDefault s.asBuilt key
/-- The value of an object as a natural number. -/
def State.n (s : State) (key : Nat) : Nat := (s.v key).toNat
/-- The value of an object as an integer. -/
def State.i (s : State) (key : Nat) : Int := (s.v key).toInt
/-- The value of an object as a rational. -/
def State.q (s : State) (key : Nat) : Rat := (s.v key).toRat
/-- The value of a BOOL object. -/
def State.b (s : State) (key : Nat) : Bool := s.n key != 0
/-- The value of a DOMAIN or STRING object. -/
def State.bytes (s : State) (key : Nat) : Bytes := (s.v key).toBytes

/-- The value of an object as the dictionary shows it: a setting that waits for its function's RUN shows what was written
(R28, R363). -/
def State.shown (s : State) (key : Nat) : Val := (amGet? s.staged key).getD (s.v key)

/-- The store with an object at a value: an object at its default is not listed. -/
def storePut (a : AsBuilt) (st : List (Nat × Val)) (key : Nat) (v : Val) : List (Nat × Val) :=
  if v = objDefault a key then amErase st key else amSet st key v

/-- An object takes a value. -/
def State.put (s : State) (key : Nat) (v : Val) : State := { s with store := storePut s.asBuilt s.store key v }
/-- An object takes a natural number. -/
def State.putN (s : State) (key : Nat) (n : Nat) : State := s.put key (.int n)
/-- An object takes an integer. -/
def State.putI (s : State) (key : Nat) (i : Int) : State := s.put key (.int i)
/-- An object takes a rational. -/
def State.putQ (s : State) (key : Nat) (q : Rat) : State := s.put key (.real q)
/-- A BOOL object takes a truth value. -/
def State.putB (s : State) (key : Nat) (b : Bool) : State := s.putN key (b2n b)
/-- A DOMAIN or STRING object takes bytes. -/
def State.putBytes (s : State) (key : Nat) (b : Bytes) : State := s.put key (.bytes b)

/-- The canonical form of the store: keys strictly rising, no entry at the default of its object. -/
def storeWf (a : AsBuilt) (st : List (Nat × Val)) : Bool :=
  amSorted none st && st.all fun kv => kv.2 != objDefault a kv.1

/-- A fresh rational the spec does not state, and the state with its use counted. -/
def State.freshQ (s : State) : Rat × State := (Config.freeRat s.free, { s with free := s.free + 1 })
/-- A fresh natural number the spec does not state, and the state with its use counted. -/
def State.freshN (s : State) : Nat × State := (Config.freeNat s.free, { s with free := s.free + 1 })

/-- A counter of `bits` bits counts one more. What it reads after its largest value the spec does not say: a free
value. -/
def State.incW (s : State) (bits key : Nat) : State :=
  if s.n key + 1 < 2 ^ bits then s.putN key (s.n key + 1) else
    { s.putN key (Config.freeNat s.free % 2 ^ bits) with free := s.free + 1 }
/-- A U32 counter counts one more. -/
def State.inc (s : State) (key : Nat) : State := s.incW 32 key
/-- A U32 counter counts `k` more. -/
def State.incBy (s : State) (key k : Nat) : State :=
  if s.n key + k < 2 ^ 32 then s.putN key (s.n key + k) else
    { s.putN key (Config.freeNat s.free % 2 ^ 32) with free := s.free + 1 }

/-- Whether a function is RUNNING (R362). -/
def State.running (s : State) (fnKey : Nat) : Bool := s.n fnKey == 1

/-- Whether a sweep function acts in this sweep (R28): RUNNING, and resumed at a mark since its RUN. -/
def State.sweeping (s : State) (fnKey : Nat) : Bool := s.running fnKey && !s.sweep.resuming.contains fnKey

/-- A RUN or STOP of one of the sweep functions estimator, balancing and temperature (R28): after a RUN it resumes at the
next sweep mark. -/
def resumeAtMark (fnKey : Nat) (run : Bool) (s : State) : State :=
  if fnKey = Obj.EST_STATE ∨ fnKey = Obj.BAL_STATE ∨ fnKey = Obj.TEMP_STATE then
    let l := s.sweep.resuming.filter fun k => k != fnKey
    { s with sweep := { s.sweep with resuming := if run then fnKey :: l else l } }
  else s

/-- Whether an output leaves over Ethernet, in PRP and HSR under a sequence number of its own (R381). -/
def Output.overNet : Output → Bool
  | .udp _ _ _ | .response (.udp _) _ | .push _ | .connect _ _ | .supervision _ => true
  | _ => false

/-- What the latest command put out has left. -/
def State.cleared (s : State) : State :=
  { s with out := [], netSeq := (s.netSeq + (s.out.filter Output.overNet).length) % 65536 }

/-- The module puts out a message. -/
def State.emit (s : State) (o : Output) : State := { s with out := s.out ++ [o] }

/-! ### Repetition -/

/-- `f 0`, then `f 1`, up to `f (n - 1)`, each on the state the one before leaves. -/
def State.each (n : Nat) (f : Nat → State → State) (s : State) : State := (List.range n).foldl (fun t i => f i t) s

/-- `f` on each member of a list in turn. -/
def State.forAll {α : Type} (l : List α) (f : α → State → State) (s : State) : State := l.foldl (fun t a => f a t) s

/-- The state `f s` where the condition holds, `s` where it does not. -/
def State.when (s : State) (c : Bool) (f : State → State) : State := if c then f s else s

/-- A member of a list by number, `d` beyond its end. -/
def nth {α : Type} (l : List α) (i : Nat) (d : α) : α := l.getD i d

/-! ### Time as it is read -/

/-- Base L in ns (R32). -/
def State.lNow (s : State) : Nat := s.time.l * 10

/-- P_STATE codes (Table 2.5). -/
def pUnset : Nat := 0
def pAcquiring : Nat := 1
def pLocked : Nat := 2
def pHoldover : Nat := 3

/-- Whether P_STATE is UNSET: the flag P_UNSET of a stamp (R34). -/
def State.pUnsetFlag (s : State) : Bool := s.n Obj.P_STATE == pUnset

/-- Base P in ns at its resolution of 10 ns; while UNSET it reads base L (R32, R34). -/
def State.pNow (s : State) : Nat :=
  if s.pUnsetFlag then s.lNow else (s.time.p / 1000000000).toNat * 10

/-- How base P in 10⁻⁸ ns, and the phase of base M, stood `back` ticks before a point. -/
def BasePoint.pBack (x : BasePoint) (back : Nat) : Int := x.p - back * (1000000000 + x.rate)
def BasePoint.phaseBack (x : BasePoint) (back : Nat) : Nat := twos 48 ((x.phase : Int) - back * x.fw)

/-- The bases as they stand. -/
def State.basesNow (s : State) : BasePoint :=
  { l := s.time.l, p := s.time.p, rate := s.i Obj.PTP_RATE, unset := s.pUnsetFlag, phase := s.time.phase, fw := s.n Obj.M_FREQ_WORD }

/-- A rate, a frequency word or base P is about to change: the bases as they stand are kept, the latest 64. -/
def State.noteBases (s : State) : State := { s with time := { s.time with past := (s.basesNow :: s.time.past).take 64 } }

/-- The point from which the bases at tick `l` follow: the earliest change after it, else the bases as they stand. -/
def State.pointAfter (s : State) (l : Nat) : BasePoint :=
  ((s.time.past.takeWhile fun x => Nat.blt l x.l).getLast?).getD s.basesNow

/-- The stamp on base P of an event at base L `ns` (R39): the value of base P at its tick, and P_UNSET. -/
def State.stampP (s : State) (ns : Nat) : Nat × Bool :=
  let x := s.pointAfter (ns / 10)
  (if x.unset then ns / 10 * 10 else (x.pBack (x.l - ns / 10) / 1000000000).toNat * 10, x.unset)

/-- The angle of base M: the upper 32 bits of the phase (R42). -/
def State.angle (s : State) : Nat := s.time.phase / 65536

/-! ### Codes for checking -/

/-- One bit of a reflected CRC with polynomial `poly`. -/
def crcBit (poly c : Nat) : Nat := if c % 2 = 1 then (c / 2) ^^^ poly else c / 2

/-- One byte of a reflected CRC. -/
def crcByte (poly c : Nat) (b : Byte) : Nat :=
  crcBit poly (crcBit poly (crcBit poly (crcBit poly (crcBit poly (crcBit poly (crcBit poly (crcBit poly (c ^^^ b.toNat))))))))

/-- CRC-32C of a byte string: the Castagnoli polynomial, reflected, initial value and final XOR 0xFFFF_FFFF. -/
def crc32c (b : Bytes) : Nat := (b.foldl (crcByte 0x82F63B78) 0xFFFFFFFF) ^^^ 0xFFFFFFFF

/-! ### Exception log (R497) -/

/-- An argument of an exception record: a real value as its F32 bits, a wider integer by its low 32 bits. -/
def exArg : Val → Nat
  | .int i => twos 32 i
  | .bytes _ => 0
  | x => encodeFloat 8 23 x

/-- The flag P_UNSET in a bit place. -/
def State.flagP (s : State) (bit : Nat) : Nat := if s.pUnsetFlag then 2 ^ bit else 0

/-- An entry in the exception log: merged with the newest record when every field of identity agrees, else a new
record in the next slot; the oldest is overwritten when the ring is full (R497). -/
def State.logEx (s : State) (code source subject : Nat) (a0 a1 a2 : Val) : State :=
  let x0 := exArg a0
  let x1 := exArg a1
  let x2 := exArg a2
  let fresh : State :=
    let r : ExRec := { no := (s.exNo + 1) % 2 ^ 32, code, source, subject, flags := s.flagP 0 + s.flagP 1, rep := 0,
                       first := s.pNow, last := s.pNow, arg0 := x0, arg1 := x1, arg2 := x2 }
    let full := decide (65536 ≤ s.exLog.length)
    let t : State := { s with exLog := r :: s.exLog.take 65535, exSlot := (s.exSlot + 1) % 65536, exNo := (s.exNo + 1) % 2 ^ 32 }
    let t := (t.putN Obj.LOG_NEWEST s.exSlot).putN Obj.LOG_COUNT t.exLog.length
    if full then t.inc Obj.EXCEPTIONS_OVERWRITTEN else t
  match s.exLog with
  | r :: rest =>
    if r.code = code ∧ r.source = source ∧ r.subject = subject ∧ r.arg0 = x0 ∧ r.arg1 = x1 ∧ r.arg2 = x2 then
      { s with exLog := { r with rep := min (r.rep + 1) 0xFFFFFFFF, last := s.pNow,
                                 flags := r.flags % 2 + s.flagP 1 } :: rest }
    else fresh
  | [] => fresh

/-- No subject (Table 21.4). -/
def noSubject : Nat := 0xFFFF

/-- An entry whose arguments are natural numbers. -/
def State.logN (s : State) (code source subject a0 a1 : Nat) : State :=
  s.logEx code source subject (.int a0) (.int a1) (.int 0)

/-! ### Settings (R28, R370) -/

/-- The function state object that governs a key; 0 for none. -/
def fnOf (key : Nat) : Nat := ((findGroup (key / 65536)).map fun g => g.fnKey (key / 65536)).getD 0

/-- A setting is written while its function is STOPPED: the function takes it at its next RUN. -/
def stage (key : Nat) (v : Val) (s : State) : State :=
  { s with staged := if v = s.v key then amErase s.staged key else amSet s.staged key v }

/-- The waiting settings that a condition picks are taken. -/
def adoptIf (p : Nat → Bool) (s : State) : State :=
  let t := s.forAll (s.staged.filter fun kv => p kv.1) fun kv s => s.put kv.1 kv.2
  { t with staged := s.staged.filter fun kv => !p kv.1 }

/-- A function takes the settings that wait for it. -/
def adoptStaged (fn : Nat) (s : State) : State := adoptIf (fun k => fnOf k == fn) s

/-- Whether the core domain is on (R453). -/
def State.coreOn (s : State) : Bool := s.pow.phase == 0 || s.pow.phase == 5
/-- Whether the carrier has power. -/
def State.carrierOn (s : State) : Bool := s.pow.phase != 3 && s.pow.phase != 7
/-- Whether the module sleeps in WATCH or DORMANT. -/
def State.sleeps (s : State) : Bool := s.pow.phase == 1 || s.pow.phase == 2

/-- The functions of the sweep whose RUN acts from the next sweep mark on (R28). -/
def sweepFns : List Nat := [Obj.EST_STATE, Obj.BAL_STATE, Obj.TEMP_STATE]

/-- The settings that a RUN in mid-sweep has taken wait for the mark: until then those before it, in `s`, are in force. -/
def withholdSettings (fn : Nat) (s t : State) : State :=
  let l := s.staged.filter fun kv => fnOf kv.1 == fn
  l.foldl (fun t kv => stage kv.1 kv.2 (t.put kv.1 (s.v kv.1))) t

/-- The functions brought to RUNNING since the last mark take their settings (R28). -/
def adoptResuming (s : State) : State := s.forAll s.sweep.resuming adoptStaged

/-- The store as the dictionary shows it. -/
def State.shownStore (s : State) : List (Nat × Val) := s.staged.foldl (fun l kv => storePut s.asBuilt l kv.1 kv.2) s.store

/-- The RWS and SAFE objects of a function that do not stand at their defaults. -/
def fnSettings (s : State) (fn : Nat) : List (Nat × Val) :=
  s.store.filter fun kv =>
    match findRow kv.1 with
    | some (g, r) => (r.access == .rws || r.access == .safe) && kv.1 != Obj.SAFETY_STATE && g.fnKey (kv.1 / 65536) == fn
    | none => false

/-- The store without the RWS and SAFE objects of a function: they stand at their defaults. -/
def dropSettings (fn : Nat) (s : State) : State := s.forAll (fnSettings s fn) fun kv s => s.put kv.1 (objDefault s.asBuilt kv.1)

/-- The outputs of a string (R20): positive, negative, precharge. -/
def koPos (n : Nat) : Nat := 3 * n
def koNeg (n : Nat) : Nat := 3 * n + 1
def koPre (n : Nat) : Nat := 3 * n + 2

/-- The sequencer commands an output on or off. -/
def setKo (m : Nat) (b : Bool) (s : State) : State := s.putN Obj.KO_COMMAND (withBit (s.n Obj.KO_COMMAND) m b)
/-- The sequencer's commands of all three outputs of a string are removed. -/
def koOff (n : Nat) (s : State) : State := setKo (koPos n) false (setKo (koNeg n) false (setKo (koPre n) false s))

/-- A proof test of a string ends aborted, its outputs off (R305). -/
def abortProof (n : Nat) (s : State) : State :=
  if (nth s.safety.strs n {}).proof.isNone then s else
  let s : State := { s with safety := { s.safety with strs := s.safety.strs.set n { nth s.safety.strs n {} with proof := none } } }
  (koOff n s).putN (Obj.PROOF_STATE n) 4

/-- A function's settings are those of a list; none waits. -/
def loadSettings (fn : Nat) (l : List (Nat × Val)) (s : State) : State :=
  (dropSettings fn { s with staged := s.staged.filter fun kv => fnOf kv.1 != fn }).forAll l fun kv s => s.put kv.1 kv.2

/-- What the store holds has changed: CONFIG_SAVED_TIME is stamped; CONFIG_CRC is a checksum over a stored form the spec
does not lay out. -/
def stampStore (s : State) : State :=
  let (n, s) := s.freshN
  (s.putN Obj.CONFIG_SAVED_TIME s.pNow).putN Obj.CONFIG_CRC (n % 2 ^ 32)

/-- A function's RWS and SAFE values are stored with its state (R370). -/
def storeFn (fn : Nat) (s : State) : State :=
  let old : List StoreCopy := ⟨s.lNow, s.idp.flash⟩ :: s.idp.stores.filter fun x => Nat.blt s.lNow (x.l + 1000000000)
  stampStore ({ s with idp := { s.idp with
    flash := amSet s.idp.flash fn (s.n fn, fnSettings (adoptStaged fn s) fn)
    stores := old } })

/-- The supply fails (R370): a store of the last second may not have been completed; then the copy from before it stands. Which
stands is free. -/
def cutStore (s : State) : State :=
  let l := s.idp.stores.filter fun x => Nat.blt s.lNow (x.l + 1000000000)
  if l.isEmpty then s else
  let (n, s) := s.freshN
  match l[n % (l.length + 1)]? with
  | some x => { s with idp := { s.idp with flash := x.flash, stores := [] } }
  | none => { s with idp := { s.idp with stores := [] } }

/-- One setting of a function is stored beside what the store holds for the function (R86, R135). -/
def flashOne (fn key : Nat) (s : State) : State :=
  let (st, l) := (amGet? s.idp.flash fn).getD ((objDefault s.asBuilt fn).toNat, [])
  stampStore { s with idp := { s.idp with flash := amSet s.idp.flash fn (st, storePut s.asBuilt l key (s.v key)) } }

end Sys2Proof.Machine
end

