-- ==== Sys2Proof/Machine/Request.lean ====
section
/-!
DEFINITION. Dictionary requests (R360 to R380): the order of the request checks (Table 15.4), the aborts (Table
15.7), roles, ranges, the response with its TAG, and the one operation `State.request` through which every command
that is a request goes.
-/

namespace Sys2Proof.Machine

/-- A refusal of a request: its abort code, the key of the object it names, 0 for none (R371), and the objects that the
refusal itself sets, by key. -/
structure Abort where
  code : Nat
  named : Nat
  notes : List (Nat × Nat)
  /-- Entries in the exception log that the refusal itself makes: code, source, subject, arguments. -/
  logs : List (Nat × Nat × Nat × Nat × Nat) := []
  /-- Whether the refusal ends the session's own transfer of the object (R375). -/
  ends : Bool := false
  /-- The string whose proof test the refused command aborts (R305). -/
  endsProof : Option Nat := none
  deriving DecidableEq, Repr

/-- A refusal that sets no object. -/
def Abort.of (code named : Nat) : Abort := { code, named, notes := [] }

/-! Abort codes (Table 15.7). -/
def aNoObject : Nat := 0x08010001
def aNoSubindex : Nat := 0x08010002
def aReadOnly : Nat := 0x08010003
def aWriteOnly : Nat := 0x08010004
def aLength : Nat := 0x08010005
def aRange : Nat := 0x08010006
def aRole : Nat := 0x08010007
def aNoSafetySession : Nat := 0x08010008
def aPasswordWrong : Nat := 0x08010009
def aPasswordLocked : Nat := 0x0801000A
def aStateConflict : Nat := 0x0801000B
def aBusy : Nat := 0x0801000C
def aSequence : Nat := 0x0801000D
def aNotActive : Nat := 0x0801000E
def aTransport : Nat := 0x0801000F
def aUnknownOp : Nat := 0x08010010
def aStopRequired : Nat := 0x08010022
def aConsistency : Nat := 0x08010023
def aInternal : Nat := 0x080100FF

/-- A refusal with CONSISTENCY naming an object. -/
def inconsistent (key : Nat) : Abort := (Abort.of aConsistency key)
/-- A refusal with STATE_CONFLICT naming an object. -/
def conflict (key : Nat) : Abort := (Abort.of aStateConflict key)

/-- The operations of Table 15.9 with what their header carries. -/
inductive Op where
  | read
  | write
  | readRange (count : Nat)
  | domainRead (offset length : Nat)
  | domainWrite (offset : Nat) (last : Bool)
  | push
  | keepalive
  /-- A code of no operation. -/
  | other (code : Nat)
  deriving DecidableEq, Repr

/-- The code of an operation (Table 15.9). -/
def Op.code : Op → Nat
  | .read => 1
  | .write => 2
  | .readRange _ => 3
  | .domainRead _ _ => 4
  | .domainWrite _ _ => 5
  | .push => 6
  | .keepalive => 7
  | .other c => c % 128

/-- The OFFSET and the COUNT of an operation's header, which its response repeats (Table 15.8). -/
def Op.offset : Op → Nat
  | .domainRead o _ => o
  | .domainWrite o _ => o
  | _ => 0
def Op.count : Op → Nat
  | .readRange n => n
  | _ => 0

/-- Whether an operation writes. -/
def Op.writes : Op → Bool
  | .write | .domainWrite _ _ => true
  | _ => false

/-- Whether an operation reads an object. -/
def Op.reads : Op → Bool
  | .read | .readRange _ | .domainRead _ _ => true
  | _ => false

/-- An Ethernet setting in force (R384): as the latest RUN of the function took it, the default before any. -/
def State.ethV (s : State) (key : Nat) : Val := (amGet? s.idp.ethInForce key).getD (objDefault s.asBuilt key)
/-- The same as a natural number. -/
def State.ethN (s : State) (key : Nat) : Nat := (s.ethV key).toNat

/-- The symbols of the program image, which bound the program arrays (R407). -/
def State.symbolCount (s : State) : Nat :=
  let b := s.bytes Obj.PROGRAM_IMAGE
  if b.length < 64 then 0 else fieldU b 34 2

/-- The session of a source, if one is open; the control program acts as an operator of the module's own. -/
def State.session? (s : State) : ReqSource → Option Session
  | .udp p => s.idp.sessions.find? fun x => x.peer == p
  | .can => if s.ethN Obj.IDP_CAN_ENABLE = 1 then some { s.idp.can with role := s.ethN Obj.IDP_CAN_ROLE } else none
  | .program => some { peer := 17, role := 1 }

/-- Whether a subindex exists on the ordering code (R3, R368). -/
def ObjGroup.exists? (g : ObjGroup) (a : AsBuilt) (idx sub : Nat) : Bool :=
  (g.row? sub).isSome &&
  (match g.lim with
   | .all => true
   | .heads => Nat.blt (idx - g.first) a.heads
   | l => Nat.blt sub (a.limit l))

/-- Whether an index belongs to the index map (Table 15.5), the ranges that chapters fill among them. -/
def indexMapped (idx : Nat) : Bool :=
  (findGroup idx).isSome || (Nat.ble 0x2A00 idx && Nat.blt idx 0x3000)

/-- Whether a row is a function state object. -/
def ObjRow.isFn (r : ObjRow) (g : ObjGroup) (idx sub : Nat) : Bool := r.access != .ro && g.fnKey idx == objKey idx sub

/-- The role a write needs (R364): 1 operator, 2 engineer, 3 safety. -/
def ObjRow.needs (r : ObjRow) (g : ObjGroup) (idx sub : Nat) : Nat :=
  match r.role with
  | .operator => 1
  | .engineer => 2
  | .safety => 3
  | .dflt =>
    match r.access with
    | .safe => 3
    | .rws => 2
    | _ => if r.isFn g idx sub then 2 else 1

/-- Whether a role may make a write that needs a role (Table 15.3). -/
def roleAllows (role need : Nat) : Bool :=
  match need with
  | 1 => role == 1 || role == 2
  | 2 => role == 2
  | _ => role == 3

/-- Whether a value lies in a list of integer spans. -/
def inSpans (l : List (Int × Int)) (i : Int) : Bool := l.any fun p => decide (p.1 ≤ i ∧ i ≤ p.2)
/-- Whether a length lies in a list of spans. -/
def inLens (l : List (Nat × Nat)) (n : Nat) : Bool := l.any fun p => Nat.ble p.1 n && Nat.ble n p.2

/-- The coding of a CAN identifier object (R518). -/
def canIdOk (n : Nat) : Bool :=
  if bitOf n 31 then decide (n % 2 ^ 31 < 2 ^ 29) else decide (n < 2 ^ 11)

/-- Whether a byte string is printable ASCII (Table 15.1). -/
def printable (b : Bytes) : Bool := b.all fun c => Nat.ble 0x20 c.toNat && Nat.ble c.toNat 0x7E

/-- Row 8 of Table 15.4 for a value of a type: the length matches the type, or is one R517 permits. -/
def lengthOk (a : AsBuilt) (ty : Ty) (rg : Range) (n : Nat) : Bool :=
  match ty.size with
  | some k => n == k
  | none =>
    match rg with
    | .lens l => inLens l n
    | .lensTimes u lo hi => n % u == 0 && Nat.ble lo (n / u) && Nat.ble (n / u) hi
    | .lensByCode full small => n == 0 || n == (if a.small then small else full)
    | .upToByCode full small => Nat.ble n (if a.small then small else full)
    | _ => if ty = .string then Nat.ble n 255 else true

/-- Row 9 of Table 15.4: the value lies within the object's range (R361, R362, R518). -/
def rangeOk (a : AsBuilt) (ty : Ty) (rg : Range) (v : Val) : Bool :=
  v != .nan &&
  (match rg with
   | .any => if ty = .string then printable v.toBytes else true
   | .spans l => inSpans l v.toInt
   | .rspans l => (match v.toRat? with
     | some q => l.any fun p => decide (p.1 ≤ q ∧ q ≤ p.2)
     | none => false)
   | .atLeast q => (match v with
     | .inf neg => !neg
     | x => decide (q ≤ x.toRat))
   | .bits m => v.toNat &&& m == v.toNat
   | .canId => canIdOk v.toNat
   | .strs more => decide (v.toInt < a.strings) || more.contains v.toInt
   | .fes more => decide (v.toInt < a.frontEnds) || more.contains v.toInt
   | .sensors => decide (v.toInt < a.sensors)
   | .heads => decide (v.toInt < a.heads)
   | .chars l => inLens l v.toBytes.length && printable v.toBytes
   | _ => true)

/-- Indices of the objects that the pair does not share (R435). -/
def unsharedIndex (idx : Nat) : Bool :=
  idx == 0x1000 || (Nat.ble 0x2900 idx && Nat.ble idx 0x291F) || idx == 0x2C00 || Nat.ble 0x2E00 idx && Nat.blt idx 0x2F00

/-- The shared configuration of a pair (R435): every RWS, RW and function state object but for the named ones
and for PROG_DEBUG, since debug state is not sent (R405; DEDUCED, log entry 186). -/
def ObjRow.shared (r : ObjRow) (idx : Nat) : Bool :=
  (r.access == .rws || r.access == .rw) && !unsharedIndex idx && r.name != "PROGRAM_STAGED" && r.name != "PROG_DEBUG"

/-- Row 12 of Table 15.4: the writes a STANDBY module refuses (R436). -/
def ObjRow.activeOnly (r : ObjRow) (idx : Nat) : Bool :=
  r.shared idx || r.name == "PROG_DEBUG" || (r.access == .wo && idx != 0x2C00 && !(Nat.ble 0x2E00 idx && Nat.blt idx 0x2F00))

/-- Row 1 of Table 15.4: VERSION and OP are known, the reserved fields are 0 (R372). -/
def pduKnown (r : Req) : Bool := r.version == 1 && r.op.isNone && r.reserved == 0

/-- The role that a write of its data needs (R364): POWER_REQUEST 3 needs the engineer role (Table 19.7). -/
def writeNeeds (r : Req) (row : ObjRow) (g : ObjGroup) (idx sub : Nat) : Nat :=
  if objKey idx sub = Obj.POWER_REQUEST ∧ r.data = [3] then 2 else row.needs g idx sub

/-- Rows 1 to 7 of Table 15.4. -/
def State.checkAccess (s : State) (r : Req) (ses : Session) (op : Op) (idx sub : Nat) : Option Abort :=
  if !pduKnown r then some (Abort.of aUnknownOp 0) else
  if op = .keepalive then none else
  if !indexMapped idx then some (Abort.of aNoObject 0) else
  match findGroup idx with
  | none => some (Abort.of aNoSubindex 0)
  | some g =>
    if !g.exists? s.asBuilt idx sub || ((idx == 0x2A10 || idx == 0x2A12) && Nat.ble s.symbolCount sub) then some (Abort.of aNoSubindex 0) else
    match g.row? sub with
    | none => some (Abort.of aNoSubindex 0)
    | some row =>
      if op = .push then some (Abort.of aTransport 0)
      else if r.src = .can ∧ (objKey idx sub = Obj.SAFETY_LOGIN ∨ (op.writes ∧ row.access ≠ .ro ∧ writeNeeds r row g idx sub ≠ 1)) then
        some (Abort.of aTransport 0)
      else if op.writes ∧ row.access = .ro then some (Abort.of aReadOnly 0)
      else if op.reads ∧ (row.access = .wo ∨ objKey idx sub = Obj.SAFETY_PASSWORD_NEW ∨ objKey idx sub = Obj.SAFETY_RESTART) then
        some (Abort.of aWriteOnly 0)
      else if op.writes ∧ !roleAllows ses.role (writeNeeds r row g idx sub) then some (Abort.of aRole 0)
      else if op.writes ∧ row.access = .safe ∧ s.safety.session ≠ some r.src ∧
          !(objKey idx sub = Obj.SAFETY_PASSWORD_NEW ∧ s.safety.pwHash = none) then some (Abort.of aNoSafetySession 0)
      else none

/-- Row 8 of Table 15.4, its part on the operation: it suits the object's type (R373). -/
def Op.suits (op : Op) (ty : Ty) : Bool :=
  match op with
  | .read | .write => ty != .domain
  | .readRange _ => ty.isScalar
  | .domainRead _ _ | .domainWrite _ _ => ty == .domain
  | _ => true

/-- Row 9 where the range depends on another setting: MK_PERIOD of a mark output on base M (Table 2.6). -/
def State.rangeBySetting (s : State) (key : Nat) (v : Val) : Bool :=
  match (List.range 4).find? fun n => key == Obj.MK_PERIOD n with
  | some n => (s.shown (Obj.MK_BASE n)).toNat != 2 || (Nat.ble 1 v.toNat && Nat.ble v.toNat (2 ^ 32))
  | none => true

/-- Rows 8 to 12 of Table 15.4 for the whole value of a write. -/
def State.checkValue (s : State) (r : Req) (g : ObjGroup) (row : ObjRow) (idx sub : Nat) (data : Bytes) : Option Abort :=
  let key := objKey idx sub
  let fnKey := g.fnKey idx
  if !lengthOk s.asBuilt row.ty row.range data.length then some (Abort.of aLength 0)
  else if !rangeOk s.asBuilt row.ty row.range (row.ty.decode data) || !s.rangeBySetting key (row.ty.decode data) then some (Abort.of aRange 0)
  else if s.idp.transfers.any (fun t => t.key == key && t.src != r.src) then some (Abort.of aBusy 0)
  else if (row.access = .rws ∨ row.access = .safe) ∧ key ≠ Obj.SAFETY_STATE ∧ key ≠ Obj.SAFETY_RESTART ∧ fnKey ≠ 0 ∧ s.n fnKey ≠ 0 then
    some (Abort.of aStopRequired 0)
  else if s.n Obj.PAIR_ROLE = 2 ∧ row.activeOnly idx ∧ !(key = Obj.POWER_RESTART ∧ s.n Obj.START_STATE = 1) then
    some { Abort.of aNotActive 0 with
      notes := if idx = 0x6050 ∧ (row.ty.decode data).toNat = 1 then [(Obj.CLOSE_REFUSAL sub, 9)] else [] }
  else none

/-- The data of an abort response: index and subindex of the named object for CONSISTENCY and STATE_CONFLICT (R371). -/
def Abort.data (a : Abort) : Bytes :=
  if a.code = aConsistency ∨ a.code = aStateConflict then leBytes 2 (a.named / 65536) ++ leBytes 2 (a.named % 65536) else []

/-- A session keeps a response among those to its last 32 TAG values (R374). -/
def Session.keep (x : Session) (k : Response) : Session := { x with kept := (k :: x.kept).take 32 }

/-- The state with the session of a source replaced. -/
def State.putSession (s : State) (src : ReqSource) (f : Session → Session) : State :=
  match src with
  | .udp p => { s with idp := { s.idp with sessions := s.idp.sessions.map fun x => if x.peer = p then f x else x } }
  | .can => { s with idp := { s.idp with can := f s.idp.can } }
  | .program => s

/-- A response leaves and is kept; an abort is recorded in ABORT_LAST and ABORTS_ISSUED (R371, R374). -/
def State.answer (s : State) (r : Req) (op : Op) (idx sub : Nat) (abort : Nat) (last : Bool) (data : Bytes) : State :=
  let s := if abort = 0 then s else (s.putN Obj.ABORT_LAST abort).inc Obj.ABORTS_ISSUED
  let k : Response := { tag := r.tag, op := (r.op.map (· % 128)).getD op.code, index := idx, sub, abort, offset := op.offset, count := op.count, last, data }
  (s.putSession r.src fun x => x.keep k).emit (.response r.src k)

/-- A session's transfer of an object is at its end (R375). -/
def closeTransfer (src : ReqSource) (key : Nat) (s : State) : State :=
  { s with idp := { s.idp with transfers := s.idp.transfers.filter fun t => t.key != key || t.src != src } }

/-- A proof test that a refused command aborts (R305). -/
def endProof (n : Option Nat) (s : State) : State :=
  match n with
  | some n => abortProof n s
  | none => s

/-- What a refusal of a login leaves for the settling of the command to count and log (R313, R314). -/
def noteLogin (code : Nat) (s : State) : State :=
  if code = aPasswordWrong then { s with safety := { s.safety with wrong := true } }
  else if code = aPasswordLocked then { s with safety := { s.safety with barred := true } }
  else s

/-- The state that answers a request with an abort. -/
def State.answerAbort (s : State) (r : Req) (op : Op) (idx sub : Nat) (a : Abort) : State :=
  let s := if a.ends then closeTransfer r.src (objKey idx sub) s else s
  let s := endProof a.endsProof (noteLogin a.code s)
  let s := s.forAll a.notes fun x s => s.putN x.1 x.2
  (s.forAll a.logs fun x s => s.logN x.1 x.2.1 x.2.2.1 x.2.2.2.1 x.2.2.2.2).answer r op idx sub a.code false a.data

/-- A refusal of a request that the module makes of itself: what the refusal sets and logs, recorded as an abort issued
(R371). -/
def State.refused (s : State) (a : Abort) : State :=
  let s := (endProof a.endsProof s).forAll a.notes fun x s => s.putN x.1 x.2
  ((s.forAll a.logs fun x s => s.logN x.1 x.2.1 x.2.2.1 x.2.2.2.1 x.2.2.2.2).putN Obj.ABORT_LAST a.code).inc Obj.ABORTS_ISSUED

/-- A frame that carries a message from the network (R382): whether it passes, or is a duplicate of one received within 400 ms,
itself a copy or not. -/
def netPass (v : NetFrame) (s : State) : Bool × State :=
  let mode := s.ethN Obj.NET_MODE
  if mode = 0 then (true, s) else
  let recent := s.idp.seenFrames.filter fun x => Nat.ble (s.lNow - x.2.2) 400000000
  let dup := recent.any fun x => x.1 == v.source && x.2.1 == v.seq
  let s := if mode = 1 && v.lan != v.port then s.inc Obj.WRONG_LAN else s
  let s : State := { s with idp := { s.idp with seenFrames := (v.source, v.seq, s.lNow) :: recent } }
  if dup then (false, s.inc Obj.DUPLICATES_DISCARDED) else (true, s)

/-- The frame of a request over UDP (R382): whether it passes, the state with it noted. -/
def State.netIn (s : State) (r : Req) : Bool × State :=
  match r.src, r.net with
  | .udp _, some v => netPass v s
  | _, _ => (true, s)

/-- A valid datagram of a session arrives: its idle time starts again and PEER_LAST_SEEN is stamped (R377, R388). -/
def State.touchSession (s : State) (r : Req) : State :=
  let s := (s.netIn r).2
  match r.src with
  | .udp p => (s.putSession r.src fun x => { x with seen := s.lNow }).putN (Obj.PEER_LAST_SEEN p) s.pNow
  | _ => s

/-- A request as the dictionary carries it out (R365, R366, R374, R382): a duplicate of its frame and a datagram that belongs to
no open session have no effect; a TAG that was kept is answered from the kept response; the first check of Table 15.4 that fails gives the
abort; otherwise `act` carries the request out or refuses it by the object's own rules. -/
def State.request (s : State) (r : Req) (op : Op) (idx sub : Nat)
    (act : State → Except Abort (State × Bool × Bytes)) : State :=
  if !(s.netIn r).1 then (s.netIn r).2 else
  match s.session? r.src with
  | none => (s.netIn r).2
  | some ses =>
    let s := s.touchSession r
    match ses.kept.find? fun k => k.tag == r.tag with
    | some k => s.emit (.response r.src k)
    | none =>
      match s.checkAccess r ses op idx sub with
      | some a => s.answerAbort r op idx sub a
      | none =>
        match act s with
        | .error a => s.answerAbort r op idx sub a
        | .ok (t, last, data) => t.answer r op idx sub 0 last data

/-- A write of the whole value of one object: rows 8 to 12 of Table 15.4, then the object's own rules `own`, which
carry the write out; the active module of a pair sends a shared write to its partner (R435). The whole value of a DOMAIN
ends the session's transfer (R375). -/
def State.writeAct (r : Req) (idx sub : Nat) (own : Val → State → Except Abort State) (s : State) :
    Except Abort (State × Bool × Bytes) :=
  match findGroup idx with
  | none => .error (Abort.of aNoObject 0)
  | some g =>
    match g.row? sub with
    | none => .error (Abort.of aNoSubindex 0)
    | some row =>
      let dom := row.ty == .domain
      match s.checkValue r g row idx sub r.data with
      | some a => .error { a with ends := dom }
      | none =>
        match own (row.ty.decode r.data) (if dom then closeTransfer r.src (objKey idx sub) s else s) with
        | .error a => .error { a with ends := dom }
        | .ok t => .ok (if s.n Obj.PAIR_ROLE = 1 ∧ s.b Obj.PAIR_LINK_UP ∧ row.shared idx then
            t.emit (.pair (.config idx sub r.data)) else t, false, [])

/-- A request that writes the whole value of the object at `key`, with the object's own rules. -/
def State.writeRequest (s : State) (r : Req) (key : Nat) (own : Val → State → Except Abort State) : State :=
  let dom := (findRow key).map (fun x => x.2.ty) == some .domain
  s.request r (if dom then .domainWrite 0 true else .write) (key / 65536) (key % 65536) (State.writeAct r (key / 65536) (key % 65536) own)

/-- A write that only stores its value. -/
def storeOnly (key : Nat) (v : Val) (s : State) : Except Abort State := .ok (s.put key v)

end Sys2Proof.Machine
end

