-- ==== Sys2Proof/Machine/Time.lean ====
section
/-!
DEFINITION. Time bases and the mains angle (spec/02_time.md): base L, base P with its step and servo, base M with its
lock states, the placement of sweep marks, mark outputs, crystal compensation.
-/

namespace Sys2Proof.Machine

/-! ### Codes -/

/-- M_STATE codes (Table 2.7). -/
def mFree : Nat := 0
def mAcquiring : Nat := 1
def mLocked : Nat := 2
def mHoldover : Nat := 3

/-- Whether the module runs in DEGRADED_CLOCK (R56, Table 19.2). -/
def State.degraded (s : State) : Bool := s.n Obj.START_STATE == 1

/-- The frequency word of a frequency in Hz (R42), to the nearest unit. -/
def freqWord (hz : Rat) : Nat := (rround (hz * (2 ^ 48 : Nat) / 100000000)).toNat

/-- The frequency in Hz of a frequency word (R42). -/
def wordHz (fw : Nat) : Rat := (fw : Rat) * 100000000 / (2 ^ 48 : Nat)

/-- An angle difference taken as a signed value in −180° to +180° (R44). -/
def signedAngle (a : Int) : Int := signedOf 32 (twos 32 a)

/-- The total phase of base M: cycle count followed by the angle (R48). -/
def State.totalPhase (s : State) : Nat := s.n Obj.M_CYCLE_COUNT * 2 ^ 32 + s.angle

/-! ### Ticks -/

/-- One tick of 10 ns on every base (R32, R42). Base M does not run in DEGRADED_CLOCK (R56), nor while the core domain is off
(R452). -/
def State.tick (s : State) : State :=
  let t := s.time
  let fw := s.n Obj.M_FREQ_WORD
  let ph := t.phase + fw
  let t1 : TimeSt := { t with l := t.l + 1, p := t.p + 1000000000 + s.i Obj.PTP_RATE }
  if s.degraded || !s.coreOn then { s with time := t1 }
  else
    let s1 : State := { s with time := { t1 with phase := ph % 2 ^ 48 } }
    if 2 ^ 48 ≤ ph then s1.incW 64 Obj.M_CYCLE_COUNT else s1

/-! ### Mark outputs -/

/-- The reading of the base of mark output `n`: ns on L and P, total phase on M (R52). -/
def State.markBaseNow (s : State) (n : Nat) : Nat :=
  match s.n (Obj.MK_BASE n) with
  | 0 => s.lNow
  | 1 => s.pNow
  | _ => s.totalPhase

/-- One millisecond on the base of mark output `n`. -/
def State.markMs (s : State) (n : Nat) : Nat :=
  if s.n (Obj.MK_BASE n) = 2 then s.n Obj.M_FREQ_WORD * 100000 / 65536 else 1000000

/-- The start and the period of mark output `n` on its base (R52). -/
def State.markStart (s : State) (n : Nat) : Nat :=
  if s.n (Obj.MK_BASE n) = 2 then s.n (Obj.MK_START n) * 2 ^ 32 + s.n (Obj.MK_START_ANGLE n) else s.n (Obj.MK_START n)
def State.markPeriod (s : State) (n : Nat) : Nat :=
  if s.n (Obj.MK_BASE n) = 2 then s.n (Obj.MK_PERIOD n) * 2 ^ 32 else s.n (Obj.MK_PERIOD n)

/-- The first point of the series from `start` by `period` that is not before `t`. -/
def seriesFrom (start period t : Nat) : Nat :=
  if t ≤ start then start else start + (t - start + period - 1) / period * period

/-- RUN checks of a mark output (R52): a ONCE start less than 1 ms ahead, a period outside its range on base M, a
PERIODIC period shorter than twice the width. DESIGN CHOICE (log entry 116): a period in cycles of base M is compared with the
width at M_NOMINAL_FREQ. -/
def markRunCheck (n : Nat) (s : State) : Option Abort :=
  let onM := s.n (Obj.MK_BASE n) = 2
  let width : Nat := s.n (Obj.MK_WIDTH n)
  if s.n (Obj.MK_MODE n) = 0 then
    if s.markStart n < s.markBaseNow n + s.markMs n then some (inconsistent (Obj.MK_START n)) else none
  else if onM ∧ ¬(1 ≤ s.n (Obj.MK_PERIOD n) ∧ s.n (Obj.MK_PERIOD n) ≤ 2 ^ 32) then some (inconsistent (Obj.MK_PERIOD n))
  else if onM then
    if (s.n (Obj.MK_PERIOD n) : Rat) / s.q Obj.M_NOMINAL_FREQ * 1000000000 < 2 * (width : Rat) then
      some (inconsistent (Obj.MK_PERIOD n)) else none
  else if s.n (Obj.MK_PERIOD n) < 2 * width then some (inconsistent (Obj.MK_PERIOD n)) else none

/-- The marks with mark output `n` replaced. -/
def State.setMark (s : State) (n : Nat) (m : MarkSt) : State := { s with time := { s.time with marks := s.time.marks.set n m } }

/-- RUN arms a mark output (R52): a PERIODIC mark whose start is past begins at the first series point at least 1 ms
after RUN; MK_LATE is cleared. In DEGRADED_CLOCK the mark is stopped at once (R53). -/
def markRun (n : Nat) (s : State) : State :=
  if s.degraded then (s.setMark n {}).putN (Obj.MK_STATE n) 0 else
  let now := s.markBaseNow n
  let start := s.markStart n
  let next := if s.n (Obj.MK_MODE n) = 1 ∧ start < now then seriesFrom start (s.markPeriod n) (now + s.markMs n) else start
  (s.setMark n { next := some next, last := none }).putB (Obj.MK_LATE n) false

/-- A mark output on base P across a step of base P from `old` to `new` (R54). DESIGN CHOICE (log entry 34): a PERIODIC mark that has
emitted no pulse yet keeps its next point across a backward step, since R54 gives the next from the last one emitted. -/
def markStep (old new : Nat) (n : Nat) (s : State) : State :=
  let m := nth s.time.marks n {}
  if ¬(s.running (Obj.MK_STATE n) ∧ s.n (Obj.MK_BASE n) = 1) then s else
  match m.next with
  | none => s
  | some t =>
    if s.n (Obj.MK_MODE n) = 0 then
      if old < t ∧ t ≤ new then (s.setMark n { m with next := some new }).putB (Obj.MK_LATE n) true else s
    else if old ≤ new then
      if t ≤ new then
        let nx := seriesFrom t (s.markPeriod n) (new + 1)
        (s.setMark n { m with next := some nx }).incBy (Obj.MK_SKIPPED n) ((nx - t) / s.markPeriod n)
      else s
    else
      match m.last with
      | some e => s.setMark n { m with next := some (e + s.markPeriod n) }
      | none => s

/-! ### Base P -/

/-- The step of base P by `size` ns at one tick (R35), with the marks on base P adjusted (R54). -/
def State.stepP (s : State) (size : Int) (newState : Nat) : State :=
  let old := s.pNow
  let s := s.noteBases
  let p0 : Int := if s.pUnsetFlag then (s.lNow : Int) * 100000000 else s.time.p
  let s := { s with time := { s.time with p := p0 + size * 100000000, stepped := true, armed := false, offsets := [], lockRun := 0 } }
  let s := ((s.putN Obj.P_STEP_L s.lNow).putI Obj.P_STEP_SIZE size).putN Obj.P_STATE newState
  s.each 4 (markStep old s.pNow)

/-- Whether the PTP slave is active (R37, R56). -/
def State.ptpActive (s : State) : Bool := s.running Obj.TIME_STATE && s.b Obj.PTP_ENABLE && !s.degraded

/-- Whether four consecutive measurements agree with one another within 1 µs (R35). -/
def offsetsAgree (l : List Int) : Bool :=
  match l with
  | [a, b, c, d] => decide (max (max a b) (max c d) - min (min a b) (min c d) ≤ 1000)
  | _ => false

/-- The rate correction held while a large offset is removed (R36). -/
def slewRate (offset : Int) : Int := if 0 < offset then -500000 else 500000

/-- The rate correction takes a value (R36). -/
def State.setRate (s : State) (r : Int) : State := if s.i Obj.PTP_RATE = r then s else s.noteBases.putI Obj.PTP_RATE r

/-- The servo's next rate correction for a small offset (R36): it moves so as to drive the offset toward 0 and stays within
±500 ppm; how far it moves the spec does not state. -/
def servoRate (offset rate : Int) (free : Nat) : Int :=
  if 0 < offset then rate - free % ((rate + 500000).toNat + 1)
  else if offset < 0 then rate + free % ((500000 - rate).toNat + 1)
  else rate

/-- The servo after the step (R36): the run of offsets within the limit, P_STATE, OFFSET_LARGE with its slew. -/
def servoP (offset : Int) (s : State) : State :=
  let within := decide (offset.natAbs ≤ s.n Obj.PTP_LOCK_LIMIT)
  let run := if within then s.time.lockRun + 1 else 0
  let s := { s with time := { s.time with lockRun := run } }
  let st := if !within then pAcquiring else if 16 ≤ run then pLocked
            else if s.n Obj.P_STATE = pHoldover then pAcquiring else s.n Obj.P_STATE
  let s := s.putN Obj.P_STATE st
  if s.n Obj.OFFSET_LARGE_LIMIT < offset.natAbs then
    let saved := s.time.savedRate.getD (s.i Obj.PTP_RATE)
    let s := { s with time := { s.time with savedRate := some saved } }
    (s.putB Obj.OFFSET_LARGE true).setRate (slewRate offset)
  else
    match s.time.savedRate with
    | some saved =>
      if offset.natAbs < s.n Obj.PTP_LOCK_LIMIT then
        let s := { s with time := { s.time with savedRate := none } }
        (s.putB Obj.OFFSET_LARGE false).setRate saved
      else s.setRate (slewRate offset)
    | none =>
      let (f, s) := s.freshN
      s.setRate (servoRate offset (s.i Obj.PTP_RATE) f)

/-- Whether the node is in an HSR ring (Table 15.10). -/
def State.hsr (s : State) : Bool := s.ethN Obj.NET_MODE == 2

/-- With HSR the node forwards a PTP message of the ring at its other port and corrects its residence time (R41). -/
def forwardPtp (port seq : Nat) (s : State) : State :=
  if !s.hsr || !(port == 1 || port == 2) then s else
  let (r, s) := s.freshN
  s.emit (.ptpForward (3 - port) seq r)

/-- Whether the slave takes its offset from a Sync that arrives on a port: the path in use, or with HSR the direction that
delivers it first (R41). -/
def takesSync (port seq : Nat) (s : State) : Bool :=
  if s.hsr then (port == 1 || port == 2) && s.time.syncSeq != some seq else port != 0 && s.n Obj.PTP_PORT == port

/-- The offset that a Sync with the master's time measures (R35, R36): an armed step is made at the fourth agreeing
measurement, the servo driven otherwise. -/
def measureOffset (masterNs : Nat) (s : State) : State :=
  let offset : Int := (s.pNow : Int) - masterNs
  let s := s.putI Obj.PTP_OFFSET offset
  if s.time.armed then
    let offs := (offset :: s.time.offsets).take 4
    let s := { s with time := { s.time with offsets := offs } }
    if offsetsAgree offs then s.stepP (-offset) pAcquiring else s
  else servoP offset s

/-- A Sync message (R35, R36, R41). One of another master, path, profile or domain, or with the slave inactive, gives no
measurement. -/
def ptpSync (port profile domain master : Nat) (x : PtpSync) (s : State) : State :=
  let s := forwardPtp port x.seq s
  if !s.ptpActive || !takesSync port x.seq s || s.n Obj.PTP_MASTER_ID != master || s.n Obj.PTP_PROFILE != profile ||
     s.n Obj.PTP_DOMAIN != domain then s else
  measureOffset x.masterNs { s.putN Obj.PTP_PORT port with time := { s.time with syncSeq := some x.seq } }

/-- Whether one ranking precedes another (R41): field by field, the lower value first. -/
def rankBefore : List Nat → List Nat → Bool
  | a :: r, b :: t => if a < b then true else if b < a then false else rankBefore r t
  | _, _ => false

/-- The best of the masters heard; the one that qualified first where two rank alike. -/
def bestMaster : List PtpMaster → Option PtpMaster
  | [] => none
  | m :: r => some (r.foldl (fun b x => if rankBefore x.rank b.rank then x else b) m)

/-- The slave selects the best master heard and keeps its port while the same master stays selected (R41). -/
def selectMaster (s : State) : State :=
  match bestMaster s.time.masters with
  | none => { (s.putN Obj.PTP_MASTER_ID 0).putN Obj.PTP_PORT 0 with time := { s.time with offsets := [], lockRun := 0 } }
  | some m =>
    if s.n Obj.PTP_MASTER_ID = m.id ∧ s.n Obj.PTP_PORT ≠ 0 ∧
       s.time.masters.any (fun x => x.id == m.id && x.port == s.n Obj.PTP_PORT) then s
    else
      let port := ((s.time.masters.find? fun x => x.id == m.id).map PtpMaster.port).getD m.port
      let same := s.n Obj.PTP_MASTER_ID == m.id
      let s := (s.putN Obj.PTP_MASTER_ID m.id).putN Obj.PTP_PORT port
      if same then s else { s with time := { s.time with offsets := [], lockRun := 0 } }

/-- An Announce message is taken into master selection (R41). -/
def ptpAnnounce (a : Announce) (s : State) : State :=
  if !s.ptpActive || s.n Obj.PTP_PROFILE != a.profile || s.n Obj.PTP_DOMAIN != a.domain || !(a.port == 1 || a.port == 2) then s else
  let m : PtpMaster := { port := a.port, id := a.master, rank := a.rank }
  let known := s.time.masters.any fun x => x.id == a.master && x.port == a.port
  let ms := if known then s.time.masters.map fun x => if x.id = a.master ∧ x.port = a.port then m else x
            else s.time.masters ++ [m]
  selectMaster { s with time := { s.time with masters := ms } }

/-- The announce receipt timeout of a port (R38, R41): the other port is taken while it delivers the same master;
otherwise P_STATE becomes HOLDOVER, unless it is UNSET. -/
def announceTimeout (port : Nat) (s : State) : State :=
  if !s.ptpActive then s else
  let ms := s.time.masters.filter fun x => x.port != port
  let s1 : State := { s with time := { s.time with masters := ms } }
  if s.n Obj.PTP_PORT ≠ port ∨ port = 0 then s1 else
  if ms.any (fun x => x.id == s.n Obj.PTP_MASTER_ID) then
    s1.putN Obj.PTP_PORT (3 - port)
  else
    let s2 := if s1.pUnsetFlag then s1 else s1.putN Obj.P_STATE pHoldover
    selectMaster { s2 with time := { s2.time with lockRun := 0, offsets := [] } }

/-- P_SET steps base P while the step is armed (R35, R37). DESIGN CHOICE (log entry 118): in DEGRADED_CLOCK too. -/
def ownPSet (v : Val) (s : State) : Except Abort State :=
  if s.time.armed then .ok (s.stepP (v.toInt - s.pNow) pHoldover) else .error (Abort.of aStopRequired 0)

/-- RUN of the time function arms the step (R37). -/
def timeRun (s : State) : State :=
  let s : State := { s with time := { s.time with armed := true, offsets := [], lockRun := 0 } }
  if s.time.stepped && !s.degraded then s.putN Obj.P_STATE pAcquiring else s

/-- STOP of the time function: the slave is inactive and the step not armed (R37). DESIGN CHOICE (log entry 117): the list of
masters is emptied, PTP_MASTER_ID and PTP_PORT keep showing the last one followed. -/
def timeStop (s : State) : State :=
  { s with time := { s.time with armed := false, offsets := [], masters := [] } }

/-! ### Base M -/

/-- Whether a phase error is at most `deg` degrees. -/
def withinDeg (err : Int) (deg : Nat) : Bool := decide (err.natAbs * 360 ≤ deg * 2 ^ 32)

/-- The frequency word of the lock loop (R46): on the side of the measured word that removes the phase error, at most
ANGLE_SLEW_MAX from it, all of that beyond 5° of error; how far within 5° the spec does not state. -/
def lockWord (err : Int) (measured free slewMax : Nat) (nominalHz : Rat) : Nat :=
  let d := ((slewMax : Rat) / 10000 * nominalHz * (2 ^ 48 : Nat) / 100000000).floor.toNat
  let x := if withinDeg err 5 then free % (d + 1) else d
  if 0 < err then measured - x else if err < 0 then measured + x else measured

/-- The sweep period T in seconds: the true length of SWEEP_CYCLES_EFFECTIVE cycles of base M (R49). -/
def State.sweepT (s : State) : Rat := (s.n Obj.SWEEP_CYCLES_EFFECTIVE : Rat) / wordHz (s.n Obj.M_FREQ_WORD)

/-- The read bound in s of a sweep of period `t` made of `c` cycles (R108). -/
def readBound (t : Rat) (c w lead : Nat) : Rat :=
  let l : Rat := (lead : Rat) / 1000000000 + 2 / 10000
  let second := if w = c then t - l else ((c - w : Nat) : Rat) * (t / (c : Rat)) - l
  rmin (8 / 10 * t) second

/-- The read bound in force (R108). -/
def State.readBoundNow (s : State) : Rat :=
  readBound s.sweepT (s.n Obj.SWEEP_CYCLES_EFFECTIVE) (s.n Obj.WINDOW_CYCLES) (s.n Obj.SYNC_LEAD)

/-- READ_LIMIT shows the read bound in force. -/
def refreshReadLimit (s : State) : State := s.putN Obj.READ_LIMIT (s.readBoundNow * 1000000).floor.toNat

/-- The frequency word of base M takes a value, held to its 32 bits (R42, log entry 163); READ_LIMIT follows (R108). -/
def State.setWord (s : State) (w : Nat) : State :=
  let w := if w < 2 ^ 32 then w else Config.wideWord w % 2 ^ 32
  if s.n Obj.M_FREQ_WORD = w then s else
  let s := s.noteBases.putN Obj.M_FREQ_WORD w
  if s.running Obj.SWEEP_STATE then refreshReadLimit s else s

/-- The module's own estimate of the mains frequency (R45): the one last measured, the nominal one before any
(DESIGN CHOICE, log entry 119). -/
def State.ownWord (s : State) : Nat := s.time.measured.getD (freqWord (s.q Obj.M_NOMINAL_FREQ))

/-- A valid reference with its phase error and the frequency it implies (R46). -/
def reference (err : Int) (measured : Nat) (s : State) : State :=
  let s := s.putI Obj.M_PHASE_ERROR err
  let good := if withinDeg err 1 then s.time.goodRefs + 1 else 0
  let first := if withinDeg err 1 then 1 else 0
  let st := s.n Obj.M_STATE
  let (st', refs) :=
    if st = mFree ∨ st = mHoldover then (mAcquiring, first)
    else if st = mAcquiring then (if 8 ≤ good then (mLocked, good) else (mAcquiring, good))
    else if withinDeg err 5 then (mLocked, good) else (mAcquiring, 0)
  let s := { s.putN Obj.M_STATE st' with time := { s.time with goodRefs := refs, measured := some measured } }
  let (f, s) := s.freshN
  s.setWord (lockWord err measured f (s.n Obj.ANGLE_SLEW_MAX) (s.q Obj.M_NOMINAL_FREQ))

/-- Whether base M follows references (R47, R56). -/
def State.angleActive (s : State) : Bool := s.running Obj.ANGLE_STATE && !s.degraded

/-- The reference of base M is lost: HOLDOVER (R44, R47). -/
def loseReference (s : State) : State := { s.putN Obj.M_STATE mHoldover with time := { s.time with goodRefs := 0 } }

/-- Whether ANGLE_SOURCE takes the ANG input, and the PCS message (R43). -/
def State.usesAng (s : State) : Bool := s.n Obj.ANGLE_SOURCE == 0 || s.n Obj.ANGLE_SOURCE == 2
def State.usesPcs (s : State) : Bool := s.n Obj.ANGLE_SOURCE == 1 || s.n Obj.ANGLE_SOURCE == 2

/-- A rising ANG edge (R44). An edge with none before it implies no frequency: the own estimate stands (DESIGN CHOICE, log
entry 119). -/
def angEdge (s : State) : State :=
  if !s.angleActive || !s.usesAng then s else
  let now := s.lNow
  let nominal : Rat := 1000000000 / s.q Obj.M_NOMINAL_FREQ
  let glitch := match s.time.angAccepted with
    | some a => decide (((now - a : Nat) : Rat) < nominal / 2)
    | none => false
  if glitch then s.inc Obj.ANG_GLITCHES else
  let hz : Option Rat := s.time.angEdge.map fun e => 1000000000 / ((now - e : Nat) : Rat)
  let bad := match hz with
    | some f => decide (f < 40 ∨ 70 < f)
    | none => false
  let s : State := { s with time := { s.time with angEdge := some now } }
  if bad then loseReference { s with time := { s.time with onPcs := s.n Obj.ANGLE_SOURCE == 2 } }
  else
    let s : State := { s with time := { s.time with angAccepted := some now, onPcs := false } }
    reference (signedAngle ((s.angle : Int) - s.i Obj.ANG_OFFSET)) ((hz.map freqWord).getD s.ownWord) s

/-- A frame on the channel and identifier of a pair of objects (R518). -/
def frameOn (f : CanFrame) (channel idObj : Nat) : Bool :=
  f.channel == channel && f.ext == bitOf idObj 31 && f.id == idObj % 2 ^ 29 && !f.rtr

/-- The angle of base M at an instant of base L in ns that has passed. -/
def State.angleAt (s : State) (ns : Nat) : Nat :=
  let x := s.pointAfter (ns / 10)
  x.phaseBack (x.l - ns / 10) / 65536

/-- The PCS angle message (R45): a frame of at least 8 bytes with the identifier; it gives a reference while PCS_MSG
is the source, or while ANG is lost under ANG_THEN_PCS (R43). -/
def pcsAngle (f : CanFrame) (sofL : Nat) (s : State) : State :=
  if !s.angleActive || !s.usesPcs || !frameOn f (s.n Obj.ANG_MSG_CHANNEL) (s.n Obj.ANG_MSG_ID) || f.data.length < 8 then s else
  let s : State := { s with time := { s.time with pcsLast := some s.lNow } }
  if s.n Obj.ANGLE_SOURCE = 2 ∧ !s.time.onPcs ∧ s.time.angAccepted.isSome then s else
  let s : State := { s with time := { s.time with onPcs := true } }
  let freq := fieldU f.data 4 4
  let measured := if freq = 0 then s.ownWord else freqWord ((freq : Rat) / 1000000)
  reference (signedAngle ((s.angleAt sofL : Int) - fieldU f.data 0 4)) measured s

/-- No accepted ANG edge within 1.5 nominal periods (R47). -/
def angEdgeTimeout (s : State) : State :=
  if !s.angleActive || !s.usesAng || s.time.angAccepted.isNone || s.time.onPcs then s else
  loseReference { s with time := { s.time with angAccepted := none, onPcs := s.n Obj.ANGLE_SOURCE == 2 } }

/-- No valid PCS angle message within ANG_MSG_TIMEOUT (R47). -/
def angMsgTimeout (s : State) : State :=
  if !s.angleActive || !s.usesPcs || s.time.pcsLast.isNone then s else
  let lost := s.n Obj.ANGLE_SOURCE == 1 || s.time.onPcs
  let s : State := { s with time := { s.time with pcsLast := none } }
  if lost then loseReference s else s

/-- Base M runs FREE at M_NOMINAL_FREQ (R47). -/
def freeRun (s : State) : State := (s.putN Obj.M_STATE mFree).setWord (freqWord (s.q Obj.M_NOMINAL_FREQ))

/-- M_HOLDOVER_MAX passes in HOLDOVER: FREE at the nominal frequency (R47). -/
def holdoverMax (s : State) : State :=
  if s.angleActive ∧ s.n Obj.M_STATE = mHoldover then
    freeRun s
  else s

/-- RUN of the mains angle function: with source FREE, and where base M is FREE, it runs FREE at the nominal frequency
(R47). -/
def angleRun (s : State) : State := if s.n Obj.ANGLE_SOURCE = 3 ∨ s.n Obj.M_STATE = mFree then freeRun s else s

/-- STOP of the mains angle function (R47): HOLDOVER unless FREE; the frequency word keeps its value. -/
def angleStop (s : State) : State :=
  let s : State := { s with time := { s.time with angAccepted := none, angEdge := none, pcsLast := none, onPcs := false } }
  if s.n Obj.M_STATE = mFree then s else loseReference s

/-- STOP of the mains angle function is refused while the sweep function runs (R59). -/
def angleStopCheck (s : State) : Option Abort :=
  if s.running Obj.SWEEP_STATE then some (conflict Obj.SWEEP_STATE) else none

/-! ### Sweep placement -/

/-- RUN checks of the sweep function on its placement (R49). -/
def sweepPlaceCheck (s : State) : Option Abort :=
  let c := s.n Obj.SWEEP_CYCLES
  let w := s.n Obj.WINDOW_CYCLES
  if (c : Rat) / s.q Obj.M_NOMINAL_FREQ < 2 / 100 then some (inconsistent Obj.SWEEP_CYCLES)
  else if c < w then some (inconsistent Obj.WINDOW_CYCLES)
  else if s.b Obj.SWEEP_DITHER ∧ c - 1 < w then some (inconsistent Obj.WINDOW_CYCLES)
  else none

/-- The total phase of a mark in cycle `c` with dither `d` (R48). -/
def State.markPhase (s : State) (c : Nat) (d : Int) : Int :=
  (c : Int) * 2 ^ 32 + s.n Obj.SWEEP_ANGLE + (if s.b Obj.SWEEP_DITHER then d else 0)

/-- The least multiple of `k` that is at least `x`. -/
def multipleFrom (k x : Nat) : Nat := (x + k - 1) / k * k

/-- The first mark after RUN of the sweep function (R48): the first cycle that is a multiple of SWEEP_CYCLES in which
the mark falls at least WINDOW_CYCLES cycles after RUN. No dither offset has been drawn at a mark before it. -/
def placeFirstMark (s : State) : State :=
  let k := s.n Obj.SWEEP_CYCLES
  let earliest := s.totalPhase + s.n Obj.WINDOW_CYCLES * 2 ^ 32
  let c := multipleFrom k ((earliest - s.n Obj.SWEEP_ANGLE + 2 ^ 32 - 1) / 2 ^ 32)
  { s with time := { s.time with nextMark := some c, delta := 0 } }

/-- One step of the dither register (R50). -/
def lfsrStep (x : Nat) : Nat :=
  let b := (b2n (bitOf x 15) + b2n (bitOf x 13) + b2n (bitOf x 12) + b2n (bitOf x 10)) % 2
  (x * 2 + b) % 65536

/-- The dither register at module start (R50). -/
def lfsrSeed (serial : Nat) : Nat := if serial % 65536 = 0 then 1 else serial % 65536

/-- The draw of the next dither offset at a mark (R50). -/
def drawDither (s : State) : State :=
  let x := (List.range 8).foldl (fun a _ => lfsrStep a) s.time.lfsr
  { s with time := { s.time with lfsr := x, delta := signedOf 8 (x % 256) * 1398101 } }

/-- Whether the burst window of the next mark is open (R25, R51). -/
def State.windowOpen (s : State) : Bool :=
  match s.time.nextMark with
  | some c => decide (s.markPhase c s.time.delta - s.n Obj.WINDOW_CYCLES * 2 ^ 32 ≤ s.totalPhase)
  | none => false

/-! ### Crystal compensation -/

/-- The value of a table of (x, y) points, sorted by x, at `x`: linear between points, held beyond the ends. -/
def interp : List (Rat × Rat) → Rat → Rat
  | [], _ => 0
  | [p], _ => p.2
  | p :: q :: r, x =>
    if x ≤ p.1 then p.2
    else if x ≤ q.1 then p.2 + (q.2 - p.2) * (x - p.1) / (q.1 - p.1)
    else interp (q :: r) x

/-- The factory crystal table (Table 2.5): five entries of I16 °C and I32 0.001 ppm. -/
def State.xtalPoints (s : State) : List (Rat × Rat) :=
  let b := s.bytes Obj.XTAL_TABLE
  (List.range 5).map fun i => ((fieldI b (6 * i) 2 : Rat), (fieldI b (6 * i + 2) 4 : Rat))

/-- The temperature of a module die sensor as last published (R234, Table 9.6). -/
def State.dieTemp (s : State) (n : Nat) : Rat := (fieldF32 (s.bytes Obj.MODULE_DIE_TEMP) (4 * n)).toRat

/-- A step of the crystal correction, in 0.001 ppm, reaches the PTP servo and the lock loop as a known rate change (R55): the
rate correction and the frequency word, and the rate that a slew returns to, take it off. -/
def knownRate (d : Int) (s : State) : State :=
  if d = 0 then s else
  let lim := fun (r : Int) => max (-500000) (min 500000 (r - d))
  let s := if !s.time.stepped || !s.ptpActive || s.n Obj.P_STATE == pHoldover then s else
    match s.time.savedRate with
    | some r => { s with time := { s.time with savedRate := some (lim r) } }
    | none => s.setRate (lim (s.i Obj.PTP_RATE))
  if s.angleActive && (s.n Obj.M_STATE == mLocked || s.n Obj.M_STATE == mAcquiring) then
    s.setWord (rround ((s.n Obj.M_FREQ_WORD : Rat) * (1 - d / 1000000000))).toNat else s

/-- The crystal correction moves toward its table value by at most 0.05 ppm (R55); not in DEGRADED_CLOCK (R56). -/
def xtalUpdate (s : State) : State :=
  if s.degraded then s else
  let target := interp s.xtalPoints s.time.die0
  let x := s.time.xtal + rclamp (-50) 50 (target - s.time.xtal)
  knownRate (rround x - rround s.time.xtal) { s.putI Obj.XTAL_COMP (rround x) with time := { s.time with xtal := x } }

/-- Entry of DEGRADED_CLOCK as base P and base M see it (R56): a slew ends, the rate returns to its value before. -/
def degradeBases (s : State) : State :=
  let rate := s.time.savedRate.getD (s.i Obj.PTP_RATE)
  let s := (s.putB Obj.OFFSET_LARGE false).setRate rate
  { s with time := { s.time with savedRate := none, offsets := [], masters := [] } }

/-- A mark output reaches its instant (R52, R53): a pulse leaves; a ONCE mark stops, a PERIODIC one goes on. In
DEGRADED_CLOCK the output is held idle and the mark is stopped. -/
def markFire (n : Nat) (s : State) : State :=
  if s.degraded then (s.setMark n {}).putN (Obj.MK_STATE n) 0 else
  if s.n Obj.PAIR_ROLE = 2 then s else
  let m := nth s.time.marks n {}
  match m.next with
  | none => s
  | some t =>
    if !s.running (Obj.MK_STATE n) then s else
    let s := s.emit (.markPulse n (s.n (Obj.MK_WIDTH n)))
    if s.n (Obj.MK_MODE n) = 0 then (s.setMark n { next := none, last := some t }).putN (Obj.MK_STATE n) 0
    else s.setMark n { next := some (t + s.markPeriod n), last := some t }

/-- Every mark output is stopped and idle (R53). -/
def stopMarks (s : State) : State := s.each 4 fun n s => (s.setMark n {}).putN (Obj.MK_STATE n) 0

/-- Entry of DEGRADED_CLOCK, at start-up or in service: the bases (R56), the mark outputs (R53), the pulse inputs (R421). -/
def degradeClock (s : State) : State := (stopMarks (degradeBases s)).each 2 fun n s => s.putN (Obj.PI_STATUS n) 3

end Sys2Proof.Machine
end

