-- ==== Sys2Proof/Machine/Maps.lean ====
section
/-!
DEFINITION. The large DOMAIN objects that describe the plant, read from their bytes: the position map (R83), the
geometry map (R222) and the chemistry profiles (R150), with their checks (R84, R152, R223, R520) and the
interpolation of profile tables (R151).
-/

namespace Sys2Proof.Machine

/-! ### Position map -/

/-- One entry of the position map (Table 3.10). -/
structure MapEntry where
  uid : Nat
  head : Nat
  address : Nat
  string : Nat
  firstPos : Nat
  mask : Nat
  cellBase : Nat
  ntcBase : Nat
  location : Nat
  deriving DecidableEq, Repr

/-- How many entries the position map has; an empty map has none (R84). -/
def mapCount (b : Bytes) : Nat := if b.length = 0 then 0 else fieldU b 2 2

/-- Entry `f` of a position map. -/
def mapEntryOf (b : Bytes) (f : Nat) : MapEntry :=
  let e := slice b (16 + 24 * f) 24
  { uid := fieldU e 0 8, head := fieldU e 8 1, address := fieldU e 9 1, string := fieldU e 10 1,
    firstPos := fieldU e 12 2, mask := fieldU e 14 2, cellBase := fieldU e 16 2, ntcBase := fieldU e 18 2,
    location := fieldU e 20 4 }

/-- The entries of the position map with their front-end indices. -/
def State.entries (s : State) : List (Nat × MapEntry) :=
  let b := s.bytes Obj.POSITION_MAP
  (List.range (mapCount b)).map fun f => (f, mapEntryOf b f)

/-- Entry `f` of the position map, if there is one. -/
def State.entry? (s : State) (f : Nat) : Option MapEntry :=
  let b := s.bytes Obj.POSITION_MAP
  if f < mapCount b then some (mapEntryOf b f) else none

/-- The used channels below channel `c` of a mask. -/
def usedBelow (mask c : Nat) : Nat := ((List.range c).filter fun j => bitOf mask j).length

/-- The used channels of an entry. -/
def MapEntry.channels (e : MapEntry) : List Nat := (List.range 16).filter fun c => bitOf e.mask c

/-- The cell of a used channel, its series position (R83). -/
def MapEntry.cell (e : MapEntry) (c : Nat) : Nat := e.cellBase + usedBelow e.mask c
def MapEntry.position (e : MapEntry) (c : Nat) : Nat := e.firstPos + usedBelow e.mask c

/-- The cells of an entry with their channels. -/
def MapEntry.cells (e : MapEntry) : List (Nat × Nat) := e.channels.map fun c => (e.cell c, c)

/-- Every mapped cell: cell index, front-end index, channel, entry. -/
def State.mappedCells (s : State) : List (Nat × Nat × Nat × MapEntry) :=
  s.entries.flatMap fun (f, e) => e.cells.map fun (cell, c) => (cell, f, c, e)

/-- Where a cell stands in the position map: front-end index, channel, entry. -/
def State.cellPlace? (s : State) (cell : Nat) : Option (Nat × Nat × MapEntry) :=
  (s.mappedCells.find? fun x => x.1 == cell).map fun x => x.2

/-- The cells of a string. -/
def State.stringCells (s : State) (str : Nat) : List Nat :=
  (s.mappedCells.filter fun x => x.2.2.2.string == str).map fun x => x.1

/-- The string of a cell, if it is mapped. -/
def State.cellString? (s : State) (cell : Nat) : Option Nat := (s.cellPlace? cell).map fun x => x.2.2.string

/-- The entry whose device answers at a head and an address, with its front-end index. -/
def State.entryAt? (s : State) (head addr : Nat) : Option (Nat × MapEntry) :=
  s.entries.find? fun x => x.2.head == head && x.2.address == addr

/-- The heads' shape codes (Table 3.16). -/
def shapeNone : Nat := 0
def shapeLine : Nat := 1
def shapeLoop : Nat := 2
def shapeBridge : Nat := 3

/-- The other head of a LOOP (Table 3.12). -/
def loopPeer (h : Nat) : Nat := if h % 2 = 0 then h + 1 else h - 1

/-- Whether the shape settings of head `h` agree with those of its other head (R84, R88). -/
def State.shapeOk (s : State) (h : Nat) : Bool :=
  match s.n (Obj.HEAD_SHAPE h) with
  | 2 => s.n (Obj.HEAD_PEER h) == loopPeer h && s.n (Obj.HEAD_SHAPE (loopPeer h)) == shapeLoop &&
         s.n (Obj.HEAD_PEER (loopPeer h)) == h
  | 3 => s.n (Obj.HEAD_PEER h) == h
  | _ => true

/-- Whether head `h` enumerates a chain (Table 3.12). -/
def State.enumerates (s : State) (h : Nat) : Bool :=
  match s.n (Obj.HEAD_SHAPE h) with
  | 0 => false
  | 2 => h % 2 == 0
  | _ => true

/-- Whether entry `f` fails a condition of R84, alone or against an entry before it. -/
def entryBad (s : State) (all : List (Nat × MapEntry)) (f : Nat) (e : MapEntry) : Bool :=
  let before := all.filter fun x => Nat.blt x.1 f
  let n := e.channels.length
  e.uid == 0 || before.any (fun x => x.2.uid == e.uid) ||
  e.address == 0 || Nat.blt 250 e.address ||
  before.any (fun x => x.2.head == e.head && x.2.address == e.address) ||
  !(Nat.blt e.head s.asBuilt.heads && s.enumerates e.head) ||
  !Nat.blt e.string s.asBuilt.strings ||
  (n != 0 && Nat.blt s.asBuilt.cells (e.cellBase + n)) ||
  before.any (fun x => n != 0 && x.2.channels.length != 0 && Nat.blt e.cellBase (x.2.cellBase + x.2.channels.length) && Nat.blt x.2.cellBase (e.cellBase + n)) ||
  (n != 0 && Nat.blt 640 (e.firstPos + n)) ||
  before.any (fun x => x.2.string == e.string && n != 0 && x.2.channels.length != 0 && Nat.blt e.firstPos (x.2.firstPos + x.2.channels.length) &&
    Nat.blt x.2.firstPos (e.firstPos + n)) ||
  e.ntcBase % 8 != 0 || before.any (fun x => x.2.ntcBase == e.ntcBase) || Nat.ble s.asBuilt.sensors e.ntcBase

/-- Whether the header of a position map is right (R84). -/
def mapHeaderOk (a : AsBuilt) (b : Bytes) : Bool :=
  b.length == 0 ||
  (fieldU b 0 2 == 1 && Nat.ble (fieldU b 2 2) a.frontEnds && b.length == 16 + 24 * fieldU b 2 2 &&
   fieldU b 4 4 == crc32c (b.drop 16))

/-- RUN check of the chain function (R84): `none` if it passes, else what MAP_ERROR_ENTRY reads. -/
def mapError (s : State) : Option Nat :=
  let b := s.bytes Obj.POSITION_MAP
  if !mapHeaderOk s.asBuilt b then some 0xFFFF
  else
    match s.entries.find? fun x => entryBad s s.entries x.1 x.2 with
    | some x => some x.1
    | none => if (List.range s.asBuilt.heads).all fun h => s.shapeOk h then none else some 0xFFFF

/-! ### Geometry map -/

/-- Whether a geometry map is loaded. -/
def State.geo (s : State) : Bytes := s.bytes Obj.GEOMETRY_MAP

/-- The 24-byte entry of a sensor (Table 9.1). -/
def geoEntry (b : Bytes) (n : Nat) : Bytes := slice b (16 + 24 * n) 24

/-- Whether a sensor is mapped: its index lies in the range of a position-map entry (R219). -/
def State.sensorPlace? (s : State) (n : Nat) : Option (Nat × MapEntry) :=
  s.entries.find? fun x => Nat.ble x.2.ntcBase n && Nat.blt n (x.2.ntcBase + 8)

/-- Whether the geometry map marks a sensor FITTED. -/
def geoFitted (b : Bytes) (n : Nat) : Bool := bitOf (fieldU (geoEntry b n) 20 1) 0

/-- Whether a sensor is fitted: mapped and FITTED (R219). -/
def State.fitted (s : State) (n : Nat) : Bool := (s.sensorPlace? n).isSome && geoFitted s.geo n

/-- Index fields packed from the first position, 0xFFFF for none (R222). -/
def packedIndices (b : Bytes) (o k : Nat) : List Nat :=
  ((List.range k).map fun j => fieldU b (o + 2 * j) 2).filter fun x => x != 0xFFFF

/-- Neighbours of a sensor, its nearest cells, its cooling zone (Table 9.1). -/
def State.neighbours (s : State) (n : Nat) : List Nat := packedIndices (geoEntry s.geo n) 0 6
def State.nearestCells (s : State) (n : Nat) : List Nat := packedIndices (geoEntry s.geo n) 12 4
def State.coolingZone (s : State) (n : Nat) : Nat := fieldU (geoEntry s.geo n) 21 1

/-- The sensor that stands for a cell's surface (Table 9.1); 0xFFFF for none. -/
def State.nearestSensor (s : State) (cell : Nat) : Nat :=
  if s.geo.length = 0 then 0xFFFF else fieldU s.geo (16 + 24 * s.asBuilt.sensors + 2 * cell) 2

/-- The fitted sensors in order. -/
def State.fittedSensors (s : State) : List Nat :=
  s.entries.flatMap fun x => (List.range 8).filterMap fun j => if geoFitted s.geo (x.2.ntcBase + j) then some (x.2.ntcBase + j) else none

/-- Whether a list holds a member twice. -/
def hasRepeat : List Nat → Bool
  | [] => false
  | a :: r => r.contains a || hasRepeat r

/-- RUN check of the temperature function on the geometry map (R223): `none` if it passes, else what
GEO_ERROR_INDEX reads. -/
def geoError (s : State) : Option Nat :=
  let b := s.geo
  let cells := s.mappedCells
  if b.length = 0 then (if cells.isEmpty then none else some 0xFFFF) else
  let sc := s.asBuilt.sensors
  let cc := s.asBuilt.cells
  if !(b.length == 16 + 24 * sc + 2 * cc && fieldU b 0 2 == 1 && fieldU b 2 2 == sc && fieldU b 4 2 == cc &&
       fieldU b 8 4 == crc32c (b.drop 16)) then some 0xFFFF
  else
    let badSensor := (List.range sc).find? fun n =>
      geoFitted b n &&
      ((s.sensorPlace? n).isNone ||
       (s.neighbours n).any (fun m => m == n || !s.fitted m) || hasRepeat (s.neighbours n) ||
       (s.nearestCells n).any fun c => Nat.ble cc c)
    match badSensor with
    | some n => some n
    | none => (cells.find? fun x => !s.fitted (s.nearestSensor x.1)).map fun x => x.1

/-! ### Raw temperatures -/

/-- The temperature of a raw value by the beta model (R220). -/
def rawTemp (s : State) (r : Nat) : Rat :=
  let ohm : Rat := 10000 * (r : Rat) / ((65535 : Rat) - r)
  1 / (20 / 5963 + realLn (ohm / s.q Obj.NTC_R25) / s.q Obj.NTC_BETA) - 27315 / 100

/-- The raw value of a temperature: the inverse of the beta model (R220), free in its rounding. -/
def tempRaw (s : State) (t : Rat) : Nat :=
  let ohm := s.q Obj.NTC_R25 * realExp (s.q Obj.NTC_BETA * (1 / (t + 27315 / 100) - 20 / 5963))
  (rround (65535 * ohm / (10000 + ohm))).toNat

/-- Whether a raw value is converted (R226). -/
def rawValid (r : Nat) : Bool := decide (0 < r ∧ r < 65535)

/-! ### Profiles -/

/-- The key of profile `n` (Table 6.11). -/
def profileKey (n : Nat) : Nat := Obj.PROFILE_0 + n

/-- Whether every F32 field of a profile outside its reserved bytes is finite (R152). -/
def profileFinite (b : Bytes) : Bool :=
  ((List.range 32).all fun j => ((fieldF32 b (24 + 4 * j)).toRat?).isSome) &&
  (List.range 2412).all fun j => ((fieldF32 b (256 + 4 * j)).toRat?).isSome

/-- An F32 field of a profile as a rational. -/
def pf (b : Bytes) (o : Nat) : Rat := (fieldF32 b o).toRat

/-- Whether a list of rationals rises strictly. -/
def rising : List Rat → Bool
  | a :: b :: r => decide (a < b) && rising (b :: r)
  | _ => true

/-- Whether a loaded profile passes every check on its own content (R152, R520). -/
def profileValid (b : Bytes) : Bool :=
  b.length == 9904 && fieldU b 0 2 == 1 && fieldU b 4 4 == crc32c (slice b 8 9896) && profileFinite b &&
  rising ((List.range 9).map fun t => pf b (28 + 4 * t)) &&
  ((List.range 9).all fun t => rising ((List.range 101).map fun j => pf b (256 + 4 * (9 * j + t)))) &&
  ((List.range 909).all fun j => decide (0 ≤ pf b (3892 + 4 * j))) &&
  ((List.range 594).all fun j => decide (0 < pf b (7528 + 4 * j))) &&
  decide (0 < pf b 24) && decide (0 < pf b 80) && decide (0 < pf b 84) &&
  decide (pf b 128 < pf b 68) && decide (pf b 68 < pf b 64) && decide (pf b 64 < pf b 124)

/-- The profile of a string, while it is valid (R520). -/
def State.profile? (s : State) (str : Nat) : Option Bytes :=
  let b := s.bytes (profileKey (s.n (Obj.PROFILE_SELECT str)))
  if profileValid b then some b else none

/-! Fields of a profile (Table 6.2), in the units of the table. -/
def pCNom (b : Bytes) : Rat := pf b 24
def pVcv (b : Bytes) : Rat := pf b 64
def pVknee (b : Bytes) : Rat := pf b 68
def pOcvSlopeMin (b : Bytes) : Rat := pf b 72
def pHystRate (b : Bytes) : Rat := pf b 76
def pCth (b : Bytes) : Rat := pf b 80
def pRthPrior (b : Bytes) : Rat := pf b 84
def pCapBound (b : Bytes) : Rat := pf b 88
def pRhoBound (b : Bytes) : Rat := pf b 92
def pRthBound (b : Bytes) : Rat := pf b 96
def pCapDrift (b : Bytes) : Rat := pf b 100
def pRhoDrift (b : Bytes) : Rat := pf b 104
def pVSigma (b : Bytes) : Rat := pf b 108
def pZRel (b : Bytes) : Rat := pf b 112
def pTopBound (b : Bytes) : Rat := pf b 116
def pBottomBound (b : Bytes) : Rat := pf b 120
def pVmax (b : Bytes) : Rat := pf b 124
def pVmin (b : Bytes) : Rat := pf b 128
def pIchgMax (b : Bytes) : Rat := pf b 132
def pIdisMax (b : Bytes) : Rat := pf b 136
def pTcoreMax (b : Bytes) : Rat := pf b 140
def pTchargeMin (b : Bytes) : Rat := pf b 144
def pTbalanceMax (b : Bytes) : Rat := pf b 148

/-- A current in A of a current in C for a profile (R150). -/
def cToA (b : Bytes) (c : Rat) : Rat := c * pCNom b / 1000

/-- The segment of `n` equal segments of the unit interval in which `z` lies, with the position in it; beyond 0 to 1
the end segments extend (R151). -/
def gridPos (n : Nat) (z : Rat) : Nat × Rat :=
  let i := (z * n).floor
  let i := if i < 0 then 0 else if (n : Int) ≤ i then (n : Int) - 1 else i
  (i.toNat, z * n - i)

/-- The temperature segment of a profile in which `t` lies, with the position in it; beyond the axis the end value
holds (R151). -/
def tempPos (b : Bytes) (t : Rat) : Nat × Rat :=
  let ax := fun j => pf b (28 + 4 * j)
  if t ≤ ax 0 then (0, 0) else
  match (List.range 8).find? fun j => decide (t ≤ ax (j + 1)) with
  | some j => (j, (t - ax j) / (ax (j + 1) - ax j))
  | none => (7, 1)

/-- A table of a profile at state of charge `z` and temperature `t`: `n` segments in z, nine temperatures (R151). -/
def table2 (b : Bytes) (start n : Nat) (z t : Rat) : Rat :=
  let (i, u) := gridPos n z
  let (j, w) := tempPos b t
  let at' := fun a c => pf b (start + 4 * (9 * a + c))
  let lo := at' i j + (at' (i + 1) j - at' i j) * u
  let hi := at' i (j + 1) + (at' (i + 1) (j + 1) - at' i (j + 1)) * u
  lo + (hi - lo) * w

/-- The slope of a table in z (per unit state of charge): that of the segment, and at a boundary the mean of the two
segments (R151). -/
def slope2 (b : Bytes) (start n : Nat) (z t : Rat) : Rat :=
  let (i, u) := gridPos n z
  let (j, w) := tempPos b t
  let at' := fun a c => pf b (start + 4 * (9 * a + c))
  let seg := fun k => (at' (k + 1) j - at' k j + ((at' (k + 1) (j + 1) - at' k (j + 1)) - (at' (k + 1) j - at' k j)) * w) * (n : Rat)
  if u = 0 ∧ 0 < i then (seg (i - 1) + seg i) / 2 else seg i

/-! Tables of a profile: open-circuit voltage in V, hysteresis half width in V, resistances in Ω, times in s. -/
def ocvMid (b : Bytes) (z t : Rat) : Rat := table2 b 256 100 z t
def ocvSlope (b : Bytes) (z t : Rat) : Rat := slope2 b 256 100 z t
def hystHalf (b : Bytes) (z t : Rat) : Rat := table2 b 3892 100 z t
def hystSlope (b : Bytes) (z t : Rat) : Rat := slope2 b 3892 100 z t
def r0Grid (b : Bytes) (z t : Rat) : Rat := table2 b 7528 10 z t / 1000
def rctGrid (b : Bytes) (z t : Rat) : Rat := table2 b 7924 10 z t / 1000
def tauCtGrid (b : Bytes) (z t : Rat) : Rat := table2 b 8320 10 z t / 1000
def rSlowGrid (b : Bytes) (z t : Rat) : Rat := table2 b 8716 10 z t / 1000
def tauSlowGrid (b : Bytes) (z t : Rat) : Rat := table2 b 9112 10 z t
def tauDGrid (b : Bytes) (z t : Rat) : Rat := table2 b 9508 10 z t

/-- PROFILES_VALID follows the loaded profiles (R520). -/
def refreshProfiles (s : State) : State :=
  s.putN Obj.PROFILES_VALID (maskOf 4 fun n => profileValid (s.bytes (profileKey n)))

end Sys2Proof.Machine
end

