-- ==== Sys2Proof/Machine/Chain.lean ====
section
/-!
DEFINITION. The chain heads (spec/03_krytlink.md): frames and their CRC, head roles, enumeration and verification,
re-addressing, delays, liveness.
-/

namespace Sys2Proof.Machine

/-- FE_STATUS codes (Table 3.11). -/
def feMatch : Nat := 0
def feMismatch : Nat := 1
def feMoved : Nat := 2
def feMissing : Nat := 3
def feWrongPart : Nat := 4

/-- HEAD_ROLE codes (Table 3.16). -/
def roleOff : Nat := 0
def roleReading : Nat := 1
def roleListening : Nat := 2
def roleSegment : Nat := 3

/-- Frame kinds (Table 3.4). -/
def kSync : Nat := 0x01
def kHeartbeat : Nat := 0x02
def kRead : Nat := 0x03
def kEcho : Nat := 0x04
def kEnum : Nat := 0x05
def kConfigWrite : Nat := 0x06
def kConfigRead : Nat := 0x07
def kBalance : Nat := 0x08
def kScan : Nat := 0x09
def kQuiet : Nat := 0x0A
def kShip : Nat := 0x0B
def kReset : Nat := 0x0C
def kImage : Nat := 0x0D
def kImageCheck : Nat := 0x0E
def kActivate : Nat := 0x0F

/-! ### Frames -/

/-- One bit of CRC-16 with polynomial 0x1021, no reflection (R64). -/
def crc16Bit (c : Nat) : Nat := if 0x8000 ≤ c then ((c * 2) % 65536) ^^^ 0x1021 else c * 2
/-- One byte of CRC-16. -/
def crc16Byte (c : Nat) (b : Byte) : Nat :=
  crc16Bit (crc16Bit (crc16Bit (crc16Bit (crc16Bit (crc16Bit (crc16Bit (crc16Bit (c ^^^ (b.toNat * 256)))))))))
/-- CRC-16 of a byte string, initial value 0xFFFF (R64). -/
def crc16 (b : Bytes) : Nat := b.foldl crc16Byte 0xFFFF

/-- A down frame (Table 3.3): KIND, DEST, SEQ, LEN, payload, CRC. -/
def downFrame (kind dest seq : Nat) (payload : Bytes) : Bytes :=
  let h := leBytes 1 kind ++ leBytes 1 dest ++ leBytes 1 seq ++ leBytes 1 payload.length ++ payload
  h ++ leBytes 2 (crc16 h)

/-- Head `h`. -/
def State.head (s : State) (h : Nat) : HeadSt := nth s.chain.heads h {}
/-- The state with head `h` replaced. -/
def State.setHead (s : State) (h : Nat) (x : HeadSt) : State :=
  { s with chain := { s.chain with heads := s.chain.heads.set h x } }
/-- The state with head `h` changed. -/
def State.modHead (s : State) (h : Nat) (f : HeadSt → HeadSt) : State := s.setHead h (f (s.head h))

/-- Head `h` puts a down frame on its line; its sequence number advances modulo 256 (Table 3.3). -/
def transmit (h kind dest : Nat) (payload : Bytes) (s : State) : State :=
  let q := (s.head h).seq
  (s.modHead h fun x => { x with seq := (q + 1) % 256 }).emit (.chainFrame h (downFrame kind dest q payload))

/-- Whether a train answers a frame (Table 3.4). -/
def answered (kind dest : Nat) : Bool :=
  [kRead, kEcho, kEnum, kConfigRead, kBalance, kScan, kImageCheck].contains kind || (kind == kConfigWrite && dest != 0)

/-- A train that is awaited no longer, since the head must send, is not complete: it is counted (R72). -/
def dropAwaited (h : Nat) (s : State) : State :=
  if (s.head h).awaiting.isNone then s else (s.inc (Obj.HEAD_TIMEOUTS h)).modHead h fun x => { x with awaiting := none }

/-- A frame goes out now; where it is answered the head awaits its train (R72). -/
def sendFrame (h kind dest : Nat) (payload : Bytes) (s : State) : State :=
  let s := dropAwaited h s
  let q := (s.head h).seq
  (transmit h kind dest payload s).modHead h fun x =>
    { x with awaiting := if answered kind dest then some ⟨kind, dest, q, payload⟩ else none }

/-- Whether a head has idle chain time: no train is awaited and no SYNC has gone out whose READ has not (R72, R100); a segment
head that has stopped transmitting has none (R116). -/
def HeadSt.idle (x : HeadSt) : Bool := x.awaiting.isNone && !x.busy && !x.silent

/-- Frames that wait go out in order, the next after an answered one only once its train's wait is over (R72). -/
def drain (h : Nat) : List OutFrame → State → State
  | [], s => s.modHead h fun x => { x with outbox := [] }
  | f :: r, s =>
    let s := sendFrame h f.kind f.dest f.payload s
    if answered f.kind f.dest then s.modHead h fun x => { x with outbox := r } else drain h r s

/-- Idle chain time of a head, if it has it, goes to the frames that wait. -/
def drainIdle (h : Nat) (s : State) : State := if (s.head h).idle then drain h (s.head h).outbox s else s

/-- A frame for idle chain time (R72, R100 step 10); a BALANCE takes the place of one to the same device that still waits. -/
def offer (h kind dest : Nat) (payload : Bytes) (s : State) : State :=
  drainIdle h (s.modHead h fun x =>
    { x with outbox := (x.outbox.filter fun f => !(kind == kBalance && f.kind == kBalance && f.dest == dest)) ++ [⟨kind, dest, payload⟩] })

/-! ### Trains (R70, R71) -/

/-- The mark that opens a block. -/
def blockMark : Bytes := [0xB5, 0x5B]

/-- The length of the blocks that answer a frame (Tables 3.7, 3.9). -/
def Await.blockLen (a : Await) : Nat :=
  match a.kind with
  | 0x03 => 206
  | 0x05 => 16
  | 0x06 => 6
  | 0x08 => 6
  | 0x07 => 6 + 4 * fieldU a.payload 1 1
  | 0x0E => 38
  | 0x09 => 17
  | _ => 0

/-- The whole blocks of `len` bytes at the start of a piece of a train, each opened by BLOCK_MARK; at most as many as `fuel`. -/
def blocksIn (len : Nat) : Nat → Bytes → List Bytes
  | 0, _ => []
  | n + 1, b =>
    if b.take 2 == blockMark && Nat.ble (len + 2) b.length then slice b 2 len :: blocksIn len n (b.drop (len + 2)) else []

/-- The blocks of a piece of a train. -/
def pieceBlocks (len : Nat) (b : Bytes) : List Bytes := if len = 0 then [] else blocksIn len (b.length / (len + 2)) b

/-- The blocks of a train before its first BREAK, and those after each BREAK. -/
def trainBlocks (a : Await) (t : Train) : List Bytes := pieceBlocks a.blockLen (t.bytes.drop 6)
def trainAfter (a : Await) (t : Train) : List (List Bytes) := t.after.map (pieceBlocks a.blockLen)

/-- Whether the CRC-16 that ends a block is right. -/
def blockCrcOk (b : Bytes) : Bool := Nat.ble 2 b.length && fieldU b (b.length - 2) 2 == crc16 (b.take (b.length - 2))

/-- The header of a train (Table 3.6): whether its CRC is right, TURN_ADDR, TURN_CAUSE. -/
def trainOk (t : Train) : Bool := Nat.ble 6 t.bytes.length && fieldU t.bytes 4 2 == crc16 (t.bytes.take 4)
def trainTurn (t : Train) : Nat := fieldU t.bytes 2 1
def trainCause (t : Train) : Nat := fieldU t.bytes 3 1

/-- Whether a train answers the frame awaited: its header is right and names its kind, with bit 7 set, and its SEQ. -/
def trainAnswers (a : Await) (t : Train) : Bool :=
  trainOk t && fieldU t.bytes 0 1 == a.kind + 0x80 && fieldU t.bytes 1 1 == a.seq

/-- The block of the addressee in the answer to a frame, if it is whole with a correct CRC and the right address. -/
def answerBlock (a : Await) (t : Train) : Option Bytes :=
  (trainBlocks a t).head?.filter fun b => blockCrcOk b && fieldU b 0 1 == a.dest

/-- The ADDR of the block that follows the last BREAK of a train (R71, R111). -/
def breakAddr (a : Await) (t : Train) : Option Nat :=
  t.after.getLast?.bind fun p => (pieceBlocks a.blockLen p).head?.bind fun b => if blockCrcOk b then some (fieldU b 0 1) else none

/-- A train's header and counters at its EOD (R70, R71, Table 3.16). -/
def trainHeader (h : Nat) (a : Await) (t : Train) (s : State) : State :=
  let blocks := trainBlocks a t ++ (trainAfter a t).flatten
  let bad := (blocks.filter fun b => !blockCrcOk b).length
  let s := s.incBy (Obj.HEAD_CRC_ERRORS h) (bad + b2n (!trainOk t))
  let s := s.incBy (Obj.HEAD_BREAKS h) t.after.length
  if trainOk t then (s.putN (Obj.HEAD_TURN_ADDR h) (trainTurn t)).putN (Obj.HEAD_TURN_CAUSE h) (trainCause t) else s

/-- A frame and the train that answers it, within one command: the train, where it answers the frame; a missing one is
counted (R72). -/
def exchange (h kind dest : Nat) (payload : Bytes) (reply : Option Train) (s : State) : Option Train × State :=
  let a : Await := ⟨kind, dest, (s.head h).seq, payload⟩
  let s := transmit h kind dest payload s
  match reply with
  | none => (none, s.inc (Obj.HEAD_TIMEOUTS h))
  | some t => (if trainAnswers a t then some t else none, trainHeader h a t s)

/-- The values a CONFIG_READ answers (Table 3.9): none where it is not answered with RESULT 0. -/
def readRegs (h addr reg count : Nat) (reply : Option Train) (s : State) : Option (List Nat) × State :=
  let payload := leBytes 1 reg ++ leBytes 1 count
  let a : Await := ⟨kConfigRead, addr, (s.head h).seq, payload⟩
  let (t, s) := exchange h kConfigRead addr payload reply s
  let b := (t.bind (answerBlock a)).filter fun b => fieldU b 1 1 == 0 && fieldU b 2 1 == count
  (b.map fun b => (List.range count).map fun i => fieldU b (4 + 4 * i) 4, s)

/-- The registers of front-end `f` as last written. -/
def State.regs (s : State) (f : Nat) : FeRegs := amGetD s.chain.regs f {}
/-- The state with the registers of front-end `f` changed. -/
def State.modRegs (s : State) (f : Nat) (g : FeRegs → FeRegs) : State :=
  { s with chain := { s.chain with regs := amSet s.chain.regs f (g (s.regs f)) } }

/-- A register of Table 3.14 that the module writes, given a value. -/
def FeRegs.set (r : FeRegs) (reg v : Nat) : FeRegs :=
  match reg with
  | 0x05 => { r with delayA := v }
  | 0x06 => { r with delayB := v }
  | 0x07 => { r with channelMask := v }
  | 0x08 => { r with ntcMask := v }
  | 0x09 => { r with ovTrip := v }
  | 0x0A => { r with uvTrip := v }
  | 0x0B => { r with bleedPwm := v }
  | 0x0C => { r with toneRole := v }
  | 0x0D => { r with ntcLimit := v }
  | _ => r

/-- Registers 0x07 to 0x0D in order. -/
def FeRegs.values (r : FeRegs) : List Nat :=
  [r.channelMask, r.ntcMask, r.ovTrip, r.uvTrip, r.bleedPwm, r.toneRole, r.ntcLimit]

/-- The payload of a CONFIG_WRITE (Table 3.5). -/
def regPayload (reg : Nat) (vals : List Nat) : Bytes :=
  leBytes 1 reg ++ leBytes 1 vals.length ++ vals.flatMap (leBytes 4)

/-- The device at an address of the chain that head `h` reads. -/
def State.devAt? (s : State) (h addr : Nat) : Option FoundDev := if addr = 0 then none else (s.head h).devs[addr - 1]?

/-- The state with that device changed. -/
def State.modDev (s : State) (h addr : Nat) (g : FoundDev → FoundDev) : State :=
  s.modHead h fun x => { x with devs := x.devs.zipIdx.map fun d => if d.2 + 1 = addr then g d.1 else d.1 }

/-- The head that reads the chain that head `h` belongs to. -/
def State.readingHeadOf (s : State) (h : Nat) : Nat := if s.n (Obj.HEAD_SHAPE h) = shapeLoop then h - h % 2 else h

/-- The time by which a frame must reach the listening head of a chain (R112), from the delays of its last device. DESIGN
CHOICE (log entry 124): a chain without devices has no such delays; its wait is the 20 µs alone. -/
def arrivalWait (s : State) (h : Nat) : Nat :=
  match (s.head (s.readingHeadOf h)).devs.getLast? with
  | some d => d.delayA + 750 + d.delayB + 20000
  | none => 20000

/-- ARRIVAL_WAIT of every head follows the delays. -/
def refreshArrivalWaits (s : State) : State :=
  s.each s.asBuilt.heads fun h s => s.putN (Obj.ARRIVAL_WAIT h) (arrivalWait s h)

/-- Registers from `reg` on of the device at an address of the chain that head `r` reads hold new values: the module's
record of them, FE_DELAY_A and FE_DELAY_B (Table 3.17) and ARRIVAL_WAIT (R112) follow. -/
def takeRegs (r addr reg : Nat) (vals : List Nat) (s : State) : State :=
  refreshArrivalWaits <|
  let set := fun (x : FeRegs) => vals.zipIdx.foldl (fun x v => x.set (reg + v.2) v.1) x
  let s := s.modDev r addr fun d =>
    let y := set { delayA := d.delayA, delayB := d.delayB }
    { d with delayA := y.delayA, delayB := y.delayB }
  match s.entryAt? r addr with
  | none => s
  | some (f, _) =>
    let s := s.modRegs f set
    (s.putN (Obj.FE_DELAY_A f) (s.regs f).delayA).putN (Obj.FE_DELAY_B f) (s.regs f).delayB

/-! ### Roles -/

/-- Whether the module is the STANDBY of a pair. -/
def State.standby (s : State) : Bool := s.n Obj.PAIR_ROLE == 2

/-- Whether the module's heads send on the chains: those of the active module until the mark of a planned swap, those of
the standby from it (R448). -/
def State.leads (s : State) : Bool := s.standby == s.duo.moved

/-- The role a head takes at RUN of the chain function (Table 3.12). -/
def State.roleAtRun (s : State) (h : Nat) : Nat :=
  match s.n (Obj.HEAD_SHAPE h) with
  | 0 => roleOff
  | 2 => if h % 2 = 0 then roleReading else roleListening
  | 3 => if !s.leads then roleListening else roleReading
  | _ => roleReading

/-- The heads of the module in order. -/
def State.headList (s : State) : List Nat := List.range s.asBuilt.heads
/-- The heads with a role. -/
def State.headsIn (s : State) (role : Nat) : List Nat := s.headList.filter fun h => s.n (Obj.HEAD_ROLE h) == role

/-- The registers of a device go into idle chain time, from the head that reaches it (R82, R132, R219, R266); they hold
once its answer has RESULT 0. -/
def writeRegs (h addr reg : Nat) (vals : List Nat) (s : State) : State := offer h kConfigWrite addr (regPayload reg vals) s

/-- The head that reaches an address of the chain that head `r` reads: that head, or the segment head of a LOOP beyond a cut
while it transmits (R116). -/
def State.headAt (s : State) (r addr : Nat) : Nat :=
  let p := loopPeer r
  if s.n (Obj.HEAD_SHAPE r) = shapeLoop ∧ s.n (Obj.BREAK_HOP r) < addr ∧ s.n (Obj.HEAD_ROLE p) = roleSegment ∧ (s.head p).silent = false then p
  else r

/-- The head that reaches a front-end. -/
def State.headFor (s : State) (e : MapEntry) : Nat := s.headAt e.head e.address

/-- Registers of every device of every chain are written, with a map entry or without, where the heads of the module send. -/
def writeChainRegs (reg : Nat) (vals : List Nat) (s : State) : State :=
  if !s.running Obj.CHAIN_STATE || !s.leads then s else
  s.forAll (s.headsIn roleReading) fun r s =>
    s.forAll (List.range (s.n (Obj.HEAD_DEVICES r))) fun i s => writeRegs (s.headAt r (i + 1)) (i + 1) reg vals s

/-- Registers of every mapped front-end are written, as a function of its own, where the heads of the module send. -/
def writeAllRegs (reg : Nat) (vals : Nat → MapEntry → List Nat) (s : State) : State :=
  if !s.running Obj.CHAIN_STATE || !s.leads then s else
  s.forAll s.entries fun x s => writeRegs (s.headFor x.2) x.2.address reg (vals x.1 x.2) s

/-! ### Enumeration and verification -/

/-- The one-way delay that the times of 16 ECHOs give (R76), all in ns: none with fewer times. DESIGN CHOICE (log entry
122): the spec rounds neither the average nor the half; both are cut to whole ns. -/
def echoDelay (times : List Nat) : Option Nat := if times.length = 16 then some ((times.sum - 64000) / 32) else none

/-- The verification status of an entry from the device that answers at its place (Table 3.11). -/
def verifyStatus (all : List (Nat × MapEntry)) (f : Nat) (e : MapEntry) (d : Option FoundDev) : Nat :=
  match d with
  | none => feMissing
  | some d =>
    if d.uid = e.uid then (if d.channels = 16 ∧ d.format = 1 then feMatch else feWrongPart)
    else if all.any (fun x => x.1 != f && x.2.uid == d.uid) then feMoved
    else feMismatch

/-- QUIET_NTC_LIMIT: the raw value of WATCH_T_MAX (R220, log entry 123). -/
def quietLimit (s : State) : Nat := min 65535 (tempRaw s (s.q Obj.WATCH_T_MAX))

/-- The registers of Table 3.14 that the module writes from the configuration alone to the device at an address of the chain
of head `h` (R82 step 8, R88). -/
def chainRegs (s : State) (h addr : Nat) (r : FeRegs) : FeRegs :=
  let last := s.n (Obj.HEAD_SHAPE h) == shapeLine && addr == s.n (Obj.HEAD_DEVICES h)
  { r with bleedPwm := s.n Obj.BLEED_PWM_SET, toneRole := b2n last, ntcLimit := quietLimit s }

/-- The registers of Table 3.14 that the module writes from the map and the configuration (R82 step 8, R88, R219, R220, R266). -/
def configRegs (s : State) (e : MapEntry) (r : FeRegs) : FeRegs :=
  let r := { chainRegs s e.head e.address r with channelMask := e.mask, ntcMask := maskOf 8 fun j => geoFitted s.geo (e.ntcBase + j) }
  match s.profile? e.string with
  | some p => { r with ovTrip := (rround (pVmax p * 1000)).toNat + s.n Obj.HW_OV_MARGIN,
                       uvTrip := (rround (pVmin p * 1000)).toNat - s.n Obj.HW_UV_MARGIN }
  | none => { r with ovTrip := 4500, uvTrip := 1500 }

/-- MAP_MISMATCHES follows FE_STATUS (Table 3.15). -/
def countMismatches (s : State) : State :=
  s.putN Obj.MAP_MISMATCHES (s.entries.filter fun x => s.n (Obj.FE_STATUS x.1) != feMatch).length

/-- LEAD_CAL_STATUS of a front-end, stored in the configuration with the UID it holds for (R135). -/
def setLead (f uid status : Nat) (s : State) : State :=
  { s.putN (Obj.LEAD_CAL_STATUS f) status with idp := { s.idp with leads := amSet s.idp.leads f (uid, status) } }

/-- LEAD_CAL_STATUS is the one stored where the entry keeps the UID, NONE for another (R135). -/
def recallLead (f uid : Nat) (s : State) : State :=
  let x := amGetD s.idp.leads f (0, 0)
  s.putN (Obj.LEAD_CAL_STATUS f) (if x.1 = uid then x.2 else 0)

/-- One entry is verified against the device that answers at its place (R85). -/
def verifyEntry (all : List (Nat × MapEntry)) (x : Nat × MapEntry) (s : State) : State :=
  let (f, e) := x
  let s := recallLead f e.uid s
  let d := s.devAt? e.head e.address
  let s := s.putN (Obj.FE_STATUS f) (verifyStatus all f e d)
  match d with
  | none => (s.putN (Obj.FE_UID f) 0).putN (Obj.FE_STATE f) 0
  | some d => (s.putN (Obj.FE_UID f) d.uid).putN (Obj.FE_STATE f) 1

/-- A cut located by a head: recorded and logged when it differs from BREAK_HOP (R111). -/
def locateCut (h hop : Nat) (s : State) : State :=
  if s.n (Obj.BREAK_HOP h) = hop then s else
  let k := s.n Obj.SWEEP_COUNT
  let s := (s.putN (Obj.BREAK_HOP h) hop).putN (Obj.BREAK_SWEEP h) k
  let s := s.modHead h fun x => { x with newCut := some (hop, k) }
  s.logN 0x0102 0x2100 h hop (k % 2 ^ 32)

/-- Where the procedure of R82 stands: the address to assign, whether its ENUM is repeated, whether CONFIG_READ is next, the
devices found, whether the chain has ended, the address of an ENUM_FAULT, CHAIN_TOO_LONG. -/
structure EnumAt where
  a : Nat := 1
  again : Bool := false
  reading : Bool := false
  devs : List FoundDev := []
  ended : Bool := false
  fault : Nat := 0
  tooLong : Bool := false
  deriving DecidableEq, Repr

/-- The device that an ENUM block describes (Table 3.9). -/
def enumDev (b : Bytes) : FoundDev :=
  { uid := fieldU b 0 8, part := fieldU b 8 2, channels := fieldU b 10 1, hwRev := fieldU b 11 1, fw := fieldU b 12 2 }

/-- The device that registers 0x00 to 0x04 describe (Table 3.14). -/
def regsDev (v : List Nat) : FoundDev :=
  let g := fun i => nth v i 0
  { uid := g 0 + g 1 * 2 ^ 32, part := g 2 / 65536, channels := g 2 % 256, hwRev := g 2 / 256 % 256, fw := g 3 % 65536,
    conn := some (bitOf (g 4) 16) }

/-- The next address, with a device found at this one. -/
def EnumAt.found (x : EnumAt) (d : FoundDev) : EnumAt :=
  { x with a := x.a + 1, again := false, reading := false, devs := x.devs ++ [d] }

/-- ENUM with DEST 255 (Table 3.5): the block of the taker, the train's answer where it has none. -/
def sendEnum (h addr tag : Nat) (reply : Option Train) (s : State) : Option (Train × Option Bytes) × State :=
  let payload := leBytes 1 addr ++ leBytes 1 tag ++ leBytes 2 0
  let a : Await := ⟨kEnum, 255, (s.head h).seq, payload⟩
  let (t, s) := exchange h kEnum 255 payload reply s
  (t.map fun t => (t, (trainBlocks a t).head?.filter blockCrcOk), s)

/-- One frame of steps 3 to 7 of R82 with the train that answers it. The taker's train may carry the address it has just
taken or 0 (R82 step 4, Table 3.6; log entry 125). -/
def enumStep (h : Nat) (x : EnumAt × State) (reply : Option Train) : EnumAt × State :=
  let (e, s) := x
  if e.ended then (e, s)
  else if 250 < e.a then
    let (t, s) := sendEnum h 0 h reply s
    ({ e with ended := true, tooLong := (t.map fun t => trainCause t.1 == 1) == some true }, s)
  else if e.reading then
    let (v, s) := readRegs h e.a 0 5 reply s
    match v with
    | some v => (e.found (regsDev v), s)
    | none => (if e.again then { e with ended := true, fault := e.a } else { e with again := true, reading := false }, s)
  else
    let (t, s) := sendEnum h e.a h reply s
    match t with
    | some (t, b) =>
      if trainCause t = 2 then ({ e with ended := true }, s)
      else match b with
        | some b => if trainTurn t = e.a ∨ trainTurn t = 0 then (e.found (enumDev b), s) else ({ e with reading := true }, s)
        | none => ({ e with reading := true }, s)
    | none => (if e.a = 1 ∧ reply.isNone then { e with ended := true } else { e with reading := true }, s)

/-- One ECHO to a device with the train that answers it (R75, R76): its time joins those before it where the train answers. -/
def echoStep (h addr : Nat) (x : List Nat × State) (r : Option EchoTrain) : List Nat × State :=
  let (t, s) := exchange h kEcho addr [] (r.map (·.train)) x.2
  (match t, r with
   | some _, some r => x.1 ++ [r.time]
   | _, _ => x.1, s)

/-- The 16 ECHOs to a device (R76): the delay they give, none where one of them is not answered. -/
def measureEcho (h addr : Nat) (replies : List (Option EchoTrain)) (s : State) : Option Nat × State :=
  let (times, s) := ((List.range 16).map fun i => nth replies i none).foldl (echoStep h addr) ([], s)
  (echoDelay times, s)

/-- The answer to an addressed CONFIG_WRITE (Table 3.9, R94): with RESULT 0 its registers hold. -/
def configAck (h : Nat) (a : Await) (b : Bytes) (s : State) : State :=
  if fieldU b 1 1 ≠ kConfigWrite ∨ fieldU b 2 1 ≠ 0 then s else
  takeRegs (s.readingHeadOf h) a.dest (fieldU a.payload 0 1)
    ((List.range (fieldU a.payload 1 1)).map fun i => fieldU a.payload (2 + 4 * i) 4) s

/-- A CONFIG_WRITE within enumeration or re-addressing with the train that answers it (R72, R75, R82 step 8). -/
def writeNow (h addr reg : Nat) (vals : List Nat) (reply : Option Train) (s : State) : State :=
  let payload := regPayload reg vals
  let a : Await := ⟨kConfigWrite, addr, (s.head h).seq, payload⟩
  let (t, s) := exchange h kConfigWrite addr payload reply s
  match t.bind (answerBlock a) with
  | some b => configAck h a b s
  | none => s

/-- The registers that the device at an address of the chain of head `r` gets from the map and the configuration, from head
`h` (R82 step 8, R87): one without a map entry gets those that the configuration alone gives. -/
def writeConfig (h r addr : Nat) (reply : Option Train) (s : State) : State :=
  match s.entryAt? r addr with
  | some (f, e) => writeNow h addr 0x07 (configRegs s e (s.regs f)).values reply s
  | none => writeNow h addr 0x0B ((chainRegs s r addr {}).values.drop 4) reply s

/-- Step 8 of R82 for the device at an address: its delay from the reading head, its registers from the map and the
configuration. A delay that could not be measured stays 0, as RESET has left it. -/
def enumConfigure (h addr : Nat) (x : DevAnswers) (s : State) : State :=
  let (d, s) := measureEcho h addr x.echoA s
  writeConfig h h addr x.regs (writeNow h addr 0x05 [d.getD 0] x.delayA (takeRegs h addr 0x05 [0, 0] s))

/-- Step 9 of R82 for the device at an address: the other head measures its delay, on a BRIDGE that of the partner; the reading
head writes it. Whether every delay so far has been measured goes along. -/
def enumFar (h : Nat) (x : Bool × State) (i : DevAnswers × Nat) : Bool × State :=
  let (d, s) := if x.2.n (Obj.HEAD_SHAPE h) = shapeLoop then measureEcho (loopPeer h) (i.2 + 1) i.1.echoB x.2
    else (echoDelay (i.1.echoB.filterMap fun r => r.map (·.time)), x.2)
  match d with
  | some d => (x.1, writeNow h (i.2 + 1) 0x06 [d] i.1.delayB s)
  | none => (false, s)

/-- The other head of a chain at the end of enumeration (R82 step 9): it has received the last ENUM, or records the cut. -/
def farEnd (p n : Nat) (heard measured : Bool) (s : State) : State :=
  let s := (s.putB (Obj.HEAD_CONTINUITY p) heard).modHead p fun y => { y with delaysB := heard && measured, misses := 0 }
  if heard then s else locateCut p n s

/-- HEAD_DEVICES and HEAD_UNEXPECTED of a chain. -/
def countDevices (h : Nat) (s : State) : State :=
  let n := (s.head h).devs.length
  (s.putN (Obj.HEAD_DEVICES h) n).putN (Obj.HEAD_UNEXPECTED h)
    ((List.range n).filter fun i => (s.entryAt? h (i + 1)).isNone).length

/-- What a head holds of an earlier enumeration is dropped. -/
def freshHead (h : Nat) (s : State) : State :=
  s.modHead h fun y => { seq := y.seq }

/-- Enumeration of one chain by its head (R82 steps 1 to 9); before it WAKE_LONG and WAKE (R454). A load under way is dropped:
it names addresses of the enumeration before, and begins again where it is still due (R478, R480). -/
def enumerateHead (x : EnumHead) (s : State) : State :=
  let h := x.head
  let s : State := { s with upd := { s.upd with jobs := amErase s.upd.jobs h } }
  let s := (freshHead h s).emit (.wakeSymbol h true) |>.emit (.wakeSymbol h false)
  let key := leBytes 2 0xA55A
  let s := transmit h kReset 0 key (transmit h kReset 0 key s)
  let (e, s) := (x.replies ++ List.replicate 4 none).foldl (enumStep h) ({}, s)
  let s := countDevices h (s.modHead h fun y => { y with devs := e.devs })
  let s := (s.putN (Obj.HEAD_ENUM_FAULT h) e.fault).putB (Obj.CHAIN_TOO_LONG h) e.tooLong
  let n := e.devs.length
  let s := s.forAll (List.range n) fun i s => enumConfigure h (i + 1) (nth x.devs i {}) s
  let shape := s.n (Obj.HEAD_SHAPE h)
  let s := if shape = shapeLoop then freshHead (loopPeer h) s else s
  let (all, s) := if (shape == shapeLoop || shape == shapeBridge) && x.farHeard then
      ((List.range n).map fun i => (nth x.devs i {}, i)).foldl (enumFar h) (true, s)
    else (true, s)
  if shape = shapeLoop then farEnd (loopPeer h) n x.farHeard all s else s

/-- A listening head of a BRIDGE does not enumerate: it learns its chain (R88, R82 step 9). -/
def learnHead (x : EnumHead) (s : State) : State :=
  let h := x.head
  let s := countDevices h ((freshHead h s).modHead h fun y => { y with devs := x.learned })
  let s := s.forAll (x.learned.zipIdx) fun d s => takeRegs h (d.2 + 1) 0x05 [d.1.delayA, d.1.delayB] s
  farEnd h x.learned.length x.farHeard true s

/-- Enumeration of every enumerating head, verification of every entry, ENUM_DONE (R82, R85). A head for which nothing
was found enumerates an empty chain. -/
def enumerateAll (found : List EnumHead) (s : State) : State :=
  let of := fun h => (found.find? fun x => x.head == h).getD ⟨h, [], [], false, []⟩
  let s := s.forAll (s.headsIn roleReading) fun h s => enumerateHead (of h) s
  let s := s.forAll ((s.headsIn roleListening).filter fun h => s.n (Obj.HEAD_SHAPE h) == shapeBridge && found.any fun x => x.head == h)
    fun h s => learnHead (of h) s
  let all := s.entries
  let s := s.forAll all (verifyEntry all)
  (countMismatches (refreshArrivalWaits s)).putB Obj.ENUM_DONE true

/-- RUN check of the chain function (R84). MAP_ERROR_ENTRY is set by the RUN, refused or accepted. -/
def chainRunCheck (s : State) : Option Abort :=
  (mapError s).map fun e => { inconsistent Obj.POSITION_MAP with notes := [(Obj.MAP_ERROR_ENTRY, e)] }

/-- Whether an object shows a cell or a front-end that has no entry in the position map (R368). -/
def unmappedObj (cells fes : List Nat) (key : Nat) : Bool :=
  let idx := key / 65536
  let n := key % 65536
  let gone := if 0x4000 ≤ idx ∧ idx < 0x5000 then !cells.contains n else 0x7000 ≤ idx && idx < 0x8000 && !fes.contains n
  gone && (findRow key).any fun x => x.2.access == .ro

/-- The read-only objects of cells and front-ends without an entry stand at their defaults (R368). -/
def blankUnmapped (s : State) : State :=
  let cells := s.mappedCells.map (·.1)
  let fes := s.entries.map (·.1)
  { s with store := s.store.filter fun kv => !unmappedObj cells fes kv.1 }

/-- RUN of the chain function: roles by shape and, on the active module, enumeration (R82, R88). -/
def chainRun (found : List EnumHead) (s : State) : State :=
  let s := (s.putN Obj.MAP_ERROR_ENTRY 0xFFFF).putB Obj.ENUM_DONE false
  let s := s.forAll s.headList fun h s => s.putN (Obj.HEAD_ROLE h) (s.roleAtRun h)
  enumerateAll found (blankUnmapped s)

/-- STOP of the chain function is refused while the sweep function runs (R97). -/
def chainStopCheck (s : State) : Option Abort :=
  if s.running Obj.SWEEP_STATE then some (conflict Obj.SWEEP_STATE) else none

/-- STOP of the chain function: every head is OFF; what waits for its line is dropped. -/
def chainStop (s : State) : State :=
  s.forAll s.headList fun h s =>
    (s.putN (Obj.HEAD_ROLE h) roleOff).modHead h fun x => { x with awaiting := none, outbox := [], busy := false }

/-- A map with the UID of entry `f` replaced and MAP_CRC recomputed (R86). -/
def mapWithUid (b : Bytes) (f uid : Nat) : Bytes :=
  let o := 16 + 24 * f
  let entries := (slice b 16 (b.length - 16))
  let entries' := entries.take (o - 16) ++ leBytes 8 uid ++ entries.drop (o - 16 + 8)
  b.take 4 ++ leBytes 4 (crc32c entries') ++ slice b 8 8 ++ entries'

/-- ACCEPT_DEVICE adopts the observed UID of a MISMATCH entry; from the next sweep mark the entry is MATCH (R86). -/
def ownAcceptDevice (v : Val) (s : State) : Except Abort State :=
  let f := v.toNat
  if (s.entry? f).isNone ∨ s.n (Obj.FE_STATUS f) ≠ feMismatch then .error (inconsistent Obj.ACCEPT_DEVICE) else
  let uid := s.n (Obj.FE_UID f)
  let s := s.putBytes Obj.POSITION_MAP (mapWithUid (s.bytes Obj.POSITION_MAP) f uid)
  let s : State := { flashOne Obj.CHAIN_STATE Obj.POSITION_MAP s with chain := { s.chain with accepted := f :: s.chain.accepted } }
  .ok (s.logN 0x0103 0x2100 f (uid % 2 ^ 32) (uid / 2 ^ 32))

/-- At a sweep mark, adopted entries become MATCH (R86). -/
def acceptAtMark (s : State) : State :=
  let l := s.chain.accepted
  if l.isEmpty then s else
  let s := s.forAll l fun f s => s.putN (Obj.FE_STATUS f) feMatch
  countMismatches { s with chain := { s.chain with accepted := [] } }

/-! ### Service -/

/-- Whether the head may send in the ACTIVE power state: the chain function runs and the head reads or is a segment
head that has not been stopped (R89, R90, R116). -/
def State.headSends (s : State) (h : Nat) : Bool :=
  s.running Obj.CHAIN_STATE && (s.n (Obj.HEAD_ROLE h) == roleReading ||
    (s.n (Obj.HEAD_ROLE h) == roleSegment && !(s.head h).silent))

/-- HEARTBEAT (R90): HEAD_TIME is the low 32 bits of base L at the frame's reference instant, `ahead` ns from now. A head that
awaits a train has no idle chain. -/
def heartbeat (h ahead : Nat) (s : State) : State :=
  if s.headSends h && (s.head h).awaiting.isNone then
    transmit h kHeartbeat 0 (leBytes 4 ((s.lNow + ahead) % 2 ^ 32)) s else s

/-- The time in ns from the start of a down frame with a payload of `n` bytes to its reference instant: 2 bytes of
PREAMBLE, SFD and the frame of Table 3.3 at 8 Mbit/s (Tables 3.1, 3.2). -/
def airTime (n : Nat) : Nat := (2 + 1 + 6 + n) * 1000

/-- Whether head `h` measures delays from the port B side: a listening or segment head; on the module that reads a BRIDGE the
partner's head does it for its reading head (log entry 126). -/
def measuresFar (s : State) (h : Nat) : Bool :=
  let role := s.n (Obj.HEAD_ROLE h)
  role == roleListening || role == roleSegment || (role == roleReading && s.n (Obj.HEAD_SHAPE h) == shapeBridge)

/-- One device's delay measured again (R76): its 16 ECHOs; the register is rewritten when the delay has changed by more than
10 ns, by the reading head (R89); the reading head also reads STATE and ERRORS of its device (log entry 127). The addresses
measured so far go along. -/
def echoOne (h : Nat) (fromB : Bool) (y : List Nat × State) (x : EchoDev) : List Nat × State :=
  let s := y.2
  let r := s.readingHeadOf h
  let own := s.n (Obj.HEAD_ROLE h) == roleReading
  let (d, s) := if fromB && own then (echoDelay (x.echoes.filterMap fun r => r.map (·.time)), s) else measureEcho h x.addr x.echoes s
  let done := if d.isSome then x.addr :: y.1 else y.1
  let s := match d, s.devAt? r x.addr with
    | some d, some v =>
      let b := fromB != v.swapped
      let old := if b then v.delayB else v.delayA
      if (old : Int) - d ≤ 10 ∧ (d : Int) - old ≤ 10 then s
      else if fromB && s.n (Obj.HEAD_SHAPE h) == shapeBridge && !own then takeRegs r x.addr (if b then 0x06 else 0x05) [d] s
      else writeRegs r x.addr (if b then 0x06 else 0x05) [d] s
    | _, _ => s
  if fromB then (done, s) else
  let (v, s) := readRegs h x.addr 0x0E 2 x.regs s
  match v, s.entryAt? r x.addr with
  | some v, some (f, _) => (done, (s.putN (Obj.FE_STATE f) (nth v 0 0 % 16)).putN (Obj.FE_LINK_ERRORS f) (nth v 1 0))
  | _, _ => (done, s)

/-- ECHO_PERIOD expires (R76): in idle chain time delays are measured again. A head that has measured SYNC_DELAY_B for every
address may act as a segment head (R82 step 9). -/
def echoDue (h : Nat) (fromB : Bool) (results : List EchoDev) (s : State) : State :=
  let may := if fromB then measuresFar s h else s.n (Obj.HEAD_ROLE h) == roleReading
  if !s.running Obj.CHAIN_STATE || !(s.head h).idle || !may then s else
  let (done, s) := results.foldl (echoOne h fromB) ([], s)
  let whole := (List.range (s.n (Obj.HEAD_DEVICES (s.readingHeadOf h)))).all fun i => done.contains (i + 1)
  if fromB && whole then s.modHead h fun x => { x with delaysB := true } else s

/-- What the module knows of a device that has taken its address again, from its ENUM block and, where it answers, its
registers: which of its connectors is port A now tells whether its port A faces the far end (R117, log entry 128). -/
def readdressed (old : Option FoundDev) (seg : Bool) (b : Bytes) (v : Option (List Nat)) : FoundDev :=
  let o := old.getD {}
  let conn := v.map fun v => bitOf (nth v 0 0) 16
  let swapped := match o.conn, conn with
    | some c0, some c => o.swapped != (c0 != c)
    | _, _ => seg
  let turned := swapped != o.swapped
  { enumDev b with conn, swapped, delayA := if turned then o.delayB else o.delayA, delayB := if turned then o.delayA else o.delayB }

/-- Re-addressing in idle chain time (R87, R117): where the head's READ train turned early, one ENUM a sweep with NEW_ADDR
beside TURN_ADDR; a device that answers is verified alone, its registers written from configuration with the stored
delays, its blocks used from the first SYNC that follows. `answers` are the trains of ENUM, CONFIG_READ and the two
CONFIG_WRITEs, in that order. -/
def readdress (h : Nat) (answers : List (Option Train)) (s : State) : State :=
  let x := s.head h
  let seg := s.n (Obj.HEAD_ROLE h) == roleSegment
  match x.readTurn with
  | none => s
  | some (turn, cause) =>
  if !s.headSends h || !x.idle || x.readdressed || cause != 2 ||
     (!seg && Nat.ble (s.n (Obj.HEAD_DEVICES h)) turn) || (seg && Nat.ble turn 1) then s else
  let addr := if seg then turn - 1 else turn + 1
  let r := s.readingHeadOf h
  let (t, s) := sendEnum h addr r (nth answers 0 none) s
  let s := s.modHead h fun y => { y with readdressed := true }
  match t.bind fun t => if trainCause t.1 = 1 then t.2 else none with
  | none => s
  | some b =>
    let (v, s) := readRegs h addr 0x04 1 (nth answers 1 none) s
    let d := readdressed (s.devAt? r addr) seg b v
    let s := writeNow h addr 0x05 [d.delayA, d.delayB] (nth answers 2 none) (refreshArrivalWaits (s.modDev r addr fun _ => d))
    let s := writeConfig h r addr (nth answers 3 none) s
    match s.entryAt? r addr with
    | none => s
    | some (f, e) =>
      let s := verifyEntry s.entries (f, e) s
      countMismatches { s with chain := { s.chain with held := (f, none) :: s.chain.held.filter fun y => y.1 != f } }

end Sys2Proof.Machine
end

