-- ==== Sys2Proof/Machine/Sweep.lean ====
section
/-!
DEFINITION. Sweeps and chain faults (spec/04_sweep.md): SYNC and READ, the string values, freshness of blocks, cuts
and segment reads.
-/

namespace Sys2Proof.Machine

/-! ### Complex numbers -/

/-- Product, quotient and squared magnitude of complex numbers; a quotient by 0 is a free value. -/
def cMul (a b : Rat × Rat) : Rat × Rat := (a.1 * b.1 - a.2 * b.2, a.1 * b.2 + a.2 * b.1)
def cAbs2 (a : Rat × Rat) : Rat := a.1 * a.1 + a.2 * a.2
def cDiv (a b : Rat × Rat) : Rat × Rat :=
  let m := cAbs2 b
  ((a.1 * b.1 + a.2 * b.2) / m, (a.2 * b.1 - a.1 * b.2) / m)
def cAdd (a b : Rat × Rat) : Rat × Rat := (a.1 + b.1, a.2 + b.2)
def cSub (a b : Rat × Rat) : Rat × Rat := (a.1 - b.1, a.2 - b.2)
def cScale (k : Rat) (a : Rat × Rat) : Rat × Rat := (k * a.1, k * a.2)

/-- The phasor of samples at harmonic `h` (R78): sample `i` stands at angle `start` + i × 2²⁶. -/
def phasor (h start : Nat) (v : List Rat) : Rat × Rat :=
  let n : Rat := (v.length : Rat)
  let turn := fun (i : Nat) => (h : Rat) * ((start + i * 2 ^ 26 : Nat) : Rat) / (2 ^ 32 : Nat)
  let idx := v.zipIdx
  (2 / n * (idx.map fun x => x.1 * realCosTurn (turn x.2)).sum,
   -(2 / n) * (idx.map fun x => x.1 * realSinTurn (turn x.2)).sum)

/-- The mean of samples; 0 for none. -/
def meanOf (v : List Rat) : Rat := v.sum / (v.length : Rat)

/-! ### Read bound and RUN checks -/

/-- The chain time of `n` devices in s. -/
def chainTime (n : Nat) : Rat := 3 / 10000 + (n : Rat) * 21 / 100000

/-- How many devices the chain of head `h` must be read for (R108). -/
def State.chainCount (s : State) (h : Nat) : Nat :=
  max (s.n (Obj.HEAD_DEVICES h)) (s.entries.filter fun x => x.2.head == h).length

/-- RUN checks of the sweep function: placement (R49), harmonics and pilot (R107), chain time (R108), SYNC_LEAD
(R112). -/
def sweepRunCheck (s : State) : Option Abort :=
  match sweepPlaceCheck s with
  | some a => some a
  | none =>
    let ha := s.n Obj.HARMONIC_A
    let hp := s.n Obj.PILOT_HARMONIC
    let cyc := s.n Obj.SWEEP_CYCLES
    let tn : Rat := (cyc : Rat) / s.q Obj.M_NOMINAL_FREQ
    let per := s.n Obj.PILOT_SWEEPS_PER_PERIOD
    let fp : Rat := 1 / ((per : Rat) * tn)
    let bound := readBound tn cyc (s.n Obj.WINDOW_CYCLES) (s.n Obj.SYNC_LEAD)
    let lead : Nat := s.n Obj.SYNC_LEAD
    let late := s.headList.any fun h =>
      s.n (Obj.HEAD_ROLE h) != roleOff &&
      (let b := (s.head (s.readingHeadOf h)).devs.foldl (fun m d => max m d.delayB) 0
       decide (lead < s.n (Obj.ARRIVAL_WAIT h) + b + 200000))
    if ha = s.n Obj.HARMONIC_B then some (inconsistent Obj.HARMONIC_B)
    else if s.b Obj.PILOT_ENABLE ∧ hp = ha then some (inconsistent Obj.PILOT_HARMONIC)
    else if s.b Obj.PILOT_ENABLE ∧ hp = 0 ∧ (1 / (4 * tn) < fp ∨ fp < 1) then some (inconsistent Obj.PILOT_SWEEPS_PER_PERIOD)
    else if s.headList.any fun h => decide (bound < chainTime (s.chainCount h)) then some (inconsistent Obj.SWEEP_CYCLES)
    else if late then some (inconsistent Obj.SYNC_LEAD)
    else none

/-- RUN of the sweep function: the first mark is placed (R48). -/
def sweepRun (s : State) : State :=
  let s := refreshReadLimit (placeFirstMark s)
  { s with sweep := { s.sweep with syncs := [], fresh := [], deadline := false, latched := false, tailDone := true,
                                   strs := s.sweep.strs.map fun x => { x with acc := 0, ovr := false, faultSeen := false } },
           time := { s.time with unlocked := false } }

/-- No SYNC waits for its READ any more: idle chain time begins (R100). -/
def endReads (s : State) : State := s.forAll s.headList fun h s => drainIdle h (s.modHead h fun x => { x with busy := false })

/-- What the dispatcher keeps changed. -/
def State.modDisp (s : State) (f : DispSt → DispSt) : State := { s with disp := f s.disp }

/-- The granted pilot period ends (R107, R334): its set, whole or not, is dropped. -/
def pilotEnd (s : State) : State :=
  let s := (s.putB Obj.PILOT_ACTIVE false).modDisp fun d => { d with grant := 0, grantEnd := some s.lNow }
  { s with sweep := { s.sweep with pilotK := 0, pilotCells := [], pilotStrs := [] } }

/-- Whether the pilot tone acts: a period is granted and PILOT_ENABLE is 1 (R107). -/
def State.pilotOn (s : State) : Bool := s.b Obj.PILOT_ACTIVE && s.b Obj.PILOT_ENABLE

/-- STOP of the sweep function: no mark is placed any more; a granted pilot period ends (log entry 164). -/
def sweepStop (s : State) : State :=
  let s := if s.b Obj.PILOT_ACTIVE then pilotEnd s else s
  adoptResuming (endReads { s with time := { s.time with nextMark := none } })

/-! ### SYNC and READ -/

/-- Whether the front-ends of head `h` are under lead calibration (R133). -/
def State.calOnHead (s : State) (h : Nat) : Bool :=
  s.est.fes.any fun x => x.2.cal.isSome && ((s.entry? x.1).map fun e => e.head == s.readingHeadOf h).getD false

/-- The sweep whose SYNC is sent now: that of the next mark while its window is not open, else the one after. -/
def State.syncSweep (s : State) : Nat := s.n Obj.SWEEP_COUNT + (if s.windowOpen then 2 else 1)

/-- The fields of SYNC(k) from base M (R101). -/
def syncFields (k : Nat) (s : State) : SyncRec :=
  let d : Int := if s.b Obj.SWEEP_DITHER ∧ !s.windowOpen then s.time.delta else 0
  let pilot := s.pilotOn && s.n Obj.PILOT_HARMONIC != 0
  { sweep := k, startAngle := twos 32 ((s.n Obj.SWEEP_ANGLE : Int) + d), harmA := s.n Obj.HARMONIC_A,
    harmB := if pilot then s.n Obj.PILOT_HARMONIC else s.n Obj.HARMONIC_B, blanking := s.b Obj.BLANKING, pilot,
    fw := s.n Obj.M_FREQ_WORD, open_ := s.headList.filter s.calOnHead }

/-- Whether the front-ends of head `h` hold their switches off in the window of a SYNC (R131, R133). -/
def blankedAt (r : SyncRec) (h : Nat) : Bool := r.blanking && !r.open_.contains h

/-- SAMPLE_INTERVAL of a frequency word (R101). -/
def sampleInterval (fw : Nat) : Nat := (rround ((40 * 2 ^ 48 : Nat) / (fw : Rat))).toNat

/-- The payload of a SYNC (Table 3.5) with the given START_OFFSET, its reference instant `ahead` ns from now. -/
def syncPayload (r : SyncRec) (offset ahead : Nat) (blanking : Bool) (s : State) : Bytes :=
  leBytes 2 (r.sweep % 65536) ++ leBytes 4 offset ++ leBytes 4 r.startAngle ++ leBytes 4 (sampleInterval r.fw) ++
  leBytes 2 (64 * s.n Obj.WINDOW_CYCLES) ++ leBytes 1 r.harmA ++ leBytes 1 r.harmB ++ leBytes 1 (b2n blanking) ++
  leBytes 1 0 ++ leBytes 4 ((s.lNow + ahead) % 2 ^ 32)

/-- A re-addressed front-end whose first SYNC goes out is used from that sweep (R117). -/
def releaseHeld (k h : Nat) (s : State) : State :=
  { s with chain := { s.chain with held := s.chain.held.map fun x =>
      if x.2.isNone ∧ (s.entry? x.1).any (fun e => e.head == s.readingHeadOf h) then (x.1, some k) else x } }

/-- Head `h` sends SYNC: its chain time is not idle before the READ (R100). -/
def sendSync (r : SyncRec) (offset ahead : Nat) (h : Nat) (s : State) : State :=
  releaseHeld r.sweep h
    ((sendFrame h kSync 0 (syncPayload r offset ahead (blankedAt r h) s) s).modHead h fun x => { x with busy := true })

/-- SYNC(k) from every reading head, START_OFFSET = SYNC_LEAD (R100 step 1, R101). -/
def syncSend (s : State) : State :=
  if !s.running Obj.SWEEP_STATE || !s.running Obj.CHAIN_STATE || !s.leads then s else
  let r := syncFields s.syncSweep s
  let s : State := { s with sweep := { s.sweep with syncs := (r :: s.sweep.syncs.filter fun x => x.sweep != r.sweep).take 3 } }
  s.forAll (s.headsIn roleReading) (sendSync r (s.n Obj.SYNC_LEAD) 0)

/-- The payload of a READ of sweep `k` (Table 3.5). -/
def readPayload (k : Nat) : Bytes := leBytes 2 (k % 65536) ++ leBytes 2 0

/-- Head `h` sends READ(k), DEST 0. -/
def sendRead (h : Nat) (s : State) : State :=
  let s := s.modHead h fun x => { x with readL := s.lNow, busy := false }
  sendFrame h kRead 0 (readPayload (s.n Obj.SWEEP_COUNT)) s

/-- READ(k) from every reading head whose worst-case train ends within the read bound (R100 step 8, R108). -/
def readStart (s : State) : State :=
  if !s.running Obj.SWEEP_STATE || !s.running Obj.CHAIN_STATE || !s.leads then s else
  endReads (s.forAll (s.headsIn roleReading) fun h s =>
    if chainTime (s.n (Obj.HEAD_DEVICES h)) ≤ s.readBoundNow then sendRead h s else s)

/-! ### String current -/

/-- The current of a bitstream density on string `n`, with the gain correction `g` (R103, R236). -/
def State.ciCurrent (s : State) (n : Nat) (g d : Rat) : Rat := g * s.q (Obj.CI_SCALE n) * (2 * d - 1) - s.q (Obj.CI_OFFSET n)

/-- Whether a density is overrange (R103). -/
def overrange (d : Rat) : Bool := decide (d < 5 / 100 ∨ 95 / 100 < d)

/-- The sweep values of string `n`. -/
def State.str (s : State) (n : Nat) : StrSweep := nth s.sweep.strs n {}
/-- The state with the sweep values of string `n` changed. -/
def State.modStr (s : State) (n : Nat) (f : StrSweep → StrSweep) : State :=
  { s with sweep := { s.sweep with strs := s.sweep.strs.set n (f (s.str n)) } }
/-- What is tracked of string `n`. -/
def State.track (s : State) (n : Nat) : StrTrack := nth s.est.strs n {}
/-- The state with what is tracked of string `n` changed. -/
def State.modTrack (s : State) (n : Nat) (f : StrTrack → StrTrack) : State :=
  { s with est := { s.est with strs := s.est.strs.set n (f (s.track n)) } }

/-- A main-path sample of string `n` (R103, R104, R267, R279): charge, overrange, samples in a row beyond an overcurrent
level, an overrange sample counting on the side of its sign, the magnitudes of the last 25. -/
def mainPathSample (n : Nat) (d : Rat) (s : State) : State :=
  let x := s.str n
  let i := s.ciCurrent n x.gainMain d
  let chg := decide (s.q (Obj.OC_CHG_LEVEL n) < i) || (overrange d && decide (0 < i))
  let dis := decide (i < -(s.q (Obj.OC_DIS_LEVEL n))) || (overrange d && decide (i < 0))
  s.modStr n fun y => { y with acc := y.acc + i * 4 / 100000, ovr := y.ovr || overrange d,
                               ocChg := if chg then y.ocChg + 1 else 0, ocDis := if dis then y.ocDis + 1 else 0,
                               mags := (rabs i :: y.mags).take 25 }

/-- CI_FAULT of string `n` is raised (R103). -/
def ciFault (n : Nat) (s : State) : State :=
  (s.putB (Obj.CI_FAULT n) true).modStr n fun x => { x with faultSeen := x.faultSeen || s.windowOpen }

/-- CI_FAULT of string `n` clears (R103). -/
def ciFaultClear (n : Nat) (s : State) : State := s.putB (Obj.CI_FAULT n) false

/-- The SYNC whose window is that of sweep `k`. -/
def State.syncOf (s : State) (k : Nat) : SyncRec :=
  (s.sweep.syncs.find? fun r => r.sweep == k).getD (syncFields k s)

/-- |STRING_I_MEAN| of sweep `k` joins those of the sweeps before it (R157): of these, one that the latest matches or exceeds
can be the largest of no later span and is dropped; the latest stays, for an update that ends with it. -/
def pushPeak (k : Nat) (i : Rat) (l : List (Nat × Rat)) : List (Nat × Rat) :=
  match l with
  | [] => [(k, i)]
  | p :: r => (k, i) :: p :: r.filter fun x => decide (p.2 < x.2)

/-- The string window values of string `n` (R104), from the densities at the sample instants. DESIGN CHOICE (log entry
129): the spec does not say what STRING_I_MEAN and the phasors show for a window with samples missing: those of the samples
there are, 0 for none. -/
def latchString (w : StringWindow) (s : State) : State :=
  let n := w.string
  let x := s.str n
  let r := s.syncOf (s.n Obj.SWEEP_COUNT)
  let i := w.densities.map (s.ciCurrent n x.gainPast)
  let ia := phasor r.harmA r.startAngle i
  let ib := phasor r.harmB r.startAngle i
  let bad := !w.complete || w.densities.any overrange || x.faultK || x.overK || w.densities.isEmpty
  let mean := meanOf i
  let s := ((s.putQ (Obj.STRING_I_MEAN n) mean).putQ (Obj.STRING_I_A_RE n) ia.1).putQ (Obj.STRING_I_A_IM n) ia.2
  let s := (s.putQ (Obj.STRING_I_B_RE n) ib.1).putQ (Obj.STRING_I_B_IM n) ib.2
  let s := s.modStr n fun y => { y with invalid := bad }
  let k := s.n Obj.SWEEP_COUNT
  s.modTrack n fun t =>
    let drift := if bad then t.drift + s.q (Obj.CI_SCALE n) * s.sweepT else t.drift
    let peaks := pushPeak k (rabs mean) t.peaks
    if bad then { t with drift, peaks } else { t with drift, peaks, iA := realSqrt (cAbs2 ia), iB := realSqrt (cAbs2 ib) }

/-- The descriptor of the latest sweep, from the values latched (R189). -/
def makeDesc (s : State) : SweepDesc :=
  let k := s.n Obj.SWEEP_COUNT
  let r := s.syncOf k
  { sweep := k, markL := s.time.markL, markP := s.time.markP, pUnset := s.time.markUnset, period := s.sweepT, harmA := r.harmA, harmB := r.harmB, pilot := r.pilot, fw := r.fw,
    unlocked := s.sweep.unlockedK,
    strs := (List.range s.asBuilt.strings).map fun n =>
      { magA := (s.track n).iA, magB := (s.track n).iB, charge := (s.track n).charge, drift := (s.track n).drift, iMean := s.q (Obj.STRING_I_MEAN n),
        iA := (s.q (Obj.STRING_I_A_RE n), s.q (Obj.STRING_I_A_IM n)),
        iB := (s.q (Obj.STRING_I_B_RE n), s.q (Obj.STRING_I_B_IM n)), invalid := (s.str n).invalid } }

/-- The string window values of the sweep are latched (R104, R178): they enter the sweep's descriptor, and the budget
of the rods runs from here. A string without values has an incomplete window. -/
def windowLatch (ws : List StringWindow) (s : State) : State :=
  if !s.running Obj.SWEEP_STATE || s.sweep.latched then s else
  let s := s.each s.asBuilt.strings fun n s =>
    latchString ((ws.find? fun w => w.string == n).getD ⟨n, [], false⟩) s
  let d := makeDesc s
  let deadline : Rat := (s.time.markL : Rat) / 1000000000 + s.sweepT - 2 / 1000
  let budget := rmax 0 ((deadline - (s.lNow : Rat) / 1000000000) * (s.n Obj.ABACUS_CLOCK : Rat) * 1000000)
  let s := s.putN Obj.ROD_BUDGET budget.floor.toNat
  { s with sweep := { s.sweep with latched := true },
           est := { s.est with descs := (d :: s.est.descs.filter fun x => x.sweep != d.sweep).take 2,
                               abacus := { s.est.abacus with latchL := s.lNow } } }

/-! ### Blocks -/

/-- Fields of a sweep block (Table 3.7). -/
def blkAddr (b : Bytes) : Nat := fieldU b 0 1
def blkFormat (b : Bytes) : Nat := fieldU b 1 1
def blkTag (b : Bytes) : Nat := fieldU b 2 2
def blkStatus (b : Bytes) : Nat := fieldU b 4 2
/-- The window mean of channel `c` in µV. -/
def blkVmean (b : Bytes) (c : Nat) : Nat := fieldU b (6 + 3 * c) 3
def blkShift (b : Bytes) : Nat := fieldU b 54 1
def blkScale (b : Bytes) : Nat := fieldU b 55 1
/-- The I/Q value `j` of channel `c` in V: j = 0 at HARM_A, 1 at HARM_B (R105). -/
def blkIq (b : Bytes) (c j : Nat) : Rat × Rat :=
  let u : Rat := ((2 ^ blkShift b : Nat) : Rat) / 10000000
  ((fieldI b (56 + 8 * c + 4 * j) 2 : Rat) * u, (fieldI b (56 + 8 * c + 4 * j + 2) 2 : Rat) * u)
/-- The raw NTC value `j`. -/
def blkNtc (b : Bytes) (j : Nat) : Nat := fieldU b (184 + 2 * j) 2
/-- The die temperature in °C. -/
def blkDie (b : Bytes) : Rat := (fieldI b 200 2 : Rat) / 100
def blkBleedMap (b : Bytes) : Nat := fieldU b 202 2
/-- Whether the CRC of a block is correct (Table 3.7). -/
def blkCrcOk (b : Bytes) : Bool := b.length == 206 && fieldU b 204 2 == crc16 (b.take 204)

/-- Whether a block is fresh for sweep `k` (R109, R117): its entry is `f`. -/
def blockFresh (s : State) (k f expected : Nat) (b : Bytes) : Bool :=
  let st := blkStatus b
  let heldBack := match s.chain.held.find? fun x => x.1 == f with
    | none => false
    | some (_, none) => true
    | some (_, some j) => decide (k < j)
  blkCrcOk b && blkFormat b == 1 && blkAddr b == expected && s.n (Obj.FE_STATUS f) == feMatch && blkTag b == k % 65536 &&
  !(bitOf st 15 || bitOf st 14 || bitOf st 13 || bitOf st 7) && !heldBack

/-- Bits of CELL_MEAS_FLAGS (Table 4.8). -/
def mfStale : Nat := 0
def mfBreak : Nat := 1
def mfBleed : Nat := 2
def mfUntrimmed : Nat := 3
def mfCiInvalid : Nat := 4
def mfLowA : Nat := 5
def mfLowB : Nat := 6
def mfUnlocked : Nat := 7
def mfSegment : Nat := 8
def mfLate : Nat := 9
def mfPilot : Nat := 10

/-- A flag of a cell's CELL_MEAS_FLAGS. -/
def State.measFlag (s : State) (cell bit : Nat) : Bool := bitOf (s.n (Obj.CELL_MEAS_FLAGS cell)) bit
/-- The state with a flag of a cell's CELL_MEAS_FLAGS at a value. -/
def State.setMeasFlag (s : State) (cell bit : Nat) (b : Bool) : State :=
  s.putN (Obj.CELL_MEAS_FLAGS cell) (withBit (s.n (Obj.CELL_MEAS_FLAGS cell)) bit b)

/-- Whether an address of a chain lies beyond a cut located for the first time in sweep `k` (R118). -/
def beyondNewCut (s : State) (k head addr : Nat) : Bool :=
  match (s.head head).newCut with
  | some (hop, j) => j == k && Nat.blt hop addr
  | none => false

/-- At the deadline (R110): cells of front-ends without a fresh block are STALE and age, and so are cells whose
measurement was lost (R198); fresh cells have age 0. -/
def markStale (s : State) : State :=
  let k := s.n Obj.SWEEP_COUNT
  let s := s.forAll s.entries fun (f, e) s =>
    s.forAll e.cells fun (cell, _) s =>
      if s.sweep.fresh.contains f && !s.est.abacus.lost.contains cell then s
      else
        let fl := withBit (withBit 1 mfBreak (beyondNewCut s k e.head e.address)) mfUnlocked s.sweep.unlockedK
        let fl := withBit fl mfCiInvalid (s.str e.string).invalid
        (s.putN (Obj.CELL_MEAS_FLAGS cell) fl).putN (Obj.CELL_AGE cell) (min 65535 (s.n (Obj.CELL_AGE cell) + 1))
  let stale := (s.mappedCells.filter fun x => s.measFlag x.1 mfStale).length
  s.putN Obj.STALE_CELLS stale

/-! ### Trains and cuts -/

/-- A cut located by a head is marked on the fresh cells beyond it (R118). -/
def markBeyond (h hop : Nat) (s : State) : State :=
  s.forAll s.entries fun (f, e) s =>
    if e.head = h ∧ hop < e.address ∧ s.sweep.fresh.contains f then s.forAll e.cells fun (c, _) s => s.setMeasFlag c mfBreak true
    else s

/-- A reading head locates a cut at a hop (R111). -/
def locate (h hop : Nat) (s : State) : State :=
  if s.n (Obj.BREAK_HOP h) = hop then s else markBeyond h hop (locateCut h hop s)

/-- How many devices beyond a cut are missing: no block of theirs has arrived complete with a correct CRC in the sweep,
whether the map has an entry for them or not (R113). -/
def missingBeyond (s : State) (h hop : Nat) : Nat :=
  let here := (s.sweep.blocks.filter fun x => s.readingHeadOf x.1 == h && blkCrcOk x.2).map fun x => blkAddr x.2
  ((List.range (s.n (Obj.HEAD_DEVICES h))).filter fun i => Nat.ble hop i && !here.contains (i + 1)).length

/-- The ordered head sends READ if order time + c(m) lies within its read bound (R114). -/
def orderSegment (h hop : Nat) (s : State) : State :=
  let m := s.n (Obj.HEAD_DEVICES h) - hop
  if missingBeyond s h hop = 0 then s
  else if s.n (Obj.HEAD_SHAPE h) = shapeLoop then
    let p := loopPeer h
    (s.modHead p fun x => { x with ordered := some m }).emit (.segmentOrder p m)
  else if s.n (Obj.HEAD_SHAPE h) = shapeBridge then s.emit (.segmentOrder h m)
  else s

/-- A READ train at a head (R111, R113, R114): a segment head counts the devices it has read; a reading head locates the cut,
from the block after the last BREAK or from a turnaround too early, and orders the other head. DESIGN CHOICE (log entry 166):
a train with a BREAK is judged by the BREAK alone, also where it turned early. -/
def readTrain (h : Nat) (a : Await) (t : Train) (s : State) : State :=
  let n := s.n (Obj.HEAD_DEVICES h)
  let s := s.modHead h fun x => { x with readTurn := if trainOk t then some (trainTurn t, trainCause t) else none }
  if s.n (Obj.HEAD_ROLE h) = roleSegment then
    s.putN (Obj.SEGMENT_DEVICES h) ((trainBlocks a t ++ (trainAfter a t).flatten).filter blockCrcOk).length
  else
    let whole := t.after.isEmpty && trainOk t && trainCause t == 2
    let s := s.modHead h fun x => { x with normal := whole && trainTurn t == n }
    let hop := if t.after.isEmpty then (if whole ∧ trainTurn t < n then some (trainTurn t) else none) else breakAddr a t
    match hop with
    | some c => orderSegment h c (locate h c s)
    | none => s

/-- No train is complete within the wait of R72: HEAD_TIMEOUTS counts, and what waits may go out. For a READ of a reading head
of which no train has begun the cut is at hop 0 (R111). -/
def trainTimeout (h : Nat) (begun : Bool) (s : State) : State :=
  match (s.head h).awaiting with
  | none => s
  | some a =>
    let s := (s.inc (Obj.HEAD_TIMEOUTS h)).modHead h fun x => { x with awaiting := none }
    let role := s.n (Obj.HEAD_ROLE h)
    let s :=
      if a.kind ≠ kRead then s
      else
        let s := s.modHead h fun x => { x with readTurn := none }
        if role = roleSegment then (if begun then s else s.putN (Obj.SEGMENT_DEVICES h) 0)
        else if role = roleReading then
          let s := s.modHead h fun x => { x with normal := false }
          if begun then s else orderSegment h 0 (locate h 0 s)
        else s
    drainIdle h s

/-- The order to read a segment arrives at the other head of a LOOP or, over PAIR, of a BRIDGE (R114): the head takes
the SEGMENT role for the read and sends READ if it fits its read bound. An order over PAIR says how many devices lie beyond the cut; for a LOOP
the module's own reading head has said it. A head whose SYNC_DELAY_B are not measured is no segment head (R82 step 9), and one
that has stopped transmitting sends nothing (R116). DESIGN
CHOICE (log entry 130): SEGMENT_READS counts on the module whose head sends the READ. -/
def segmentOrder (h devices : Nat) (s : State) : State :=
  let bridge := s.n (Obj.HEAD_SHAPE h) == shapeBridge && s.standby
  match if bridge then some devices else (s.head h).ordered with
  | none => s
  | some m =>
    let s := s.modHead h fun x => { x with ordered := none }
    let since := if bridge then s.time.markL else (s.head (s.readingHeadOf h)).readL
    let elapsed : Rat := ((s.lNow - since : Nat) : Rat) / 1000000000
    if !s.running Obj.CHAIN_STATE || !(s.n (Obj.HEAD_ROLE h) == roleListening || s.n (Obj.HEAD_ROLE h) == roleSegment) ||
       !(s.head h).delaysB || (s.head h).silent then s
    else if elapsed + chainTime m ≤ s.readBoundNow then
      sendRead h ((s.putN (Obj.HEAD_ROLE h) roleSegment).inc Obj.SEGMENT_READS)
    else s

/-- Three SYNC or HEARTBEAT frames in a row do not arrive: HEAD_CONTINUITY clears (R89), and while the reading head's
trains stay normal the listening head records the cut at HEAD_DEVICES (R111). -/
def continuityLoss (h : Nat) (s : State) : State :=
  let was := s.b (Obj.HEAD_CONTINUITY h)
  let s := s.putB (Obj.HEAD_CONTINUITY h) false
  let r := s.readingHeadOf h
  if was ∧ (s.head r).normal then
    let hop := s.n (Obj.HEAD_DEVICES r)
    if s.n (Obj.BREAK_HOP h) = hop then s else locateCut h hop s
  else s

/-- The carrier check of a listening or segment head at ARRIVAL_WAIT (R112, R89, R111); a head whose SYNC_DELAY_B are not
measured does not act as a segment head (R82 step 9). The worst case of a READ it sends runs from that frame's reference
instant; DESIGN CHOICE (log entry 165): it counts every device of the chain, also where the cut is known. -/
def carrierCheck (h kind : Nat) (arrived : Bool) (s : State) : State :=
  let role := s.n (Obj.HEAD_ROLE h)
  if !s.running Obj.CHAIN_STATE || !(role == roleListening || role == roleSegment) then s
  else if arrived then
    let s := s.modHead h fun x => { x with misses := 0 }
    (s.putB (Obj.HEAD_CONTINUITY h) true).putN (Obj.BREAK_HOP h) 0xFF
  else
    let s := if kind = kRead then s else s.modHead h fun x => { x with misses := x.misses + 1 }
    let s := if kind ≠ kRead ∧ (s.head h).misses = 3 then continuityLoss h s else s
    if (s.head h).silent || !(s.head h).delaysB then s else
    let s := s.putN (Obj.HEAD_ROLE h) roleSegment
    if kind = kSync then
      let r := s.syncOf s.syncSweep
      let r := if s.sweep.syncs.any (fun x => x.sweep == r.sweep) then r else syncFields s.syncSweep s
      sendSync r (s.n Obj.SYNC_LEAD - (s.n (Obj.ARRIVAL_WAIT h) + airTime 24)) (airTime 24) h s
    else if kind = kRead then
      let elapsed : Rat := ((s.n (Obj.ARRIVAL_WAIT h) + airTime 4 : Nat) : Rat) / 1000000000
      if elapsed + chainTime (s.n (Obj.HEAD_DEVICES (s.readingHeadOf h))) ≤ s.readBoundNow then sendRead h s
      else s.modHead h fun x => { x with busy := false }
    else heartbeat h (airTime 4) s

/-- A segment head receives a valid down frame of the reading head (R116): it stops transmitting and sets
HEAD_CONTINUITY; its own BREAK_HOP returns to 0xFF (R111). -/
def continuityRestored (h : Nat) (s : State) : State :=
  if s.n (Obj.HEAD_ROLE h) ≠ roleSegment then s else
  ((s.putB (Obj.HEAD_CONTINUITY h) true).putN (Obj.BREAK_HOP h) 0xFF).modHead h fun x => { x with silent := true, misses := 0 }

/-- The frames that wait at a segment head as it returns to LISTENING: on a LOOP the reading head, which reaches the whole
chain again, takes them over (R116). -/
def handBack (h : Nat) (s : State) : State :=
  let l := (s.head h).outbox
  let s := s.modHead h fun x => { x with outbox := [] }
  if s.n (Obj.HEAD_SHAPE h) = shapeLoop then s.forAll l fun f s => offer (s.readingHeadOf h) f.kind f.dest f.payload s else s

/-- The chain at a sweep mark (R86, R87, R111, R116): silent segment heads return to LISTENING; BREAK_HOP of a chain
whose train was normal, or whose frames reach the other head again, returns to 0xFF; adopted entries become MATCH. -/
def chainAtMark (s : State) : State :=
  let s := s.forAll s.headList fun h s =>
    let x := s.head h
    let back := x.silent && s.n (Obj.HEAD_ROLE h) == roleSegment
    let s := if back then handBack h (((s.putN (Obj.HEAD_ROLE h) roleListening).putN (Obj.BREAK_HOP h) 0xFF).putN (Obj.BREAK_HOP (s.readingHeadOf h)) 0xFF)
      else s
    let s := if (s.n (Obj.HEAD_ROLE h) = roleReading ∧ x.normal) ∨ x.restored then s.putN (Obj.BREAK_HOP h) 0xFF else s
    s.modHead h fun y => { y with silent := false, restored := false, readdressed := false, ordered := none }
  acceptAtMark s

end Sys2Proof.Machine
end

