-- ==== Sys2Proof/Machine/Balance.lean ====
section
/-!
DEFINITION. Cell balancing (spec/05_balancing.md): targets, inhibits, BALANCE frames, bleed charge, lead calibration,
the correction of a block whose window saw bleed current.
-/

namespace Sys2Proof.Machine

/-- Front-end `f` as balancing sees it. -/
def State.fe (s : State) (f : Nat) : FeSt := amGetD s.est.fes f {}
/-- The state with front-end `f` changed. -/
def State.modFe (s : State) (f : Nat) (g : FeSt → FeSt) : State :=
  { s with est := { s.est with fes := amSet s.est.fes f (g (s.fe f)) } }

/-! ### Lead coefficients -/

/-- The drop coefficients of a channel in µV (R142): P_LO, P_HI, U_LO, U_HI. -/
structure LeadP where
  pLo : Rat
  pHi : Rat
  uLo : Rat
  uHi : Rat
  deriving DecidableEq, Repr

/-- Coefficients of a channel that does not exist. -/
def LeadP.none : LeadP := ⟨0, 0, 0, 0⟩

/-- The coefficients of channel `c` of front-end `f`: those of LEAD_P while they are VALID, and 4,000 µV with as much
uncertainty while a front-end under test has none (R133, R135). -/
def State.leadP (s : State) (f c : Nat) : LeadP :=
  let b := s.bytes (Obj.LEAD_P f)
  if b.length = 128 ∧ s.n (Obj.LEAD_CAL_STATUS f) = 1 then ⟨fieldU b (8 * c) 2, fieldU b (8 * c + 2) 2, fieldU b (8 * c + 4) 2, fieldU b (8 * c + 6) 2⟩
  else if (s.fe f).cal.isSome then ⟨4000, 4000, 4000, 4000⟩ else LeadP.none

/-! ### Switch states and the correction -/

/-- The fraction of a frame channel `c` bleeds: DUTY / 255 × scale / 255 (R127). -/
def duty (d : List Nat) (scale c : Nat) : Rat := ((nth d c 0 : Nat) : Rat) / 255 * ((scale : Rat) / 255)

/-- The fractional part. -/
def fracOf (q : Rat) : Rat := q - q.floor

/-- The switch state at sample `i` (R127, R136): 0.5 where an edge lies within 2 µs of the sample; `hz` is the mains
frequency. -/
def switchAt (pwm startAngle : Nat) (hz d : Rat) (i : Nat) : Rat :=
  if d ≤ 0 then 0 else if 1 ≤ d then 1 else
  let u : Rat := (startAngle : Rat) / (2 ^ 32 : Nat) + (i : Rat) / 64
  let φ := fracOf ((pwm : Rat) * u / 64)
  let turn : Rat := 1 / ((pwm : Rat) / 64 * hz)
  let near := fun (e : Rat) => let x := rabs (φ - e); decide (rmin x (1 - x) * turn ≤ 2 / 1000000)
  if near 0 || near d then 1 / 2 else if φ < d then 1 else 0

/-- The switch states of a used channel of front-end `f` over a window, at the frequency in its register BLEED_PWM; none of an
unused channel or one outside the front-end (R127, R136). -/
def switches (s : State) (f : Nat) (e : MapEntry) (r : SyncRec) (duties : List Nat) (scale : Nat) (c : Nat) : List Rat :=
  let n := 64 * s.n Obj.WINDOW_CYCLES
  if bitOf e.mask c ∧ c < 16 then
    (List.range n).map (switchAt (s.regs f).bleedPwm r.startAngle (wordHz r.fw) (duty duties scale c))
  else List.replicate n 0

/-- What the correction of a channel gives: mean and phasors of e in V, bounds in µV, the mean switch state. -/
structure Corr where
  mean : Rat
  a : Rat × Rat
  b : Rat × Rat
  bound : Rat
  eA : Rat
  eB : Rat
  m : Rat
  deriving DecidableEq, Repr

/-- No correction. -/
def Corr.zero : Corr := ⟨0, (0, 0), (0, 0), 0, 0, 0, 0⟩

/-- The bound of R138 from the weights of the channel and its neighbours. -/
def corrBound (lo c hi : LeadP) (mLo m mHi : Rat) : Rat :=
  m * (c.uLo + 5 / 100 * c.pLo + c.uHi + 5 / 100 * c.pHi) + mLo * (lo.uHi + 5 / 100 * lo.pHi) +
  mHi * (hi.uLo + 5 / 100 * hi.pLo)

/-- The correction of channel `c` for one duty set (R136, R138). -/
def correct (s : State) (f : Nat) (e : MapEntry) (r : SyncRec) (duties : List Nat) (scale c : Nat) : Corr :=
  let sw := fun (x : Nat) => switches s f e r duties scale x
  let lp := fun (x : Nat) => if x < 16 then s.leadP f x else LeadP.none
  let below := if c = 0 then LeadP.none else lp (c - 1)
  let above := if c = 15 then LeadP.none else lp (c + 1)
  let own := lp c
  let sLo := if c = 0 then (sw 0).map fun _ => 0 else sw (c - 1)
  let sHi := if c = 15 then (sw 0).map fun _ => 0 else sw (c + 1)
  let s0 := sw c
  let ev := (s0.zip (sLo.zip sHi)).map fun (x, l, h) => (-(own.pLo + own.pHi) * x + below.pHi * l + above.pLo * h) / 1000000
  let mag := fun (h : Nat) (v : List Rat) => realSqrt (cAbs2 (phasor h r.startAngle v))
  { mean := meanOf ev, a := phasor r.harmA r.startAngle ev, b := phasor r.harmB r.startAngle ev,
    bound := corrBound below own above (meanOf sLo) (meanOf s0) (meanOf sHi),
    eA := corrBound below own above (mag r.harmA sLo) (mag r.harmA s0) (mag r.harmA sHi),
    eB := corrBound below own above (mag r.harmB sLo) (mag r.harmB s0) (mag r.harmB sHi), m := meanOf s0 }

/-- The mean of two corrections, with half their difference added to the bounds (R137). -/
def Corr.mid (x y : Corr) : Corr :=
  let h := fun (p q : Rat × Rat) => realSqrt (cAbs2 (cSub p q)) * 1000000 / 2
  { mean := (x.mean + y.mean) / 2, a := cScale (1 / 2) (cAdd x.a y.a), b := cScale (1 / 2) (cAdd x.b y.b),
    bound := (x.bound + y.bound) / 2 + rabs (x.mean - y.mean) * 1000000 / 2,
    eA := (x.eA + y.eA) / 2 + h x.a y.a, eB := (x.eB + y.eB) / 2 + h x.b y.b, m := (x.m + y.m) / 2 }

/-- Whether a duty set predicts a BLEED_MAP (R137). -/
def agreesMap (e : MapEntry) (duties : List Nat) (scale map : Nat) : Bool :=
  (List.range 16).all fun c => bitOf map c == (bitOf e.mask c && decide (0 < duty duties scale c))

/-- The duties of an acknowledged BALANCE at an instant: 0 once they have lapsed, FRAMES frames of 1 s having begun since
without a renewal (R95, R125). -/
def BalAck.at (x : BalAck) (l : Nat) : List Nat :=
  if x.l + (x.frames + 1) * 1000000000 < l then List.replicate 16 0 else x.duties

/-- The duties in force at front-end `f`: those acknowledged last. -/
def State.dutiesInForce (s : State) (f : Nat) : List Nat :=
  match (s.fe f).acks with
  | x :: _ => x.at s.lNow
  | [] => List.replicate 16 0

/-- The length in ns of a window at a frequency word (R101). -/
def windowNs (s : State) (fw : Nat) : Nat := 64 * s.n Obj.WINDOW_CYCLES * sampleInterval fw / 256

/-- The duty sets that may be in force in the window of the sweep whose mark was latest (R137): of the BALANCE frames
acknowledged before it the latest alone, or with the one before while the window lies within 1 s of the
acknowledgement, its frame boundary being unknown; a TEST frame takes effect at once (R133). -/
def windowDuties (s : State) (f fw : Nat) : List (List Nat) :=
  let start := s.time.markL - windowNs s fw
  let acks := (s.fe f).acks.filter fun x => Nat.ble x.l start
  let old := fun (l : List BalAck) => match l with
    | y :: _ => y.at start
    | [] => List.replicate 16 0
  match acks with
  | [] => [List.replicate 16 0]
  | x :: rest => if x.test ∨ x.l + 1000000000 ≤ start then [x.at start] else [x.at start, old rest]

/-- How the corrections of a block are formed (R137): the one or two duty sets, whether the sweep is ambiguous, whether
it is a BLEED_MISMATCH. DESIGN CHOICE (log entry 168): only the case of two sets that agree counts as ambiguous; a single
set that disagrees is a mismatch and is used as it stands; two equal sets are two sets. -/
def candidates (s : State) (f : Nat) (e : MapEntry) (fw status scale map : Nat) : List (List Nat) × Bool × Bool :=
  let sets := windowDuties s f fw
  if bitOf status 12 then (sets.take 1 ++ [List.replicate 16 0], false, false) else
  match sets.filter fun d => agreesMap e d scale map with
  | [] => (sets, false, true)
  | [d] => ([d], false, false)
  | l => (l, true, false)

/-- The corrections of the sixteen channels of a fresh block, and the state with an ambiguous sweep counted and a
mismatch logged (R136, R137). With BLANKING ON there is none. -/
def blockCorrections (f : Nat) (e : MapEntry) (b : Bytes) (s : State) : List Corr × State :=
  let k := s.n Obj.SWEEP_COUNT
  let r := s.syncOf k
  if blankedAt r e.head then (List.replicate 16 Corr.zero, s) else
  let (sets, amb, mism) := candidates s f e r.fw (blkStatus b) (blkScale b) (blkBleedMap b)
  let cs := (List.range 16).map fun c =>
    if !bitOf e.mask c then Corr.zero else
    match sets.map fun d => correct s f e r d (blkScale b) c with
    | [x] => x
    | [x, y] => x.mid y
    | _ => Corr.zero
  let s := if amb ∧ s.est.ambiguousK ≠ some k then
      { s.inc Obj.BAL_AMBIGUOUS_SWEEPS with est := { s.est with ambiguousK := some k } } else s
  let s := if mism then s.logN 0x0201 0x2300 f (blkBleedMap b) (k % 2 ^ 32) else s
  (cs, s)

/-! ### Targets and inhibits -/

/-- The charge bound u_n in mAh. -/
def State.chargeBound (s : State) (n : Nat) : Rat := s.q (Obj.SOC_BOUND n) / 100 * s.q (Obj.CAPACITY n)

/-- D_n of Table 5.1. -/
def alignD (s : State) (align n : Nat) : Rat :=
  let z := s.q (Obj.SOC n) / 100
  let c := s.q (Obj.CAPACITY n)
  match align with
  | 0 => -(1 - z) * c
  | 1 => z * c
  | _ => (z - 1 / 2) * c

/-- The cell with the smallest D_n of a string. DESIGN CHOICE (log entry 131): of several cells that share it the first in the
order of the position map. -/
def refCell (s : State) (align : Nat) : List Nat → Option Nat
  | [] => none
  | n :: r => some (r.foldl (fun b m => if alignD s align m < alignD s align b then m else b) n)

/-- The bleed target B_n (R123). -/
def bleedTarget (s : State) (align r n : Nat) : Rat :=
  if n = r then 0 else
  rmax 0 (alignD s align n - alignD s align r - s.chargeBound n - s.chargeBound r - s.q Obj.BAL_DEADBAND)

/-- BAL_STRING_STATE by R124; PAUSED_COLD while the estimator waits for a restore (R203). DESIGN CHOICE (log entry 132): of
several conditions it reports the first in the order of R124. -/
def balStringState (s : State) (cells : List Nat) : Nat :=
  if !s.sweeping Obj.BAL_STATE then 4
  else if s.n Obj.CUSTODY_STATE = 0 then 2
  else if cells.any fun n => decide (2 < s.n (Obj.CELL_AGE n)) then 1
  else if cells.any fun n => bitOf (s.n (Obj.EST_FLAGS n)) 0 then 2
  else if cells.any fun n => decide (s.q Obj.BAL_SOC_BOUND_MAX < s.q (Obj.SOC_BOUND n)) then 3
  else 0

/-- BLEED_INHIBIT of a cell from its temperature and its voltage, each with its hysteresis (R129). DESIGN CHOICE (log entry
170): a string without a valid profile has no balancing temperature limit, so its cells are not inhibited by temperature; a
cell whose nearest sensor has no value is judged by its core temperature alone. -/
def inhibitOf (s : State) (str n : Nat) : Nat :=
  let old := s.n (Obj.BLEED_INHIBIT n)
  let sensor := s.nearestSensor n
  let t := match (s.v (Obj.SENSOR_TEMP sensor)).toRat? with
    | some x => if sensor = 0xFFFF then s.q (Obj.CORE_TEMP n) else rmax x (s.q (Obj.CORE_TEMP n))
    | none => s.q (Obj.CORE_TEMP n)
  let hot := match s.profile? str with
    | some p => if bitOf old 0 then decide (pTbalanceMax p - 2 < t) else decide (pTbalanceMax p < t)
    | none => false
  let mv : Rat := s.q (Obj.CELL_VMEAN n) / 1000
  let low := if bitOf old 1 then decide (mv < (s.n Obj.BAL_V_MIN : Rat) + 50) else decide (mv < (s.n Obj.BAL_V_MIN : Rat))
  b2n hot + 2 * b2n low

/-- The duty of a cell (R125, R124, R129, R135). -/
def dutyOf (s : State) (f : Nat) (e : MapEntry) (n : Nat) : Nat :=
  if s.n (Obj.BAL_STRING_STATE e.string) ≠ 0 ∨ s.n (Obj.BLEED_INHIBIT n) ≠ 0 ∨
     (s.b Obj.BLANKING = false ∧ s.n (Obj.LEAD_CAL_STATUS f) ≠ 1) then 0
  else
    let h : Rat := 200 * (s.n Obj.BAL_HORIZON : Rat) / 3600
    (rround (255 * rmin 1 (s.q (Obj.BLEED_TARGET n) / h))).toNat

/-- LEAD_CAL_NEEDED follows R135. -/
def refreshLeadNeeded (s : State) : State :=
  s.putB Obj.LEAD_CAL_NEEDED (!s.b Obj.BLANKING && s.entries.any fun x => s.n (Obj.LEAD_CAL_STATUS x.1) != 1)

/-- Targets, pause and inhibits of every string (R123, R124, R129). -/
def balanceTail (s : State) : State :=
  let s := s.each s.asBuilt.strings fun str s =>
    let cells := s.stringCells str
    let s := s.putN (Obj.BAL_STRING_STATE str) (balStringState s cells)
    let align := s.n (Obj.BAL_ALIGN str)
    match refCell s align cells with
    | none => s
    | some r => s.forAll cells fun n s => s.putQ (Obj.BLEED_TARGET n) (bleedTarget s align r n)
  refreshLeadNeeded (s.forAll s.mappedCells fun (n, f, _, e) s =>
    let was := dutyOf s f e n
    let s := s.putN (Obj.BLEED_INHIBIT n) (inhibitOf s e.string n)
    let now := dutyOf s f e n
    if (was = 0) = (now = 0) then s else s.modFe f fun x => { x with due := true })

/-- The bleed charge of the sweep (R130). -/
def bleedCharge (s : State) : State :=
  let t := s.sweepT
  s.forAll s.mappedCells fun (n, f, c, _) s =>
    let x := s.fe f
    let q := if x.safe then 0 else 200 * duty (s.dutiesInForce f) x.scale c * t / 3600
    s.putQ (Obj.BLEED_CHARGE_TOTAL n) (s.q (Obj.BLEED_CHARGE_TOTAL n) + q)

/-! ### BALANCE frames -/

/-- A BALANCE frame to front-end `f` (Table 3.5). -/
def sendBalance (mode : Nat) (duties : List Nat) (f : Nat) (e : MapEntry) (s : State) : State :=
  let frames := 3 * s.n Obj.BALANCE_PERIOD
  let payload := leBytes 1 mode ++ leBytes 1 frames ++ (duties.map fun d => BitVec.ofNat 8 d)
  let s := offer (s.headFor e) kBalance e.address payload s
  let s := s.modFe f fun x => { x with due := false }
  s.forAll e.cells fun (n, c) s => s.putN (Obj.BLEED_DUTY n) (nth duties c 0)

/-- The BALANCE of a front-end (R125): MODE NORMAL with its duties, MODE OFF while its status is not MATCH,
under a brown-out (R216) or while balancing is STOPPED. -/
def balanceOne (x : Nat × MapEntry) (s : State) : State :=
  let (f, e) := x
  if !s.sweeping Obj.BAL_STATE || s.b Obj.BROWNOUT || s.n (Obj.FE_STATUS f) != feMatch then sendBalance 0 (List.replicate 16 0) f e s
  else
    let duties := (List.range 16).map fun c => if bitOf e.mask c then dutyOf s f e (e.cell c) else 0
    sendBalance 1 duties f e s

/-- Whether a front-end receives the frames of a lead calibration (R133). -/
def FeSt.testing (x : FeSt) : Bool := (x.cal.map fun c => !c.lost) == some true

/-- BALANCE frames: to every front-end at BALANCE_PERIOD, or to those with a duty changed by an inhibit (R125). A
front-end under lead calibration receives its TEST frames instead (R133). -/
def balanceSend (periodic : Bool) (s : State) : State :=
  if !s.running Obj.CHAIN_STATE || !s.leads then s else
  s.forAll (s.entries.filter fun x => !(s.fe x.1).testing && (periodic || (s.fe x.1).due)) balanceOne

/-- The acknowledgements that a window may still need: those since the window of the latest sweep began, and the two before
(R137). -/
def keepAcks (start : Nat) (l : List BalAck) : List BalAck :=
  (l.filter fun x => Nat.blt start x.l) ++ (l.filter fun x => Nat.ble x.l start).take 2

/-- The answer to a BALANCE (Table 3.9): with RESULT 0 its duties are acknowledged (R137). -/
def balanceAck (h : Nat) (a : Await) (block : Bytes) (s : State) : State :=
  if fieldU block 1 1 ≠ kBalance ∨ fieldU block 2 1 ≠ 0 then s else
  match s.entryAt? (s.readingHeadOf h) a.dest with
  | none => s
  | some (f, _) =>
    let mode := fieldU a.payload 0 1
    let duties := if mode = 0 then List.replicate 16 0 else (List.range 16).map fun c => fieldU a.payload (2 + c) 1
    let start := s.time.markL - windowNs s (s.syncOf (s.n Obj.SWEEP_COUNT)).fw
    s.modFe f fun x => { x with acks := keepAcks start (⟨s.lNow, mode == 2, fieldU a.payload 1 1, duties⟩ :: x.acks) }

/-! ### RUN checks -/

/-- The fold a_n of R132. -/
def foldPwm (p n : Nat) : Rat :=
  rabs ((n * p : Nat) / 64 - 64 * ((rround ((n * p : Nat) / 3072) : Int) : Rat))

/-- RUN check of the balancing function (R132). -/
def balRunCheck (s : State) : Option Abort :=
  let p := s.n Obj.BLEED_PWM_SET
  let near := fun (h : Nat) => decide (rabs (foldPwm p 1 - (h : Rat)) ≤ 1 / 2 ∨ rabs (foldPwm p 2 - (h : Rat)) ≤ 1 / 2)
  if near (s.n Obj.HARMONIC_A) || near (s.n Obj.HARMONIC_B) ||
     (s.n Obj.PILOT_HARMONIC != 0 && near (s.n Obj.PILOT_HARMONIC)) then some (inconsistent Obj.BLEED_PWM_SET) else none

/-! ### Lead calibration -/

/-- The median of a list of rationals: the mean of the two middle values of an even number. -/
def median (l : List Rat) : Rat :=
  let a := l.mergeSort fun x y => decide (x ≤ y)
  let n := a.length
  if n % 2 = 1 then nth a (n / 2) 0 else (nth a (n / 2 - 1) 0 + nth a (n / 2) 0) / 2

/-- The median absolute deviation. -/
def medianDev (l : List Rat) : Rat := let m := median l; median (l.map fun x => rabs (x - m))

/-- The coefficients of channel `c` from the used triples of its group, and whether the channel is at fault (R134). -/
def leadResult (s : State) (e : MapEntry) (cal : LeadCal) (c : Nat) : LeadP × Bool :=
  let tr := nth cal.triples (c % 3) []
  let col := fun (x : Nat) => tr.map fun t => nth t x 0
  let root := realSqrt (s.n Obj.LEAD_CAL_REPEATS : Rat)
  let u := fun (x : Nat) => 125 / 100 * medianDev (col x) / root
  let lo := c != 0 && bitOf e.mask (c - 1)
  let hi := c != 15 && bitOf e.mask (c + 1)
  let dc := median (col c)
  if lo && hi then
    let pl := median (col (c - 1))
    let ph := median (col (c + 1))
    let off := rabs (dc + pl + ph)
    (⟨pl, ph, u (c - 1), u (c + 1)⟩,
     decide ((s.n Obj.LEAD_CAL_TOL : Rat) / 100 * rabs dc < off) || decide (10000 < pl) || decide (10000 < ph))
  else if hi then
    let ph := median (col (c + 1))
    let pl := -dc - ph
    (⟨pl, ph, u c, u (c + 1)⟩, decide (10000 < pl) || decide (10000 < ph))
  else if lo then
    let pl := median (col (c - 1))
    let ph := -dc - pl
    (⟨pl, ph, u (c - 1), u c⟩, decide (10000 < pl) || decide (10000 < ph))
  else (⟨-dc / 2, -dc / 2, rabs dc / 2, rabs dc / 2⟩, decide (10000 < -dc / 2))

/-- A coefficient or its uncertainty as a U16 in µV. DESIGN CHOICE (log entry 169): to the nearest whole µV, a negative one as
0, one beyond 65,535 µV as 65,535. -/
def microvolts (q : Rat) : Bytes := leBytes 2 (min 65535 (rround q).toNat)

/-- The calibration of front-end `f` is complete: coefficients computed and judged (R134). -/
def leadFinish (f : Nat) (e : MapEntry) (cal : LeadCal) (s : State) : State :=
  let rs := (List.range 16).map fun c => if bitOf e.mask c then leadResult s e cal c else (LeadP.none, false)
  let bytes := rs.flatMap fun (p, _) => microvolts p.pLo ++ microvolts p.pHi ++ microvolts p.uLo ++ microvolts p.uHi
  let s := setLead f e.uid (if rs.any fun x => x.2 then 2 else 1) (s.putBytes (Obj.LEAD_P f) bytes)
  (flashOne Obj.BAL_STATE (Obj.LEAD_P f) s).modFe f fun x => { x with cal := some { cal with done := true } }

/-- The front-ends under lead calibration. -/
def State.underCal (s : State) : List (Nat × MapEntry) := s.entries.filter fun x => (s.fe x.1).cal.isSome

/-- The end of the lead calibration (R133): MODE OFF to each front-end under test, LEAD_CAL_STATE 2 or 3,
LEAD_CAL_NEEDED by R135. -/
def calEnd (ok : Bool) (s : State) : State :=
  let s := s.forAll s.underCal fun (f, e) s =>
    (sendBalance 0 (List.replicate 16 0) f e s).modFe f fun x => { x with cal := none }
  let s : State := { s with est := { s.est with fes := s.est.fes.map fun (x : Nat × FeSt) => (x.1, { x.2 with cal := none }) } }
  refreshLeadNeeded (s.putN Obj.LEAD_CAL_STATE (if ok then 2 else 3))

/-- The whole lead calibration is aborted (R133). -/
def calAbort (s : State) : State := if s.n Obj.LEAD_CAL_STATE = 1 then calEnd false s else s

/-- RUN of the balancing function: a lead calibration ends, BLEED_PWM_SET goes into register 0x0B of every front-end
(R132). -/
def balRun (s : State) : State :=
  let s := calAbort s
  writeChainRegs 0x0B [s.n Obj.BLEED_PWM_SET] s

/-- A write of LEAD_CAL_START (R133): a front-end index, or 0xFFFF for all. -/
def ownLeadCalStart (v : Val) (s : State) : Except Abort State :=
  if s.n Obj.LEAD_CAL_STATE = 1 then .error (inconsistent Obj.LEAD_CAL_STATE)
  else if s.n Obj.BAL_STATE ≠ 0 then .error (inconsistent Obj.BAL_STATE)
  else if !s.running Obj.SWEEP_STATE then .error (inconsistent Obj.SWEEP_STATE)
  else
    let f := v.toNat
    let chosen := s.entries.filter fun x => (f == 0xFFFF || x.1 == f) && s.n (Obj.FE_STATUS x.1) == feMatch
    let s := s.forAll chosen fun x s => s.modFe x.1 fun y => { y with cal := some {} }
    let s := { s.putN Obj.LEAD_CAL_STATE 1 with
                est := { s.est with calStart := s.syncSweep, calLost := f == 0xFFFF && chosen.length != s.entries.length || chosen.isEmpty } }
    .ok (if chosen.isEmpty then calEnd false s else s)

/-- The step of a sweep in the calibration: 0 off, 1 on, 2 off, triple after triple (R133). -/
def calStep (s : State) (k : Nat) : Nat := (k - s.est.calStart) % 3

/-- The group whose triple a front-end runs: the first that has not used LEAD_CAL_REPEATS triples (R133). -/
def calGroup (s : State) (cal : LeadCal) : Nat :=
  ((List.range 3).find? fun g => Nat.blt (nth cal.triples g []).length (s.n Obj.LEAD_CAL_REPEATS)).getD 0

/-- The duties of a calibration window: 255 on the channels of the group in the on window (R133). -/
def calDuties (s : State) (e : MapEntry) (cal : LeadCal) (k : Nat) : List Nat :=
  (List.range 16).map fun c =>
    if calStep s k = 1 ∧ c % 3 = calGroup s cal ∧ bitOf e.mask c ∧ s.est.calStart ≤ k then 255 else 0

/-- A triple of windows off, on, off gives the steps Δv when the string current is steady (R133). -/
def tripleSteps (s : State) (w : List (Option (Rat × List Rat))) : Option (List Rat) :=
  match w with
  | [some (i0, v0), some (i1, v1), some (i2, v2)] =>
    if rmax i0 (rmax i1 i2) - rmin i0 (rmin i1 i2) ≤ s.q Obj.LEAD_CAL_I_STEP then
      some ((v1.zip (v0.zip v2)).map fun (on, a, b) => on - (a + b) / 2)
    else none
  | _ => none

/-- The lead calibration of a front-end at the tail of sweep `k` (R133): the window is taken, a used triple kept, the
coefficients formed when every group has its triples; then the TEST frame of the window after the next, for the group that
still needs one. -/
def calFrontEnd (k : Nat) (x : Nat × MapEntry) (s : State) : State :=
  let (f, e) := x
  match (s.fe f).cal with
  | none => s
  | some cal =>
    if s.n (Obj.FE_STATUS f) ≠ feMatch then
      let s := s.modFe f fun y => { y with cal := some { cal with lost := true } }
      { s with est := { s.est with calLost := true } } else
    if cal.done || cal.lost then s else
    let next := fun (cal : LeadCal) (s : State) => sendBalance 2 (calDuties s e cal s.syncSweep) f e s
    if k < s.est.calStart then next cal s else
    let step := calStep s k
    let g := calGroup s cal
    let y := s.fe f
    let w := if s.sweep.fresh.contains f ∧ y.rawK = k then some (s.q (Obj.STRING_I_MEAN e.string), y.raw.map fun (v : Nat) => (v : Rat)) else none
    let ws := cal.windows ++ [w]
    if step < 2 then next cal (s.modFe f fun y => { y with cal := some { cal with windows := ws } })
    else
      let old := nth cal.triples g []
      let trs := match tripleSteps s ws with
        | some d => cal.triples.set g (old ++ [d])
        | none => cal.triples
      let cal := { cal with windows := [], triples := trs }
      let s := s.modFe f fun y => { y with cal := some cal }
      if trs.all fun t => s.n Obj.LEAD_CAL_REPEATS ≤ t.length then leadFinish f e cal s else next cal s

/-- The lead calibration at a sweep tail (R133): it ends when no front-end under test is left to complete. -/
def calTail (s : State) : State :=
  if s.n Obj.LEAD_CAL_STATE ≠ 1 then s else
  let s := s.forAll s.underCal (calFrontEnd (s.n Obj.SWEEP_COUNT))
  let open' := s.underCal.filter fun x => ((s.fe x.1).cal.map fun c => !c.done && !c.lost).getD false
  if open'.isEmpty then calEnd (!s.est.calLost) s else s

/-- 30 × LEAD_CAL_REPEATS sweeps have passed (R133): the front-ends not complete are abandoned. -/
def calTimeout (s : State) : State :=
  if s.n Obj.LEAD_CAL_STATE ≠ 1 ∨ s.n Obj.SWEEP_COUNT < s.est.calStart + 30 * s.n Obj.LEAD_CAL_REPEATS then s else
  calEnd (!s.est.calLost && s.underCal.all fun x => ((s.fe x.1).cal.map fun c => c.done).getD false) s

end Sys2Proof.Machine
end

