-- ==== Sys2Proof/Machine/Matrix.lean ====
section
/-!
DEFINITION. The arithmetic of the estimator: vectors and matrices of rationals, and quantities that carry their
derivatives with respect to the seven states and five parameters of Table 6.1, so that each model of
spec/06_cell_model.md is written once and gives its value and its Jacobian.
-/

namespace Sys2Proof.Machine

/-! ### Vectors and matrices -/

abbrev Vec := List Rat
abbrev Mat := List (List Rat)

/-- Sum, difference, multiple and inner product of vectors. -/
def vAdd (a b : Vec) : Vec := List.zipWith (· + ·) a b
def vSub (a b : Vec) : Vec := List.zipWith (· - ·) a b
def vScale (k : Rat) (a : Vec) : Vec := a.map fun x => k * x
def vDot (a b : Vec) : Rat := (List.zipWith (· * ·) a b).sum

/-- The transpose of a matrix of `n` columns. -/
def mT (n : Nat) (m : Mat) : Mat := (List.range n).map fun j => m.map fun r => nth r j 0
/-- A matrix applied to a vector. -/
def mVec (m : Mat) (v : Vec) : Vec := m.map fun r => vDot r v
/-- The product of a matrix and a matrix of `n` columns. -/
def mMul (n : Nat) (a b : Mat) : Mat := let t := mT n b; a.map fun r => t.map fun c => vDot r c
/-- Sum, difference and multiple of matrices. -/
def mAdd (a b : Mat) : Mat := List.zipWith vAdd a b
def mSub (a b : Mat) : Mat := List.zipWith vSub a b
def mScale (k : Rat) (a : Mat) : Mat := a.map (vScale k)
/-- The diagonal matrix of a vector. -/
def mDiag (d : Vec) : Mat :=
  (List.range d.length).map fun i => (List.range d.length).map fun j => if i = j then nth d i 0 else 0
/-- An entry of a matrix. -/
def mAt (m : Mat) (i j : Nat) : Rat := nth (nth m i []) j 0
/-- A matrix with an entry replaced. -/
def mSet (m : Mat) (i j : Nat) (v : Rat) : Mat := m.set i ((nth m i []).set j v)

/-- One column of Gauss–Jordan elimination: row `i` is scaled to 1 in column `i` and cleared from the other rows; a row
with a pivot that is not 0 is brought up first. -/
def gaussStep (m : Mat) (i : Nat) : Mat :=
  let p := ((List.range m.length).find? fun r => Nat.ble i r && mAt m r i != 0).getD i
  let ri := nth m i []
  let rp := nth m p []
  let m := (m.set i rp).set p ri
  let m := if p = i then m.set i rp else m
  let piv := vScale (1 / mAt m i i) (nth m i [])
  m.zipIdx.map fun (r, j) => if j = i then piv else vSub r (vScale (nth r i 0) piv)

/-- The inverse of a square matrix. -/
def mInv (m : Mat) : Mat :=
  let n := m.length
  let aug := m.zipIdx.map fun (r, i) => r ++ (List.range n).map fun j => if i = j then 1 else 0
  ((List.range n).foldl gaussStep aug).map fun r => r.drop n

/-! ### Quantities with derivatives -/

/-- A quantity with its derivatives with respect to z, d1, d2, vf, vs, h, Tc, C, ρR, ρct, ρd, Rth. -/
structure Dual where
  v : Rat
  g : Vec
  deriving DecidableEq, Repr

/-- A constant; a variable by its place among the twelve. -/
def Dual.const (q : Rat) : Dual := ⟨q, List.replicate 12 0⟩
def Dual.var (i : Nat) (q : Rat) : Dual := ⟨q, (List.replicate 12 0).set i 1⟩
def Dual.add (a b : Dual) : Dual := ⟨a.v + b.v, vAdd a.g b.g⟩
def Dual.sub (a b : Dual) : Dual := ⟨a.v - b.v, vSub a.g b.g⟩
def Dual.mul (a b : Dual) : Dual := ⟨a.v * b.v, vAdd (vScale b.v a.g) (vScale a.v b.g)⟩
def Dual.div (a b : Dual) : Dual := ⟨a.v / b.v, vScale (1 / (b.v * b.v)) (vSub (vScale b.v a.g) (vScale a.v b.g))⟩
def Dual.scale (k : Rat) (a : Dual) : Dual := ⟨k * a.v, vScale k a.g⟩
def Dual.sum (l : List Dual) : Dual := l.foldl Dual.add (Dual.const 0)

/-- A table value as a function of state of charge and temperature, its slopes given. -/
def Dual.table (v dz dt : Rat) (z t : Dual) : Dual := ⟨v, vAdd (vScale dz z.g) (vScale dt t.g)⟩

/-- The slope of a table in temperature (R151): that of the segment, the mean of two at a boundary between two, 0 beyond
the axis. -/
def slopeT (b : Bytes) (f : Nat → Rat) (t : Rat) : Rat :=
  let ax := fun j => pf b (28 + 4 * j)
  let seg := fun j => (f (j + 1) - f j) / (ax (j + 1) - ax j)
  if t < ax 0 ∨ ax 8 < t then 0 else
  match (List.range 8).find? fun j => decide (t ≤ ax (j + 1)) with
  | some j => if t = ax (j + 1) ∧ j < 7 then (seg j + seg (j + 1)) / 2 else seg j
  | none => 0

/-- A table of a profile at duals `z` and `t`: `n` segments in z (R151). -/
def gridDual (b : Bytes) (start n : Nat) (z t : Dual) : Dual :=
  let (i, u) := gridPos n z.v
  let at' := fun a c => pf b (start + 4 * (9 * a + c))
  let col := fun c => at' i c + (at' (i + 1) c - at' i c) * u
  Dual.table (table2 b start n z.v t.v) (slope2 b start n z.v t.v) (slopeT b col t.v) z t

/-- The slope of a table in z as a dual: constant in z within a segment, linear in temperature (R144, R151). -/
def slopeDual (b : Bytes) (start n : Nat) (z t : Dual) : Dual :=
  let (i, _) := gridPos n z.v
  let at' := fun a c => pf b (start + 4 * (9 * a + c))
  let col := fun c => (at' (i + 1) c - at' i c) * (n : Rat)
  Dual.table (slope2 b start n z.v t.v) 0 (slopeT b col t.v) z t

end Sys2Proof.Machine
end

