-- ==== Sys2Proof/Machine/Estimator.lean ====
section
/-!
DEFINITION. Cell state estimation (spec/06_cell_model.md): the cell model, the cold prior, observations, the update, the
parameter and state-of-power slices, anchors, the values published for cells and strings. Sums and products are exact;
exponentials and square roots are the free functions of Config.
-/

namespace Sys2Proof.Machine

/-- The cell `n` in cell state memory. -/
def State.cell (s : State) (n : Nat) : CellSt := amGetD s.est.cells n {}
/-- The state with cell `n` changed. -/
def State.modCell (s : State) (n : Nat) (f : CellSt → CellSt) : State :=
  { s with est := { s.est with cells := amSet s.est.cells n (f (s.cell n)) } }
/-- The state with the record of cell `n` changed. -/
def State.modRec (s : State) (n : Nat) (f : CellRec → CellRec) : State :=
  s.modCell n fun c => { c with record := f c.record }

/-- A flag of EST_FLAGS of a cell (Table 6.10). -/
def State.estFlag (s : State) (n bit : Nat) : Bool := bitOf (s.n (Obj.EST_FLAGS n)) bit
/-- The state with a flag of EST_FLAGS of a cell at a value. -/
def State.setEstFlag (s : State) (n bit : Nat) (b : Bool) : State :=
  s.putN (Obj.EST_FLAGS n) (withBit (s.n (Obj.EST_FLAGS n)) bit b)

/-! EST_FLAGS bits (Table 6.10). -/
def efCold : Nat := 0
def efAge : Nat := 1
def efReinit : Nat := 2
def efCarried : Nat := 3
def efAnchored : Nat := 4
def efGated : Nat := 5
def efIterLimit : Nat := 6
def efClamped : Nat := 7
def efOutV : Nat := 8
def efOutZ : Nat := 9
def efHeld : Nat := 10

/-- The factor of a 95 % bound: 1.96. -/
def k95 : Rat := 196 / 100
/-- A standard deviation from a 95 % bound, as a variance. -/
def varOf (bound : Rat) : Rat := bound / k95 * (bound / k95)

/-- The held ranges of the states (Table 6.1). -/
def stateRanges : List (Rat × Rat) :=
  [(-5 / 100, 105 / 100), (-2 / 10, 2 / 10), (-2 / 10, 2 / 10), (-1 / 2, 1 / 2), (-1 / 2, 1 / 2), (-1, 1), (-50, 150)]
/-- The held ranges of the parameters of a profile (Table 6.1). -/
def paramRanges (b : Bytes) : List (Rat × Rat) :=
  [(pCNom b / 2, 12 / 10 * pCNom b), (1 / 2, 4), (1 / 2, 4), (1 / 4, 4), (pRthPrior b / 4, 4 * pRthPrior b)]

/-- Values set to the nearest end of their ranges (R143). -/
def clampAll (r : List (Rat × Rat)) (v : Vec) : Vec := List.zipWith (fun (p : Rat × Rat) x => rclamp p.1 p.2 x) r v

/-! ### The model (R144, R146, R147) -/

/-- The weights of the diffusion modes. -/
def w1 : Rat := 15 / 100
def w2 : Rat := 5 / 100

/-- The derived quantities of R144 with their derivatives, in Ω, s, V and A·s. -/
structure Derived where
  e0 : Dual
  r0 : Dual
  rct : Dual
  rs : Dual
  tauCt : Dual
  tauS : Dual
  tau1 : Dual
  tau2 : Dual
  qc : Dual
  slope : Dual
  vf : Dual
  vs : Dual
  tc : Dual
  rth : Dual
  zs : Dual

/-- The derived quantities at a state and parameters. -/
def derived (b : Bytes) (x θ : Vec) : Derived :=
  let st := fun i => Dual.var i (nth x i 0)
  let pa := fun i => Dual.var (7 + i) (nth θ i 0)
  let zs := ((st 0).add (st 1)).add (st 2)
  let tc := st 6
  let h := st 5
  let tau1 := (pa 3).mul (gridDual b 9508 10 zs tc)
  { e0 := (gridDual b 256 100 zs tc).add (h.mul (gridDual b 3892 100 zs tc)),
    r0 := (pa 1).mul ((gridDual b 7528 10 zs tc).scale (1 / 1000)),
    rct := (pa 2).mul ((gridDual b 7924 10 zs tc).scale (1 / 1000)),
    rs := (gridDual b 8716 10 zs tc).scale (1 / 1000),
    tauCt := (gridDual b 8320 10 zs tc).scale (1 / 1000),
    tauS := gridDual b 9112 10 zs tc,
    tau1 := tau1, tau2 := tau1.scale (1 / 9),
    qc := (pa 0).scale (36 / 10),
    slope := (slopeDual b 256 100 zs tc).add (h.mul (slopeDual b 3892 100 zs tc)),
    vf := st 3, vs := st 4, tc := tc, rth := pa 4, zs := zs }

/-- The voltage model (R146). -/
def voltageModel (d : Derived) (iw : Rat) : Dual := ((d.e0.add (d.r0.scale iw)).add d.vf).add d.vs

/-- R / (1 + jωτ) as real and imaginary part. -/
def lag (r tau : Dual) (ω : Rat) : Dual × Dual :=
  let a := tau.scale ω
  let den := (Dual.const 1).add (a.mul a)
  let re := r.div den
  (re, (re.mul a).scale (-1))

/-- The impedance model in mΩ at angular frequency ω (R147). -/
def impedanceModel (d : Derived) (ω : Rat) : Dual × Dual :=
  let l1 := lag d.rct d.tauCt ω
  let l2 := lag d.rs d.tauS ω
  let l3 := lag (d.tau1.scale w1) d.tau1 ω
  let l4 := lag (d.tau2.scale w2) d.tau2 ω
  let sq := d.slope.div d.qc
  let re := Dual.sum [d.r0, l1.1, l2.1, sq.mul (l3.1.add l4.1)]
  let im := Dual.sum [l1.2, l2.2, sq.mul (Dual.sum [Dual.const (-1 / ω), l3.2, l4.2])]
  (re.scale 1000, im.scale 1000)

/-- ω of harmonic `h` under a frequency word (R147). -/
def omega (h fw : Nat) : Rat := 2 * realPi * (h : Rat) * wordHz fw

/-! ### Inverse of the equilibrium voltage -/

/-- Where the line through the points of a segment of a function sampled at s = 0 to 100 % reaches `v`; none where it is
level and stays short of it. -/
def onSegment (f : Nat → Rat) (i : Nat) (v : Rat) : Option Rat :=
  let d := f (i + 1) - f i
  if d ≤ 0 then none else some (((i : Rat) + (v - f i) / d) / 100)

/-- The least state of charge at which such a function, extended by its end segments (R151), reaches `v`. -/
def firstReach (f : Nat → Rat) (v : Rat) : Option Rat :=
  if v ≤ f 0 then onSegment f 0 v else onSegment f (((List.range 100).find? fun j => decide (v ≤ f (j + 1))).getD 99) v

/-- The greatest state of charge at which such a function does not exceed `v`. -/
def lastWithin (f : Nat → Rat) (v : Rat) : Option Rat :=
  if f 100 ≤ v then onSegment f 99 v else onSegment f ((((List.range 100).reverse).find? fun j => decide (f j ≤ v)).getD 0) v

/-- The state of charge at which a function sampled at s = 0 to 100 % first reaches `v`; beyond, the end segments
extend. -/
def invCurve (f : Nat → Rat) (v : Rat) : Rat :=
  let i : Nat := match (List.range 100).find? fun j => decide (v ≤ f (j + 1)) with
    | some j => j
    | none => 99
  ((i : Rat) + (v - f i) / (f (i + 1) - f i)) / 100

/-- E0 at grid point `j` for hysteresis `h` and temperature `t`. -/
def e0At (b : Bytes) (h t : Rat) (j : Nat) : Rat :=
  ocvMid b ((j : Rat) / 100) t + h * hystHalf b ((j : Rat) / 100) t

/-- The integral of OCV_MID from 0 to `z` at temperature `t` (Table 6.5), in V. -/
def ocvIntegral (b : Bytes) (z t : Rat) : Rat :=
  let f := fun (j : Nat) => ocvMid b ((j : Rat) / 100) t
  let k := (z * 100).floor
  let i : Nat := if k < 0 then 0 else if 100 ≤ k then 99 else k.toNat
  let full := ((List.range i).map fun j => (f j + f (j + 1)) / 200).sum
  full + (f i + ocvMid b z t) / 2 * (z - ((i : Nat) : Rat) / 100)

/-! ### Cold prior (R149) -/

/-- The half-width of the states of charge whose OCV_MID lies within HYST_HALF of `u` (R149), the tables extended by R151; none
where no end bounds them. -/
def hystWidth (b : Bytes) (ts u : Rat) : Option Rat :=
  match firstReach (e0At b 1 ts) u, lastWithin (e0At b (-1) ts) u with
  | some lo, some hi => some (rmax 0 ((hi - lo) / 2))
  | _, _ => none

/-- The cold prior from a surface temperature, a corrected window mean and a window current: state, bounds of the
states, and the drift allowance. -/
def coldState (b : Bytes) (ts v iw : Rat) : Vec × Vec × Rat :=
  let u := v - r0Grid b (1 / 2) ts * iw
  let z := invCurve (fun j => ocvMid b ((j : Rat) / 100) ts) u
  let bz := match hystWidth b ts u with
    | some w => rmin (1 / 2) (w + 2 / 100)
    | none => 1 / 2
  ([z, 0, 0, 0, 0, 0, ts], [bz, 2 / 100, 2 / 100, 5 / 100, 5 / 100, 1, 5], bz)

/-- The bounds of the parameters of a cold prior. -/
def coldParamBounds (b : Bytes) : Vec :=
  [pCapBound b / 100 * pCNom b, pRhoBound b / 100, pRhoBound b / 100, pRhoBound b / 100, pRthBound b / 100 * pRthPrior b]

/-- A record that starts from the cold prior at the measurement of sweep `d`. -/
def coldRecord (b : Bytes) (d : SweepDesc) (str : StrDesc) (bleed ts v iw : Rat) : CellRec :=
  let (x, bd, dr) := coldState b ts v iw
  { live := true, lastMarkL := d.markL, lastSweep := d.sweep, lastMarkP := d.markP, markUnset := d.pUnset,
    x := clampAll stateRanges x, drift := dr, p := mDiag (bd.map varOf),
    theta := [pCNom b, 1, 1, 1, pRthPrior b], pTheta := mDiag ((coldParamBounds b).map varOf),
    lambda := mDiag (List.replicate 5 0), refCharge := str.charge, refBleed := bleed, refDrift := str.drift,
    paramSliceL := d.markL, anchorBroken := true }

/-! ### The update (R145, R153 to R160) -/

/-- What an update of a cell takes in: the sweep's descriptor and its string, the measurement if the cell has one, the
surface temperature with whether it is substituted, the bleed charge total in mAh, the largest mean current of the
spanned sweeps, the magnitudes of the latest valid phasors, the kind of the anchor that applies. -/
structure UpdIn where
  d : SweepDesc
  str : StrDesc
  meas : Meas
  ts : Option Rat
  bleed : Rat
  iPeak : Rat
  phA : Rat
  phB : Rat
  anchor : Option Nat
  deriving DecidableEq, Repr

/-- A prediction (R145, R157, R158): the state and its covariance, the drift allowance, the heat, the cell charge. -/
structure Pred where
  x : Vec
  p : Mat
  drift : Rat
  heat : Rat
  q : Rat
  e : Rat

/-- The sign of a rational. -/
def rsgn (q : Rat) : Rat := if q < 0 then -1 else if 0 < q then 1 else 0

/-- The cell charge q in A·s and the growth e of the drift allowance since the last update (R145, R158). -/
def cellCharge (c : CellRec) (charge drift bleed : Rat) : Rat × Rat :=
  let db := bleed - c.refBleed
  let qc := 36 / 10 * nth c.theta 0 0
  (charge - c.refCharge - 36 / 10 * db, (drift - c.refDrift + 5 / 100 * (36 / 10) * db) / qc)

/-- The heat Ph at a state and parameters for a mean current `i` (R145). -/
def heatAt (b : Bytes) (u : UpdIn) (i : Rat) (x θ : Vec) : Rat :=
  let dv := derived b x θ
  let z := fun (h : Nat) => (impedanceModel dv (omega h u.d.fw)).1.v / 1000
  i * i * dv.r0.v + i * (nth x 3 0 + nth x 4 0) + (u.phA * u.phA * z u.d.harmA + u.phB * u.phB * z u.d.harmB) / 2

/-- Δt of a prediction in s (R145). -/
def spanOf (c : CellRec) (u : UpdIn) : Rat := ((u.d.markL - c.lastMarkL : Nat) : Rat) / 1000000000

/-- The prediction to the mark of the sweep (R145) with process noise (R157) and charge drift (R158). -/
def predict (b : Bytes) (c : CellRec) (u : UpdIn) : Pred :=
  let dt := spanOf c u
  let (q, e) := cellCharge c u.str.charge u.str.drift u.bleed
  let i := q / dt
  let dv := derived b c.x c.theta
  let qc := dv.qc.v
  let x := fun j => nth c.x j 0
  let heat := heatAt b u i c.x c.theta
  let a1 := realExp (-dt / dv.tau1.v)
  let a2 := realExp (-dt / dv.tau2.v)
  let af := realExp (-dt / dv.tauCt.v)
  let as := realExp (-dt / dv.tauS.v)
  let ah := realExp (-(pHystRate b * rabs q / qc))
  let rth := dv.rth.v
  let ath := realExp (-dt / (rth * pCth b))
  let h' := if q = 0 then x 5 else x 5 + (rsgn i - x 5) * (1 - ah)
  let (tc', ft) := match u.ts with
    | some ts => let tb := ts + rth * heat; (tb + (x 6 - tb) * ath, ath)
    | none => (x 6 + dt * heat / pCth b, (1 : Rat))
  let x' : Vec := [x 0 + q / qc, a1 * x 1 + (1 - a1) * w1 * dv.tau1.v * i / qc, a2 * x 2 + (1 - a2) * w2 * dv.tau2.v * i / qc,
                   af * x 3 + (1 - af) * dv.rct.v * i, as * x 4 + (1 - as) * dv.rs.v * i, h', tc']
  let f : Vec := [1, a1, a2, af, as, if q = 0 then 1 else ah, ft]
  let long := decide (c.lastSweep + 1 < (u.d.sweep : Int))
  let pk := fun (r : Rat) => if long then r * u.iPeak * (r * u.iPeak) else 0
  let sq := fun (r : Rat) => r * r
  let dNew := c.drift + e
  let noise : Vec :=
    [(dNew * dNew - c.drift * c.drift) / (k95 * k95), sq (5 / 100 * w1 * dv.tau1.v * rabs i / qc),
     sq (5 / 100 * w2 * dv.tau2.v * rabs i / qc), sq (5 / 10000) + pk dv.rct.v, sq (2 / 10000) + pk dv.rs.v,
     sq (2 / 100 * rabs (h' - x 5)) + 1 / 1000000, sq (5 / 100) * dt]
  let p := c.p.zipIdx.map fun (r, a) => r.zipIdx.map fun (y, k) => nth f a 0 * y * nth f k 0
  { x := x', p := mAdd p (mDiag noise), drift := dNew, heat, q, e }

/-- An observation group: its number (0 voltage, 1 Z_A, 2 Z_B, 3 pilot, 4 temperature, 5 anchor), the values, the model,
the standard deviation of each component. -/
structure Group where
  kind : Nat
  y : Vec
  model : Derived → List Dual
  sd : Vec

/-- A pair of duals as a list. -/
def pairList (p : Dual × Dual) : List Dual := [p.1, p.2]

/-- The impedance group of a harmonic (Table 6.3): `i` the magnitude of the string phasor, `e` the I/Q bound in µV. -/
def impGroup (b : Bytes) (w : Nat) (kind : Nat) (prior : Derived) (z : Rat × Rat) (ω i e : Rat) : Group :=
  let m := impedanceModel prior ω
  let mag := realSqrt (m.1.v * m.1.v + m.2.v * m.2.v)
  let sd := 17 / 100 / (realSqrt (w : Rat) * i) + pZRel b / 100 * mag + e / 1000 / (k95 * i)
  { kind, y := [z.1, z.2], model := fun d => pairList (impedanceModel d ω), sd := [sd, sd] }

/-- What the observation rules take from the settings of the module. -/
structure ObsSet where
  w : Nat
  minI : Rat
  blanking : Bool
  ciScale : Rat
  pilotSweeps : Nat
  pilotPeriods : Nat
  nominalHz : Rat
  sweepCycles : Nat
  iterTol : Rat

/-- The observations of one sweep (Table 6.3, R106, R153) at a prior. -/
def observations (b : Bytes) (o : ObsSet) (u : UpdIn) (anchor : Option (Rat × Rat)) (x θ : Vec) (heat : Rat) : List Group :=
  let m := u.meas
  let pr := derived b x θ
  let fl := fun i => bitOf m.flags i
  let sq := fun (r : Rat) => r * r
  let ciBad := fl mfCiInvalid
  let cTerm := if ciBad then pr.r0.v * o.ciScale / 2 else 0
  let vSd := realSqrt (sq (12 / 100000) / (o.w : Rat) + sq (pVSigma b / 1000) + sq (m.corrBound / 1000000 / k95) + sq cTerm)
  let volt : Group := { kind := 0, y := [m.vmean], model := fun d => [voltageModel d m.iWindow], sd := [vSd] }
  let zBad := ciBad || fl mfUntrimmed || fl mfUnlocked
  let imp := fun (kind h : Nat) (z : Rat × Rat) (i e : Rat) (low : Nat) =>
    if zBad || m.noZ || fl low then [] else [impGroup b o.w kind pr z (omega h u.d.fw) i e]
  let pil := match m.zp with
    | none => []
    | some z =>
      let n : Rat := ((o.w * o.pilotPeriods * o.pilotSweeps : Nat) : Rat)
      let ω := 2 * realPi / ((o.pilotSweeps : Rat) * u.d.period)
      let mm := impedanceModel pr ω
      let sd := 12 / 100 / (m.iP * realSqrt n) + pZRel b / 100 * realSqrt (sq mm.1.v + sq mm.2.v)
      [{ kind := 3, y := [z.1, z.2], model := fun d => pairList (impedanceModel d ω), sd := [sd, sd] }]
  let temp := match m.tSurf with
    | none => []
    | some t =>
      if bitOf m.surf 1 then [] else
      let drop := pr.rth.v * heat
      let sd := if bitOf m.surf 0 then 15 / 10 else realSqrt (sq (3 / 10) + sq (drop / 4))
      [{ kind := 4, y := [t], model := fun d => [d.tc.sub (d.rth.scale heat)], sd := [sd] }]
  let volt := match anchor with
    | none => volt
    | some (za, ua) => { kind := 5, y := [za], model := fun d => [d.zs], sd := [ua / k95] }
  volt :: (imp 1 u.d.harmA m.za m.iA m.eA mfLowA ++ imp 2 u.d.harmB m.zb m.iB m.eB mfLowB ++ pil ++ temp)

end Sys2Proof.Machine
end

