-- ==== Sys2Proof/Machine/Csm.lean ====
section
/-!
DEFINITION. Cell state memory (R189 to R198): the word code, what a read with errors does, the scrubber.
-/

namespace Sys2Proof.Machine

/-! ### The word code (R194) -/

/-- A product in GF(2^8) with field polynomial 0x11D. -/
def gfMul (a b : Nat) : Nat :=
  ((List.range 8).foldl (fun (acc : Nat × Nat) i =>
    (if bitOf b i then acc.1 ^^^ acc.2 else acc.1,
     if 128 ≤ acc.2 then (acc.2 * 2) ^^^ 0x11D else acc.2 * 2)) (0, a)).1

/-- α to a power. -/
def gfPow : Nat → Nat
  | 0 => 1
  | n + 1 => gfMul (gfPow n) 2

/-- The generator polynomial g(x), lowest coefficient first. -/
def rsGenerator : List Nat :=
  (List.range 6).foldl (fun g i => List.zipWith (· ^^^ ·) (0 :: g) ((g.map fun c => gfMul c (gfPow i)) ++ [0])) [1]

/-- One step of the division by g(x): the remainder, highest coefficient first, takes the next data symbol. -/
def rsStep (rem : List Nat) (d : Nat) : List Nat :=
  let f := d ^^^ nth rem 0 0
  List.zipWith (· ^^^ ·) (rem.drop 1 ++ [0]) ((rsGenerator.take 6).reverse.map fun c => gfMul f c)

/-- The six check bytes of 32 data bytes. -/
def rsCheck (data : List Nat) : List Nat := data.foldl rsStep (List.replicate 6 0)

/-- The syndromes of an error pattern: symbol `i` is the coefficient of x^(37 − i). -/
def rsSyndromes (errs : List (Nat × Byte)) : List Nat :=
  (List.range 6).map fun j => errs.foldl (fun s e => s ^^^ gfMul e.2.toNat (gfPow (j * (37 - e.1)))) 0

/-- The locator polynomial of a set of symbols, lowest coefficient first. -/
def rsLocator (pos : List Nat) : List Nat :=
  pos.foldl (fun g i => List.zipWith (· ^^^ ·) (0 :: g) ((g.map fun c => gfMul c (gfPow (37 - i))) ++ [0])) [1]

/-- Whether syndromes are those of an error confined to a set of symbols. -/
def rsFits (syn : List Nat) (pos : List Nat) : Bool :=
  let σ := rsLocator pos
  (List.range (6 - pos.length)).all fun j =>
    (List.zipWith gfMul σ (syn.drop j)).foldl (· ^^^ ·) 0 == 0

/-- The sets of at most three symbols. -/
def rsSets : List (List Nat) :=
  let n := List.range 38
  [[]] ++ n.map (fun i => [i]) ++ (n.flatMap fun i => (List.range i).map fun j => [i, j]) ++
  n.flatMap fun i => (List.range i).flatMap fun j => (List.range j).map fun k => [i, j, k]

/-- The symbols of an error of at most three symbols with these syndromes, where the decoder finds one. -/
def rsFound (syn : List Nat) : Option (List Nat) := rsSets.find? (rsFits syn)

/-- The inverse in GF(2^8). -/
def gfInv (a : Nat) : Nat := (List.range 253).foldl (fun x _ => gfMul x a) a

/-- The error values at symbols that fit the syndromes. -/
def rsValues (syn pos : List Nat) : List (Nat × Byte) :=
  pos.map fun i =>
    let σ := rsLocator (pos.filter (· != i))
    let x := gfPow (37 - i)
    let at_ := σ.foldr (fun c y => c ^^^ gfMul x y) 0
    (i, BitVec.ofNat 8 (gfMul ((List.zipWith gfMul σ syn).foldl (· ^^^ ·) 0) (gfInv at_)))

/-- What the decoder makes of a word as read: nothing wrong, corrected, miscorrected with the errors that are left,
uncorrectable (R194). -/
inductive Decoded where
  | clean | corrected | miscorrected (left : List (Nat × Byte)) | uncorrectable
  deriving DecidableEq, Repr

/-- The decoder on an error pattern of distinct symbols with values that are not 0. -/
def rsDecode (errs : List (Nat × Byte)) : Decoded :=
  if errs.isEmpty then .clean
  else if errs.length ≤ 3 then .corrected
  else
    let syn := rsSyndromes errs
    match rsFound syn with
    | none => .uncorrectable
    | some pos =>
      let v := rsValues syn pos
      .miscorrected ((List.range 38).filterMap fun i =>
        let e := amGetD errs i 0 ^^^ amGetD v i 0
        if e = 0 then none else some (i, e))

/-! ### Records -/

/-- The bank of a word (R189). -/
def wordBank (w : Nat) : Nat := w % 8
/-- The cell whose record holds a word, if any (R189): 8,192 records of 48 words. -/
def wordCell (w : Nat) : Option Nat := if w < 393216 then some (w / 48) else none
/-- Whether a word of a record is one of its measurement slots (Table 7.2). -/
def wordIsSlot (w : Nat) : Bool := Nat.ble 29 (w % 48) && Nat.ble (w % 48) 32

/-- A flag of CELL_DEAL_FLAGS (Table 7.7). -/
def State.dealFlag (s : State) (n bit : Nat) : Bool := bitOf (s.n (Obj.CELL_DEAL_FLAGS n)) bit
/-- The state with a flag of CELL_DEAL_FLAGS at a value. -/
def State.setDealFlag (s : State) (n bit : Nat) (b : Bool) : State :=
  s.putN (Obj.CELL_DEAL_FLAGS n) (withBit (s.n (Obj.CELL_DEAL_FLAGS n)) bit b)

/-! CELL_DEAL_FLAGS bits. -/
def dfDeferred : Nat := 0
def dfPriority : Nat := 1
def dfLagged : Nat := 2
def dfForced : Nat := 3
def dfOverrun : Nat := 4
def dfInvalid : Nat := 5
def dfLost : Nat := 6

/-- The Abacus. -/
def State.abacus (s : State) : AbacusSt := s.est.abacus
/-- The state with the Abacus changed. -/
def State.modAbacus (s : State) (f : AbacusSt → AbacusSt) : State := { s with est := { s.est with abacus := f s.est.abacus } }
/-- RECORD_INVALID of a cell: its bit in the invalid-record bitmap (R197). -/
def State.recInvalid (s : State) (n : Nat) : Bool := s.abacus.bitmap.contains n
/-- The state with a cell's bit in both copies of the bitmap at a value (R189). -/
def State.setInvalid (s : State) (n : Nat) (b : Bool) : State :=
  let put := fun (l : List Nat) => if b then n :: l.filter (· != n) else l.filter (· != n)
  s.modAbacus fun a => { a with bitmap := put a.bitmap, bitmap2 := put a.bitmap2 }
/-- Rod `r`. -/
def State.rod (s : State) (r : Nat) : RodSt := nth s.abacus.rods r {}
/-- The state with rod `r` changed. -/
def State.modRod (s : State) (r : Nat) (f : RodSt → RodSt) : State :=
  s.modAbacus fun a => { a with rods := a.rods.set r (f (nth a.rods r {})) }

/-- A cell that is marked DEFERRED after the tail of its sweep is counted with the others of the sweep (R182, R186). -/
def deferLate (s : State) : State :=
  if !s.sweep.tailDone then s else
  ((s.inc Obj.DEFERRED_CELLS).incW 64 Obj.DEFERRED_TOTAL).modAbacus fun a => { a with deferrals := true :: a.deferrals.drop 1 }

/-- A cell is marked DEFERRED (R182). -/
def defer (n : Nat) (s : State) : State :=
  if s.dealFlag n dfDeferred then s else deferLate ((s.setDealFlag n dfDeferred true).inc (Obj.CELL_DEFERRALS n))

/-- An update in flight on a cell is abandoned, the cell DEFERRED (R197, R198). -/
def abandonUpdate (n : Nat) (s : State) : State :=
  if (List.range 16).any fun r => (s.rod r).slots.any fun u => u.cell == n then
    defer n (s.each 16 fun r s => s.modRod r fun x => { x with slots := x.slots.filter fun u => u.cell != n })
  else s

/-- The outputs of a cell return to their defaults while its record is invalid (R197), EST_FLAGS showing REINIT and
CARRIED. -/
def hideCell (n : Nat) (s : State) : State :=
  let keys := [Obj.SOC n, Obj.SOC_BOUND n, Obj.SOE n, Obj.SOE_ROOM n, Obj.SOE_BOUND n, Obj.SOH_C n, Obj.SOH_C_BOUND n,
    Obj.SOH_R n, Obj.SOH_R_BOUND n, Obj.CORE_TEMP n, Obj.CORE_TEMP_BOUND n, Obj.Z_TEMP n, Obj.Z_TEMP_BOUND n, Obj.CAPACITY n,
    Obj.EST_AGE n, Obj.SOP_CHG_2S n, Obj.SOP_CHG_10S n, Obj.SOP_CHG_60S n, Obj.SOP_DIS_2S n, Obj.SOP_DIS_10S n,
    Obj.SOP_DIS_60S n, Obj.SOP_CHG_2S_BOUND n, Obj.SOP_CHG_10S_BOUND n, Obj.SOP_CHG_60S_BOUND n, Obj.SOP_DIS_2S_BOUND n,
    Obj.SOP_DIS_10S_BOUND n, Obj.SOP_DIS_60S_BOUND n, Obj.SOP_AGE n, Obj.CELL_RELIN n]
  let s := s.forAll keys fun k s => s.put k (objDefault s.asBuilt k)
  s.putN (Obj.EST_FLAGS n) (2 ^ efReinit + 2 ^ efCarried)

/-- A record becomes invalid (R197): its bit in the bitmap, the count of `counter`, the word in the exception log, an
update in flight abandoned. -/
def invalidate (n word counter : Nat) (s : State) : State :=
  let s := (s.modRec n fun c => { c with crcBad := false, anchorBroken := true }).setInvalid n true
  let s := (s.inc counter).logN 0x0303 0x2400 n word 0
  hideCell n ((abandonUpdate n s).setDealFlag n dfInvalid true)

/-- A cell that loses its fresh measurement after the deadline is STALE, a sweep older (R110, R198). -/
def staleCell (n : Nat) (s : State) : State :=
  ((s.putN (Obj.CELL_MEAS_FLAGS n) (withBit (s.n (Obj.CELL_MEAS_FLAGS n)) mfStale true)).putN (Obj.CELL_AGE n)
    (min 65535 (s.n (Obj.CELL_AGE n) + 1))).inc Obj.STALE_CELLS

/-- The update in flight of a cell ends without a result; its rod's slot is free (R198). -/
def dropUpdate (n : Nat) (s : State) : State :=
  s.each 16 fun r s => s.modRod r fun x => { x with slots := x.slots.filter fun u => u.cell != n }

/-- The measurement in a slot is lost (R198): that of sweep k leaves the cell without a fresh block in the sweep, a held one
is as if it had never been stored, so that the block of sweep k counts. -/
def loseSlot (n : Nat) (even : Bool) (s : State) : State :=
  let k := s.n Obj.SWEEP_COUNT
  let lagged := s.abacus.rods.any fun r => r.slots.any fun u => u.cell == n && u.lagged
  let s := s.modCell n fun c => if even then { c with even := none } else { c with odd := none }
  let s := s.setDealFlag n dfLost true
  if (k % 2 == 0) == even then
    let had := s.abacus.stored.contains n
    let s := (if lagged then s else dropUpdate n s).modAbacus fun a =>
      { a with stored := a.stored.filter fun m => m != n, lost := n :: a.lost.filter (· != n) }
    if s.sweep.deadline && had && !lagged then (staleCell n s).setDealFlag n dfDeferred false else s
  else if lagged then (dropUpdate n s).modAbacus fun a => { a with started := a.started.filter (· != n) }
  else s

/-! ### Stored bytes (Tables 7.2 and 7.3) -/

/-- A rational as F64 bytes. -/
def f64q (q : Rat) : Bytes := f64Bytes (.real q)

/-- The F32 values of a measurement slot from byte 8 on, in order. -/
def slotValues (m : Meas) : List Val :=
  [.real m.vmean, .real m.za.1, .real m.za.2, .real m.zb.1, .real m.zb.2, Val.ofRat? (m.zp.map (·.1)), Val.ofRat? (m.zp.map (·.2)),
   .real m.corrBound, .real m.eA, .real m.eB, .real m.iA, .real m.iB, .real m.iWindow, Val.ofRat? m.tSurf]

/-- A measurement slot as stored (Table 7.3); a value that is not formed is a NaN (log entry 138). -/
def measSlotBytes (m : Meas) : Bytes :=
  leBytes 4 m.sweep ++ leBytes 2 m.flags ++ leBytes 2 m.surf ++ (slotValues m).flatMap f32Bytes

/-- A slot that holds a measurement or nothing. -/
def slotImage? : Option Meas → Bytes
  | some m => measSlotBytes m
  | none => List.replicate 64 0

/-- The upper triangle of a square matrix, row by row. -/
def upperTriangle (n : Nat) (m : Mat) : List Rat := (List.range n).flatMap fun i => (List.range (n - i)).map fun j => mAt m i (i + j)

/-- F32 objects of a cell as a record holds them. -/
def objectBytes (s : State) (keys : List Nat) : Bytes := keys.flatMap fun k => f32Bytes (s.v k)

/-- PARAM_AGE (Table 7.2). -/
def State.paramAge (s : State) (n : Nat) : Nat :=
  let c := (s.cell n).record
  if c.paramDue then 255 else min 255 (s.n Obj.SWEEP_COUNT - c.paramSweep)

/-- The record of a cell as stored, RECORD_CRC as given (Table 7.2). -/
def recordWith (s : State) (n crc : Nat) : Bytes :=
  let x := s.cell n
  let c := x.record
  let nan4 : List Val := List.replicate 4 .nan
  let anchor : List Val := match c.anchor with
    | some (z, u, q, d) => [.real z, .real u, .real q, .real d]
    | none => nan4
  leBytes 2 (s.n Obj.RECORD_FORMAT) ++ leBytes 2 n ++ leBytes 4 (s.n (Obj.EST_FLAGS n) + 65536 * s.n (Obj.CELL_DEAL_FLAGS n)) ++
  leBytes 8 c.lastMarkL ++ leBytes 8 (twos 64 c.lastSweep) ++ leBytes 2 (s.n (Obj.EST_AGE n)) ++ leBytes 1 (s.n (Obj.SOP_AGE n)) ++
  leBytes 1 (s.paramAge n) ++ leBytes 4 crc ++ c.x.flatMap f64q ++ f64q c.drift ++ (upperTriangle 7 c.p).flatMap f64q ++
  c.theta.flatMap f64q ++ (upperTriangle 5 c.pTheta).flatMap f64q ++ (upperTriangle 5 c.lambda).flatMap f64q ++ c.eta.flatMap f64q ++
  f64q c.refCharge ++ f64q c.refBleed ++ f64q c.refDrift ++ leBytes 8 c.paramSliceL ++ anchor.flatMap f64Bytes ++
  objectBytes s [Obj.SOC n, Obj.SOC_BOUND n, Obj.SOE n, Obj.SOE_ROOM n, Obj.SOE_BOUND n, Obj.SOH_C n, Obj.SOH_C_BOUND n, Obj.SOH_R n,
    Obj.SOH_R_BOUND n, Obj.CORE_TEMP n, Obj.CORE_TEMP_BOUND n, Obj.Z_TEMP n, Obj.Z_TEMP_BOUND n, Obj.CAPACITY n] ++
  leBytes 4 ((c.rejects.zipIdx.map fun y => y.1 % 32 * 32 ^ y.2).sum) ++ leBytes 1 (s.n (Obj.CELL_RELIN n)) ++ List.replicate 3 0 ++
  objectBytes s [Obj.SOP_CHG_2S n, Obj.SOP_CHG_10S n, Obj.SOP_CHG_60S n, Obj.SOP_DIS_2S n, Obj.SOP_DIS_10S n, Obj.SOP_DIS_60S n,
    Obj.SOP_CHG_2S_BOUND n, Obj.SOP_CHG_10S_BOUND n, Obj.SOP_CHG_60S_BOUND n, Obj.SOP_DIS_2S_BOUND n, Obj.SOP_DIS_10S_BOUND n,
    Obj.SOP_DIS_60S_BOUND n] ++ List.replicate 16 0 ++
  (fit 72 (c.corner.flatMap fun y => [y.1, y.2.1, y.2.2].flatMap fun q => f32Bytes (.real q))) ++ List.replicate 24 0 ++
  slotImage? x.even ++ slotImage? x.odd ++ x.mirror ++ (List.range 416).map (Config.workByte n c.lastSweep)

/-- RECORD_CRC of a record (R190): CRC-32C with bytes 28 to 31 taken as 0 and the measurement slots left out. -/
def recordCrc (b : Bytes) : Nat := crc32c (b.take 28 ++ List.replicate 4 0 ++ slice b 32 896 ++ b.drop 1056)

/-- The record of a cell as stored (Table 7.2). -/
def recordImage (s : State) (n : Nat) : Bytes := recordWith s n (recordCrc (recordWith s n 0))

/-- A byte string with errors at bytes counted from an offset. -/
def withErrors (b : Bytes) (o : Nat) (errs : List (Nat × Byte)) : Bytes :=
  errs.foldl (fun b e => if e.1 < 32 then b.set (o + e.1) (nth b (o + e.1) 0 ^^^ e.2) else b) b

/-- A word of cell state memory as stored (R189, R194): 32 data bytes and their check bytes. -/
def storedWord (data : Bytes) : Bytes := data ++ (rsCheck (data.map fun x => x.toNat)).map (BitVec.ofNat 8)

/-- A value of a slot after its bytes have changed; one that is no finite number is a free value. -/
def slotValue (old new : Bytes) (o : Nat) (q : Rat) (s : State) : Rat × State :=
  if slice old o 4 = slice new o 4 then (q, s) else
  match (fieldF32 new o).toRat? with
  | some r => (r, s)
  | none => s.freshQ

/-- The measurement that the changed bytes of a slot spell. -/
def slotChanged (m : Meas) (new : Bytes) (s : State) : Meas × State :=
  let old := measSlotBytes m
  let (v, s) := ((slotValues m).zipIdx).foldl (fun (acc : List Rat × State) x =>
    let (q, t) := slotValue old new (8 + 4 * x.2) x.1.toRat acc.2
    (acc.1 ++ [q], t)) ([], s)
  let at_ := fun i => nth v i 0
  ({ m with sweep := fieldU new 0 4, flags := fieldU new 4 2, surf := fieldU new 6 2, vmean := at_ 0, za := (at_ 1, at_ 2), zb := (at_ 3, at_ 4),
            zp := if m.zp.isSome || decide (slice old 28 8 ≠ slice new 28 8) then some (at_ 5, at_ 6) else none, corrBound := at_ 7,
            eA := at_ 8, eB := at_ 9, iA := at_ 10, iB := at_ 11, iWindow := at_ 12,
            tSurf := if m.tSurf.isSome || decide (slice old 60 4 ≠ slice new 60 4) then some (at_ 13) else none }, s)

/-- A miscorrected word of a measurement slot changes what the slot holds (R194). -/
def miscorrectSlot (n w : Nat) (left : List (Nat × Byte)) (s : State) : State :=
  let even := Nat.ble w 30
  let x := s.cell n
  match if even then x.even else x.odd with
  | none => s
  | some m =>
    let (m', s) := slotChanged m (withErrors (measSlotBytes m) (32 * ((w - 29) % 2)) left) s
    s.modCell n fun c => if even then { c with even := some m' } else { c with odd := some m' }

/-- A miscorrected word of a record outside its slots: RECORD_CRC tells at the next check (R190, R194). -/
def miscorrectRecord (n w : Nat) (left : List (Nat × Byte)) (s : State) : State :=
  let b := withErrors (recordImage s n) (32 * w) left
  if recordCrc b = fieldU b 28 4 then s else s.modRec n fun c => { c with crcBad := true }

/-- A word is read with errors (R194 to R198): corrected words are counted, an uncorrectable one has the consequence of
the area that holds it, a miscorrected one is caught by RECORD_CRC where that covers it. -/
def readWord (w : WordErr) (s : State) : State :=
  match rsDecode w.errs with
  | .clean => s
  | .corrected => s.inc Obj.CSM_CORRECTED
  | .miscorrected left =>
    let s := s.inc Obj.CSM_CORRECTED
    match wordCell w.word with
    | some n => (if wordIsSlot w.word then miscorrectSlot else miscorrectRecord) n (w.word % 48) left s
    | none => s
  | .uncorrectable =>
    let s := s.putN Obj.CSM_LAST_ERROR_WORD w.word
    match wordCell w.word with
    | some n =>
      if wordIsSlot w.word then loseSlot n (decide (w.word % 48 ≤ 30)) ((s.inc Obj.CSM_UNCORRECTABLE).logN 0x0303 0x2400 n w.word 0)
      else invalidate n w.word Obj.CSM_UNCORRECTABLE s
    | none =>
      let s := (s.inc Obj.CSM_UNCORRECTABLE).logN 0x0303 0x2400 noSubject w.word 0
      match w.area with
      | 0 => s.forAll w.readers abandonUpdate
      | 1 => s.modRod w.rod fun x => { x with lost := true }
      | 2 => s.modAbacus fun a => { a with bitmap := a.bitmap2 }
      | 3 => s.modAbacus fun a => { a with bitmap2 := a.bitmap }
      | _ => s

/-- The words of the records of some cells are read with errors, and their RECORD_CRC is checked (R196, R197). Every other word
of the list is no part of those records. -/
def readRecords (cells : List Nat) (words : List WordErr) (s : State) : State :=
  let mine := words.filter fun w => ((wordCell w.word).map fun n => cells.contains n).getD false
  let s := s.forAll mine readWord
  s.forAll cells fun n s => if (s.cell n).record.crcBad then invalidate n (48 * n) Obj.CSM_RECORD_CRC_ERRORS s else s

/-- The check of RECORD_CRC when a record is loaded or read (R190, R197). -/
def checkRecord (n : Nat) (s : State) : State :=
  if (s.cell n).record.crcBad then invalidate n (48 * n) Obj.CSM_RECORD_CRC_ERRORS s else s

/-- Whether an update of the record that holds a word is in flight. -/
def State.inFlight (s : State) (n : Nat) : Bool := s.abacus.rods.any fun r => r.slots.any fun u => u.cell == n

/-- The word the scrubber reads next: one that it has skipped and whose update has ended, else the next of the pass. -/
def scrubTarget (s : State) : Nat :=
  let idle := fun w => !((wordCell w).map s.inFlight).getD false
  (s.abacus.scrubLater.find? idle).getD s.abacus.scrubNext

/-- The scrubber reads a word (R196); the words of a record whose update is in flight are skipped and read after the store;
a pass ends when every word has been read. -/
def scrubWord (w : WordErr) (s : State) : State :=
  let a := scrubTarget s
  let busy := ((wordCell a).map s.inFlight).getD false
  let s := s.modAbacus fun x =>
    let later := x.scrubLater.filter (· != a)
    { x with scrubLater := if busy && Nat.blt a 524288 then later ++ [a] else later,
             scrubNext := if a = x.scrubNext then min 524288 (a + 1) else x.scrubNext }
  let s := if busy || Nat.ble 524288 a then s else readWord { w with word := a } s
  if s.abacus.scrubNext < 524288 || !s.abacus.scrubLater.isEmpty then s else
  let ms := (s.lNow - s.abacus.scrubStart) / 1000000
  let s := s.modAbacus fun x => { x with scrubNext := 0, scrubStart := s.lNow }
  let s := (s.inc Obj.CSM_SCRUB_PASSES).putN Obj.CSM_SCRUB_PASS_TIME (min ms 65535)
  if 10000 < ms then s.logN 0x0302 0x2400 noSubject ms 0 else s

end Sys2Proof.Machine
end

