-- ==== Sys2Proof/Machine/Update.lean ====
section
/-!
DEFINITION. The base update of one cell (R154 to R166): groups tested, the iterated solve, drift, parameter
information, anchors, Z_TEMP, and the parameter and state-of-power slices.
-/

namespace Sys2Proof.Machine

/-- The model values of a group at a state, and its Jacobians with respect to states and parameters. -/
def Group.at (g : Group) (b : Bytes) (x θ : Vec) : Vec × Mat × Mat :=
  let ds := g.model (derived b x θ)
  (ds.map Dual.v, ds.map fun d => d.g.take 7, ds.map fun d => d.g.drop 7)

/-- The measurement variance of a group as a matrix. -/
def Group.r (g : Group) : Mat := mDiag (g.sd.map fun x => x * x)

/-- The normalised innovation ν' S⁻¹ ν of a group (R154). -/
def innovation (b : Bytes) (x θ : Vec) (p : Mat) (g : Group) : Rat :=
  let (h, hx, _) := g.at b x θ
  let ν := vSub g.y h
  let k := g.y.length
  let s := mAdd (mMul k (mMul 7 hx p) (mT 7 hx)) g.r
  vDot ν (mVec (mInv s) ν)

/-- The rejection threshold of a group (R154). -/
def Group.limit (g : Group) : Rat := if g.y.length = 1 then 25 else 184 / 10

/-- Rejection by R154: the groups applied, the counts of consecutive rejections, the covariance, the kinds rejected. -/
def rejectGroups (b : Bytes) (x θ : Vec) (p : Mat) (counts : List Nat) (gs : List Group) : List Group × List Nat × Mat × List Nat :=
  gs.foldl (fun (acc : List Group × List Nat × Mat × List Nat) g =>
    let (app, cnt, p, rej) := acc
    if g.kind = 5 then (app ++ [g], cnt, p, rej) else
    let v := innovation b x θ p g
    if 20 ≤ nth cnt g.kind 0 then (app ++ [g], cnt.set g.kind 0, mScale (v / g.limit) p, rej)
    else if v ≤ g.limit then (app ++ [g], cnt.set g.kind 0, p, rej)
    else (app, cnt.set g.kind (nth cnt g.kind 0 + 1), p, rej ++ [g.kind])) ([], counts, p, [])

/-- The stacked model values and Jacobian of the applied groups, the gated columns of the voltage zeroed (R155). -/
def stack (b : Bytes) (gated : Bool) (gs : List Group) (x θ : Vec) : Vec × Mat :=
  let parts := gs.map fun g =>
    let (h, hx, _) := g.at b x θ
    (h, if gated && g.kind == 0 then hx.map fun (r : Vec) => [0, 0, 0] ++ List.drop 3 r else hx)
  (parts.flatMap fun (a : Vec × Mat) => a.1, parts.flatMap fun (a : Vec × Mat) => a.2)

/-- One solve of R156 from the linearisation at `xj`: gain, Jacobian, the next state. -/
def solveOnce (b : Bytes) (gated : Bool) (gs : List Group) (θ xPri : Vec) (p : Mat) (xj : Vec) : Mat × Mat × Vec :=
  let (h, hj) := stack b gated gs xj θ
  let y := gs.flatMap fun g => g.y
  let r := mDiag (gs.flatMap fun g => g.sd.map fun a => a * a)
  let m := y.length
  let pht := mMul m p (mT 7 hj)
  let k := mMul m pht (mInv (mAdd (mMul m hj pht) r))
  let res := vSub (vSub y h) (mVec hj (vSub xPri xj))
  (k, hj, vAdd xPri (mVec k res))

/-- The linearisation error (R159): the largest component over the applied groups, in standard deviations. -/
def linError (b : Bytes) (gated : Bool) (gs : List Group) (θ xj xn : Vec) : Rat :=
  let (hn, _) := stack b gated gs xn θ
  let (hj, jac) := stack b gated gs xj θ
  let lin := vAdd hj (mVec jac (vSub xn xj))
  let sd := gs.flatMap fun g => g.sd
  (List.zipWith (fun e d => rabs e / d) (vSub hn lin) sd).foldl rmax 0

/-- The iterated solve (R156, R159): gain, Jacobian, state, relinearisations, whether the last error exceeds ITER_TOL. -/
def iterate (b : Bytes) (gated : Bool) (gs : List Group) (θ xPri : Vec) (p : Mat) (tol : Rat) :
    Nat → Nat → Vec → Mat × Mat × Vec × Nat × Bool
  | 0, relin, xj =>
    let (k, hj, xn) := solveOnce b gated gs θ xPri p xj
    (k, hj, xn, relin, decide (tol < linError b gated gs θ xj xn))
  | left + 1, relin, xj =>
    let (k, hj, xn) := solveOnce b gated gs θ xPri p xj
    if linError b gated gs θ xj xn ≤ tol then (k, hj, xn, relin, false)
    else iterate b gated gs θ xPri p tol left (relin + 1) xn

/-- The covariance after the update: (I − K H) P (I − K H)' + K R K' (R156). -/
def joseph (p k hj : Mat) (gs : List Group) : Mat :=
  let r := mDiag (gs.flatMap fun g => g.sd.map fun a => a * a)
  let m := r.length
  let a := mSub (mDiag (List.replicate 7 1)) (mMul 7 k hj)
  mAdd (mMul 7 (mMul 7 a p) (mT 7 a)) (mMul 7 (mMul m k r) (mT m k))

/-- Λ and η with an applied group added at the final state (R160). -/
def addInformation (b : Bytes) (x θ : Vec) (acc : Mat × Vec) (g : Group) : Mat × Vec :=
  let (h, _, ht) := g.at b x θ
  let m := g.y.length
  let w := mMul m (mT 5 ht) (mDiag (g.sd.map fun a => 1 / (a * a)))
  (mAdd acc.1 (mMul 5 w ht), vAdd acc.2 (mVec w (vSub g.y h)))

/-- One Gauss–Newton step of Z_TEMP and the information J' R⁻¹ J (R165). -/
def zTempStep (b : Bytes) (θ : Vec) (gs : List Group) (x : Vec) : Rat × Rat :=
  let parts := gs.flatMap fun g =>
    let (h, hx, _) := g.at b x θ
    List.zipWith (fun (yh : Rat × Rat) (rd : Vec × Rat) => (nth rd.1 6 0, yh.1 - yh.2, rd.2)) (g.y.zip h) (hx.zip g.sd)
  let info := (parts.map fun t => t.1 * t.1 / (t.2.2 * t.2.2)).sum
  let num := (parts.map fun t => t.1 * t.2.1 / (t.2.2 * t.2.2)).sum
  (num / info, info)

/-- Z_TEMP with its bound from the applied impedance and pilot groups (R165): three Gauss–Newton steps. Where the model does not
depend on Tc no value minimises the residual and no bound is stated: free values. -/
def zTemp (b : Bytes) (θ x : Vec) (gs : List Group) : Rat × Rat :=
  let step := fun (x : Vec) => x.set 6 (nth x 6 0 + (zTempStep b θ gs x).1)
  let x3 := step (step (step x))
  let info := (zTempStep b θ gs x3).2
  if info = 0 then (Config.unstated 4 (nth x 6 0), Config.unstated 5 (nth x 6 0)) else (nth x3 6 0, k95 / realSqrt info)

/-- The value and the bound of an anchor at the prior (R163, R165). -/
def anchorValue (b : Bytes) (kind : Nat) (u : UpdIn) (x θ : Vec) (p : Mat) (vSd : Rat) : Rat × Rat :=
  let d := derived b x θ
  let h : Rat := match kind with
    | 1 => 1
    | 2 => -1
    | _ => nth x 5 0
  let t := nth x 6 0
  let v := u.meas.vmean - d.r0.v * u.meas.iWindow - nth x 3 0 - nth x 4 0
  let za := invCurve (e0At b h t) v
  let ua := match kind with
    | 1 => pTopBound b / 100
    | 2 => pBottomBound b / 100
    | _ =>
      let hh := hystHalf b za t
      let σh := realSqrt (mAt p 5 5)
      rmin (1 / 2) (k95 * realSqrt (vSd * vSd + hh * σh * (hh * σh)) / rabs (ocvSlope b za t))
  (za, ua)

/-- A capacity observation from two anchors enters Λ and η (R161). -/
def capacityObservation (c : CellRec) (za ua : Rat) : Mat × Vec :=
  match c.anchor with
  | none => (c.lambda, c.eta)
  | some (z1, u1, q, dq) =>
    let dz := za - z1
    if c.anchorBroken ∨ rabs dz < 3 / 10 then (c.lambda, c.eta) else
    let cObs := q / (36 / 10 * dz)
    let var := varOf (cObs * (u1 + ua + dq) / rabs dz)
    (mSet c.lambda 0 0 (mAt c.lambda 0 0 + 1 / var), c.eta.set 0 (nth c.eta 0 0 + (cObs - nth c.theta 0 0) / var))

/-- The parameter slice (R160): drift for the elapsed time, information, new parameters, clamped. -/
def parameterDrift (b : Bytes) (hours : Rat) : Mat :=
  let cd := pCapDrift b / 100 * pCNom b
  let rd := pRhoDrift b / 100
  let td := rd * pRthPrior b
  mScale (hours / 1000 / (k95 * k95)) (mDiag [cd * cd, rd * rd, rd * rd, rd * rd, td * td])

/-- The record after its parameter slice at base L `markL` in sweep `k` (R160), and how many parameters were clamped. -/
def parameterSlice (b : Bytes) (markL k : Nat) (c : CellRec) : CellRec × Nat :=
  let hours : Rat := ((markL - c.paramSliceL : Nat) : Rat) / 3600000000000
  let p := mAdd c.pTheta (parameterDrift b hours)
  let p := mInv (mAdd (mInv p) c.lambda)
  let θ := vAdd c.theta (mVec p c.eta)
  let θ' := clampAll (paramRanges b) θ
  let n := ((θ.zip θ').filter fun a => a.1 != a.2).length
  ({ c with pTheta := p, theta := θ', lambda := mDiag (List.replicate 5 0), eta := List.replicate 5 0,
            paramSliceL := markL, paramSweep := k, paramDue := false }, n)

/-! ### State of power (R166) -/

/-- E_τ and R_τ at a state and parameters. -/
def sopER (b : Bytes) (x θ : Vec) (τ : Rat) : Rat × Rat :=
  let d := derived b x θ
  let ex := fun (t : Rat) => realExp (-τ / t)
  let e1 := ex d.tau1.v
  let e2 := ex d.tau2.v
  let ec := ex d.tauCt.v
  let es := ex d.tauS.v
  let t := nth x 6 0
  let z := nth x 0 0 + nth x 1 0 * e1 + nth x 2 0 * e2
  let e := ocvMid b z t + nth x 5 0 * hystHalf b z t + nth x 3 0 * ec + nth x 4 0 * es
  let r := d.r0.v + d.rct.v * (1 - ec) + d.rs.v * (1 - es) +
    d.slope.v / d.qc.v * (τ + w1 * d.tau1.v * (1 - e1) + w2 * d.tau2.v * (1 - e2))
  (e, r)

/-- The limit current of a state of power with E_τ and R_τ (R166): that of charge is never below 0. DESIGN CHOICE (log entry
171): above T_CORE_MAX, where the thermal term has no root, it is 0. -/
def sopLimit (b : Bytes) (charge : Bool) (x θ : Vec) (τ : Rat) : Rat × Rat × Rat :=
  let (e, r) := sopER b x θ τ
  let z := nth x 0 0
  let t := nth x 6 0
  let qc := 36 / 10 * nth θ 0 0
  let therm := if t < pTcoreMax b then realSqrt ((pTcoreMax b - t) * pCth b / (r * τ)) else 0
  let i := if charge then
      rmin (rmin ((pVmax b - e) / r) (cToA b (pIchgMax b))) (rmin ((1 - z) * qc / τ) therm)
    else rmin (rmin ((e - pVmin b) / r) (cToA b (pIdisMax b))) (rmin (z * qc / τ) therm)
  let i := if !charge then i else if t < pTchargeMin b then 0 else rmax 0 i
  (i, e, r)

/-- The power of a limit current. -/
def sopPower (charge : Bool) (l : Rat × Rat × Rat) : Rat :=
  if charge then l.1 * (l.2.1 + l.2.2 * l.1) else l.1 * (l.2.1 - l.2.2 * l.1)

/-- A 95 % bound from a variance. -/
def bound95 (v : Rat) : Rat := k95 * realSqrt v

/-- A state of power: its value, its bound, the pessimistic corner (R166). -/
def sopValue (b : Bytes) (charge : Bool) (c : CellRec) (τ : Rat) : Rat × Rat × (Rat × Rat × Rat) :=
  let nominal := sopPower charge (sopLimit b charge c.x c.theta τ)
  let uz := bound95 (mAt c.p 0 0)
  let ut := bound95 (mAt c.p 6 6)
  let z := nth c.x 0 0 + (if charge then uz else -uz)
  let θ := (c.theta.set 1 (nth c.theta 1 0 + bound95 (mAt c.pTheta 1 1))).set 2 (nth c.theta 2 0 + bound95 (mAt c.pTheta 2 2))
  let at' := fun (t : Rat) => sopLimit b charge ((c.x.set 0 z).set 6 t) θ τ
  let lo := at' (nth c.x 6 0 - ut)
  let hi := at' (nth c.x 6 0 + ut)
  let corner := if lo.1 ≤ hi.1 then lo else hi
  (nominal, rmax 0 (nominal - sopPower charge corner), corner)

/-- The six states of power in the order of Table 6.9: charge then discharge, at 2 s, 10 s and 60 s. -/
def sopSlice (b : Bytes) (c : CellRec) : List (Rat × Rat × (Rat × Rat × Rat)) :=
  [(true, 2), (true, 10), (true, 60), (false, 2), (false, 10), (false, 60)].map fun (a : Bool × Rat) => sopValue b a.1 c a.2

/-! ### The whole base update -/

/-- What an update leaves: the record, the relinearisations, the flags it raises, how often a quantity was clamped, how
many groups were rejected, Z_TEMP with its bound where it was formed. -/
structure Updated where
  c : CellRec
  relin : Nat
  gated : Bool
  iterLimit : Bool
  clamps : Nat
  outV : Bool
  outZ : Bool
  outliers : Nat
  zt : Option (Rat × Rat)
  anchored : Bool

/-- How many entries clamping changed. -/
def clampCount (r : List (Rat × Rat)) (x : Vec) : Nat := ((x.zip (clampAll r x)).filter fun a => a.1 != a.2).length

/-- The base update of a cell in the order of R156, up to its slices. `broken` says whether the cell carries COLD_START
or REINIT. DESIGN CHOICE (log entry 172): where a TOP or BOTTOM anchor sets h and its variance (R165), the covariances of h
with the other states become 0. -/
def baseUpdate (b : Bytes) (o : ObsSet) (broken : Bool) (u : UpdIn) (c : CellRec) : Updated :=
  let pr := predict b c u
  let n0 := clampCount stateRanges pr.x
  let x := clampAll stateRanges pr.x
  let c := { c with anchorBroken := c.anchorBroken || broken,
                    anchor := c.anchor.map fun (a : Rat × Rat × Rat × Rat) => (a.1, a.2.1, a.2.2.1 + pr.q, a.2.2.2 + pr.e) }
  let vSd := ((observations b o u none x c.theta pr.heat).head?.map fun g => nth g.sd 0 0).getD 0
  let anc := u.anchor.map fun k => anchorValue b k u x c.theta pr.p vSd
  let gs := observations b o u anc x c.theta pr.heat
  let (app, counts, p, rej) := rejectGroups b x c.theta pr.p c.rejects gs
  let gated := decide (rabs (derived b x c.theta).slope.v < pOcvSlopeMin b / 10)
  let (x', p', relin, ovr) :=
    if app.isEmpty then (x, p, 0, false) else
    let (k, hj, xn, relin, ovr) := iterate b gated app c.theta x p o.iterTol 3 0 x
    (xn, joseph p k hj app, relin, ovr)
  let n1 := clampCount stateRanges x'
  let x' := clampAll stateRanges x'
  let ub := bound95 (mAt p' 0 0)
  let drift := if ub < pr.drift then ub else pr.drift
  let (lam, eta) := app.foldl (addInformation b x' c.theta) (c.lambda, c.eta)
  let c := { c with lambda := lam, eta := eta }
  let zg := app.filter fun g => g.kind == 1 || g.kind == 2 || g.kind == 3
  let zt := if zg.any (fun g => g.kind != 3) then some (zTemp b c.theta x' zg) else none
  let (c, x', p') := match anc, u.anchor with
    | some (za, ua), some kind =>
      let (lam, eta) := capacityObservation c za ua
      let c := { c with lambda := lam, eta := eta, anchor := some (za, ua, 0, 0), anchorBroken := false }
      if kind = 3 then (c, x', p') else
      let p2 : Mat := p'.zipIdx.map fun (ri : Vec × Nat) => ri.1.zipIdx.map fun (yj : Rat × Nat) =>
        let (i, y, j) := (ri.2, yj.1, yj.2)
        if i = 5 ∧ j = 5 then 1 / 10000 else if i = 5 ∨ j = 5 then 0 else y
      (c, x'.set 5 (if kind = 1 then 1 else -1), p2)
    | _, _ => (c, x', p')
  let c := { c with x := x', p := p', drift, rejects := counts, lastMarkL := u.d.markL, lastSweep := u.d.sweep,
                    lastMarkP := u.d.markP, markUnset := u.d.pUnset, refCharge := u.str.charge, refDrift := u.str.drift,
                    refBleed := u.bleed, drop := nth c.theta 4 0 * heatAt b u (pr.q / spanOf c u) x' c.theta, tcBound := none }
  { c, relin, gated, iterLimit := ovr, clamps := n0 + n1, outV := rej.contains 0,
    outZ := rej.any (fun k => k == 1 || k == 2 || k == 3), outliers := rej.length, zt, anchored := anc.isSome }

end Sys2Proof.Machine
end

