-- ==== Sys2Proof/Machine/Abacus.lean ====
section
/-!
DEFINITION. The Abacus engine (spec/07_abacus.md): the shuffle, dealing, updates and their results, the floor load, the
synchronous-step pattern, fences.
-/

namespace Sys2Proof.Machine

/-- CUSTODY_STATE codes (Table 8.8). -/
def cuWait : Nat := 0
def cuPartner : Nat := 1
def cuHost : Nat := 2
def cuCold : Nat := 3

/-- Whether the Abacus updates cells (R203). -/
def State.estimating (s : State) : Bool := !s.standby && s.sweeping Obj.EST_STATE && s.n Obj.CUSTODY_STATE != cuWait

/-! ### The shuffle -/

/-- The rods in service. -/
def State.rodsInService (s : State) : List Nat := (List.range 16).filter fun r => !bitOf (s.n Obj.ROD_FENCED) r

/-- The smallest step of at least 5 that is coprime to `m` (R188). -/
def shuffleStep (m : Nat) : Nat := ((List.range 16).find? fun j => Nat.gcd (5 + j) m == 1).map (· + 5) |>.getD 5

/-- The rod that cell `n` is dealt to in sweep `k` (R179, R188). -/
def State.rodOf (s : State) (n k : Nat) : Nat :=
  let l := s.rodsInService
  if l.length = 16 then (n + 5 * k) % 16
  else if l.isEmpty then 16
  else nth l ((n + shuffleStep l.length * k) % l.length) 16

/-! ### Costs -/

/-- The running kernel (R176). -/
def State.kernel (s : State) : KernelSt := s.upd.running.kernel
/-- The costs it declares (R177). -/
def State.cBase (s : State) : Nat := nth s.kernel.head.costs 0 0
def State.cRelin (s : State) : Nat := nth s.kernel.head.costs 1 0
def State.cSop (s : State) : Nat := nth s.kernel.head.costs 2 0
def State.cPar (s : State) : Nat := nth s.kernel.head.costs 3 0

/-- Whether the turn of a slice falls in a sweep (R156). -/
def sopTurn (n k : Nat) : Bool := (n + k) % 5 == 0
def parTurn (n k : Nat) : Bool := (n + k) % 50 == 0

/-- An update of a cell as its rod would start it (R177, R183): which slices are due, which are forced, its worst cost. -/
def plan (s : State) (r n : Nat) (lagged priority : Bool) : InFlight :=
  let k := s.n Obj.SWEEP_COUNT
  let j := if lagged then k - 1 else k
  let x := s.rod r
  let runs := (s.cell n).record.live && !s.recInvalid n
  let sopForced := runs && !sopTurn n j && Nat.ble 10 (s.n (Obj.SOP_AGE n)) && Nat.blt x.sops 16
  let parForced := runs && !parTurn n j && ((s.cell n).record.paramDue || Nat.ble ((s.cell n).record.paramSweep + 100) j) && Nat.blt x.pars 2
  let sop := runs && sopTurn n j || sopForced
  let par := runs && parTurn n j || parForced
  { cell := n, lagged, priority, sop, par, forced := sopForced || parForced,
    worst := s.cBase + 3 * s.cRelin + (if sop then s.cSop else 0) + (if par then s.cPar else 0) }

/-- The deadline of the sweep in ns of base L: t0 + T − 2 ms. -/
def State.deadlineNs (s : State) : Rat := (s.time.markL : Rat) + s.sweepT * 1000000000 - 2000000

/-- A(t) − P(t) of a rod (R180): the capacity to the deadline less what its updates in flight still owe and the worst
costs of its priority cells not yet started. How much an update in flight has issued the spec does not say: a free
value. -/
def reserve (s : State) (r : Nat) : Rat × State :=
  let k := s.n Obj.SWEEP_COUNT
  let cap := rmax 0 ((s.deadlineNs - s.lNow) * (s.n Obj.ABACUS_CLOCK : Rat) / 1000)
  let all := ((s.rod r).slots.map fun u => u.worst).sum
  let (f, s) := if (s.rod r).slots.isEmpty then (0, s) else s.freshN
  let owed := all - f % (all + 1)
  let pri := s.abacus.priority.filter fun n => s.rodOf n k == r && !s.abacus.started.contains n
  let p := (pri.map fun n => (plan s r n false true).worst).sum
  (cap - (owed : Rat) - (p : Rat), s)

/-- Whether a cell can still be started in the sweep. -/
def State.open? (s : State) (r n : Nat) : Bool :=
  s.rodOf n (s.n Obj.SWEEP_COUNT) == r && !s.abacus.started.contains n && !s.duo.awaits.contains n

/-- The held measurement of a cell, stored in sweep k − 1 and not used (R181, R191). -/
def State.measOf (s : State) (n k : Nat) : Option Meas :=
  let c := s.cell n
  (if k % 2 = 0 then c.even else c.odd).filter fun m => m.sweep == k % 2 ^ 32

/-- An update enters a slot of rod `r` (R180). -/
def enterSlot (r : Nat) (u : InFlight) (s : State) : State :=
  let x := s.rod r
  let k := s.n Obj.SWEEP_COUNT
  let j := if u.lagged then k - 1 else k
  let sf := b2n (u.sop && !sopTurn u.cell j)
  let pf := b2n (u.par && !parTurn u.cell j)
  let s := s.modRod r fun y => { y with slots := x.slots ++ [u], sops := x.sops + sf, pars := x.pars + pf }
  let s := s.incBy Obj.FORCED_SLICES (sf + pf)
  let s := s.modAbacus fun a => { a with started := u.cell :: a.started }
  s.setDealFlag u.cell dfForced u.forced

/-- A free slot of rod `r` starts the first that applies of the three of R180. -/
def startOne (r : Nat) (s : State) : State :=
  let k := s.n Obj.SWEEP_COUNT
  let a := s.abacus
  if 4 ≤ (s.rod r).slots.length || (s.rod r).lost || bitOf (s.n Obj.ROD_FENCED) r || !s.estimating || !s.sweep.latched ||
     s.sweep.deadline then s else
  match a.stored.find? fun n => a.priority.contains n && s.open? r n with
  | some n => enterSlot r (plan s r n false true) s
  | none =>
    let (room, s) := reserve s r
    let ordinary := match a.stored.find? fun n => s.open? r n with
      | some n => let u := plan s r n false false; if (u.worst : Rat) ≤ room then some u else none
      | none => none
    match ordinary with
    | some u => enterSlot r u s
    | none =>
      let held := a.priority.filter fun n => s.open? r n && !a.stored.contains n && (s.measOf n (k - 1)).isSome
      match held.mergeSort fun x y => Nat.ble x y with
      | n :: _ => enterSlot r (plan s r n true true) s
      | [] => s

/-- The free slots of rod `r` start what they can. -/
def startRod (r : Nat) (s : State) : State := s.each 4 fun _ => startOne r

/-- The free slots of every rod start what they can. -/
def startAll (s : State) : State := s.each 16 startRod

/-! ### Results of an update -/

/-- The settings the observation rules use. -/
def State.obsSet (s : State) (str : Nat) : ObsSet :=
  { w := s.n Obj.WINDOW_CYCLES, minI := s.q Obj.IMP_MIN_CURRENT, blanking := s.b Obj.BLANKING,
    ciScale := s.q (Obj.CI_SCALE str), pilotSweeps := s.n Obj.PILOT_SWEEPS_PER_PERIOD, pilotPeriods := s.n Obj.PILOT_PERIODS,
    nominalHz := s.q Obj.M_NOMINAL_FREQ, sweepCycles := s.n Obj.SWEEP_CYCLES, iterTol := s.q Obj.ITER_TOL }

/-- The outputs of Table 6.5 are published from a record (R166). -/
def publishCell (b : Bytes) (n : Nat) (c : CellRec) (s : State) : State :=
  let x := fun i => nth c.x i 0
  let cap := nth c.theta 0 0
  let uz := bound95 (mAt c.p 0 0)
  let uc := bound95 (mAt c.pTheta 0 0)
  let ur := bound95 (mAt c.pTheta 1 1)
  let ρ := nth c.theta 1 0
  let soe := cap / 1000 * ocvIntegral b (x 0) (x 6)
  let room := cap / 1000 * (ocvIntegral b 1 (x 6) - ocvIntegral b (x 0) (x 6))
  let s := (s.putQ (Obj.SOC n) (100 * x 0)).putQ (Obj.SOC_BOUND n) (100 * uz)
  let s := (s.putQ (Obj.SOE n) soe).putQ (Obj.SOE_ROOM n) room
  let s := s.putQ (Obj.SOE_BOUND n) (ocvMid b (x 0) (x 6) * uz * cap / 1000 + rmax soe room * uc / cap)
  let s := (s.putQ (Obj.SOH_C n) (100 * cap / pCNom b)).putQ (Obj.SOH_C_BOUND n) (100 * uc / pCNom b)
  let s := (s.putQ (Obj.SOH_R n) (100 / ρ)).putQ (Obj.SOH_R_BOUND n) (100 * ur / (ρ * ρ))
  let s := (s.putQ (Obj.CORE_TEMP n) (x 6)).putQ (Obj.CORE_TEMP_BOUND n) (bound95 (mAt c.p 6 6))
  s.putQ (Obj.CAPACITY n) cap

/-- The states of power of a cell are published (R166). -/
def publishSop (n : Nat) (v : List (Rat × Rat × (Rat × Rat × Rat))) (s : State) : State :=
  let keys := [Obj.SOP_CHG_2S n, Obj.SOP_CHG_10S n, Obj.SOP_CHG_60S n, Obj.SOP_DIS_2S n, Obj.SOP_DIS_10S n, Obj.SOP_DIS_60S n]
  let bounds := [Obj.SOP_CHG_2S_BOUND n, Obj.SOP_CHG_10S_BOUND n, Obj.SOP_CHG_60S_BOUND n, Obj.SOP_DIS_2S_BOUND n,
    Obj.SOP_DIS_10S_BOUND n, Obj.SOP_DIS_60S_BOUND n]
  let s := s.forAll (keys.zip v) fun x s => s.putQ x.1 x.2.1
  let s := s.forAll (bounds.zip v) fun x s => s.putQ x.1 x.2.2.1
  s.putN (Obj.SOP_AGE n) 0

/-- The current and voltage conditions of an anchor kind: 1 TOP, 2 BOTTOM, 3 REST (Table 6.4). Current limit in A. -/
def anchorCurrent (s : State) (b : Bytes) (kind : Nat) : Rat :=
  cToA b (match kind with
    | 1 => s.q Obj.TAPER_CURRENT
    | 2 => s.q Obj.KNEE_CURRENT
    | _ => s.q Obj.REST_CURRENT)
/-- The voltage condition of an anchor kind on a cell voltage in V. -/
def anchorVoltage (s : State) (b : Bytes) (kind : Nat) (v : Rat) : Bool :=
  match kind with
  | 1 => decide (rabs (v - pVcv b) ≤ (s.n Obj.TAPER_BAND : Rat) / 1000)
  | 2 => decide (rabs (v - pVknee b) ≤ (s.n Obj.KNEE_BAND : Rat) / 1000)
  | _ => true

/-- The armed anchor that applies to a cell with mean current `i` and voltage `v` (R165). -/
def anchorFor (s : State) (b : Bytes) (str : Nat) (i v : Rat) : Option Nat :=
  match (s.track str).armed with
  | some kind => if rabs i ≤ anchorCurrent s b kind ∧ anchorVoltage s b kind v then some kind else none
  | none => none

/-- The surface temperature the estimator takes: the published value of the nearest sensor (R145). -/
def State.surfaceTemp (s : State) (n : Nat) : Option Rat :=
  let m := s.nearestSensor n
  if m = 0xFFFF then none else (s.v (Obj.SENSOR_TEMP m)).toRat?

/-- What an update of cell `n` of string `str` takes in, for the measurement of sweep `j`. -/
def updateInput (s : State) (n str : Nat) (lagged : Bool) (d : SweepDesc) (m : Meas) (last : Int) : UpdIn :=
  let sd := nth d.strs str {}
  let t := s.track str
  let c := s.cell n
  { d, str := sd, meas := m, ts := if lagged then c.tempBefore else s.surfaceTemp n,
    bleed := if lagged then c.bleedBefore else s.q (Obj.BLEED_CHARGE_TOTAL n),
    iPeak := ((t.peaks.filter fun p => decide (last < (p.1 : Int) ∧ p.1 ≤ d.sweep)).map fun p => p.2).foldl rmax 0,
    phA := sd.magA, phB := sd.magB, anchor := none }

/-- A cell starts from the cold prior at a measurement (R149, R197, R206): it carries COLD_START. -/
def startCold (b : Bytes) (n : Nat) (u : UpdIn) (s : State) : State :=
  let (ts, s) := match u.meas.tSurf with
    | some t => (t, s)
    | none => s.freshQ
  let c := coldRecord b u.d u.str u.bleed ts u.meas.vmean u.meas.iWindow
  let s := s.modRec n fun _ => { c with paramSweep := 0 }
  (publishCell b n c s).putN (Obj.EST_FLAGS n) (2 ^ efCold + 2 ^ efHeld)

/-- A record invalid is reinitialised at its next deal (R197): from the partner's mirror entry `mirror`, a record with its
CP_FLAGS, whose COLD_START and RESTORED_AGE it takes, else from the cold prior. The cell carries REINIT. -/
def reinit (b : Bytes) (n : Nat) (mirror : Option (CellRec × Nat)) (u : UpdIn) (s : State) : State :=
  let s := (s.setDealFlag n dfInvalid false).setInvalid n false
  match mirror with
  | some (c, fl) =>
    let s := (s.modRec n fun _ => { c with live := true }).inc Obj.REINIT_MIRROR
    let s := ((publishCell b n c s).setEstFlag n efCold (bitOf fl 1)).setEstFlag n efAge (bitOf fl 2)
    s.setEstFlag n efReinit true
  | none => ((startCold b n u s).inc Obj.REINIT_COLD).setEstFlag n efReinit true

/-- The base update of a cell with its slices, published (R156, R166). -/
def updateCell (b : Bytes) (n str : Nat) (f : InFlight) (u : UpdIn) (s : State) : State :=
  let broken := s.estFlag n efCold || s.estFlag n efReinit
  let c0 := (s.cell n).record
  let c0 := match c0.tcBound, u.meas.tSurf with
    | some bd, some ts => { c0 with x := c0.x.set 6 ts, p := mSet c0.p 6 6 (varOf bd) }
    | _, _ => c0
  let r := baseUpdate b (s.obsSet str) broken u c0
  let c := r.c
  let sops := if f.sop then sopSlice b c else []
  let c := if f.sop then { c with corner := sops.map (fun x => x.2.2), sopSweep := u.d.sweep } else c
  let (c, n2) := if f.par then parameterSlice b u.d.markL u.d.sweep c else (c, 0)
  let s := s.modRec n fun _ => c
  let s := publishCell b n c s
  let s := if f.sop then publishSop n sops s else s
  let s := match r.zt with
    | some (t, bd) => (s.putQ (Obj.Z_TEMP n) t).putQ (Obj.Z_TEMP_BOUND n) bd
    | none => s
  let old := s.n (Obj.EST_FLAGS n)
  let fl := old % 2 + (if bitOf old efAge && !r.anchored then 2 ^ efAge else 0) + (if r.anchored then 2 ^ efAnchored else 0) +
    (if r.gated then 2 ^ efGated else 0) + (if r.iterLimit then 2 ^ efIterLimit else 0) +
    (if r.clamps + n2 = 0 then 0 else 2 ^ efClamped) + (if r.outV then 2 ^ efOutV else 0) +
    (if r.outZ then 2 ^ efOutZ else 0) + (if r.zt.isNone then 2 ^ efHeld else 0)
  let s := (s.putN (Obj.EST_FLAGS n) fl).putN (Obj.CELL_RELIN n) r.relin
  let s := (s.incBy Obj.EST_OUTLIERS r.outliers).incBy Obj.EST_CLAMPS (r.clamps + n2)
  let s := s.setDealFlag n dfLagged f.lagged
  s.modAbacus fun a => { a with relins := (n, r.relin) :: a.relins, updated := n :: a.updated,
                                lagged := if f.lagged then n :: a.lagged else a.lagged }

/-- The issue cycles of a finished update. -/
def spent (s : State) (f : InFlight) (relin : Nat) : Nat :=
  s.cBase + relin * s.cRelin + (if f.sop then s.cSop else 0) + (if f.par then s.cPar else 0)

/-- A rod finishes an update (R156, R193): the record is stored whole, the slot is free again. A record whose cell has
no estimate yet starts cold, an invalid one is reinitialised (R197, R206). -/
def cellUpdateDone (rod n : Nat) (mirror : Option (CellRec × Nat)) (errs : List WordErr) (s : State) : State :=
  let s := checkRecord n (s.forAll errs readWord)
  match (s.rod rod).slots.find? fun u => u.cell == n with
  | none => startAll s
  | some f =>
    let s := s.modRod rod fun x => { x with slots := x.slots.filter fun u => u.cell != n }
    let k := s.n Obj.SWEEP_COUNT
    let j := if f.lagged then k - 1 else k
    let c := (s.cell n).record
    match s.cellString? n, s.measOf n j, s.est.descs.find? fun d => d.sweep == j with
    | some str, some m, some d =>
      match s.profile? str with
      | none => startAll (defer n s)
      | some b =>
        let u := updateInput s n str f.lagged d m c.lastSweep
        let u := { u with anchor := if f.lagged then none else anchorFor s b str (nth d.strs str {}).iMean m.vmean }
        let s :=
          if s.recInvalid n then reinit b n mirror u s
          else if !c.live then startCold b n u s
          else updateCell b n str f u s
        let s := s.modRod rod fun x => { x with used := x.used + spent s f (s.n (Obj.CELL_RELIN n)) }
        startAll s
    | _, none, _ => startAll s
    | _, _, _ => startAll (defer n s)

/-- An update that has issued its worst cost is stopped (R177). -/
def kernelOverrun (rod n : Nat) (s : State) : State :=
  match (s.rod rod).slots.find? fun u => u.cell == n with
  | none => s
  | some f =>
    let s := s.modRod rod fun x => { x with slots := x.slots.filter fun u => u.cell != n, used := x.used + f.worst }
    startAll ((defer n (s.setDealFlag n dfOverrun true)).inc Obj.KERNEL_OVERRUNS)

/-! ### Deadline and tail -/

/-- At the Abacus deadline (R110, R182). -/
def abacusDeadline (s : State) : State :=
  if !s.running Obj.SWEEP_STATE || s.sweep.deadline then s else
  let s := markStale s
  let a := s.abacus
  let late := if s.estimating then a.stored.filter fun n => !a.started.contains n else []
  let s := s.forAll late defer
  { s with sweep := { s.sweep with deadline := true } }

/-- DEFERRED_CELLS and what is counted with it at the tail (R182, Table 7.4). -/
def countDeals (s : State) : State :=
  let a := s.abacus
  let deferred := (s.mappedCells.filter fun x => s.dealFlag x.1 dfDeferred).length
  let s := (s.putN Obj.DEFERRED_CELLS deferred).putN Obj.LAGGED_CELLS a.lagged.length
  let s := s.putN Obj.DEFERRED_TOTAL ((s.n Obj.DEFERRED_TOTAL + deferred) % 2 ^ 64)
  let s := s.putQ Obj.RELIN_MEAN (meanOf (a.relins.map fun r => (r.2 : Rat)))
  let most := (a.rods.map fun r => r.used).foldl max 0
  let b := s.n Obj.ROD_BUDGET
  s.putN Obj.ENGINE_LOAD (if b = 0 then 0 else min 100 (most * 100 / b))

/-- The synchronous-step pattern (R186). -/
def stepPattern (s : State) : State :=
  let a := s.abacus
  let s := s.modAbacus fun x => { x with deferrals := (Nat.blt 0 (s.n Obj.DEFERRED_CELLS) :: x.deferrals).take 100 }
  let s := s.each s.asBuilt.strings fun str s =>
    let t := s.track str
    let i := s.q (Obj.STRING_I_MEAN str)
    let lim := match s.profile? str with
      | some b => cToA b (s.q Obj.STEP_DETECT_CURRENT)
      | none => 0
    let rel := (a.relins.filter fun r => s.cellString? r.1 == some str).map fun r => (r.2 : Rat)
    let step := (s.profile? str).isSome && decide (lim < rabs (i - t.prevMean)) && !rel.isEmpty && decide (2 ≤ meanOf rel)
    s.modTrack str fun y => { y with steps := (step :: y.steps).take 100, prevMean := i }
  let defs := (s.abacus.deferrals.filter id).length
  let counts := (List.range s.asBuilt.strings).map fun n => ((s.track n).steps.filter id).length
  let most := counts.foldl max 0
  if s.b Obj.SYNCHRONOUS_STEP then
    if most < 20 ∧ defs < 20 then s.putB Obj.SYNCHRONOUS_STEP false else s
  else
    match counts.findIdx? fun c => Nat.ble 80 c with
    | some str => if 80 ≤ defs then (s.putB Obj.SYNCHRONOUS_STEP true).logN 0x0301 0x2400 str 0 0 else s
    | none => s

/-- The known-answer tests of the tail (R188): a rod that fails in two consecutive tails is fenced from the next mark. -/
def knownAnswers (failed : List Nat) (s : State) : State :=
  s.each 16 fun r s =>
    let n := if failed.contains r then (s.rod r).fails + 1 else 0
    let s := s.modRod r fun x => { x with fails := n }
    if 2 ≤ n ∧ !bitOf (s.n Obj.ROD_FENCED) r then
      s.modAbacus fun a => { a with fencePending := r :: a.fencePending.filter fun x => x != r } else s

/-- The flags of a cell that the sweep did not update (R162, R165, R173): those of an update are clear, no impedance group was
applied. -/
def carriedFlags (fl : Nat) : Nat := withBit (withBit (fl % 2 ^ efAnchored) efHeld true) efCarried true

/-- The carried-forward state of charge of a cell at mark k (R162); a LAGGED cell keeps the flags of its update. -/
def carry (n str : Nat) (s : State) : State :=
  let c := (s.cell n).record
  let t := s.track str
  let (q, e) := cellCharge c t.charge t.drift (s.q (Obj.BLEED_CHARGE_TOTAL n))
  let qc := 36 / 10 * nth c.theta 0 0
  let u := bound95 (mAt c.p 0 0)
  let d := c.drift
  let s := s.putQ (Obj.SOC n) (100 * (nth c.x 0 0 + q / qc))
  let s := s.putQ (Obj.SOC_BOUND n) (100 * realSqrt (u * u + (d + e) * (d + e) - d * d))
  if s.abacus.updated.contains n then s.setEstFlag n efCarried true
  else s.putN (Obj.EST_FLAGS n) (carriedFlags (s.n (Obj.EST_FLAGS n)))

/-- The cells at the tail of sweep k (R162, R184, R206, R208): EST_AGE and SOP_AGE, the cells carried forward, the ends of
COLD_START and RESTORED_AGE. -/
def cellsTail (s : State) : State :=
  if !s.estimating then s else
  let k := s.n Obj.SWEEP_COUNT
  s.forAll s.mappedCells fun (n, _, _, e) s =>
    let c := (s.cell n).record
    if !c.live || s.recInvalid n then s else
    let s := s.putN (Obj.EST_AGE n) (min 65535 ((k : Int) - c.lastSweep).toNat)
    let s := if c.sopSweep = 0 then s else s.putN (Obj.SOP_AGE n) (min 255 (k - c.sopSweep))
    let s := if c.lastSweep = (k : Int) then s.setEstFlag n efCarried false else carry n e.string s
    let bd := s.q (Obj.SOC_BOUND n)
    let s := if bd ≤ s.q Obj.SOC_BOUND_MAX then s.setEstFlag n efCold false else s
    match c.restoredBound with
    | some rb => if bd ≤ rb then (s.setEstFlag n efAge false).modRec n fun x => { x with restoredBound := none } else s
    | none => s

/-- The string outputs, from the cell values last published (R167); no state of power during the wait (R203). -/
def stringOutputs (str : Nat) (s : State) : State :=
  let cells := s.stringCells str
  let sum := fun (key : Nat → Nat) => (cells.map fun n => s.q (key n)).sum / 1000
  let s1 := ((s.putQ (Obj.STRING_SOE str) (sum Obj.SOE)).putQ (Obj.STRING_SOE_ROOM str) (sum Obj.SOE_ROOM)).putQ
    (Obj.STRING_SOE_BOUND str) (sum Obj.SOE_BOUND)
  let corners := fun (j : Nat) => cells.map fun n => nth (s.cell n).record.corner j (0, 0, 0)
  let whole := !s.standby && s.n Obj.CUSTODY_STATE != cuWait && !cells.isEmpty &&
    cells.all fun n => (s.cell n).record.corner.length == 6 && !s.recInvalid n
  let power := fun (j : Nat) => if !whole then (0 : Rat) else
    let l := corners j
    let i := (l.map fun x => x.1).foldl rmin ((l.head?.map fun x => x.1).getD 0)
    (l.map fun x => if j < 3 then x.2.1 + x.2.2 * i else x.2.1 - x.2.2 * i).sum * i / 1000
  let keys := [Obj.STRING_SOP_CHG_2S str, Obj.STRING_SOP_CHG_10S str, Obj.STRING_SOP_CHG_60S str,
    Obj.STRING_SOP_DIS_2S str, Obj.STRING_SOP_DIS_10S str, Obj.STRING_SOP_DIS_60S str]
  s1.forAll keys.zipIdx fun x t => t.putQ x.1 (power x.2)

/-- CALIBRATION_WANTED with its worst cell (R168). -/
def calibrationWanted (str : Nat) (s : State) : State :=
  match s.stringCells str with
  | [] => s
  | n :: r =>
    let worst := r.foldl (fun w m => if s.q (Obj.SOC_BOUND w) < s.q (Obj.SOC_BOUND m) then m else w) n
    let bd := s.q (Obj.SOC_BOUND worst)
    let s := (s.putN (Obj.CAL_WORST_CELL str) worst).putQ (Obj.CAL_WORST_BOUND str) bd
    if s.q Obj.SOC_BOUND_MAX < bd then s.putB (Obj.CALIBRATION_WANTED str) true
    else if bd ≤ s.q Obj.SOC_BOUND_MAX - 1 / 2 then s.putB (Obj.CALIBRATION_WANTED str) false else s

/-! ### Anchors -/

/-- ANCHOR_STATE and ANCHOR_TIMER show the timers of a string (R164). -/
def showAnchors (str : Nat) (s : State) : State :=
  let t := (s.track str).timers
  let s := s.putN (Obj.ANCHOR_STATE str) (maskOf 3 fun i => decide (0 < nth t i 0))
  s.putN (Obj.ANCHOR_TIMER str) (min 65535 (t.foldl rmax 0).floor.toNat)

/-- The anchors of a string at the tail (R163 to R165): an armed anchor lapses with its missed cells counted, its kind
and time recorded; the timers advance, reset, or stand still while a cell is STALE or the string values invalid. DESIGN
CHOICE (log entry 173): an armed anchor that no cell has received is not recorded. -/
def anchorTail (str : Nat) (s : State) : State :=
  let cells := s.stringCells str
  let s := match (s.track str).armed with
    | none => s
    | some kind =>
      let got := cells.filter fun n => s.abacus.updated.contains n && s.estFlag n efAnchored
      let s := s.incBy Obj.ANCHORS_MISSED (cells.length - got.length)
      let s := if got.isEmpty then s else (s.putN (Obj.ANCHOR_LAST_KIND str) kind).putN (Obj.ANCHOR_LAST_TIME str) s.time.markP
      s.modTrack str fun t => { t with armed := none }
  match s.profile? str with
  | none => s
  | some b =>
    if cells.isEmpty then s else
    let T := s.sweepT
    if cells.any (fun n => s.measFlag n mfStale) || (s.str str).invalid then
      showAnchors str (s.modTrack str fun t => { t with unjudged := t.unjudged + T })
    else
      let i := rabs (s.q (Obj.STRING_I_MEAN str))
      let q := rabs (s.q (Obj.STRING_CHARGE str)) / T
      let holds := fun kind => decide (q ≤ anchorCurrent s b kind) && decide (i ≤ anchorCurrent s b kind) &&
        cells.all fun n => anchorVoltage s b kind (s.q (Obj.CELL_VMEAN n) / 1000000)
      showAnchors str (s.modTrack str fun t =>
        { t with unjudged := 0, timers := t.timers.zipIdx.map fun x => if holds (x.2 + 1) then x.1 + T else 0 })

/-- A timer that has reached its hold time arms its anchor and restarts (R164). -/
def anchorArm (str : Nat) (s : State) : State :=
  let t := (s.track str).timers
  let due := fun (i hold : Nat) => decide ((hold : Rat) ≤ nth t i 0)
  let top := due 0 (s.n Obj.TAPER_TIME)
  let bot := due 1 (s.n Obj.KNEE_TIME)
  let rest := due 2 (s.n Obj.REST_TIME)
  if !(top || bot || rest) then s else
  let kind := if top then 1 else if bot then 2 else 3
  let timers := [if top then 0 else nth t 0 0, if bot then 0 else nth t 1 0, if rest then 0 else nth t 2 0]
  showAnchors str (s.modTrack str fun x => { x with timers, armed := some kind })

/-- 2 s of sweeps that could not be judged reset the timers (R164). -/
def anchorExpiry (str : Nat) (s : State) : State :=
  if (s.track str).unjudged < 2 then s else
  showAnchors str (s.modTrack str fun x => { x with timers := [0, 0, 0], unjudged := 0 })

/-! ### The floor -/

/-- The floor load of rod `r` in sweep `k` (R185). -/
def floorOf (s : State) (cells : List Nat) (r k : Nat) : Nat :=
  let mine := cells.filter fun n => (n + 5 * k) % 16 == r
  let h := (mine.length + 1) / 2
  let ns := (mine.filter fun n => sopTurn n k).length
  let np := (mine.filter fun n => parTurn n k).length
  h * (s.cBase + 3 * s.cRelin) + min h (ns + 16) * s.cSop + min h (np + 2) * s.cPar

/-- FLOOR_LOAD: the largest over the rods and 400 sweeps (R185). -/
def floorLoad (s : State) : Nat :=
  let cells := s.mappedCells.map fun x => x.1
  (List.range 400).foldl (fun m k => (List.range 16).foldl (fun m r => max m (floorOf s cells r k)) m) 0

/-- The budget in rod-cycles of `c` nominal cycles at a clock in MHz (R178, R187). -/
def budgetAt (s : State) (c mhz : Nat) : Rat := ((c : Rat) / s.q Obj.M_NOMINAL_FREQ - 2 / 1000) * (mhz : Rat) * 1000000

/-- The stretched sweep of a throttled Abacus: the smallest number of cycles at which 375 MHz fits (R187). -/
def stretched (s : State) : Nat :=
  let c := s.n Obj.SWEEP_CYCLES
  ((List.range 64).find? fun j => decide ((s.n Obj.FLOOR_LOAD : Rat) ≤ budgetAt s (c + j) 375)).map (· + c) |>.getD c

/-- The deals of the latest sweep end at a sweep mark: the priority cells of the new sweep are the cells DEFERRED at the
tail (R180), the deal flags describe the new sweep, PRIORITY of its priority cells among them (R201). -/
def dealsAtMark (s : State) : State :=
  let cells := s.mappedCells.map fun x => x.1
  let pri := cells.filter fun n => s.dealFlag n dfDeferred
  let fence := s.abacus.fencePending
  let mask := fence.foldl (fun m r => withBit m r true) (s.n Obj.ROD_FENCED)
  let s := s.putN Obj.ROD_FENCED mask
  let s := if mask = 0 then s else s.putB Obj.ABACUS_DEGRADED true
  let s := s.forAll cells fun n s =>
    s.putN (Obj.CELL_DEAL_FLAGS n) ((if s.dealFlag n dfInvalid then 2 ^ dfInvalid else 0) + (if pri.contains n then 2 ^ dfPriority else 0))
  s.modAbacus fun a => { a with
    lost := [], stored := [], started := [], updated := [], lagged := [], relins := [], priority := pri, fencePending := [],
    rods := a.rods.map fun r => { r with used := 0, sops := 0, pars := 0, lost := false } }

/-- SWEEP_CYCLES_EFFECTIVE at a RUN (R48, R187): SWEEP_CYCLES, stretched while the Abacus is throttled. -/
def setCycles (s : State) : State :=
  s.putN Obj.SWEEP_CYCLES_EFFECTIVE (if s.b Obj.THROTTLED then stretched s else s.n Obj.SWEEP_CYCLES)

/-- The deals end with the sweep's estimation: no update is in flight, none starts until the next block, and no cell stands
over from before (R203, R206). -/
def clearDeals (s : State) : State :=
  let s := s.forAll s.mappedCells fun x s => (s.setDealFlag x.1 dfDeferred false).setDealFlag x.1 dfPriority false
  s.modAbacus fun a => { a with stored := [], started := [], priority := [], rods := a.rods.map fun r => { r with slots := [] } }

/-- FLOOR_LOAD at RUN of the estimator (R185). While the Abacus is throttled the stretch follows it, from the next mark where
sweeps run (R187). -/
def setFloor (s : State) : State :=
  let s := s.putN Obj.FLOOR_LOAD (floorLoad s)
  if !s.b Obj.THROTTLED then s
  else if !s.running Obj.SWEEP_STATE then setCycles s
  else if s.abacus.clockStep = 0 then s.modAbacus fun a => { a with clockStep := 1 } else s

/-- The ordered clock change of throttling at a sweep mark (R187). -/
def clockAtMark (s : State) : State :=
  match s.abacus.clockStep with
  | 1 =>
    let s := (s.putN Obj.ABACUS_CLOCK 375).putB Obj.THROTTLED true
    (s.putN Obj.SWEEP_CYCLES_EFFECTIVE (stretched s)).modAbacus fun a => { a with clockStep := 0 }
  | 2 => ((s.putN Obj.ABACUS_CLOCK 500).putB Obj.THROTTLED false).modAbacus fun a => { a with clockStep := 3 }
  | 3 => (s.putN Obj.SWEEP_CYCLES_EFFECTIVE (s.n Obj.SWEEP_CYCLES)).modAbacus fun a => { a with clockStep := 0 }
  | _ => s

/-- The estimator's RUN checks (R152, R185). -/
def estRunCheck (s : State) : Option Abort :=
  let loaded := fun n => (s.bytes (profileKey n)).length != 0
  match (List.range 4).find? fun n => loaded n && !profileValid (s.bytes (profileKey n)) with
  | some n => some (inconsistent (profileKey n))
  | none =>
    match (List.range s.asBuilt.strings).find? fun n =>
        !(s.stringCells n).isEmpty && !loaded (s.n (Obj.PROFILE_SELECT n)) with
    | some n => some (inconsistent (Obj.PROFILE_SELECT n))
    | none => if budgetAt s (s.n Obj.SWEEP_CYCLES) 500 < (floorLoad s : Rat) then some (inconsistent Obj.SWEEP_CYCLES) else none

/-! ### Reads of records (R196, R197) -/

/-- A scrubbed word; a slot that an abandoned update leaves is filled at once (R180). -/
def scrubEvent (w : WordErr) (s : State) : State := startAll (scrubWord w s)

/-- The cells whose records a read of an object and the elements after it meets: the objects of Tables 6.9 and 7.6. -/
def recordsRead (idx sub count : Nat) : List Nat :=
  if (0x4020 ≤ idx ∧ idx ≤ 0x403C) ∨ (0x4040 ≤ idx ∧ idx ≤ 0x4042) then (List.range count).map (sub + ·) else []

/-- A read of cell objects checks the records it reads (R196, R197). -/
def readChecked (cells : List Nat) (words : List WordErr) (s : State) : State :=
  if words.isEmpty && cells.all (fun n => !(s.cell n).record.crcBad) then s else startAll (readRecords cells words s)

end Sys2Proof.Machine
end

