-- ==== Sys2Proof/Machine/Pages.lean ====
section
/-!
DEFINITION. The pages of the recorder: the working image, the counts and times of the module page, commits (spec/21_recorder.md,
R486, R487, R489, R495).
-/

namespace Sys2Proof.Machine

/-- The state with the recorder changed. -/
def State.modRecorder (s : State) (f : RecSt → RecSt) : State := { s with recorder := f s.recorder }

/-- The keys of the string pages and of the module page. -/
def pageString (n : Nat) : Nat := 8192 + n
def pageModule : Nat := 8208

/-- A page of the working image. -/
def State.page (s : State) (k : Nat) : RecPage := amGetD s.recorder.work k {}
/-- The state with a page of the working image changed; none accumulates while RECORDER_FOREIGN is set (R490). -/
def State.modPage (s : State) (k : Nat) (f : RecPage → RecPage) : State :=
  if s.b Obj.RECORDER_FOREIGN then s else s.modRecorder fun x => { x with work := amSet x.work k (f (s.page k)) }

/-- Seconds are added to a bin. -/
def addBin (l : List (Nat × Rat)) (i : Nat) (t : Rat) : List (Nat × Rat) := amSet l i (amGetD l i 0 + t)

/-! ### The module page (R495) -/

/-- A count of the module page counts one more. -/
def countPage (i : Nat) (s : State) : State :=
  s.modPage pageModule fun p => { p with counts := amSet p.counts i ((amGetD p.counts i 0 + 1) % 2 ^ 32) }

/-- Seconds are added to a time of the module page: 0 ACTIVE, 1 STANDBY, 2 WATCH, 3 DORMANT, 4 THROTTLED, 5 DEGRADED. -/
def addTime (i : Nat) (t : Rat) (s : State) : State := s.modPage pageModule fun p => { p with sums := addBin p.sums i t }

/-- The module's times are counted up to now. -/
def countTimes (s : State) : State :=
  let t : Rat := ((s.lNow - s.recorder.timesL : Nat) : Rat) / 1000000000
  let s := addTime 0 t s
  let s := if s.standby then addTime 1 t s else s
  let s := if s.b Obj.THROTTLED then addTime 4 t s else s
  let s := if s.degraded then addTime 5 t s else s
  s.modRecorder fun x => { x with timesL := s.lNow }

/-! ### Commits (R487, R489) -/

/-- A page as a commit writes it: whole seconds, saturating. -/
def pageImage (k : Nat) (p : RecPage) : RecPage :=
  let whole := fun (bound : Nat) (l : List (Nat × Rat)) => l.map fun x => (x.1, ((min bound x.2.floor.toNat : Nat) : Rat))
  { p with h1 := whole (2 ^ 32 - 1) p.h1, h2 := whole (2 ^ 32 - 1) p.h2, sums := if k = pageModule then whole (2 ^ 64 - 1) p.sums else p.sums }

/-- A commit of the whole working image; no page commits while RECORDER_FOREIGN is set. -/
def commit (s : State) : State :=
  if s.b Obj.RECORDER_FOREIGN then s.modRecorder fun x => { x with due := false } else
  let s := countTimes s
  let id := (s.page pageModule).container
  let s := s.modRecorder fun x =>
    { x with older := x.newer, newer := x.work.map fun (k, p) => (k, pageImage k { p with container := id }),
             commits := x.commits + 1, due := false }
  (s.inc Obj.COMMITS).putN Obj.LAST_COMMIT s.pNow

/-- 900 s of base L have passed, or a write asks (R487): the commit comes at the next sweep tail, at once where no sweep
runs. -/
def commitDue (s : State) : State := if s.running Obj.SWEEP_STATE then s.modRecorder fun x => { x with due := true } else commit s

end Sys2Proof.Machine
end

