-- ==== Sys2Proof/Machine/Custody.lean ====
section
/-!
DEFINITION. Estimator state custody (spec/08_state_custody.md): the wait for a restore, restores and their widening,
checkpoint generations and their transfer, the emergency checkpoint.
-/

namespace Sys2Proof.Machine

/-- Whether the module acts as the active one: SINGLE or ACTIVE (R425). -/
def State.active (s : State) : Bool := !s.standby

/-- The state with the custody changed. -/
def State.modCustody (s : State) (f : CustodySt → CustodySt) : State := { s with custody := f s.custody }

/-! ### Records and bytes -/

/-- An F32 field as a rational; a NaN or an infinity reads 0. -/
def f32At (b : Bytes) (o : Nat) : Rat := (fieldF32 b o).toRat

/-- The checkpoint record at offset `o` (Table 8.5). -/
def parseRecord (b : Bytes) (o : Nat) : CpRec :=
  { cell := fieldU b o 2, flags := fieldU b (o + 2) 2, fe := fieldU b (o + 4) 2, profile := fieldU b (o + 6) 1,
    age := fieldU b (o + 7) 1, markP := fieldU b (o + 8) 8,
    x := (List.range 7).map fun i => f32At b (o + 16 + 4 * i), xBound := (List.range 7).map fun i => f32At b (o + 44 + 4 * i),
    drift := f32At b (o + 72), theta := (List.range 5).map fun i => f32At b (o + 76 + 4 * i),
    thetaBound := (List.range 5).map fun i => f32At b (o + 96 + 4 * i), anchorZ := (fieldF32 b (o + 116)).toRat?,
    anchorQ := f32At b (o + 120), anchorU := (fieldU b (o + 124) 2 : Rat) / 100000,
    anchorDq := (fieldU b (o + 126) 2 : Rat) / 100000 }

/-- A rational as F32 bytes. -/
def f32q (q : Rat) : Bytes := f32Bytes (.real q)
/-- A fraction in units of 0.001 % as U16, to the nearest, saturating. -/
def milliPercent (q : Rat) : Bytes := leBytes 2 (min 65535 (rround (q * 100000)).toNat)

/-- EST_AGE of a cell in its record (R184): the sweeps since its last update, or since the restore carried one forward. -/
def State.recordAge (s : State) (n : Nat) : Nat := min 255 (s.n (Obj.EST_AGE n))

/-- The checkpoint record of a cell as the module forms it from its cell record (R215). -/
def cellCp (s : State) (n : Nat) : CpRec :=
  let c := (s.cell n).record
  let flag := fun (b : Bool) (i : Nat) => if b then 2 ^ i else 0
  let (fe, str) := match s.cellPlace? n with
    | some (f, _, e) => (f, e.string)
    | none => (0xFFFF, 0)
  { cell := n, fe, profile := s.n (Obj.PROFILE_SELECT str), age := s.recordAge n, markP := c.lastMarkP,
    flags := flag (c.live && !s.recInvalid n) 0 + flag (s.estFlag n efCold) 1 + flag (s.estFlag n efAge) 2 + flag c.markUnset 3,
    x := c.x, xBound := (List.range 7).map fun i => bound95 (mAt c.p i i), drift := c.drift, theta := c.theta,
    thetaBound := (List.range 5).map fun i => bound95 (mAt c.pTheta i i),
    anchorZ := c.anchor.map fun a => a.1, anchorQ := (c.anchor.map fun a => a.2.2.1).getD 0,
    anchorU := (c.anchor.map fun a => a.2.1).getD 0, anchorDq := (c.anchor.map fun a => a.2.2.2).getD 0 }

/-- A checkpoint record as bytes (Table 8.5). -/
def recordBytes (r : CpRec) : Bytes :=
  leBytes 2 r.cell ++ leBytes 2 r.flags ++ leBytes 2 r.fe ++ leBytes 1 r.profile ++ leBytes 1 r.age ++ leBytes 8 r.markP ++
  r.x.flatMap f32q ++ r.xBound.flatMap f32q ++ f32q r.drift ++ r.theta.flatMap f32q ++ r.thetaBound.flatMap f32q ++
  f32Bytes (Val.ofRat? r.anchorZ) ++ f32q r.anchorQ ++ milliPercent r.anchorU ++ milliPercent r.anchorDq

/-- How many segments a generation has (R211). -/
def AsBuilt.segments (a : AsBuilt) : Nat := if a.small then 130 else 258

/-- PROFILE_CRC of profile `n`; 0 if it is not loaded. -/
def profileCrc (s : State) (n : Nat) : Nat :=
  let b := s.bytes (profileKey n)
  if b.length = 0 then 0 else fieldU b 4 4

/-- The UID of the map entry of a front-end index; 0 without one. -/
def mapUid (s : State) (f : Nat) : Nat := ((s.entry? f).map MapEntry.uid).getD 0

/-- Segment `i` of a generation (Table 8.3, R215): 4,096 bytes. -/
def segmentData (g : Generation) (i : Nat) (s : State) : Bytes :=
  match i with
  | 0 =>
    leBytes 2 1 ++ leBytes 2 s.asBuilt.cells ++ leBytes 8 g.number ++ leBytes 4 (s.n Obj.CONTAINER_ID) ++
    leBytes 4 (fieldU (s.bytes Obj.POSITION_MAP) 4 4) ++ (List.range 4).flatMap (fun n => leBytes 4 (profileCrc s n)) ++
    leBytes 8 s.asBuilt.serial ++ leBytes 2 (s.n Obj.RECORD_FORMAT) ++ leBytes 1 g.reason ++ leBytes 1 (b2n g.unset) ++
    List.replicate 4048 0
  | 1 =>
    let u := (List.range s.asBuilt.frontEnds).flatMap fun f => leBytes 8 (mapUid s f)
    u ++ List.replicate (4096 - u.length) 0
  | j + 2 => (List.range 32).flatMap fun r => recordBytes (cellCp s (32 * j + r))

/-- A segment with its trailer (Table 8.4), and its SEG_CRC. -/
def segmentBytes (g : Generation) (i : Nat) (s : State) : Bytes × Nat :=
  let d := segmentData g i s ++ leBytes 8 g.number ++ leBytes 2 i ++ leBytes 2 0
  let c := crc32c d
  (d ++ leBytes 4 c, c)

/-- The seal of a generation (Table 8.4). -/
def sealBytes (g : Generation) (s : State) : Bytes :=
  let b := leBytes 8 g.number ++ leBytes 2 s.asBuilt.segments ++ leBytes 2 0 ++ leBytes 4 (crc32c (g.crcs.flatMap fun c => leBytes 4 c)) ++
    leBytes 8 (g.firstMark.getD 0) ++ leBytes 8 (g.lastMark.getD 0) ++ List.replicate 28 0
  b ++ leBytes 4 (crc32c b)

/-! ### The wait -/

/-- The estimator enters ESTIMATOR_WAIT (R203): no update is in flight, per-cell estimator objects return their defaults. -/
def enterWait (s : State) : State :=
  let s := (clearDeals s).putN Obj.CUSTODY_STATE cuWait
  let s := s.modCustody fun c => { c with waitL := s.lNow, armed := none, partner := none }
  s.forAll s.mappedCells fun x s => (hideCell x.1 s).putN (Obj.EST_FLAGS x.1) 1

/-- Whether a cell of the mirror store has all four parts (R439). -/
def MirrorCell.complete (m : MirrorCell) : Bool := [0, 1, 2, 3].all fun p => (amGet? m.parts p).isSome

/-- Whether every mapped cell holds a valid record (R203); a standby holds the records of its mirror store (R439). -/
def allRecordsValid (s : State) : Bool :=
  s.mappedCells.all fun x =>
    if s.standby then ((amGet? s.duo.mirror x.1).map MirrorCell.complete).getD false
    else (s.cell x.1).record.live && !s.recInvalid x.1

/-- A cell's record is given up: it starts cold at its first fresh block (R206). -/
def makeCold (n : Nat) (s : State) : State :=
  (((s.modRec n fun _ => {}).setDealFlag n dfInvalid false).setInvalid n false).putN (Obj.EST_FLAGS n) 1

/-! ### Applying a restore (R207, R208, R210) -/

/-- Whether a record of a restore may restore its cell (R210). -/
def restoreOk (x : Restore) (r : CpRec) (s : State) : Bool :=
  bitOf r.flags 0 &&
  (match s.cellPlace? r.cell with
   | some (f, _, e) =>
     nth x.uids f 0 == e.uid && nth x.crcs (s.n (Obj.PROFILE_SELECT e.string)) 0 == profileCrc s (s.n (Obj.PROFILE_SELECT e.string))
   | none => false)

/-- The sweep of the latest finished tail, to which EST_AGE refers (R184). -/
def State.tailSweep (s : State) : Nat := if s.sweep.tailDone then s.n Obj.SWEEP_COUNT else s.n Obj.SWEEP_COUNT - 1

/-- Δt_gap in s (R207): base P at the restore mark less MARK_P, RESTORE_GAP_UNSET while either is UNSET. -/
def restoreGap (r : CpRec) (s : State) : Rat :=
  if s.time.markUnset || bitOf r.flags 3 then (s.n Obj.RESTORE_GAP_UNSET : Rat)
  else ((s.time.markP - r.markP : Nat) : Rat) / 1000000000

/-- The record a restored cell receives at the restore mark (R207), widened for the gap (R208). REF_CHARGE of a partner restore
lies before the string charge `base` at which the offer came by the charge that the offer carries (R205). EST_AGE goes on from that of the record: at the tail of the mark's sweep it is one more unless
the cell is updated. MARK_P and P_UNSET stay those of the measurement last used (Table 8.5). -/
def restoredRecord (b : Bytes) (host : Bool) (x : Restore) (r : CpRec) (str : Nat) (base : Rat) (s : State) : CellRec :=
  let gap := restoreGap r s
  let t := s.track str
  let qc := 36 / 10 * nth r.theta 0 0
  let ref := if host then t.charge else base - amGetD x.charges r.cell 0
  let eg := if host then cToA b (s.q Obj.RESTORE_GAP_CURRENT) * gap / qc else 0
  let d := r.drift + eg
  let v := r.xBound.map varOf
  let cold : Vec := [0, 2 / 100, 2 / 100, 5 / 100, 5 / 100]
  let v1 := v.zipIdx.map fun (y, i) =>
    if i = 0 then y + (d * d - r.drift * r.drift) / (k95 * k95)
    else if host && Nat.ble i 4 then rmax y (varOf (nth cold i 0))
    else if host && i == 5 && decide (1 / 100 < eg) then varOf 1 else y
  let x1 := if host && decide (1 / 100 < eg) then r.x.set 5 0 else r.x
  { live := true, lastMarkL := s.time.markL, lastSweep := (s.tailSweep : Int) - r.age, lastMarkP := r.markP, markUnset := bitOf r.flags 3,
    x := x1, drift := d, p := mDiag v1, theta := r.theta,
    pTheta := mAdd (mDiag (r.thetaBound.map varOf)) (parameterDrift b (gap / 3600)), lambda := mDiag (List.replicate 5 0),
    refCharge := ref, refBleed := s.q (Obj.BLEED_CHARGE_TOTAL r.cell), refDrift := t.drift, paramSliceL := s.time.markL,
    paramDue := true, anchor := r.anchorZ.map fun z => (z, r.anchorU, r.anchorQ, r.anchorDq),
    anchorBroken := bitOf r.flags 1,
    restoredBound := if host then some (100 * nth r.xBound 0 0) else none,
    tcBound := if host && decide (60 < gap) then some (rmax (nth r.xBound 6 0) 5) else none }

/-- One mapped cell at the restore mark: restored, or cold and counted (R210). -/
def restoreCell (host : Bool) (x : Restore) (n str : Nat) (s : State) : State :=
  match x.records.find? (fun r => r.cell == n && restoreOk x r s), s.profile? str with
  | some r, some b =>
    let gap := (restoreGap r s * 1000000000).floor.toNat
    let base := nth s.custody.base str (s.track str).charge
    let s := (s.modRec n fun _ => restoredRecord b host x r str base s).setInvalid n false
    let s := s.setDealFlag n dfInvalid false
    let s := (s.putN (Obj.EST_AGE n) r.age).putN (Obj.SOP_AGE n) 255
    let s := s.putN (Obj.EST_FLAGS n) (b2n (bitOf r.flags 1) + (if host || bitOf r.flags 2 then 2 ^ efAge else 0))
    s.putN Obj.RESTORE_GAP (max (s.n Obj.RESTORE_GAP) gap)
  | _, _ => (makeCold n s).incW 16 Obj.RESTORE_REFUSED_CELLS

/-- A restore is applied to every mapped cell at the restore mark (R207). -/
def applyRestore (host : Bool) (x : Restore) (s : State) : State :=
  let s := (s.putN Obj.RESTORE_GAP 0).putN Obj.RESTORE_REFUSED_CELLS 0
  let s := s.forAll s.mappedCells fun (n, _, _, e) s => restoreCell host x n e.string s
  let s := if host then s.putN Obj.LAST_GEN_RESTORED x.generation else s
  (s.putN Obj.CUSTODY_STATE (if host then cuHost else cuPartner)).modCustody fun c =>
    { c with armed := none, host := none, partner := none }

/-! ### Generations (R211 to R213) -/

/-- Whether the peer that receives generations takes PUSH transfers (R378). -/
def pushPeerOk (s : State) : Bool :=
  let p := s.n Obj.CHECKPOINT_PEER
  s.running (Obj.PEER_STATE p) && s.b (Obj.PEER_PUSH p)

/-- A piece goes out, to PEER_ADDR at PEER_PUSH_PORT (R378), as one of CHECKPOINT (DEDUCED, log entry 182). -/
def putPiece (p : PushPiece) (s : State) : State :=
  let peer := s.n Obj.CHECKPOINT_PEER
  s.emit (.push { addr := s.n (Obj.PEER_ADDR peer), port := s.n (Obj.PEER_PUSH_PORT peer), tag := p.tag, key := Obj.CHECKPOINT,
                  offset := p.offset, last := p.last, data := p.data })

/-- A piece leaves and awaits its confirmation (R378). -/
def sendPiece (last : Bool) (data : Bytes) (s : State) : State :=
  match s.custody.gen with
  | none => s
  | some g =>
    let p : PushPiece := { offset := g.offset, last, data, attempts := 1, tag := g.sent % 65536 }
    let s := s.modCustody fun c =>
      { c with gen := some { g with offset := g.offset + data.length, sent := g.sent + 1 }, pieces := c.pieces ++ [p] }
    putPiece p s

/-- A byte string in pieces of at most 1,024 bytes (Table 15.8). -/
def sendPieces (last : Bool) (data : Bytes) (s : State) : State :=
  let n := (data.length + 1023) / 1024
  s.each n fun i s => sendPiece (last && i + 1 == n) (slice data (1024 * i) 1024) s

/-- The next segment of the generation in progress is sent, after the last one its seal (R212); only the active module sends
(R211), and the emergency generation that a swap has overtaken (R449). -/
def sendSegment (s : State) : State :=
  match s.custody.gen with
  | none => s
  | some g =>
    if g.sealSent || !(s.active || g.reason == 2) then s else
    let (d, c) := segmentBytes g g.next s
    let marks := if g.next < 2 then [] else
      (List.range 32).filterMap fun r =>
        let x := cellCp s (32 * (g.next - 2) + r)
        if bitOf x.flags 0 then some x.markP else none
    let lo := marks.foldl (fun (a : Option Nat) m => some (min (a.getD m) m)) g.firstMark
    let hi := marks.foldl (fun (a : Option Nat) m => some (max (a.getD m) m)) g.lastMark
    let s := sendPieces false d s
    let g' : Generation := { g with next := g.next + 1, crcs := g.crcs ++ [c], firstMark := lo, lastMark := hi,
                                    offset := (s.custody.gen.map fun x => x.offset).getD g.offset,
                                    sent := (s.custody.gen.map fun x => x.sent).getD g.sent }
    let s := s.modCustody fun x => { x with gen := some g' }
    if g'.next < s.asBuilt.segments then s else
    let s := sendPieces true (sealBytes g' s) s
    s.modCustody fun x => { x with gen := x.gen.map fun y => { y with sealSent := true } }

/-- All segments that remain are sent back to back (R212). -/
def sendRest (s : State) : State := s.each s.asBuilt.segments fun _ => sendSegment

/-- A generation starts (R211, R212); the module opens the session to its peer (R378). The emergency one (2) goes on where a swap
has made the module STANDBY meanwhile (R449). -/
def startGeneration (reason : Nat) (paced : Bool) (s : State) : State :=
  if !(s.active && s.estimating || reason == 2 && s.sweeping Obj.EST_STATE && s.n Obj.CUSTODY_STATE != cuWait) || !pushPeerOk s then s else
  let number := if s.pUnsetFlag then 2 ^ 63 + s.lNow / 1000000 else s.pNow / 1000000
  let g : Generation := { number, unset := s.pUnsetFlag, reason, paced }
  let s := (s.putN Obj.LAST_GEN_SENT number).modCustody fun c => { c with gen := some g, pieces := [], due := none }
  let peer := s.n Obj.CHECKPOINT_PEER
  let s := s.emit (.connect (s.n (Obj.PEER_ADDR peer)) (s.n (Obj.PEER_PUSH_PORT peer)))
  if paced then s else sendRest s

/-- The generation in progress is over, sealed or abandoned: the emergency generation is followed by a commit (R487). -/
def dropGeneration (s : State) : State :=
  let t := s.modCustody fun c => { c with gen := none, pieces := [] }
  if (s.custody.gen.map Generation.reason) = some 2 then commitDue t else t

/-- The generation in progress is abandoned (R213). -/
def abandonGeneration (s : State) : State :=
  match s.custody.gen with
  | none => s
  | some _ => dropGeneration (s.inc Obj.CHECKPOINTS_ABANDONED)

/-- The generation in progress ends; one that fell due meanwhile starts (R211). -/
def endGeneration (s : State) : State :=
  let s := dropGeneration s
  match s.custody.due with
  | some reason => startGeneration reason true s
  | none => s

/-- A generation falls due (R211). -/
def generationDue (reason : Nat) (s : State) : State :=
  if s.b Obj.BROWNOUT then s
  else if s.custody.gen.isSome then s.modCustody fun c => { c with due := some reason } else startGeneration reason true s

/-- A generation is demanded (R211): one in progress becomes unpaced. -/
def demandGeneration (s : State) : State :=
  if s.custody.gen.isSome then sendRest (s.modCustody fun c => { c with gen := c.gen.map fun g => { g with paced := false } })
  else generationDue 1 s

/-- The number of the generation that answers a demand just made; a number that no generation has where none could start. -/
def demandedNumber (s : State) : Nat := (s.custody.gen.map Generation.number).getD (2 ^ 64)

/-- A write of CHECKPOINT_DEMAND (R211). -/
def ownCheckpointDemand (_ : Val) (s : State) : Except Abort State := .ok (demandGeneration s)

/-- A response to a piece (R378): with ABORT 0 it is confirmed; the confirmation of the piece with LAST completes the
generation (R213). -/
def pushConfirm (peer offset abort : Nat) (s : State) : State :=
  if abort ≠ 0 ∨ peer ≠ s.n Obj.CHECKPOINT_PEER then s else
  match s.custody.pieces.find? fun p => p.offset == offset with
  | none => s
  | some p =>
    let s := s.modCustody fun c => { c with pieces := c.pieces.filter fun q => q.offset != offset }
    if p.last then
      let num := (s.custody.gen.map Generation.number).getD 0
      endGeneration (s.putN Obj.LAST_GEN_SEALED num)
    else s

/-- 200 ms without the confirmation of a piece (R378): it is sent again; after five attempts the transfer has failed and the
generation is abandoned. -/
def pushRetry (x : PushRef) (s : State) : State :=
  if x.peer ≠ s.n Obj.CHECKPOINT_PEER then s else
  match s.custody.pieces.find? fun p => p.offset == x.offset with
  | none => s
  | some p =>
    if 5 ≤ p.attempts then endGeneration (abandonGeneration s) else
    putPiece p (s.modCustody fun c =>
      { c with pieces := c.pieces.map fun q => if q.offset = x.offset then { q with attempts := q.attempts + 1 } else q })

/-- The checkpoint record of a complete cell of the mirror store (R439), its EST_AGE as at the latest tail (R184). -/
def mirrorCp (s : State) (n : Nat) (m : MirrorCell) : CpRec :=
  let p := fun i => amGetD m.parts i []
  let age := (s.tailSweep % 2 ^ 32 + 2 ^ 32 - m.sweep) % 2 ^ 32
  { cell := n, flags := m.flags, fe := fieldU (p 3) 10 2, profile := fieldU (p 2) 22 1, age := min 255 age,
    markP := m.markP, x := m.x, xBound := ((List.range 6).map fun i => f32At (p 0) (4 * i)) ++ [f32At (p 1) 0], drift := m.drift,
    theta := (List.range 5).map fun i => f32At (p 1) (4 + 4 * i), thetaBound := (List.range 5).map fun i => f32At (p 2) (4 * i),
    anchorZ := (fieldF32 (p 3) 0).toRat?, anchorQ := f32At (p 3) 4, anchorU := (fieldU (p 2) 20 2 : Rat) / 100000,
    anchorDq := (fieldU (p 3) 8 2 : Rat) / 100000 }

/-- The cumulative charge of a string in A·s up to now. -/
def State.chargeNow (s : State) (str : Nat) : Rat := (s.track str).charge + (s.str str).acc

/-- A restore of the given records with the charge of each cell's string up to now; it names the module's own front-ends and
profiles. -/
def restoreOf (records : List CpRec) (charges : List (Nat × Rat)) (s : State) : Restore :=
  { generation := 0, uids := (List.range s.asBuilt.frontEnds).map (mapUid s), crcs := (List.range 4).map (profileCrc s),
    records, charges }

/-- The restore that the mirror store holds (R439): its complete cells, and by cell the charge of its string since the mark of
its sweep. -/
def mirrorRestore (s : State) : Restore :=
  let l := s.mappedCells.filterMap fun x => ((amGet? s.duo.mirror x.1).filter MirrorCell.complete).map fun m => (x.1, x.2.2.2.string, m)
  restoreOf (l.map fun x => mirrorCp s x.1 x.2.2) (l.map fun x => (x.1, s.chargeNow x.2.1 - x.2.2.charge)) s

/-- What the module offers its partner (R205, R439): its mirror store where it is standby, else the records of its cells, and by
cell the charge of its string from the record's mark to now. -/
def restoreOffer (s : State) : Restore :=
  if s.standby then mirrorRestore s
  else restoreOf (s.mappedCells.map fun x => cellCp s x.1)
    (s.mappedCells.map fun x => (x.1, s.chargeNow x.2.2.2.string - (s.cell x.1).record.refCharge)) s

/-- Whether the module may offer a restore: its estimator is RUNNING and does not wait (R205). -/
def State.mayOffer (s : State) : Bool := s.running Obj.EST_STATE && s.n Obj.CUSTODY_STATE != cuWait

/-- A restore is offered to a linked partner (R205). -/
def offerRestore (s : State) : State :=
  if s.mayOffer && s.n Obj.PAIR_ROLE != 0 && s.b Obj.PAIR_LINK_UP then s.emit (.pair (.restore (restoreOffer s))) else s

/-- A segment of a paced generation after the sweep tail, or the emergency generation (R212, R216): it goes to the host, from
the active module only or from one that a swap has just made STANDBY (R449), and to the partner. -/
def custodyTail (s : State) : State :=
  if s.custody.emergency then
    let s := (s.modCustody fun c => { c with emergency := false }).inc Obj.EMERGENCY_CHECKPOINTS
    let s := abandonGeneration s
    offerRestore (if s.active || s.custody.sends then startGeneration 2 false s else s)
  else if (s.custody.gen.map fun g => g.paced).getD false then sendSegment s else s

/-- Brown-out as the custody service sees it (R216): a paced generation is abandoned, an emergency generation is due at
the tail. -/
def custodyBrownout (s : State) : State :=
  let s := if (s.custody.gen.map fun g => g.paced).getD false then abandonGeneration s else s
  s.modCustody fun c => { c with emergency := true, sends := s.active, due := none }

/-! ### The end of the wait (R204) -/

/-- Whether the module waits for a restore. -/
def State.waiting (s : State) : Bool := s.running Obj.EST_STATE && s.n Obj.CUSTODY_STATE == cuWait

/-- The wait has ended: the module offers its partner a restore, and a generation falls due (R205, R211). -/
def waitEnded (s : State) : State := generationDue 0 (if s.standby then s else offerRestore s)

/-- At a sweep mark a restore that is armed ends the wait, the partner's before the host's: it is applied to the cells; a standby
has taken it into its mirror store as it came (R439). -/
def restoreAtMark (s : State) : State :=
  if !s.waiting then s else
  match s.custody.armed, s.custody.partner, s.custody.host with
  | some _, some p, _ =>
    if s.standby then
      waitEnded ((s.putN Obj.CUSTODY_STATE cuPartner).modCustody fun c => { c with armed := none, host := none, partner := none })
    else waitEnded (applyRestore false p s)
  | some _, none, some h => if s.standby then s else waitEnded (applyRestore true h s)
  | _, _, _ => s

/-- The partner offers a restore (R204 row 1): applied at the next mark, a held host checkpoint discarded. -/
def partnerOffer (x : Restore) (s : State) : State :=
  if !s.waiting || decide (s.custody.waitL + s.n Obj.RESTORE_TIMEOUT * 1000000000 ≤ s.lNow) then s else
  s.modCustody fun c =>
    { c with partner := some x, host := none, armed := some 1, base := (List.range s.asBuilt.strings).map s.chargeNow }

/-- A held host checkpoint is armed when row 2 of Table 8.1 allows it: PARTNER_PREFERENCE has passed, or the module has no
synchronised PAIR link. A standby restores from its partner (R205). -/
def armHost (expired : Bool) (s : State) : State :=
  if !s.waiting || s.standby || s.custody.partner.isSome || s.custody.host.isNone then s else
  let pref := s.custody.waitL + s.n Obj.PARTNER_PREFERENCE * 1000000000
  if expired || decide (pref ≤ s.lNow) || !(s.b Obj.PAIR_LINK_UP && s.n Obj.PAIR_SYNC == 2) then
    s.modCustody fun c => { c with armed := some 2 }
  else s

/-- RESTORE_TIMEOUT passes without a restore: cold start (R204 row 3). A block stored before is no block after the wait
(R206). -/
def restoreTimeout (s : State) : State :=
  if !s.waiting || s.custody.armed.isSome then s else
  let s := if s.standby then s else s.forAll s.mappedCells fun x s => makeCold x.1 s
  let s := ((clearDeals s).putN Obj.CUSTODY_STATE cuCold).modCustody fun c => { c with host := none, partner := none }
  waitEnded s

/-! ### Accepting a host checkpoint (R209) -/

/-- The segment with number `i` of a written checkpoint: its 4,096 data bytes, if exactly one carries that number and
its CRC is right. -/
def segmentOf (segs : List Bytes) (gen i : Nat) : Option Bytes :=
  match segs.filter fun b => fieldU b 4104 2 == i with
  | [b] => if fieldU b 4108 4 = crc32c (b.take 4108) ∧ fieldU b 4096 8 = gen then some (b.take 4096) else none
  | _ => none

/-- Why a written checkpoint is refused (Table 8.8): 1 container, 2 format, 3 segment, 4 seal, 5 record format; or the
restore it holds. -/
def parseCheckpoint (b : Bytes) (s : State) : Except Nat Restore :=
  let n := s.asBuilt.segments
  let segs := (List.range n).map fun i => slice b (4112 * i) 4112
  match segs.find? fun x => x.length == 4112 && fieldU x 4104 2 == 0 with
  | none => .error (if s.n Obj.CONTAINER_ID = 0 then 1 else 3)
  | some hd =>
    let gen := fieldU hd 4 8
    let sl := b.drop (4112 * n)
    let crcs := (List.range n).map fun i => match segs.find? fun x => fieldU x 4104 2 == i with
      | some x => fieldU x 4108 4
      | none => 0
    if s.n Obj.CONTAINER_ID = 0 ∨ fieldU hd 12 4 ≠ s.n Obj.CONTAINER_ID then .error 1
    else if fieldU hd 0 2 ≠ 1 ∨ fieldU hd 2 2 ≠ s.asBuilt.cells then .error 2
    else if (List.range n).any fun i => (segmentOf segs gen i).isNone then .error 3
    else if sl.length ≠ 64 ∨ fieldU sl 60 4 ≠ crc32c (sl.take 60) ∨ fieldU sl 0 8 ≠ gen ∨ fieldU sl 8 2 ≠ n ∨
        fieldU sl 12 4 ≠ crc32c (crcs.flatMap fun c => leBytes 4 c) then .error 4
    else if !s.kernel.head.reads.contains (fieldU hd 44 2) then .error 5
    else
      let data := (List.range n).flatMap fun i => (segmentOf segs gen i).getD []
      .ok { generation := gen, uids := (List.range s.asBuilt.frontEnds).map fun f => fieldU data (4096 + 8 * f) 8,
            crcs := (List.range 4).map fun i => fieldU data (20 + 4 * i) 4,
            records := (List.range s.asBuilt.cells).map fun i => parseRecord data (8192 + 128 * i), charges := [] }

/-- A completed write of CHECKPOINT (R209): accepted only while the module waits or the estimator is STOPPED. -/
def ownCheckpoint (v : Val) (s : State) : Except Abort State :=
  if s.n Obj.CUSTODY_STATE ≠ cuWait ∧ s.n Obj.EST_STATE ≠ 0 then .error (Abort.of aStopRequired 0) else
  match parseCheckpoint v.toBytes s with
  | .error e => .error { inconsistent Obj.CHECKPOINT with notes := [(Obj.RESTORE_REFUSAL, e)] }
  | .ok x => .ok (armHost false ((s.putN Obj.RESTORE_REFUSAL 0).modCustody fun c => { c with host := some x }))

/-! ### The estimator function -/

/-- Strings that R152 reinitialises at RUN: their selected profile or its CRC changed while the function was stopped. -/
def changedProfile (s : State) (str : Nat) : Bool :=
  let p := s.n (Obj.PROFILE_SELECT str)
  match (s.track str).stopProfile with
  | some (q, crc) => q != p || crc != profileCrc s p
  | none => false

/-- RUN of the estimator function (R152, R185, R203, R209). -/
def estRun (s : State) : State :=
  if s.custody.host.isSome || !allRecordsValid s || s.n Obj.CUSTODY_STATE == cuWait then armHost false (enterWait s)
  else
    let s := s.forAll (s.mappedCells.filter fun x => changedProfile s x.2.2.2.string) fun x s => makeCold x.1 (hideCell x.1 s)
    let s := s.each 16 fun str s => s.modTrack str fun t => { t with stopProfile := none }
    if s.standby then offerRestore s else s

/-- STOP of the estimator function: updates in flight end without a result, the profiles in force are remembered (R152, R203). -/
def estStop (s : State) : State :=
  (clearDeals s).each 16 fun str s =>
    let p := s.n (Obj.PROFILE_SELECT str)
    s.modTrack str fun t => { t with stopProfile := some (p, profileCrc s p) }

end Sys2Proof.Machine
end

