-- ==== Sys2Proof/Machine/Temperature.lean ====
section
/-!
DEFINITION. Temperature sensing (spec/09_temperature.md): sensor values, the cross-check and substitution, level and
rate thresholds with their dwell spans, die sensors, the compensation of the current inputs.
-/

namespace Sys2Proof.Machine

/-- Sensor status codes (Table 9.10). -/
def snUnmapped : Nat := 0
def snUnfitted : Nat := 1
def snOk : Nat := 2
def snSuspect : Nat := 3
def snFailed : Nat := 4

/-- Failure causes (Table 21.5). -/
def fcCross : Nat := 1
def fcShort : Nat := 2
def fcOpen : Nat := 3

/-- What the module keeps of sensor `n`. -/
def State.sensor (s : State) (n : Nat) : SensorSt := amGetD s.est.sensors n {}
/-- The state with what is kept of sensor `n` changed. -/
def State.modSensor (s : State) (n : Nat) (f : SensorSt → SensorSt) : State :=
  { s with est := { s.est with sensors := amSet s.est.sensors n (f (s.sensor n)) } }

/-- Whether a sensor is OK. -/
def State.sensorOk (s : State) (n : Nat) : Bool := s.n (Obj.SENSOR_STATUS n) == snOk
/-- Whether a sensor is OK or SUSPECT. -/
def State.sensorMeasures (s : State) (n : Nat) : Bool :=
  s.n (Obj.SENSOR_STATUS n) == snOk || s.n (Obj.SENSOR_STATUS n) == snSuspect

/-- The fresh value of a sensor in this sweep (R221, R226). -/
def freshTemp (s : State) (n : Nat) : Option Rat :=
  (s.sensor n).raw.bind fun r => if rawValid r then some (rawTemp s r) else none

/-- SENSORS_SUSPECT and SENSORS_FAILED (Table 9.7). -/
def countSensors (s : State) : State :=
  let cnt := fun st => (s.fittedSensors.filter fun n => s.n (Obj.SENSOR_STATUS n) == st).length
  (s.putN Obj.SENSORS_SUSPECT (cnt snSuspect)).putN Obj.SENSORS_FAILED (cnt snFailed)

/-! ### Status -/

/-- A sensor that is not fitted has no value (R221): its objects return to their defaults. -/
def blankSensor (n status : Nat) (s : State) : State :=
  let keys := [Obj.SENSOR_TEMP n, Obj.SENSOR_RAW n, Obj.SENSOR_FLAGS n, Obj.SENSOR_AGE n, Obj.SENSOR_OFFSET n, Obj.TEMP_SUSPECT_TIMER n,
    Obj.SENSOR_RATE_10 n, Obj.SENSOR_RATE_60 n]
  let s := s.forAll keys fun k s => s.put k (objDefault s.asBuilt k)
  (s.putN (Obj.SENSOR_STATUS n) status).modSensor n fun _ => {}

/-- Every sensor's status follows the maps; a sensor that stays fitted keeps its own (R219, R226). -/
def refreshSensors (s : State) : State :=
  let mapped := s.entries.flatMap fun x => (List.range 8).map fun j => x.2.ntcBase + j
  let gone := (s.est.sensors.map (·.1)).filter fun n => !mapped.contains n
  let s := s.forAll gone fun n => blankSensor n snUnmapped
  let s := s.forAll mapped fun n s =>
    if !s.fitted n then blankSensor n snUnfitted s
    else if s.n (Obj.SENSOR_STATUS n) ≤ snUnfitted then (s.putN (Obj.SENSOR_STATUS n) snOk).modSensor n id else s
  countSensors s

/-- NTC_MASK of every front-end from the FITTED flags of its sensors, and QUIET_NTC_LIMIT of every device (R219, R220). -/
def writeNtcMasks (s : State) : State :=
  writeChainRegs 0x0D [quietLimit s] (writeAllRegs 0x08 (fun f e => [(configRegs s e (s.regs f)).ntcMask]) s)

/-- RUN check of the temperature function (R223). -/
def tempRunCheck (s : State) : Option Abort :=
  (geoError s).map fun e => { inconsistent Obj.GEOMETRY_MAP with notes := [(Obj.GEO_ERROR_INDEX, e)] }

/-- STOP of the temperature function is refused while the sweep function runs (Table 9.7). -/
def tempStopCheck (s : State) : Option Abort := if s.running Obj.SWEEP_STATE then some (conflict Obj.SWEEP_STATE) else none

/-! ### Cross-check -/

/-- The three outcomes of the cross-check (R225). -/
inductive Outcome where
  | deviates | confirmed | inconclusive
  deriving DecidableEq, Repr

/-- The fresh values of a sensor's neighbours that are OK (R224). -/
def okNeighbours (s : State) (n : Nat) : List Rat :=
  (s.neighbours n).filterMap fun m => if s.sensorOk m then freshTemp s m else none

/-- The neighbour reference M_s (R224). -/
def neighbourRef (s : State) (n : Nat) : Option Rat :=
  let l := okNeighbours s n
  if 2 ≤ l.length then some (median l) else none

/-- The impedance reference Z_s with its bound U_s (R224). -/
def impedanceRef (s : State) (n : Nat) : Option (Rat × Rat) :=
  let l := (s.nearestCells n).filterMap fun c =>
    if s.abacus.updated.contains c && !s.estFlag c efHeld then
      (s.v (Obj.Z_TEMP c)).toRat?.map fun z => (z - (s.cell c).record.drop, s.q (Obj.Z_TEMP_BOUND c))
    else none
  if l.isEmpty then none
  else some ((l.map (·.1)).sum / (l.length : Rat), (l.map (·.2)).sum / (l.length : Rat))

/-- The outcome for a sensor from its value, its neighbours' values and the references (R225). -/
def crossOutcome (lim : Rat) (t : Option Rat) (used : List Rat) (m : Option Rat) (z : Option (Rat × Rat)) : Outcome :=
  match t with
  | none => .inconclusive
  | some t =>
    let near := fun k => match m with | some m => decide (rabs (t - m) ≤ k * lim) | none => false
    let agree := match m with | some m => used.all fun x => decide (rabs (x - m) ≤ lim) | none => false
    let zOff := match z with
      | some (z, u) => decide (lim + u < rabs (t - z))
      | none => Nat.ble 3 used.length
    let zNear := match z with | some (z, u) => decide (rabs (t - z) ≤ 1 / 2 * lim + u) | none => false
    if agree && !near 1 && zOff then .deviates
    else if near (1 / 2) || zNear then .confirmed
    else .inconclusive

/-- A sensor becomes FAILED with a cause (R226). -/
def failSensor (n cause : Nat) (s : State) : State :=
  let s := s.putN (Obj.SENSOR_STATUS n) snFailed
  let fl := s.n (Obj.SENSOR_FLAGS n)
  let bit := if cause = fcOpen then 3 else if cause = fcShort then 4 else 5
  (s.putN (Obj.SENSOR_FLAGS n) (withBit fl bit true)).logN 0x0402 0x2230 n cause 0

/-- The published value of a FAILED sensor (R228): M_s + Δ_s, NaN where M_s does not exist. -/
def substitute (n : Nat) (m : Option Rat) (s : State) : State :=
  let v := m.map fun m => m + s.q (Obj.SENSOR_OFFSET n)
  let fl := withBit (withBit (s.n (Obj.SENSOR_FLAGS n)) 1 v.isSome) 2 v.isNone
  (s.put (Obj.SENSOR_TEMP n) (Val.ofRat? v)).putN (Obj.SENSOR_FLAGS n) fl

/-- A FAILED sensor returns to OK (R226), and the return is logged. -/
def returnSensor (n : Nat) (s : State) : State :=
  if s.n (Obj.SENSOR_STATUS n) ≠ snFailed then s else
  let fl := s.n (Obj.SENSOR_FLAGS n)
  let fl := withBit (withBit (withBit (withBit (withBit fl 1 false) 2 false) 3 false) 4 false) 5 false
  let s := ((s.putN (Obj.SENSOR_STATUS n) snOk).putQ (Obj.TEMP_SUSPECT_TIMER n) 0).putQ (Obj.SENSOR_OFFSET n) 0
  let s := (s.putN (Obj.SENSOR_FLAGS n) fl).modSensor n fun x => { x with bad := 0 }
  countSensors (s.logN Config.returnCode.toNat 0x2230 n 0 0)

/-- The sensors of a front-end return to OK with its ACCEPT_DEVICE (R226). -/
def returnFrontEnd (f : Nat) (s : State) : State :=
  match s.entry? f with
  | some e => s.each 8 fun j s => returnSensor (e.ntcBase + j) s
  | none => s

/-- SENSOR_RESET (R226). -/
def ownSensorReset (v : Val) (s : State) : Except Abort State := .ok (returnSensor v.toNat s)

/-- SENSOR_FAILED as an event (R226): the suspect timer has reached its time, or three blocks have shown an open or a
short; the sensor is substituted. -/
def sensorFailed (n cause : Nat) (s : State) : State :=
  let able := if cause = fcCross then s.n (Obj.SENSOR_STATUS n) == snSuspect else s.sensorMeasures n
  if !s.running Obj.TEMP_STATE || !s.fitted n || !able then s else
  countSensors (substitute n (neighbourRef s n) (failSensor n cause s))

/-- The status of a sensor after an outcome (R226, R227, Table 9.2). -/
def judge (n : Nat) (t : Rat) (value : Option Rat) (m : Option Rat) (o : Outcome) (s : State) : State :=
  let st := s.n (Obj.SENSOR_STATUS n)
  let timer := s.q (Obj.TEMP_SUSPECT_TIMER n)
  let s :=
    if st = snOk ∧ o = .deviates then
      ((s.putN (Obj.SENSOR_STATUS n) snSuspect).putQ (Obj.TEMP_SUSPECT_TIMER n) t).logEx 0x0401 0x2230 n
        (Val.ofRat? value) (Val.ofRat? m) (.int 0)
    else if st = snSuspect ∧ o = .deviates then s.putQ (Obj.TEMP_SUSPECT_TIMER n) (timer + t)
    else if st = snSuspect ∧ o = .confirmed then (s.putN (Obj.SENSOR_STATUS n) snOk).putQ (Obj.TEMP_SUSPECT_TIMER n) 0
    else s
  if s.n (Obj.SENSOR_STATUS n) = snSuspect ∧ (s.n Obj.TEMP_SUSPECT_TIME : Rat) ≤ s.q (Obj.TEMP_SUSPECT_TIMER n) then
    failSensor n fcCross s
  else if s.n (Obj.SENSOR_STATUS n) = snOk then
    match value, m with
    | some v, some m =>
      let d := s.q (Obj.SENSOR_OFFSET n)
      s.putQ (Obj.SENSOR_OFFSET n) (d + t / 3600 * ((v - m) - d))
    | _, _ => s
  else s

/-- A sensor at the sweep tail (R221, R224 to R228); `s0` is the state before any sensor of this tail was judged. -/
def sensorTail (s0 : State) (n : Nat) (s : State) : State :=
  let x := s.sensor n
  let value := freshTemp s n
  let m := neighbourRef s0 n
  let o := crossOutcome (s.q Obj.TEMP_CROSS_LIMIT) value (okNeighbours s0 n) m (impedanceRef s0 n)
  let keep := s.n (Obj.SENSOR_FLAGS n) &&& 0x38
  let fl := withBit (withBit keep 0 value.isNone) 6 (o == .inconclusive)
  let s := s.putN (Obj.SENSOR_FLAGS n) fl
  let s := s.putN (Obj.SENSOR_AGE n) (if value.isSome then 0 else min 65535 (s.n (Obj.SENSOR_AGE n) + 1))
  let s := match x.raw with
    | some r => (s.putN (Obj.SENSOR_RAW n) r).modSensor n fun y => { y with bad := if rawValid r then 0 else y.bad + 1 }
    | none => s
  let s := match value with
    | some v => if s.sensorMeasures n then s.putQ (Obj.SENSOR_TEMP n) v else s
    | none => s
  let s := if s.sensorMeasures n then judge n s.sweepT value m o s else s
  let s := match x.raw with
    | some r => if s.sensorMeasures n ∧ 3 ≤ (s.sensor n).bad then failSensor n (if r = 0 then fcShort else fcOpen) s else s
    | none => s
  if s.n (Obj.SENSOR_STATUS n) = snFailed then substitute n m s else s

/-! ### Thresholds -/

/-- One evaluation of an element (R229, R231): direction, level, hysteresis, dwell in ms, base L in ns, value. Answers
the element and whether the evaluation is a crossing. -/
def dwellStep (high : Bool) (l h : Rat) (dwell now : Nat) (v : Option Rat) (e : DwellEl) : DwellEl × Bool :=
  let beyond := match v with
    | some q => if high then decide (l < q) else decide (q < l)
    | none => false
  let back := match v with
    | some q => if high then decide (q < l - h) else decide (l + h < q)
    | none => false
  let crossing := beyond && e.prev == some false
  let since := if (if e.raised then back else beyond) then some (e.since.getD now) else none
  let fires := match since with
    | some t => Nat.ble (t + dwell * 1000000) now
    | none => false
  (if fires then { raised := !e.raised, since := none, prev := some beyond } else { e with since, prev := some beyond }, crossing)

/-- Every element of a threshold is evaluated: the elements after it and how many crossings it made. What is no element of the
source any more is dropped. -/
def evalElements (high : Bool) (l h : Rat) (dwell now : Nat) (vals : List (Nat × Option Rat)) (els : List (Nat × DwellEl)) :
    List (Nat × DwellEl) × Nat :=
  vals.foldl (fun acc x =>
    let (e, c) := dwellStep high l h dwell now x.2 (amGetD acc.1 x.1 {})
    (amSet acc.1 x.1 e, acc.2 + b2n c)) (els.filter fun x => vals.any fun y => y.1 == x.1, 0)

/-- How many elements are RAISED. -/
def raisedCount (els : List (Nat × DwellEl)) : Nat := (els.filter fun x => x.2.raised).length

/-- The core temperature of a cell as the thresholds see it (Table 9.4). -/
def coreValue (s : State) (c : Nat) : Option Rat :=
  if s.n Obj.CUSTODY_STATE = cuWait ∨ s.estFlag c efReinit then none else (s.v (Obj.CORE_TEMP c)).toRat?

/-- The elements of a level source with their values (Table 9.4). -/
def levelElements (s : State) (source : Nat) : List (Nat × Option Rat) :=
  match source with
  | 1 => s.fittedSensors.map fun n => (n, (s.v (Obj.SENSOR_TEMP n)).toRat?)
  | 2 => s.mappedCells.map fun x => (x.1, coreValue s x.1)
  | 3 => s.entries.map fun x => (x.1, (s.v (Obj.FE_DIE_TEMP x.1)).toRat?)
  | 4 => (List.range 6).map fun i => (i, some (s.dieTemp i))
  | _ => []

/-- The string an element of a source belongs to; the module's dies belong to none (R230). -/
def elementString (s : State) (source el : Nat) : Option Nat :=
  match source with
  | 1 => (s.sensorPlace? el).map fun x => x.2.string
  | 2 => s.cellString? el
  | 3 => (s.entry? el).map fun e => e.string
  | _ => none

/-- The elements of level threshold `n` and of rate threshold `n`. -/
def State.lt (s : State) (n : Nat) : List (Nat × DwellEl) := nth s.temp.lt n []
def State.rt (s : State) (n : Nat) : List (Nat × DwellEl) := nth s.temp.rt n []

/-- Level threshold `n` with its elements, its count. -/
def State.setLt (s : State) (n : Nat) (l : List (Nat × DwellEl)) : State :=
  ({ s with temp := { s.temp with lt := s.temp.lt.set n l } } : State).putN (Obj.LT_COUNT n) (raisedCount l)
/-- Rate threshold `n` with its elements, its count. -/
def State.setRt (s : State) (n : Nat) (l : List (Nat × DwellEl)) : State :=
  ({ s with temp := { s.temp with rt := s.temp.rt.set n l } } : State).putN (Obj.RT_COUNT n) (raisedCount l)

/-- Whether a list of elements holds a RAISED element of string `str`. -/
def raisedIn (s : State) (source str : Nat) (els : List (Nat × DwellEl)) : Bool :=
  els.any fun x => x.2.raised && elementString s source x.1 == some str

/-- LT_STRING_RAISED and RT_STRING_RAISED of every string (R230, R233). -/
def stringRaised (s : State) : State :=
  s.each s.asBuilt.strings fun str s =>
    let s := s.putN (Obj.LT_STRING_RAISED str) (maskOf 16 fun n => raisedIn s (s.n (Obj.LT_SOURCE n)) str (s.lt n))
    s.putN (Obj.RT_STRING_RAISED str) (maskOf 8 fun n => raisedIn s (s.n (Obj.RT_SOURCE n)) str (s.rt n))

/-- RUN of the temperature function (R219, R223): masks and statuses follow the geometry map; the elements of the
thresholds are CLEAR, without a previous evaluation (R231). -/
def tempRun (s : State) : State :=
  let s := refreshSensors (writeNtcMasks (s.putN Obj.GEO_ERROR_INDEX 0xFFFF))
  stringRaised ((s.each 16 fun n s => s.setLt n []).each 8 fun n s => s.setRt n [])

/-- Crossings of a threshold are counted (R231), and in the recorder's module page at place `i` (R495): 3 + n for level,
19 + n for rate threshold n. -/
def countCrossings (i key k : Nat) (s : State) : State :=
  let s := s.incBy key k
  if k = 0 ∨ s.b Obj.RECORDER_FOREIGN then s else
  let p := amGetD s.recorder.work 8208 {}
  { s with recorder := { s.recorder with work := amSet s.recorder.work 8208 { p with counts := amSet p.counts i ((amGetD p.counts i 0 + k) % 2 ^ 32) } } }

/-- One evaluation of level threshold `n` (R229 to R231). -/
def evalLevel (n : Nat) (s : State) : State :=
  let (l, c) := evalElements (s.n (Obj.LT_DIRECTION n) == 0) (s.q (Obj.LT_LEVEL n)) (s.q (Obj.LT_HYST n))
    (s.n (Obj.LT_DWELL n)) s.lNow (levelElements s (s.n (Obj.LT_SOURCE n))) (s.lt n)
  countCrossings (3 + n) (Obj.LT_CROSSINGS n) c (s.setLt n l)

/-- One evaluation of rate threshold `n` (R233). -/
def evalRate (n : Nat) (s : State) : State :=
  let w := s.n (Obj.RT_WINDOW n)
  let vals := match s.n (Obj.RT_SOURCE n) with
    | 1 => s.fittedSensors.map fun i => (i, (s.v (if w = 0 then Obj.SENSOR_RATE_10 i else Obj.SENSOR_RATE_60 i)).toRat?)
    | 2 => s.mappedCells.map fun x => (x.1, (s.v (if w = 0 then Obj.CORE_RATE_10 x.1 else Obj.CORE_RATE_60 x.1)).toRat?)
    | _ => []
  let (l, c) := evalElements true (s.q (Obj.RT_LEVEL n)) (s.q (Obj.RT_HYST n)) (s.n (Obj.RT_DWELL n)) s.lNow vals (s.rt n)
  countCrossings (19 + n) (Obj.RT_CROSSINGS n) c (s.setRt n l)

/-- An element that has held its condition for the dwell changes state. -/
def fireElement (els : List (Nat × DwellEl)) (el : Nat) : List (Nat × DwellEl) :=
  match amGet? els el with
  | some e => if e.since.isSome then amSet els el { e with raised := !e.raised, since := none } else els
  | none => els

/-! ### Rate of rise -/

/-- The least-squares slope in K/min over the last `w` seconds before `now` (R232); none where it is not valid. -/
def slopeOf (w now : Nat) (l : List (Nat × Rat)) : Option Rat :=
  let p := (l.filter fun x => Nat.ble (now - x.1) (w * 1000000000)).map fun x => ((x.1 : Rat) / 1000000000, x.2)
  let n : Rat := (p.length : Rat)
  match p.head?, p.getLast? with
  | some a, some b =>
    let tm := (p.map (·.1)).sum / n
    let ym := (p.map (·.2)).sum / n
    let den := (p.map fun x => (x.1 - tm) * (x.1 - tm)).sum
    if 8 ≤ p.length ∧ (w : Rat) / 2 ≤ a.1 - b.1 ∧ den ≠ 0 then
      some (60 * (p.map fun x => (x.1 - tm) * (x.2 - ym)).sum / den) else none
  | _, _ => none

/-- The last 60 s of values, a new one in front. -/
def pushTemp (now t : Nat) (v : Rat) (l : List (Nat × Rat)) : List (Nat × Rat) :=
  (t, v) :: l.filter fun x => Nat.ble (now - x.1) 60000000000

/-- The slopes of every sensor and cell (R232). -/
def ratesTail (s : State) : State :=
  let now := s.time.markL
  let s := s.forAll s.fittedSensors fun n s =>
    let s := if s.sensorMeasures n then
        (match freshTemp s n with
         | some v => s.modSensor n fun x => { x with temps := pushTemp now now v x.temps }
         | none => s)
      else s.modSensor n fun x => { x with temps := [] }
    let l := (s.sensor n).temps
    (s.put (Obj.SENSOR_RATE_10 n) (Val.ofRat? (slopeOf 10 now l))).put (Obj.SENSOR_RATE_60 n) (Val.ofRat? (slopeOf 60 now l))
  s.forAll s.mappedCells fun x s =>
    let c := x.1
    let s := match coreValue s c with
      | some v => if s.abacus.updated.contains c then
          s.modCell c fun y => { y with temps := pushTemp now y.record.lastMarkL v y.temps } else s
      | none => s
    let l := (s.cell c).temps
    (s.put (Obj.CORE_RATE_10 c) (Val.ofRat? (slopeOf 10 now l))).put (Obj.CORE_RATE_60 c) (Val.ofRat? (slopeOf 60 now l))

/-- Temperature in the sweep tail (R221 to R233). -/
def temperatureTail (s : State) : State :=
  if !s.sweeping Obj.TEMP_STATE then s else
  let s := countSensors (s.forAll s.fittedSensors (sensorTail s))
  let s := ratesTail s
  let s := s.each 16 fun n s => if s.n (Obj.LT_SOURCE n) = 4 then s else evalLevel n s
  stringRaised (s.each 8 evalRate)

/-! ### Blocks and dies -/

/-- The raw values and the die temperature of a fresh block of front-end `f` (R221, R235). -/
def blockTemps (f : Nat) (e : MapEntry) (b : Bytes) (s : State) : State :=
  let s := s.putQ (Obj.FE_DIE_TEMP f) (blkDie b)
  s.each 8 fun j s => if s.fitted (e.ntcBase + j) then s.modSensor (e.ntcBase + j) fun x => { x with raw := some (blkNtc b j) } else s

/-- The raw values of the sweep are forgotten at the next mark. -/
def temperatureAtMark (s : State) : State :=
  { s with est := { s.est with sensors := s.est.sensors.map fun x => (x.1, { x.2 with raw := none }) } }

/-- Status, flags and published value of a sensor as the latest sweep tail left them (R192); before the first tail as they
stand. -/
def State.sensorAtTail (s : State) (n : Nat) : Nat × Nat × Val :=
  (s.sensor n).atTail.getD (s.n (Obj.SENSOR_STATUS n), s.n (Obj.SENSOR_FLAGS n), s.v (Obj.SENSOR_TEMP n))

/-- A sweep tail ends: what the slots of the next sweep take of the sensors is fixed (R192). -/
def keepSensors (s : State) : State :=
  s.forAll s.fittedSensors fun n s =>
    s.modSensor n fun x => { x with atTail := some (s.n (Obj.SENSOR_STATUS n), s.n (Obj.SENSOR_FLAGS n), s.v (Obj.SENSOR_TEMP n)) }

/-- The gain correction of a current input from its factory table and die sensor 02 (R236). -/
def ciGainTarget (s : State) (n : Nat) : Rat :=
  let pts := (s.xtalPoints.map (·.1)).zip (nth s.asBuilt.ciGain n [])
  if pts.isEmpty then 1 else interp pts (s.dieTemp 2)

/-- The module die sensors are read (R234): values published, die thresholds evaluated, the main path's gain moved by at
most 0.001 % (R236). -/
def moduleDieRead (temps : List Rat) (s : State) : State :=
  let bytes := (List.range 6).flatMap fun i => f32Bytes (.real (nth temps i (s.dieTemp i)))
  let s := s.putBytes Obj.MODULE_DIE_TEMP bytes
  let s := s.each s.asBuilt.strings fun n s =>
    s.modStr n fun x => { x with gainMain := x.gainMain + rclamp (-1 / 100000) (1 / 100000) (ciGainTarget s n - x.gainMain) }
  if !s.running Obj.TEMP_STATE then s else
  stringRaised (s.each 16 fun n s => if s.n (Obj.LT_SOURCE n) = 4 then evalLevel n s else s)

/-- The window path takes the gain at a sweep mark (R236): the window that ends there keeps the gain it began with. -/
def gainAtMark (s : State) : State :=
  s.each s.asBuilt.strings fun n s => s.modStr n fun x => { x with gainPast := x.gainWindow, gainWindow := x.gainMain }

end Sys2Proof.Machine
end

