-- ==== Sys2Proof/Machine/Can.lean ====
section
/-!
DEFINITION. The CAN FD channels (spec/14_can.md): bit timing at RUN, modes and rate detection, filters and FIFOs,
transmit buffers, events, error states, and the service transmissions of the other chapters.
-/

namespace Sys2Proof.Machine

/-- What the module keeps of channel `c`. -/
def State.canCh (s : State) (c : Nat) : CanSt := nth s.can c {}
/-- The state with channel `c` changed. -/
def State.modCan (s : State) (c : Nat) (f : CanSt → CanSt) : State := { s with can := s.can.set c (f (s.canCh c)) }

/-- Channel modes (R345). -/
def cmNormal : Nat := 0
def cmListen : Nat := 1
def cmDetect : Nat := 2

/-- The mode in force of a channel: the choice of a detection passes it to DETECT_THEN (R346). -/
def State.canMode (s : State) (c : Nat) : Nat :=
  if s.n (Obj.CAN_MODE c) ≠ cmDetect then s.n (Obj.CAN_MODE c)
  else if (s.canCh c).chosen then (if s.n (Obj.DETECT_THEN c) = 0 then cmNormal else cmListen)
  else cmDetect

/-- Whether a channel takes part in the bus: RUNNING, the crystal in use (R357). -/
def State.canUp (s : State) (c : Nat) : Bool := Nat.blt c 2 && s.running (Obj.CAN_STATE c) && !s.degraded

/-- Whether a channel receives: it takes part in the bus and is not in bus-off (R344). -/
def State.canHears (s : State) (c : Nat) : Bool := s.canUp c && s.n (Obj.CAN_ERROR_STATE c) != 2

/-- The shortest bus idle in ns: 11 nominal bits (R342, R356; DEDUCED, log entry 181). -/
def State.idleBits (s : State) (c : Nat) : Nat :=
  11 * (s.n (Obj.NOM_BRP c) * (1 + s.n (Obj.NOM_TSEG1 c) + s.n (Obj.NOM_TSEG2 c))) * 25 / 2

/-- Whether a frame whose SOF lies at an instant of base L can concern the channel: it does not still wait for bus idle (R340). -/
def State.idleBy (s : State) (c l : Nat) : Bool :=
  match (s.canCh c).waitIdle with
  | some t => Nat.ble (t + s.idleBits c) l
  | none => true

/-- Buffer states (R352). -/
def txEmpty : Nat := 0
def txPending : Nat := 1
def txSent : Nat := 2
def txLate : Nat := 3
def txCancelled : Nat := 4
def txFailed : Nat := 5

/-! ### Identifiers that services send -/

/-- Whether a number with a string added stays within the identifier's format (R518). -/
def canIdSums (a : AsBuilt) (id : Nat) : Bool := canIdOk (id + (a.strings - 1)) && bitOf (id + (a.strings - 1)) 31 == bitOf id 31

/-- The identifiers of the set-point service (R326). -/
def setpointIds (s : State) : List Nat :=
  let id := s.n Obj.SETPOINT_MSG_ID
  if s.n Obj.PCS_ARRANGEMENT = 1 then (List.range s.asBuilt.strings).map (id + ·) else [id]

/-- The identifiers that running services send on channel `c`, with the function each belongs to (R351, R519). -/
def sentIds (s : State) (c : Nat) : List (Nat × Nat) :=
  let sp := if s.running Obj.DISPATCH_STATE ∧ s.n Obj.SETPOINT_CHANNEL = c then (setpointIds s).map fun i => (Obj.DISPATCH_STATE, i) else []
  let loops := (List.range 16).filterMap fun n =>
    if s.running (Obj.LOOP_STATE n) ∧ s.n (Obj.OUT_A n) = 0xFE ∧ s.n (Obj.OUT_CAN_CHANNEL n) = c then
      some (Obj.LOOP_STATE n, s.n (Obj.OUT_CAN_ID n)) else none
  let qsf := (List.range 8).filterMap fun n =>
    if s.running Obj.SAFETY_STATE ∧ s.n (Obj.QSF_ROLE n) = 1 ∧ s.n (Obj.QSF_TRANSPORT n) = c then
      some (Obj.SAFETY_STATE, s.n (Obj.QSF_CAN_ID n)) else none
  let idp := if s.ethN Obj.IDP_CAN_ENABLE = 1 ∧ s.ethN Obj.IDP_CAN_CHANNEL = c then [(Obj.ETH_STATE, s.ethN Obj.IDP_CAN_RESP_ID)] else []
  sp ++ loops ++ qsf ++ idp

/-- Whether another running service than `fn` sends one of the identifiers on channel `c` (R519). -/
def idTaken (s : State) (fn c : Nat) (ids : List Nat) : Bool :=
  (sentIds s c).any fun x => x.1 != fn && ids.contains x.2

/-! ### Bit timing and RUN -/

/-- The bit rate of a phase in bit/s (R342). -/
def bitRate (brp t1 t2 : Nat) : Rat := 80000000 / ((brp * (1 + t1 + t2) : Nat) : Rat)

/-- Element `i` of a filter list as kind, route, first, second, whether it is enabled, whether a reserved field is not 0
(Table 14.1). -/
structure Filter where
  enabled : Bool
  kind : Nat
  route : Nat
  first : Nat
  second : Nat
  reserved : Bool
  deriving DecidableEq, Repr

/-- A standard element. -/
def stdFilter (b : Bytes) (i : Nat) : Filter :=
  let w := fieldU b (4 * i) 4
  ⟨bitOf w 31, w / 2 ^ 29 % 4, w / 2 ^ 27 % 4, w / 2 ^ 11 % 2 ^ 11, w % 2 ^ 11, w / 2 ^ 22 % 32 != 0⟩

/-- An extended element. -/
def extFilter (b : Bytes) (i : Nat) : Filter :=
  let w0 := fieldU b (8 * i) 4
  let w1 := fieldU b (8 * i + 4) 4
  ⟨bitOf w0 31, w0 / 2 ^ 29 % 4, w1 / 2 ^ 30 % 4, w0 % 2 ^ 29, w1 % 2 ^ 29, bitOf w1 29⟩

/-- Whether a list element is refused at RUN (R348). -/
def Filter.bad (f : Filter) : Bool :=
  f.reserved || (f.enabled && ((f.kind == 0 && Nat.blt f.second f.first) || f.kind == 3 || f.route == 3))

/-- The elements of a channel's list for a format; an empty list has none enabled. -/
def State.filters (s : State) (c : Nat) (ext : Bool) : List Filter :=
  if ext then (let b := s.bytes (Obj.FILTER_EXT c); (List.range (b.length / 8)).map (extFilter b))
  else (let b := s.bytes (Obj.FILTER_STD c); (List.range (b.length / 4)).map (stdFilter b))

/-- RUN check of a channel (R342, R348). -/
def canRunCheck (c : Nat) (s : State) : Option Abort :=
  let nom := bitRate (s.n (Obj.NOM_BRP c)) (s.n (Obj.NOM_TSEG1 c)) (s.n (Obj.NOM_TSEG2 c))
  let dat := bitRate (s.n (Obj.DATA_BRP c)) (s.n (Obj.DATA_TSEG1 c)) (s.n (Obj.DATA_TSEG2 c))
  let fd := s.b (Obj.FD_ENABLE c)
  if nom < 125000 ∨ 1000000 < nom then some (inconsistent (Obj.NOM_BRP c))
  else if s.n (Obj.NOM_TSEG2 c) < s.n (Obj.NOM_SJW c) then some (inconsistent (Obj.NOM_SJW c))
  else if fd ∧ (8000000 < dat ∨ dat < nom) then some (inconsistent (Obj.DATA_BRP c))
  else if fd ∧ s.n (Obj.DATA_TSEG2 c) < s.n (Obj.DATA_SJW c) then some (inconsistent (Obj.DATA_SJW c))
  else if fd ∧ 2000000 < dat ∧ !s.b (Obj.TDC_ENABLE c) then some (inconsistent (Obj.TDC_ENABLE c))
  else if fd ∧ s.b (Obj.TDC_ENABLE c) ∧ 2 < s.n (Obj.DATA_BRP c) then some (inconsistent (Obj.DATA_BRP c))
  else if (s.filters c false).any Filter.bad then some (inconsistent (Obj.FILTER_STD c))
  else if (s.filters c true).any Filter.bad then some (inconsistent (Obj.FILTER_EXT c))
  else none

/-- RUN of a channel (R344, R346): bus-off recovery begins, detection starts at candidate 0. -/
def canRun (c : Nat) (s : State) : State :=
  let s := ((s.putN (Obj.CAN_DETECTED c) 0xFF).putB (Obj.DATA_CONFIRMED c) false).putB (Obj.DETECT_FAILED c) false
  let detect := s.n (Obj.CAN_MODE c) == cmDetect
  s.modCan c fun x => { x with candidate := if detect then some 0 else none, good := 0, chosen := false, waitIdle := none,
                               recovering := x.recovering || s.n (Obj.CAN_ERROR_STATE c) == 2 }

/-! ### Transmission -/

/-- The valid data lengths of a frame (R340). -/
def lengthValid (fd : Bool) (n : Nat) : Bool := Nat.ble n 8 || (fd && [12, 16, 20, 24, 32, 48, 64].contains n)

/-- The smallest valid FD length that holds `n` bytes (R379). -/
def fdLength (n : Nat) : Nat := if n ≤ 8 then n else ([12, 16, 20, 24, 32, 48, 64].find? fun k => Nat.ble n k).getD 64

/-- A service frame takes the lowest free service buffer, or waits for one. -/
def takeBuffer (c : Nat) (t : SvcTx) (s : State) : State :=
  match (List.range 8).find? fun b => s.n (Obj.TX_STATE c b) != txPending with
  | some b => (s.putN (Obj.TX_STATE c b) txPending).modCan c fun x => { x with svc := amSet x.svc b t }
  | none => s.modCan c fun x => { x with wait := x.wait ++ [t] }

/-- A service sends a frame on one of the two channels: none in STANDBY (R437), suppressed where the channel cannot carry
it (R345), else pending. -/
def sendService (f : CanFrame) (report : Bool) (s : State) : State :=
  let c := f.channel
  if s.standby || !Nat.blt c 2 then s
  else if !s.canUp c || s.canMode c != cmNormal || (f.fd && !s.b (Obj.FD_ENABLE c)) then s.inc (Obj.TX_SUPPRESSED c)
  else takeBuffer c ⟨f, report⟩ s

/-- A service frame from an identifier object (R518). -/
def serviceFrame (c idObj : Nat) (fd : Bool) (data : Bytes) : CanFrame :=
  { channel := c, id := idObj % 2 ^ 29, ext := bitOf idObj 31, rtr := false, fd, brs := false, data }

/-- The frame of an integrator buffer (Table 14.3). -/
def bufferFrame (s : State) (c b : Nat) : CanFrame :=
  let d := s.bytes (Obj.TX_BUFFER c b)
  let id := fieldU d 0 4
  let fl := fieldU d 5 1
  { channel := c, id := id % 2 ^ 29, ext := bitOf id 31, rtr := bitOf id 30, fd := bitOf fl 0, brs := bitOf fl 1,
    data := (slice d 16 64).take (fieldU d 4 1) }

/-- Whether a buffer's content passes the checks of its request (R341, R351). -/
def bufferOk (s : State) (c b : Nat) : Bool :=
  let d := s.bytes (Obj.TX_BUFFER c b)
  let id := fieldU d 0 4
  let fl := fieldU d 5 1
  let fdf := bitOf fl 0
  let resp := if s.ethN Obj.IDP_CAN_ENABLE = 1 ∧ s.ethN Obj.IDP_CAN_CHANNEL = c then [s.ethN Obj.IDP_CAN_REQ_ID] else []
  lengthValid fdf (fieldU d 4 1) && !(fdf && bitOf id 30) && !(bitOf fl 1 && !fdf) &&
  !bitOf id 29 && (bitOf id 31 || id / 2 ^ 11 % 2 ^ 18 == 0) && Nat.blt fl 16 && (slice d 8 8).all (· == 0) &&
  !(fdf && !s.b (Obj.FD_ENABLE c)) &&
  !((sentIds s c).map (·.2) ++ resp).contains (id % 2 ^ 29 + (if bitOf id 31 then 2 ^ 31 else 0))

/-- The buffers of a mask. -/
def maskBuffers (m : Nat) : List Nat := (List.range 32).filter fun b => bitOf m b

/-- TX_REQUEST (R345, R351). -/
def ownTxRequest (c : Nat) (v : Val) (s : State) : Except Abort State :=
  let m := v.toNat
  if m % 256 ≠ 0 then .error (Abort.of aRange 0)
  else if s.canMode c ≠ cmNormal then .error (inconsistent (Obj.CAN_MODE c))
  else match (maskBuffers m).find? fun b => !bufferOk s c b with
    | some b => .error (inconsistent (Obj.TX_BUFFER c b))
    | none => .ok (s.forAll (maskBuffers m) fun b s => s.putN (Obj.TX_STATE c b) txPending)

/-- TX_CANCEL (R353): a pending buffer whose attempt has not begun is CANCELLED; one whose attempt has begun is marked. -/
def ownTxCancel (c begun : Nat) (v : Val) (s : State) : Except Abort State :=
  let m := v.toNat
  if m % 256 ≠ 0 then .error (Abort.of aRange 0) else
  .ok (s.forAll (maskBuffers m) fun b s =>
    if s.n (Obj.TX_STATE c b) ≠ txPending then s
    else if bitOf begun b then s.modCan c fun x => { x with late := b :: x.late.filter (· != b) }
    else s.putN (Obj.TX_STATE c b) txCancelled)

/-- A write to TX_BUFFER (R351): refused while the buffer is PENDING; a buffer in another state is EMPTY again. -/
def ownTxBuffer (c b : Nat) (v : Val) (s : State) : Except Abort State :=
  if s.n (Obj.TX_STATE c b) = txPending then .error (inconsistent (Obj.TX_STATE c b))
  else .ok ((s.put (Obj.TX_BUFFER c b) v).putN (Obj.TX_STATE c b) txEmpty)

/-- The frame in a pending buffer. -/
def pendingFrame (s : State) (c b : Nat) : CanFrame :=
  if b < 8 then (match amGet? (s.canCh c).svc b with
    | some t => t.frame
    | none => bufferFrame s c b)
  else bufferFrame s c b

/-- The rank of a frame in arbitration (R352): eleven bits, then IDE, then eighteen bits. -/
def arbKey (f : CanFrame) : Nat :=
  if f.ext then f.id / 2 ^ 18 * 2 ^ 19 + 2 ^ 18 + f.id % 2 ^ 18 else f.id * 2 ^ 19

/-- The pending buffer that enters arbitration (R352): lowest identifier, then lowest number. -/
def nextBuffer (s : State) (c : Nat) : Option Nat :=
  ((List.range 32).filter fun b => s.n (Obj.TX_STATE c b) == txPending).foldl (fun acc b =>
    match acc with
    | none => some b
    | some a => if arbKey (pendingFrame s c b) < arbKey (pendingFrame s c a) then some b else some a) none

/-- Error counters (R344): TEC and REC. -/
def tecOf (w : Nat) : Nat := w / 65536
def recOf (w : Nat) : Nat := w % 65536

/-- The channel enters bus-off (R344): logged; recovery begins under AUTO. -/
def enterBusOff (c : Nat) (s : State) : State :=
  if s.n (Obj.CAN_ERROR_STATE c) = 2 then s else
  let w := s.n (Obj.CAN_ERROR_COUNTERS c)
  let s := s.putN (Obj.CAN_ERROR_COUNTERS c) (max (tecOf w) 256 * 65536 + recOf w)
  let s := (s.putN (Obj.CAN_ERROR_STATE c) 2).modCan c fun x => { x with recovering := s.n (Obj.BUSOFF_RECOVERY c) == 0 }
  s.logN 0x0901 (0x2810 + c) c (s.n (Obj.CAN_ERROR_COUNTERS c)) 0

/-- The counters take new values and the error state follows (R344, ISO 11898-1). -/
def setCounters (c tec rec : Nat) (s : State) : State :=
  let s := s.putN (Obj.CAN_ERROR_COUNTERS c) (tec * 65536 + rec)
  if 255 < tec then enterBusOff c s
  else if s.n (Obj.CAN_ERROR_STATE c) = 2 then s
  else s.putN (Obj.CAN_ERROR_STATE c) (if 127 < tec ∨ 127 < rec then 1 else 0)

/-- The value of a stamp on a channel's base, with its flags from bit `b` (R354): base P, P_UNSET. -/
def stampBytes (s : State) (c sofL : Nat) : Bytes :=
  leBytes 8 (if s.n (Obj.CAN_STAMP_BASE c) = 1 then (s.stampP sofL).1 else min sofL s.lNow / 10 * 10)
def stampFlags (s : State) (c b sofL : Nat) : Nat :=
  if s.n (Obj.CAN_STAMP_BASE c) = 1 then 2 ^ b + (if (s.stampP sofL).2 then 2 ^ (b + 1) else 0) else 0

/-- The identifier word of a frame (Table 14.2). -/
def idWord (f : CanFrame) : Nat := f.id + (if f.ext then 2 ^ 31 else 0) + (if f.rtr then 2 ^ 30 else 0)

/-- A transmit event is queued (R355). -/
def queueEvent (c b outcome : Nat) (f : CanFrame) (ref : Nat) (sofL : Nat) (s : State) : State :=
  if 16 ≤ (s.canCh c).events.length then s.inc (Obj.TX_EVENT_OVERFLOW c) else
  let e := stampBytes s c sofL ++ leBytes 4 (idWord f) ++ leBytes 2 ref ++ leBytes 1 b ++ leBytes 1 (outcome + stampFlags s c 2 sofL)
  s.modCan c fun x => { x with events := x.events ++ [e] }

/-- A service buffer is free: a waiting frame takes it. -/
def freeService (c : Nat) (s : State) : State :=
  match (s.canCh c).wait with
  | [] => s
  | t :: r => takeBuffer c t (s.modCan c fun x => { x with wait := r })

/-- The number of rate candidates. -/
def candidates? (s : State) (c : Nat) : Nat := (s.bytes (Obj.RATE_CANDIDATES c)).length / 12

/-- The next candidate is applied (R346). -/
def nextCandidate (c : Nat) (s : State) : State :=
  s.modCan c fun x => { x with candidate := x.candidate.map fun i => if i + 1 < candidates? s c then i + 1 else 0, good := 0 }

/-- A data-phase error before DATA_CONFIRMED clears the choice and resumes detection with the next candidate (R346). -/
def unchoose (c : Nat) (s : State) : State :=
  if s.n (Obj.CAN_MODE c) = cmDetect ∧ (s.canCh c).chosen ∧ !s.b (Obj.DATA_CONFIRMED c) then
    nextCandidate c ((s.putN (Obj.CAN_DETECTED c) 0xFF).modCan c fun x => { x with chosen := false })
  else s

/-- What the error of an own frame does to a detection that has chosen (R346). -/
def txError (c : Nat) (o : TxOutcome) (s : State) : State := if o.dataPhase then unchoose c s else s

/-- The measured loop delay places the secondary sample point; more than 255 kernel clocks is a bit error, in the data phase
(R343). -/
def loopDelay (c : Nat) (f : CanFrame) (o : TxOutcome) (s : State) : TxOutcome × State :=
  if !f.fd || !s.b (Obj.TDC_ENABLE c) || o.code == 1 then (o, s)
  else if 255 < o.delay then ({ o with code := 2, dataPhase := true }, s)
  else (o, s.modCan c fun x => { x with ssp := o.delay + s.n (Obj.TDC_OFFSET c) })

/-- A transmit attempt ends (R352, R353, R355), ESI as the error state of the channel says. -/
def txEnd (c b : Nat) (o : TxOutcome) (sofL : Nat) (s : State) : State :=
  let f := pendingFrame s c b
  let (o, s) := loopDelay c f o (s.modCan c fun x => { x with waitIdle := none })
  let d := s.bytes (Obj.TX_BUFFER c b)
  let svc := amGet? (s.canCh c).svc b
  let report := if b < 8 then (svc.map SvcTx.report).getD false else bitOf (fieldU d 5 1) 2
  let ref := if b < 8 then 0 else fieldU d 6 2
  let noRetry := b ≥ 8 && bitOf (fieldU d 5 1) 3
  let late := (s.canCh c).late.contains b
  let w := s.n (Obj.CAN_ERROR_COUNTERS c)
  let done := fun st (s : State) =>
    (s.putN (Obj.TX_STATE c b) st).modCan c fun x => { x with late := x.late.filter (· != b), svc := amErase x.svc b }
  if o.code = 0 then
    let s := (setCounters c (tecOf w - 1) (recOf w) s).emit (.canFrame f (f.fd && s.n (Obj.CAN_ERROR_STATE c) == 1))
    let s := done (if late then txLate else txSent) s
    let s := if report then queueEvent c b (if late then 2 else 1) f ref sofL s else s
    freeService c s
  else
    let s := if o.code = 1 then s else txError c o (setCounters c (tecOf w + (if o.exempt then 0 else 8) + 8 * o.eights) (recOf w) s)
    if late then freeService c (done txCancelled s)
    else if noRetry then done txFailed s
    else s

/-- CAN_TX_DONE: the buffer is the one that arbitration ranks first, or one whose attempt began earlier; none is sent while the
channel waits for bus idle (R340). -/
def canTxDone (c : Nat) (early : Option Nat) (outcome : TxOutcome) (sofL : Nat) (s : State) : State :=
  let b := match early with
    | some b => if b < 32 ∧ s.n (Obj.TX_STATE c b) = txPending then some b else none
    | none => nextBuffer s c
  if !s.canUp c || s.canMode c != cmNormal || s.n (Obj.CAN_ERROR_STATE c) == 2 || !s.idleBy c sofL then s else
  match b with
  | some b => txEnd c b outcome sofL s
  | none => s

/-- CAN_BUS_OFF (R344). -/
def canBusOff (c : Nat) (s : State) : State := if s.canUp c then enterBusOff c s else s

/-- Bus-off recovery completes (R344). -/
def busoffRecovery (c : Nat) (s : State) : State :=
  if !s.canUp c || s.n (Obj.CAN_ERROR_STATE c) != 2 || !(s.canCh c).recovering then s else
  ((s.putN (Obj.CAN_ERROR_STATE c) 0).putN (Obj.CAN_ERROR_COUNTERS c) 0).modCan c fun x => { x with recovering := false }

/-! ### Detection and reception -/

/-- A candidate is chosen: its timings are copied (R346). -/
def choose (c i : Nat) (s : State) : State :=
  let b := slice (s.bytes (Obj.RATE_CANDIDATES c)) (12 * i) 12
  let s := ((s.putN (Obj.NOM_BRP c) (fieldU b 0 2)).putN (Obj.NOM_TSEG1 c) (fieldU b 2 2)).putN (Obj.NOM_TSEG2 c) (fieldU b 4 1)
  let s := ((s.putN (Obj.NOM_SJW c) (fieldU b 5 1)).putN (Obj.DATA_BRP c) (fieldU b 6 1)).putN (Obj.DATA_TSEG1 c) (fieldU b 7 1)
  let s := ((s.putN (Obj.DATA_TSEG2 c) (fieldU b 8 1)).putN (Obj.DATA_SJW c) (fieldU b 9 1)).putN (Obj.CAN_DETECTED c) i
  s.modCan c fun x => { x with chosen := true }

/-- Whether detection is in progress on a channel. -/
def State.detecting (s : State) (c : Nat) : Bool := s.canUp c && s.canMode c == cmDetect && Nat.blt 0 (candidates? s c)

/-- An error in a frame being received (R344, R346); while the channel waits for bus idle it receives none (R340). -/
def canReceiveError (c : Nat) (e : RxError) (s : State) : State :=
  if !s.canHears c || !s.idleBy c s.lNow then s else
  let w := s.n (Obj.CAN_ERROR_COUNTERS c)
  let s := setCounters c (tecOf w) (min (recOf w + (if e.exempt then 0 else 1) + 8 * e.eights) 65535) s
  if s.detecting c then nextCandidate c s
  else if e.dataPhase then unchoose c s
  else s

/-- DETECT_DWELL passes without four error-free frames (R346). -/
def detectDwell (c : Nat) (s : State) : State := if s.detecting c then nextCandidate c s else s

/-- DETECT_TIMEOUT passes (R346). -/
def detectTimeout (c : Nat) (s : State) : State :=
  if !(s.canUp c && s.canMode c == cmDetect) then s else (s.putN (Obj.CAN_STATE c) 2).putB (Obj.DETECT_FAILED c) true

/-- Whether a filter matches an identifier (R348). -/
def Filter.hits (f : Filter) (id : Nat) : Bool :=
  match f.kind with
  | 0 => Nat.ble f.first id && Nat.ble id f.second
  | 1 => id == f.first || id == f.second
  | _ => (id ^^^ f.first) &&& f.second == 0

/-- The first enabled element of a list that matches (R348). -/
def firstHit (l : List Filter) (id : Nat) : Option (Nat × Filter) :=
  ((List.range l.length).zip l).find? fun x => x.2.enabled && x.2.hits id

/-- FIFO_FILL (R350). -/
def showFill (c : Nat) (s : State) : State :=
  s.putN (Obj.FIFO_FILL c) ((s.canCh c).fifo1.length * 256 + (s.canCh c).fifo0.length)

/-- The entry of a frame (Table 14.2). -/
def rxEntry (s : State) (f : CanFrame) (esi : Bool) (hit : Nat) (sofL : Nat) : Bytes :=
  let fl := b2n f.fd + 2 * b2n f.brs + 4 * b2n esi + stampFlags s f.channel 3 sofL
  stampBytes s f.channel sofL ++ leBytes 4 (idWord f) ++ leBytes 1 f.data.length ++ leBytes 1 fl ++
    leBytes 2 ((if f.ext then 0x8000 else 0) + hit) ++ f.data ++ List.replicate (64 - f.data.length) 0

/-- A frame enters a FIFO, 0 or 1 (R350). -/
def enterFifo (c i : Nat) (e : Bytes) (s : State) : State :=
  let q := if i = 0 then (s.canCh c).fifo0 else (s.canCh c).fifo1
  let full := Nat.ble 64 q.length
  let q' := if !full then q ++ [e] else if bitOf (s.n (Obj.FIFO_MODE c)) i then q.drop 1 ++ [e] else q
  let s := if full then s.inc (Obj.FIFO_LOST c) else s
  showFill c (s.modCan c fun x => if i = 0 then { x with fifo0 := q' } else { x with fifo1 := q' })

/-- A received frame is tested against the filter list and routed (R348). -/
def routeFrame (f : CanFrame) (esi : Bool) (sofL : Nat) (s : State) : State :=
  let c := f.channel
  if f.rtr ∧ s.b (Obj.REJECT_REMOTE c) then s else
  let hit := firstHit (s.filters c f.ext) f.id
  let s := match hit with
    | some (i, _) => s.inc (Obj.FILTER_HITS c (i + (if f.ext then 0x80 else 0)))
    | none => s
  let route := match hit with
    | some (_, x) => x.route
    | none => s.n (if f.ext then Obj.NONMATCH_EXT c else Obj.NONMATCH_STD c)
  let e := rxEntry s f esi ((hit.map (·.1)).getD 0x7FFF) sofL
  if route = 1 then enterFifo c 0 e s else if route = 2 then enterFifo c 1 e s else s

/-- A frame received on a channel (R341, R346): the state, and whether the frame is delivered to the services and the filter
list. -/
def canReceive (f : CanFrame) (sofL : Nat) (s : State) : State × Bool :=
  let c := f.channel
  if !s.canHears c || !s.idleBy c sofL then (s, false)
  else if f.fd ∧ !s.b (Obj.FD_ENABLE c) then (canReceiveError c { dataPhase := false } s, false)
  else
    let w := s.n (Obj.CAN_ERROR_COUNTERS c)
    let rec_ := if 127 < recOf w then 127 else recOf w - 1
    let s := setCounters c (tecOf w) rec_ (s.modCan c fun x => { x with waitIdle := none })
    if s.detecting c then
      let g := (s.canCh c).good + 1
      let s := s.modCan c fun x => { x with good := g }
      (if 4 ≤ g then choose c ((s.canCh c).candidate.getD 0) s else s, false)
    else if s.canMode c = cmDetect then (s, false)
    else
      (if (s.canCh c).chosen ∧ f.fd ∧ f.brs then s.putB (Obj.DATA_CONFIRMED c) true else s, true)

/-- A recessive res bit: the controller waits for bus idle (R340). -/
def protocolException (c : Nat) (s : State) : State :=
  if !s.canHears c then s else (s.inc (Obj.PROTOCOL_EXCEPTIONS c)).modCan c fun x => { x with waitIdle := some s.lNow }

/-! ### Reads that pop -/

/-- An empty FIFO entry: its length byte is 0xFF (R350). -/
def emptyRx : Bytes := List.replicate 12 0 ++ [0xFF] ++ List.replicate 67 0
/-- An empty event: OUTCOME 0 (R355). -/
def emptyEvent : Bytes := List.replicate 16 0

/-- The channel and queue of an object whose read pops: 0 and 1 the FIFOs, 2 the events. -/
def popQueue? (key : Nat) : Option (Nat × Nat) :=
  ([0, 1].flatMap fun c => [(Obj.RX_FIFO0_POP c, (c, 0)), (Obj.RX_FIFO1_POP c, (c, 1)), (Obj.TX_EVENT_POP c, (c, 2))]).find?
    (fun x => x.1 == key) |>.map (·.2)

/-- A read of a popping object by a session (R350, R355): at offset 0 the oldest entry is removed and kept; at any other
offset nothing is removed. Answers the entry and the state. -/
def popRead (src : ReqSource) (key c q offset : Nat) (s : State) : Bytes × State :=
  let empty := if q = 2 then emptyEvent else emptyRx
  let kept := ((s.session? src).bind fun x => amGet? x.popped key).getD empty
  if offset ≠ 0 then (kept, s) else
  let l := if q = 0 then (s.canCh c).fifo0 else if q = 1 then (s.canCh c).fifo1 else (s.canCh c).events
  let e := l.head?.getD empty
  let s := s.modCan c fun x =>
    if q = 0 then { x with fifo0 := l.drop 1 } else if q = 1 then { x with fifo1 := l.drop 1 } else { x with events := l.drop 1 }
  (e, showFill c (s.putSession src fun x => { x with popped := amSet x.popped key e }))

end Sys2Proof.Machine
end

