-- ==== Sys2Proof/Machine/FieldIo.lean ====
section
/-!
DEFINITION. Field inputs and outputs (spec/17_field_io.md): pad latches and release, standard inputs, readback, group
supplies, clamps, overload, analog and pulse inputs.
-/

namespace Sys2Proof.Machine

/-- The state with the field side changed. -/
def State.modField (s : State) (f : FieldSt → FieldSt) : State := { s with field := f s.field }

/-- RUN check of the field function (R419, R421). -/
def fieldRunCheck (s : State) : Option Abort :=
  match (List.range 4).find? fun n => (s.v (Obj.AI_IN_LO n)).same (s.v (Obj.AI_IN_HI n)) with
  | some n => some (inconsistent (Obj.AI_IN_HI n))
  | none => ((List.range 2).find? fun n => Nat.blt (s.n (Obj.PI_TIMEOUT n)) (s.n (Obj.PI_GATE n))).map fun n => inconsistent (Obj.PI_TIMEOUT n)

/-- RUN of the field function: the settings act from the next field cycle (R422). -/
def fieldRun (s : State) : State := s.modField fun x => { x with apply := true }

/-- A gate of each pulse input begins now (R421). -/
def newGates (s : State) : State := s.modField fun x => { x with pis := x.pis.map fun _ => { gateL := s.lNow } }

/-- The settings of a RUN of the field function act from this field cycle on (R422), the gates of the pulse inputs among them. -/
def fieldApply (s : State) : State :=
  if s.field.apply then newGates ((adoptStaged Obj.FIELD_STATE s).modField fun x => { x with apply := false }) else s

/-- STOP of the field function (R422): the settings in force stay, those of a RUN just accepted among them. -/
def fieldStop (s : State) : State := fieldApply s

/-! ### Standard inputs -/

/-- Whether input `n` is filtered on (R414). -/
def State.di (s : State) (n : Nat) : Bool := bitOf (s.n Obj.DI_STATE) n

/-- The filtered value of input `n` changes: DI_EDGES counts (R414). -/
def setDi (n : Nat) (q : Bool) (s : State) : State :=
  if s.di n = q then s else (s.putN Obj.DI_STATE (withBit (s.n Obj.DI_STATE) n q)).inc (Obj.DI_EDGES n)

/-- The counter of an input after a sample (R413). -/
def diCount (n c : Nat) (sample : Bool) : Nat := if sample then min (min c n + 1) n else min c n - 1

/-- One tick of input `n` (R413). -/
def diTick (n : Nat) (sample : Bool) (s : State) : State :=
  let lim := s.n (Obj.DI_FILTER n)
  let c := diCount lim (nth s.field.counters n 0) sample
  let s := s.modField fun x => { x with counters := x.counters.set n c }
  if c = lim then setDi n true s else if c = 0 then setDi n false s else s

/-- DI_CHANGE as an event: the filtered value of an input changes and reaches its users (R414). -/
def diChange (n : Nat) (q : Bool) (s : State) : State :=
  let lim := s.n (Obj.DI_FILTER n)
  setDi n q (s.modField fun x => { x with counters := x.counters.set n (if q then lim else 0) })

/-! ### Analog inputs -/

/-- The valid range of a mode (R420). -/
def aiRange (mode : Nat) : Rat × Rat := if mode = 0 then (-1 / 2, 21 / 2) else (36 / 10, 21)

/-- Whether AI `n` is valid (R420). -/
def State.aiValid (s : State) (n : Nat) : Bool := Nat.blt n 4 && s.n (Obj.AI_STATUS n) == 0

/-- The filter after a raw value (R419): unchanged for AI_FILTER = 0, else first order with that time constant. -/
def aiFilter (ms : Nat) (old : Option Rat) (x : Rat) : Rat :=
  match old with
  | none => x
  | some y => if ms = 0 then x else y + (1 - realExp (-(1 / (ms : Rat)))) * (x - y)

/-- AI `n` takes a filter value and publishes it (R419). -/
def aiPublish (n : Nat) (x : Rat) (s : State) : State :=
  let lo := s.q (Obj.AI_IN_LO n)
  let hi := s.q (Obj.AI_IN_HI n)
  let elo := s.q (Obj.AI_ENG_LO n)
  let ehi := s.q (Obj.AI_ENG_HI n)
  let s := s.modField fun y => { y with aiF := y.aiF.set n (some x) }
  s.putQ (Obj.AI_VALUE n) (elo + (x - lo) * (ehi - elo) / (hi - lo))

/-- AI `n` becomes VALID: the filter restarts from x (R420). -/
def aiBecomesValid (n : Nat) (s : State) : State := aiPublish n (s.q (Obj.AI_RAW n)) (s.putN (Obj.AI_STATUS n) 0)

/-- The raw value of the ten samples of a field cycle (R419): their average. -/
def aiRaw (l : List Rat) : Rat := l.sum / (l.length : Rat)

/-- AI `n` at the end of a field cycle (R419, R420). -/
def aiCycle (n : Nat) (x : Rat) (s : State) : State :=
  let (lo, hi) := aiRange (s.n (Obj.AI_MODE n))
  let s := s.putQ (Obj.AI_RAW n) x
  if x < lo ∨ hi < x then
    (s.putN (Obj.AI_STATUS n) (if x < lo then 1 else 2)).modField fun y => { y with aiMs := y.aiMs.set n 0, aiF := y.aiF.set n none }
  else
    let ms := nth s.field.aiMs n 0 + 1
    let s := s.modField fun y => { y with aiMs := y.aiMs.set n ms }
    if s.aiValid n then aiPublish n (aiFilter (s.n (Obj.AI_FILTER n)) (nth s.field.aiF n none) x) s
    else if 100 ≤ ms then aiBecomesValid n s
    else s.putN (Obj.AI_STATUS n) 3

/-- AI_SETTLED as an event: an input in range has been so for 100 ms (R420). -/
def aiSettled (n : Nat) (s : State) : State := if s.n (Obj.AI_STATUS n) = 3 then aiBecomesValid n s else s

/-! ### Pulse inputs -/

/-- Whether PI `n` is valid (R421). -/
def State.piValid (s : State) (n : Nat) : Bool := Nat.blt n 2 && s.n (Obj.PI_STATUS n) == 0

/-- A pulse input in its gate. -/
def State.pi (s : State) (n : Nat) : PiSt := nth s.field.pis n {}
def State.setPi (s : State) (n : Nat) (x : PiSt) : State := s.modField fun y => { y with pis := y.pis.set n x }

/-- The high time in ns of the complete periods between rising edges: each from its rise to the fall after it (R421). -/
def piHigh (falls : List Nat) : List Nat → Nat
  | a :: b :: l => min b ((falls.find? fun f => Nat.blt a f).getD b) - a + piHigh falls (b :: l)
  | _ => 0

/-- What the edges of a gate, in ns of base L, measure (R421): frequency in Hz and duty in %; nothing with fewer than two rises. -/
def piMeasure (rises falls : List Nat) : Option (Rat × Rat) :=
  match rises.head?, rises.getLast? with
  | some a, some b =>
    if b ≤ a then none else
    let span : Rat := (b : Rat) - a
    some (((rises.length : Rat) - 1) * 1000000000 / span, 100 * (piHigh falls rises : Rat) / span)
  | _, _ => none

/-- The gate of PI `n` with the edges that have come since, those before its start left out. -/
def piEdges (n : Nat) (rises falls : List Nat) (s : State) : PiSt :=
  let x := s.pi n
  { x with rises := x.rises ++ rises.filter fun t => Nat.ble x.gateL t, falls := x.falls ++ falls.filter fun t => Nat.ble x.gateL t }

/-- What the end of a gate of PI `n` measures; nothing in DEGRADED_CLOCK (R421). -/
def piResult (n : Nat) (rises falls : List Nat) (s : State) : Option (Rat × Rat) :=
  if s.degraded then none else let x := piEdges n rises falls s; piMeasure x.rises x.falls

/-- A measurement of PI `n` is published (R421): above 110 kHz it is invalid and the values stay. -/
def piPublish (n : Nat) (hz duty : Rat) (s : State) : State :=
  if 110000 < hz then s.putN (Obj.PI_STATUS n) 2
  else ((s.putN (Obj.PI_STATUS n) 0).putQ (Obj.PI_FREQ n) hz).putQ (Obj.PI_DUTY n) duty

/-- A gate of PI `n` ends with the edges that have come since the latest such end (R421): the next gate starts where it ends; one
with fewer than two rises is extended. -/
def piGateEnd (n : Nat) (rises falls : List Nat) (s : State) : State :=
  if s.degraded then (s.setPi n { gateL := s.lNow }).putN (Obj.PI_STATUS n) 3 else
  match piResult n rises falls s with
  | none => s.setPi n (piEdges n rises falls s)
  | some (hz, duty) => piPublish n hz duty (s.setPi n { gateL := s.lNow })

/-- PI_TIMEOUT without two edges (R421): the gate ends, the next one starts (DEDUCED, log entry 191). -/
def piTimeout (n : Nat) (s : State) : State := (s.setPi n { gateL := s.lNow }).putN (Obj.PI_STATUS n) (if s.degraded then 3 else 1)

/-! ### Contactor and standard outputs -/

/-- The group of a contactor output (R415). -/
def koGroup (m : Nat) : Nat := m / 8

/-- Readback in use (R417): both comparators where they agree, else the value before. -/
def resolveKo (x y old : Nat) : Nat := maskOf 48 fun m => if bitOf x m == bitOf y m then bitOf x m else bitOf old m

/-- Whether the readback of output `m` is on. -/
def State.koOn (s : State) (m : Nat) : Bool := bitOf s.field.ko m

/-- Group paths: a tripped path whose supply has been gone for 1 s is whole again (R504); KG_SUPPLY_OK (R415). -/
def groupCycle (kg : Nat) (s : State) : State :=
  let t := s.field.tripped.filterMap fun x =>
    let ms := if bitOf kg x.1 then 0 else x.2 + 1
    if 1000 ≤ ms then none else some (x.1, ms)
  let ok := maskOf 6 fun g => bitOf kg g && !(t.any fun x => x.1 == g)
  (s.modField fun x => { x with tripped := t }).putN Obj.KG_SUPPLY_OK (ok % 2 ^ (s.asBuilt.contactors / 8))

/-- A group path trips (R504). -/
def kgPathTrip (g : Nat) (s : State) : State :=
  (s.modField fun x => { x with tripped := amSet x.tripped g 0 }).putN Obj.KG_SUPPLY_OK (withBit (s.n Obj.KG_SUPPLY_OK) g false)

/-- A measurement of the group currents enters the running window (R415). -/
def kgMeasure (amps : List Rat) (s : State) : State :=
  s.modField fun x => { x with kgSum := (List.range 6).map fun g => nth x.kgSum g 0 + nth amps g 0, kgCount := x.kgCount + 1 }

/-- The mean current of each group over the running window (R415). -/
def kgMeans (s : State) : List Rat := (List.range 6).map fun g => nth s.field.kgSum g 0 / (s.field.kgCount : Rat)

/-- The end of a 1 s window of group currents with the measurement that closes it (R415; log entry 190). DESIGN CHOICE (log entry 115): on
IBX-4096-S, whose groups 3 to 5 do not exist, KG_CURRENT keeps its 24 bytes with 0 for them. -/
def kgWindowEnd (last : List Rat) (s : State) : State :=
  let s := kgMeasure last s
  let means := kgMeans s
  let s := s.modField fun x => { x with kgSum := [], kgCount := 0 }
  let s := s.putBytes Obj.KG_CURRENT ((List.range 6).flatMap fun g => f32Bytes (.real (if g < s.asBuilt.contactors / 8 then nth means g 0 else 0)))
  s.each (s.asBuilt.contactors / 8) fun g s =>
    let i := nth means g 0
    if 10 < i then (s.inc Obj.KG_OVERLOADS).logEx 0x0C01 0x2B00 g (.real i) (.int 0) (.int 0) else s

/-- A switch-off clamp of output `m` ends (R416): its energy, the average of the last 60 s. -/
def koClampMeasured (m : Nat) (current time : Rat) (s : State) : State :=
  let e := 48 * current * time / 2
  let past := (amGetD s.field.clamps m []).filter fun x => Nat.ble (s.lNow - x.1) 60000000000
  let all := (s.lNow, e) :: past
  let s := (s.putQ (Obj.KO_CLAMP_ENERGY m) e).modField fun x => { x with clamps := amSet x.clamps m all }
  if 12 / 10 < e ∨ 6 / 10 * 60 < (all.map (·.2)).sum then
    (s.inc Obj.KO_CLAMP_EXCESS).logEx 0x0C02 0x2B00 m (.real e) (.int 0) (.int 0)
  else s

/-- A DO driver switches off at its overtemperature (R418): only a conducting channel heats. -/
def doOvertemp (n : Nat) (s : State) : State :=
  if bitOf s.field.doPad n then
    (s.putN Obj.DO_OVERLOAD (withBit (s.n Obj.DO_OVERLOAD) n true)).modField fun x => { x with doLow := amErase x.doLow n }
  else s

/-- FIELD_RELEASE (R411): the latches give way at the next field cycle. -/
def ownFieldRelease (_ : Val) (s : State) : Except Abort State :=
  .ok (if s.b Obj.FIELD_LATCHED then s.modField fun x => { x with release := true } else s)

/-- The readback of the contactor outputs that the part has (R3, R417); `old` is the readback in use before. -/
def readbackCycle (x : FieldSample) (old : Nat) (s : State) : State :=
  let bx := x.koX % 2 ^ s.asBuilt.contactors
  let bY := x.koY % 2 ^ s.asBuilt.contactors
  ((s.putN Obj.KO_READBACK_X bx).putN Obj.KO_READBACK_Y bY).modField fun y => { y with ko := resolveKo bx bY old }

/-- The inputs, readback and supplies of a field cycle (R408). -/
def fieldInputs (x : FieldSample) (s : State) : State :=
  let s := fieldApply s
  let s := s.forAll (x.di.take 10) fun m s => s.each 32 fun n s => diTick n (bitOf m n) s
  let s := readbackCycle x s.field.ko s
  let s := kgMeasure x.kgA (groupCycle x.kg s)
  s.each 4 fun n s => match x.ai[n]? with
    | some l => aiCycle n (aiRaw l) s
    | none => s

/-- The field side stops: pads off, latches cleared (R408). -/
def fieldOff (s : State) : State :=
  (s.putB Obj.FIELD_LATCHED true).modField fun x => { x with powered := false, koLatch := 0, doLatch := 0, release := false }

/-- The field side restarts with its first samples (R408, R413, R420, R421); in service the pads are released at once where
FIELD_RELEASE_AUTO says so (R411). -/
def fieldRestart (x : FieldSample) (s : State) : State :=
  let first := x.di.head?.getD 0
  let s := adoptIf (fun k => k / 65536 == Obj.DI_FILTER 0 / 65536) (fieldApply s)
  let s := (s.putB Obj.FIELD_LATCHED true).putB Obj.FIELD_SUPPLY_FAULT false
  let s := (s.putN Obj.DI_STATE (first % 2 ^ 32)).putN Obj.DO_OVERLOAD 0
  let s := s.modField fun y => { y with
    powered := true, koLatch := 0, doLatch := 0, doLow := [], tripped := [], kgSum := [], kgCount := 0, aiMs := [0, 0, 0, 0], aiF := [none, none, none, none] }
  let s := s.modField fun y => { y with
    counters := (List.range 32).map fun n => if bitOf first n then s.n (Obj.DI_FILTER n) else 0,
    release := (s.pow.phase == 0 || s.pow.phase == 5 && s.pow.step == 7) && s.b Obj.FIELD_RELEASE_AUTO && !s.pow.releaseWait }
  let s := s.each 4 fun n s =>
    let v := aiRaw (nth x.ai n [])
    let (lo, hi) := aiRange (s.n (Obj.AI_MODE n))
    ((s.putQ (Obj.AI_RAW n) v).putQ (Obj.AI_VALUE n) 0).putN (Obj.AI_STATUS n) (if v < lo then 1 else if hi < v then 2 else 3)
  let s := s.each 2 fun n s => s.putN (Obj.PI_STATUS n) (if s.degraded then 3 else 1)
  newGates (groupCycle x.kg (readbackCycle x 0 s))

/-- The barrier supply has been outside its limits for 1 ms (R408): the field side loses its power. -/
def fieldSupplyFault (s : State) : State := fieldOff (s.putB Obj.FIELD_SUPPLY_FAULT true)

/-- What a reset of the controller die does to the pads (R410): the latches keep their levels. -/
def latchPads (s : State) : State :=
  (s.putB Obj.FIELD_LATCHED true).modField fun x => { x with release := false, adopt := true }

end Sys2Proof.Machine
end

