-- ==== Sys2Proof/Machine/Loops.lean ====
section
/-!
DEFINITION. The thermal loop engine (spec/10_thermal_loops.md): sensed values and set-points, the BAND and CARRY laws,
regions, hand-over, the plant model, faults and fallback, the output frame.
-/

namespace Sys2Proof.Machine

/-- Loop `n`. -/
def State.loop (s : State) (n : Nat) : LoopSt := nth s.loops n {}
/-- The state with loop `n` changed. -/
def State.modLoop (s : State) (n : Nat) (f : LoopSt → LoopSt) : State := { s with loops := s.loops.set n (f (s.loop n)) }

/-- The laws (R253). -/
def lawBand : Nat := 0
def lawCarry : Nat := 1

/-- The value an accumulator starts from (R248). -/
def halfTurn : Nat := 0x80000000

/-- Whether a loop acts: RUNNING or in FAULT, the engine RUNNING (R241, R256). -/
def State.loopActs (s : State) (n : Nat) : Bool :=
  s.running Obj.THERMAL_STATE && (s.n (Obj.LOOP_STATE n) == 1 || s.n (Obj.LOOP_STATE n) == 2)

/-- Whether output A of a loop is the CAN output (R250). -/
def State.loopCan (s : State) (n : Nat) : Bool := s.n (Obj.OUT_A n) == 0xFE

/-! ### Sensed value and set-point -/

/-- An attempt to update the sensed value of a loop (R243): a value, or none where it does not count. -/
def senseUpdate (n : Nat) (v : Option Rat) (s : State) : State :=
  match v with
  | some q =>
    let stale := Nat.ble (s.n (Obj.SENSE_TIMEOUT n)) ((s.lNow - (s.loop n).senseL) / 1000000)
    s.modLoop n fun x => { x with sensed := some q, senseL := s.lNow, updated := true, bad := false, modelInit := x.modelInit || stale,
                                  plausL := if stale then none else x.plausL }
  | none => s.modLoop n fun x => { x with bad := true, modelInit := true, plausL := none }

/-- The largest of some numbers. -/
def maxOf : List Rat → Option Rat
  | [] => none
  | a :: r => some (r.foldl rmax a)

/-- The maximum sensor temperature of a zone (Table 10.1). -/
def zoneSensor (s : State) (z : Nat) : Option Rat :=
  maxOf ((s.fittedSensors.filter fun n => s.coolingZone n == z && (s.sensorMeasures n || bitOf (s.n (Obj.SENSOR_FLAGS n)) 1)).filterMap
    fun n => (s.v (Obj.SENSOR_TEMP n)).toRat?)

/-- The maximum core temperature of a zone (Table 10.1). -/
def zoneCore (s : State) (z : Nat) : Option Rat :=
  if s.n Obj.CUSTODY_STATE = cuWait then none else
  maxOf ((s.mappedCells.filter fun x =>
      s.coolingZone (s.nearestSensor x.1) == z && !s.estFlag x.1 efCold && !s.estFlag x.1 efReinit).filterMap
    fun x => (s.v (Obj.CORE_TEMP x.1)).toRat?)

/-- String power in kW over one string or all, as the latest sweep tail left it (R251). -/
def stringPower (s : State) (arg : Nat) : Rat :=
  let l := if arg = 0xFF then List.range s.asBuilt.strings else [arg]
  rabs ((l.map fun n => (s.str n).power).sum) / 1000

/-- The powers of the strings at the sweep tail (R251), each with the last valid STRING_VOLTAGE, 0 before there is one. -/
def powersTail (s : State) : State :=
  s.each s.asBuilt.strings fun n s => s.modStr n fun x => { x with power := s.q (Obj.STRING_I_MEAN n) * x.validVolt }

/-- What the sweep tail gives the loops (Table 10.1). -/
def loopsTail (s : State) : State :=
  s.each 16 fun n s =>
    if !s.loopActs n then s else
    let z := s.n (Obj.LOOP_ZONE n)
    match s.n (Obj.SENSE_SOURCE n) with
      | 2 => senseUpdate n (s.v (Obj.SENSOR_TEMP (s.n (Obj.SENSE_ARG n)))).toRat? s
      | 3 => senseUpdate n (zoneSensor s z) s
      | 4 => senseUpdate n (zoneCore s z) s
      | _ => s

/-- A CAN frame updates the coolant temperature of the loops that configured it (R242, R243). -/
def senseCan (f : CanFrame) (s : State) : State :=
  s.each 16 fun n s =>
    if !s.loopActs n || s.n (Obj.SENSE_SOURCE n) != 1 || !frameOn f (s.n (Obj.SENSE_CAN_CHANNEL n)) (s.n (Obj.SENSE_CAN_ID n)) then s else
    let o := s.n (Obj.SENSE_CAN_OFFSET n)
    senseUpdate n (if o + 2 ≤ f.data.length then some ((fieldI f.data o 2 : Rat) / 100) else none) s

/-- The source input of the set-point (R244); none where it is not valid. -/
def spInput (s : State) (n : Nat) : Option Rat :=
  let src := s.n (Obj.SP_SOURCE n)
  let lin := fun (x : Rat) =>
    let lo := s.q (Obj.SP_IN_LO n)
    let hi := s.q (Obj.SP_IN_HI n)
    s.q (Obj.SP_LO n) + (x - lo) * (s.q (Obj.SP_HI n) - s.q (Obj.SP_LO n)) / (hi - lo)
  if src = 0 then some (s.q (Obj.SP_VALUE n))
  else if src ≤ 4 then (if s.aiValid (src - 1) then some (lin (s.q (Obj.AI_VALUE (src - 1)))) else none)
  else if src ≤ 6 then (if s.piValid (src - 5) then some (lin (s.q (Obj.PI_FREQ (src - 5)))) else none)
  else if s.piValid (src - 7) then some (lin (s.q (Obj.PI_DUTY (src - 7)))) else none

/-- LOOP_FLAGS with a bit at a value. -/
def setLoopFlag (n bit : Nat) (b : Bool) (s : State) : State :=
  s.putN (Obj.LOOP_FLAGS n) (withBit (s.n (Obj.LOOP_FLAGS n)) bit b)

/-- The sensed value and the set-point at the start of a tick (R243, R244). -/
def takeInputs (n : Nat) (s : State) : State :=
  let s := if s.n (Obj.SENSE_SOURCE n) = 0 then
      (let a := s.n (Obj.SENSE_ARG n); senseUpdate n (if s.aiValid a then some (s.q (Obj.AI_VALUE a)) else none) s) else s
  let s := match spInput s n with
    | some v => (s.modLoop n fun x => { x with setpoint := some (rclamp (s.q (Obj.SP_MIN n)) (s.q (Obj.SP_MAX n)) v) }) |> setLoopFlag n 1 false
    | none => setLoopFlag n 1 true s
  let x := s.loop n
  let s := (s.put (Obj.SENSED n) (Val.ofRat? x.sensed)).put (Obj.SETPOINT n) (Val.ofRat? x.setpoint)
  setLoopFlag n 0 (x.bad || x.sensed.isNone || Nat.ble (s.n (Obj.SENSE_TIMEOUT n)) ((s.lNow - x.senseL) / 1000000)) s

/-- The error of a loop (R245); none before both of its terms exist. -/
def loopError (s : State) (n : Nat) : Option Rat :=
  match (s.loop n).sensed, (s.loop n).setpoint with
  | some t, some p => some (if s.n (Obj.LOOP_ACTION n) = 0 then t - p else p - t)
  | _, _ => none

/-! ### Regions -/

/-- The scheduling value (R251); it may be infinite where the host writes it so. -/
def schedValue (s : State) (n : Nat) : Option Val :=
  match s.n (Obj.SCHED_SOURCE n) with
  | 1 => some (.real (stringPower s (s.n (Obj.SCHED_ARG n))))
  | 2 => if s.aiValid (s.n (Obj.SCHED_ARG n)) then some (s.v (Obj.AI_VALUE (s.n (Obj.SCHED_ARG n)))) else none
  | _ => some (s.v (Obj.SCHED_VALUE n))

/-- The thresholds in use (R251). -/
def schedThresholds (s : State) (n : Nat) : List Val :=
  [s.v (Obj.SCHED_T1 n), s.v (Obj.SCHED_T2 n), s.v (Obj.SCHED_T3 n)].take (s.n (Obj.REGION_COUNT n) - 1)

/-- The region goes down while the value lies below a threshold less the hysteresis (R251). -/
def regionDown (v h : Val) (t : List Val) : Nat → Nat
  | 0 => 0
  | r + 1 => if v.lt ((nth t r .nan).minus h) then regionDown v h t r else r + 1

/-- The region for a value (R251). -/
def regionFor (v h : Val) (t : List Val) (r : Nat) : Nat :=
  let up := (t.filter fun x => x.lt v).length
  if r < up then up else regionDown v h t r

/-- The region is selected at the start of a tick (R251), among the REGION_COUNT that there are. -/
def selectRegion (n : Nat) (s : State) : State :=
  let old := s.n (Obj.REGION n)
  let t := schedThresholds s n
  let r := if s.n (Obj.SCHED_SOURCE n) = 0 then 0 else
    match schedValue s n with
    | some v => regionFor v (s.v (Obj.SCHED_HYST n)) t (min old t.length)
    | none => min old t.length
  if r = old then s else (s.putN (Obj.REGION n) r).inc (Obj.REGION_CHANGES n)

/-! ### Laws -/

/-- Milliseconds of base L since an instant. -/
def State.msSince (s : State) (t : Nat) : Nat := (s.lNow - t) / 1000000

/-- BAND advances (R247); answers whether it made a transition. -/
def bandStep (n : Nat) (s : State) : State × Bool :=
  match loopError s n with
  | none => (s, false)
  | some e =>
    let r := s.n (Obj.REGION n)
    let b := s.q (Obj.BAND_HALF n r)
    let on := s.b (Obj.BAND_OUT n)
    let want := if b < e then true else if e < -b then false else on
    let dwell := s.n (if on then Obj.MIN_ON n r else Obj.MIN_OFF n r)
    if want ≠ on ∧ dwell ≤ s.msSince (s.loop n).bandL then
      (((s.putB (Obj.BAND_OUT n) want).inc (Obj.BAND_SWITCHES n)).modLoop n fun x => { x with bandL := s.lNow }, true)
    else (s, false)

/-- The increment of CARRY (R248). -/
def carryInc (g b e : Rat) : Int :=
  let e' := if rabs e ≤ b then 0 else e
  let i := rround (g * e')
  max (-(2 ^ 31 - 1)) (min (2 ^ 31 - 1) i)

/-- The accumulator after an increment, and the wrap it made: 1, −1 or 0 (R248). -/
def carryAcc (acc : Nat) (inc : Int) : Nat × Int :=
  let sum := (acc : Int) + inc
  (twos 32 sum, if 0 < inc ∧ 2 ^ 32 ≤ sum then 1 else if inc < 0 ∧ sum < 0 then -1 else 0)

/-- A wrap enters PENDING, or is dropped at its limit (R249). -/
def addWrap (n : Nat) (w : Int) (s : State) : State :=
  let p := s.i (Obj.PENDING n) + w
  if w = 0 then s else if p.natAbs ≤ 65535 then s.putI (Obj.PENDING n) p else s.inc (Obj.CARRY_DROPPED n)

/-- CARRY advances (R248, R249); answers whether it wrapped. -/
def carryStep (n : Nat) (s : State) : State × Bool :=
  match loopError s n with
  | none => (s, false)
  | some e =>
    let r := s.n (Obj.REGION n)
    let (acc, w) := carryAcc (s.n (Obj.ACCUMULATOR n)) (carryInc (s.q (Obj.GAIN n r)) (s.q (Obj.BAND_HALF n r)) e)
    (addWrap n w (s.putN (Obj.ACCUMULATOR n) acc), w != 0)

/-- The law or the manual request of a tick (R246, R253); answers whether its own event occurred. -/
def lawStep (n : Nat) (s : State) : State × Bool :=
  let x := s.loop n
  if x.manual then
    let s := if x.law = lawCarry then
        s.putI (Obj.PENDING n) (max (-65535) (min 65535 (s.i (Obj.PENDING n) + x.manuals.sum))) else s
    (s, !x.manuals.isEmpty)
  else if x.law = lawBand then bandStep n s else carryStep n s

/-- A change of law or of mode written since the last tick starts a hand-over, or replaces the new law of one (R253). -/
def takeChange (n : Nat) (s : State) : State :=
  let x := s.loop n
  let law := s.n (Obj.LAW_REQ n)
  let man := s.b (Obj.MANUAL n)
  if x.law = law ∧ x.manual = man then s else
  let heldA := if x.handover.isSome then x.heldA else x.outA
  let heldB := if x.handover.isSome then x.heldB else x.outB
  let heldLevel := if x.handover.isSome then x.heldLevel else x.law == lawBand
  let s := if law = lawCarry ∧ x.law ≠ lawCarry then s.putN (Obj.ACCUMULATOR n) halfTurn else s
  let s := if law = lawBand ∧ !man then s.putB (Obj.BAND_OUT n) heldA else s
  s.modLoop n fun y => { y with law, manual := man, heldA, heldB, heldLevel, handover := some (x.handover.getD s.lNow),
                                bandL := if law = lawBand ∧ !man then s.lNow else y.bandL }

/-! ### Driving -/

/-- PULSE_COUNT changes by `k`, POSITION follows within 0 to PULSES_FULL (R249, R255). -/
def countPulses (n : Nat) (k : Int) (s : State) : State :=
  let pos := max 0 (min (s.n (Obj.PULSES_FULL n) : Int) (s.n (Obj.POSITION n) + k))
  (s.putI (Obj.PULSE_COUNT n) (signedOf 64 (twos 64 (s.i (Obj.PULSE_COUNT n) + k)))).putI (Obj.POSITION n) pos

/-- One tick of pulse emission from a pending count (R249, R250, R256). -/
def emitPulses (n pend : Nat) (s : State) : State :=
  let p := s.i pend
  if s.loopCan n then (if p = 0 then s else countPulses n p (s.putI pend 0)) else
  let w := s.n (Obj.PULSE_WIDTH n)
  let slot := (s.loop n).slot - 1
  let s := s.modLoop n fun x => { x with slot }
  if slot ≠ 0 then s
  else if 0 < p then countPulses n 1 ((s.putI pend (p - 1)).modLoop n fun x => { x with slot := 2 * w, slotB := false })
  else if p < 0 ∧ s.n (Obj.OUT_B n) ≠ 0xFF then
    countPulses n (-1) ((s.putI pend (p + 1)).modLoop n fun x => { x with slot := 2 * w, slotB := true })
  else s

/-- Whether a pulse is high on a line, A or B. -/
def pulseHigh (s : State) (n : Nat) (b : Bool) : Bool :=
  let x := s.loop n
  !s.loopCan n && x.slotB == b && Nat.blt (s.n (Obj.PULSE_WIDTH n)) x.slot

/-- The lines of a loop take levels. -/
def drive (n : Nat) (a b : Bool) (s : State) : State := s.modLoop n fun x => { x with outA := a, outB := b }

/-- The level a BAND loop drives when no hand-over holds it: the state, or in MANUAL the manual level (R253). -/
def bandLevel (s : State) (n : Nat) : Bool := if (s.loop n).manual then s.i (Obj.MANUAL_OUT n) != 0 else s.b (Obj.BAND_OUT n)

/-- The law drives the output (R246, R249). -/
def driveLaw (n : Nat) (s : State) : State :=
  if (s.loop n).law = lawBand then drive n (bandLevel s n) false (s.modLoop n fun x => { x with slot := 0 })
  else
    let s := emitPulses n (Obj.PENDING n) s
    drive n (pulseHigh s n false) (pulseHigh s n true) s

/-- The held output is driven; pulses of the old law run on (R253). -/
def driveHeld (n : Nat) (s : State) : State :=
  let s := emitPulses n (Obj.PENDING n) s
  let x := s.loop n
  drive n (pulseHigh s n false || x.heldA) (pulseHigh s n true || x.heldB) s

/-- The hand-over is ended by force (R254). -/
def forceHandover (n : Nat) (s : State) : State :=
  let x := s.loop n
  if x.handover.isNone then s else
  let a := if x.law = lawBand then bandLevel s n else false
  let s := (s.inc (Obj.HANDOVER_FORCED n)).modLoop n fun y => { y with handover := none, slot := 0 }
  if a ≠ x.heldA ∨ x.heldB then
    (setLoopFlag n 3 true s).logN 0x0501 (0x2510 + n) n (b2n x.heldA + 2 * b2n x.heldB) (b2n a)
  else s

/-! ### Fault, model, status -/

/-- A loop enters FAULT with a cause (R256). -/
def faultLoop (n cause : Nat) (s : State) : State :=
  if s.n (Obj.LOOP_STATE n) ≠ 1 then s else
  let full : Int := s.n (Obj.PULSES_FULL n)
  let carry := (s.loop n).law == lawCarry
  let s := ((s.putN (Obj.LOOP_STATE n) 2).putN (Obj.FAULT_CAUSE n) cause).putI (Obj.PENDING n) 0
  let s := if carry then
      (match s.n (Obj.FALLBACK n) with
       | 1 => s.putI (Obj.FALLBACK_PENDING n) full
       | 2 => s.putI (Obj.FALLBACK_PENDING n) (-full)
       | _ => s) else s
  (s.modLoop n fun x => { x with handover := none, manual := false, plausL := none }).logN 0x0502 (0x2510 + n) n cause 0

/-- The fallback of a tick in FAULT (R256). -/
def driveFallback (n : Nat) (s : State) : State :=
  match s.n (Obj.FALLBACK n) with
  | 0 => s
  | k =>
    if (s.loop n).law = lawBand then drive n (k == 1) false s
    else
      let s := emitPulses n (Obj.FALLBACK_PENDING n) s
      drive n (pulseHigh s n false) (pulseHigh s n true) s

/-- The plant model advances; a residual beyond the limit for PLAUS_TIME faults the loop (R255). The actuator as driven is a level
under BAND, pulses under CARRY, and through a hand-over what the law before it drove (R253). -/
def modelStep (n : Nat) (s : State) : State :=
  let x := s.loop n
  let full : Rat := (s.n (Obj.PULSES_FULL n) : Rat)
  let level := if x.handover.isSome then x.heldLevel else x.law == lawBand
  let (u, s) := if level then ((b2n x.outA : Rat), s)
    else if full = 0 then s.freshQ else ((s.n (Obj.POSITION n) : Rat) / full, s)
  let target := s.q (Obj.MODEL_T_OFF n) + u * (s.q (Obj.MODEL_T_ON n) - s.q (Obj.MODEL_T_OFF n))
  let advanced := x.model + 1 / 1000 / s.q (Obj.MODEL_TAU n) * (target - x.model)
  let fresh := x.updated && x.modelInit
  let m := match x.sensed with
    | some t => if fresh then t else advanced
    | none => advanced
  let s := s.modLoop n fun y => { y with model := m, modelInit := y.modelInit && !fresh }
  let s := if x.sensed.isSome then s.putQ (Obj.MODEL_PREDICTION n) m else s
  match x.sensed with
  | none => s
  | some t =>
    if !x.updated then s else
    let r := t - m
    let s := s.putQ (Obj.PLAUS_RESIDUAL n) r
    let lim := s.q (Obj.PLAUS_LIMIT n)
    if lim = 0 ∨ rabs r ≤ lim then s.modLoop n fun y => { y with plausL := none }
    else
      let since := x.plausL.getD s.lNow
      let s := s.modLoop n fun y => { y with plausL := some since }
      if s.n (Obj.PLAUS_TIME n) ≤ s.msSince since then faultLoop n 2 s else s

/-- LOOP_FLAGS at the end of a tick (R261). -/
def showLoop (n : Nat) (s : State) : State :=
  let x := s.loop n
  let neg := decide (s.i (Obj.PENDING n) < 0) && s.n (Obj.OUT_B n) == 0xFF && !s.loopCan n
  setLoopFlag n 6 neg (setLoopFlag n 5 x.manual (setLoopFlag n 4 (x.law == lawCarry) (setLoopFlag n 2 x.handover.isSome s)))

/-- The laws of a tick of a RUNNING loop (R246). -/
def runLoop (n : Nat) (s : State) : State :=
  let s := match loopError s n with
    | some e => s.putQ (Obj.LOOP_ERROR n) e
    | none => s
  let (s, event) := lawStep n (takeChange n s)
  let s := if event then s.modLoop n fun x => { x with handover := none } else s
  let s := match (s.loop n).handover with
    | some t => if s.n (Obj.HANDOVER_MAX n) ≤ s.msSince t then forceHandover n s else s
    | none => s
  if (s.loop n).handover.isSome then driveHeld n s else driveLaw n s

/-- One tick of loop `n` (R246). -/
def tickLoop (n : Nat) (s : State) : State :=
  if !s.loopActs n then s else
  let s := selectRegion n (takeInputs n s)
  let s := if s.n (Obj.LOOP_STATE n) = 1 ∧ s.n (Obj.SENSE_TIMEOUT n) ≤ s.msSince (s.loop n).senseL then faultLoop n 1 s else s
  let s := if s.n (Obj.LOOP_STATE n) = 2 then driveFallback n s else runLoop n s
  let s := showLoop n (modelStep n s)
  s.modLoop n fun x => { x with updated := false, manuals := [] }

/-- LOOP_TICK (R241): the loops in ascending order. -/
def loopTick (s : State) : State := s.each 16 tickLoop

/-- HANDOVER_FORCED as an event: HANDOVER_MAX has passed since the change (R254). -/
def handoverForced (n : Nat) (s : State) : State :=
  if s.n (Obj.LOOP_STATE n) = 1 ∧ (s.loop n).handover.isSome then showLoop n (driveLaw n (forceHandover n s)) else s

/-- SENSE_LOST as an event (R243). -/
def senseLost (n : Nat) (s : State) : State := if s.loopActs n then showLoop n (faultLoop n 1 s) else s

/-- PLAUSIBILITY_FAULT as an event (R255): the residual has lain beyond the limit for PLAUS_TIME. -/
def plausibilityFault (n : Nat) (s : State) : State :=
  if s.loopActs n ∧ (s.loop n).plausL.isSome then showLoop n (faultLoop n 2 s) else s

/-! ### The output frame, RUN and STOP, writes -/

/-- A loop with a CAN output sends its frame (R250, Table 10.2). -/
def loopFrame (n : Nat) (s : State) : State :=
  if !s.loopActs n || !s.loopCan n then s else
  let x := s.loop n
  let fl := b2n x.outA + 2 * b2n (s.n (Obj.LOOP_STATE n) == 2) + 4 * b2n x.manual + 8 * b2n x.handover.isSome + 16 * b2n (x.law == lawCarry)
  let c := s.i (Obj.PULSE_COUNT n)
  let data := leBytes 1 n ++ leBytes 1 fl ++ leBytes 4 (twos 32 c) ++ leBytes 2 x.seq
  let s := s.modLoop n fun y => { y with frameFlags := fl, frameCount := c, seq := (y.seq + 1) % 65536 }
  sendService (serviceFrame (s.n (Obj.OUT_CAN_CHANNEL n)) (s.n (Obj.OUT_CAN_ID n)) false data) false s

/-- The DOs a loop names. -/
def loopDos (s : State) (n : Nat) : List Nat := [s.n (Obj.OUT_A n), s.n (Obj.OUT_B n)].filter fun d => Nat.blt d 16

/-- Whether a DO is held by another running loop or by the program. -/
def doTaken (s : State) (prog : Nat → Bool) (n d : Nat) : Bool :=
  Nat.blt d 16 && (prog d || (List.range 16).any fun m => m != n && s.loopActs m && (loopDos s m).contains d)

/-- RUN check of a loop (R241, R257, R519); `prog` says which DOs the program holds. -/
def loopRunCheck (prog : Nat → Bool) (n : Nat) (s : State) : Option Abort :=
  let a := s.n (Obj.OUT_A n)
  let b := s.n (Obj.OUT_B n)
  let src := s.n (Obj.SENSE_SOURCE n)
  let sch := s.n (Obj.SCHED_SOURCE n)
  let t := schedThresholds s n
  if !s.running Obj.THERMAL_STATE then some (conflict Obj.THERMAL_STATE)
  else if a = 0xFF ∨ doTaken s prog n a then some (inconsistent (Obj.OUT_A n))
  else if doTaken s prog n b ∨ b = a ∨ (b ≠ 0xFF ∧ a = 0xFE) then some (inconsistent (Obj.OUT_B n))
  else if 2 ≤ t.length ∧ (nth t 0 .nan).lt (nth t 1 .nan) = false then some (inconsistent (Obj.SCHED_T2 n))
  else if 3 ≤ t.length ∧ (nth t 1 .nan).lt (nth t 2 .nan) = false then some (inconsistent (Obj.SCHED_T3 n))
  else if s.q (Obj.SP_MAX n) ≤ s.q (Obj.SP_MIN n) then some (inconsistent (Obj.SP_MIN n))
  else if (s.v (Obj.SP_IN_LO n)).same (s.v (Obj.SP_IN_HI n)) then some (inconsistent (Obj.SP_IN_LO n))
  else if (src = 0 ∧ 4 ≤ s.n (Obj.SENSE_ARG n)) ∨ (src = 2 ∧ s.asBuilt.sensors ≤ s.n (Obj.SENSE_ARG n)) then
    some (inconsistent (Obj.SENSE_ARG n))
  else if (sch = 1 ∧ s.n (Obj.SCHED_ARG n) ≠ 0xFF ∧ s.asBuilt.strings ≤ s.n (Obj.SCHED_ARG n)) ∨ (sch = 2 ∧ 4 ≤ s.n (Obj.SCHED_ARG n)) then
    some (inconsistent (Obj.SCHED_ARG n))
  else if 0 < s.q (Obj.PLAUS_LIMIT n) ∧ s.n (Obj.PULSES_FULL n) = 0 ∧ s.n (Obj.LAW_REQ n) = lawCarry then
    some (inconsistent (Obj.PULSES_FULL n))
  else if a = 0xFE ∧ idTaken s (Obj.LOOP_STATE n) (s.n (Obj.OUT_CAN_CHANNEL n)) [s.n (Obj.OUT_CAN_ID n)] then
    some (inconsistent (Obj.OUT_CAN_ID n))
  else none

/-- RUN of a loop (R248, R255, R256, R261): accumulator and model start afresh, the model from the sensed value where that is
valid, else from the first valid one; the fault clears, the law in force starts without a hand-over. -/
def loopRun (n : Nat) (s : State) : State :=
  let s := ((s.putN (Obj.ACCUMULATOR n) halfTurn).putI (Obj.FALLBACK_PENDING n) 0).putN (Obj.FAULT_CAUSE n) 0
  let s := setLoopFlag n 3 false (setLoopFlag n 2 false s)
  let x := s.loop n
  let valid := x.sensed.isSome && !x.bad && Nat.blt (s.msSince x.senseL) (s.n (Obj.SENSE_TIMEOUT n))
  let s := match x.sensed with
    | some t => if valid then (s.modLoop n fun y => { y with model := t }).putQ (Obj.MODEL_PREDICTION n) t else s
    | none => s
  s.modLoop n fun x => { x with
    law := s.n (Obj.LAW_REQ n), manual := s.b (Obj.MANUAL n), handover := none, bandL := s.lNow, senseL := s.lNow,
    updated := false, bad := !valid, modelInit := !valid, plausL := none, manuals := [], slot := 0 }

/-- STOP of a loop (R257): its lines are idle. -/
def loopStop (n : Nat) (s : State) : State :=
  (setLoopFlag n 2 false (drive n false false s)).modLoop n fun x => { x with handover := none, slot := 0, sensed := none, setpoint := none }

/-- STOP of the engine holds every loop STOPPED (R241). -/
def thermalStop (s : State) : State := s.each 16 fun n s => loopStop n (s.putN (Obj.LOOP_STATE n) 0)

/-- A write to MANUAL_OUT (R253): live; in MANUAL it reaches the next tick. -/
def ownManualOut (n : Nat) (v : Val) (s : State) : Except Abort State :=
  let s := s.put (Obj.MANUAL_OUT n) v
  .ok (if s.b (Obj.MANUAL n) then s.modLoop n fun x => { x with manuals := x.manuals ++ [v.toInt] } else s)

end Sys2Proof.Machine
end

