-- ==== Sys2Proof/Machine/Protection.lean ====
section
/-!
DEFINITION. String protection and contactor sequencing (spec/11_protection.md): checks and rules with their actions, the
close and opening sequences, weld verdicts, resets.
-/

namespace Sys2Proof.Machine

/-- String `n` under protection. -/
def State.ps (s : State) (n : Nat) : ProtStr := nth s.prot.strs n {}
/-- The state with string `n` under protection changed. -/
def State.modPs (s : State) (n : Nat) (f : ProtStr → ProtStr) : State :=
  { s with prot := { s.prot with strs := s.prot.strs.set n (f (s.ps n)) } }

/-- Whether a string has cells in the position map (R265). -/
def State.hasCells (s : State) (n : Nat) : Bool := !(s.stringCells n).isEmpty
/-- The strings of the module that have cells. -/
def State.cellStrings (s : State) : List Nat := (List.range s.asBuilt.strings).filter s.hasCells

/-- STRING_SEQ_STATE codes (Table 11.13). -/
def sqOpen : Nat := 0
def sqClosingNeg : Nat := 1
def sqPrecharging : Nat := 2
def sqClosingPos : Nat := 3
def sqClosed : Nat := 4
def sqBreakWait : Nat := 5
def sqOpening : Nat := 6
def sqChecking : Nat := 7
def sqLockedOut : Nat := 8

/-- STRING_SEQ_STATE of a string. -/
def State.seq (s : State) (n : Nat) : Nat := s.n (Obj.STRING_SEQ_STATE n)

/-- Whether the sequencer commands an output on. -/
def State.koCmd (s : State) (m : Nat) : Bool := bitOf (s.n Obj.KO_COMMAND) m

/-- Whether the aux input of an output is mapped (R282). -/
def State.auxMapped (s : State) (m : Nat) : Bool := s.n (Obj.AUX_INPUT m) != 0xFF
/-- Whether the aux input of an output is a safety input. -/
def State.auxIsSi (s : State) (m : Nat) : Bool := Nat.blt (s.n (Obj.AUX_INPUT m)) 16
/-- Whether a mapped aux input shows its contactor closed (R282): a safety input shows it where either controller does. -/
def State.auxClosed (s : State) (m : Nat) : Bool :=
  let a := s.n (Obj.AUX_INPUT m)
  let nc := s.b (Obj.AUX_NC m)
  if a < 16 then (bitOf s.safety.x.si a != nc) || (bitOf s.safety.y.si a != nc)
  else if a < 0x40 then s.di (a - 0x20) != nc
  else false

/-- Whether the sequencer sees both enables of a string (R281, R305). -/
def State.enablesPresent (s : State) (n : Nat) : Bool :=
  bitOf s.safety.x.en n && bitOf s.safety.y.en n && (nth s.safety.strs n {}).proof.isNone

/-- |I| of a string (R279): the mean magnitude of the last 25 main-path samples. -/
def State.magnitude (s : State) (n : Nat) : Rat :=
  let l := (s.str n).mags
  if l.isEmpty then 0 else l.sum / (l.length : Rat)

/-- Whether BUS_VOLTAGE of a string is valid (R275). -/
def State.busValid (s : State) (n : Nat) : Bool :=
  match (s.ps n).busL with
  | some t => Nat.ble (s.msSince t) (s.n Obj.BUS_MSG_TIMEOUT)
  | none => false

/-- Whether both voltages of a string are valid. -/
def State.voltagesValid (s : State) (n : Nat) : Bool := (s.ps n).voltValid && s.busValid n
/-- |BUS_VOLTAGE − STRING_VOLTAGE|. -/
def State.voltageGap (s : State) (n : Nat) : Rat := rabs (s.q (Obj.BUS_VOLTAGE n) - s.q (Obj.STRING_VOLTAGE n))

/-- Whether the PCS arrangement is PER_STRING (R275). -/
def State.perString (s : State) : Bool := s.n Obj.PCS_ARRANGEMENT == 1
/-- Whether another string than `n` is CLOSED. -/
def State.otherClosed (s : State) (n : Nat) : Bool := (List.range s.asBuilt.strings).any fun m => m != n && s.seq m == sqClosed

/-- CONTACTOR_STATUS with a bit at a value (Table 11.15). -/
def setContactor (n bit : Nat) (b : Bool) (s : State) : State :=
  s.putN (Obj.CONTACTOR_STATUS n) (withBit (s.n (Obj.CONTACTOR_STATUS n)) bit b)

/-! ### Openings -/

/-- The steps of a sequence: waiting for a contactor, for the match, for the overlap, for current to fall, and so on. -/
def phNone : Nat := 0
def phNeg : Nat := 1
def phPre : Nat := 2
def phPos : Nat := 3
def phOverlap : Nat := 4
def phPreOpen : Nat := 5
def phBreak : Nat := 6
def phNegDelay : Nat := 7
def phContact : Nat := 8
def phVoltage : Nat := 9

/-- The power limit of step 1 of an opening (R279): of the string, or of the container under SHARED. -/
def zeroLimit (n : Nat) (s : State) : State := s.modPs n fun x => { x with zero := s.perString, czero := !s.perString, weldEval := false }

/-- The emergency opening (R280): all three outputs off, the checks after CONTACT_TIME. -/
def emergencyOff (n : Nat) (s : State) : State :=
  let s := zeroLimit n (koOff n s)
  (s.putN (Obj.STRING_SEQ_STATE n) sqOpening).modPs n fun x => { x with stepL := s.lNow, phase := phContact, breakMs := none }

/-- A normal opening begins (Table 11.8 step 1). -/
def normalOpening (n : Nat) (s : State) : State :=
  ((zeroLimit n s).putN (Obj.STRING_SEQ_STATE n) sqBreakWait).modPs n fun x =>
    { x with stepL := s.lNow, phase := phBreak, breakMs := some (s.n Obj.BREAK_WAIT) }

/-- An opening of a string in a mode meets whatever runs (R263, R281). -/
def openString (n : Nat) (emergency : Bool) (s : State) : State :=
  let s := abortProof n s
  let q := s.seq n
  if q = sqOpen ∨ q = sqLockedOut ∨ q = sqChecking then s
  else if q = sqOpening then (if emergency ∧ (s.ps n).phase = phNegDelay then emergencyOff n s else s)
  else if emergency then emergencyOff n s
  else if q = sqBreakWait then s
  else normalOpening n s

/-! ### Checks and actions -/

/-- Bits of PROT_CAUSE (Table 11.14); 12 stands for INSULATION_WARN, which PROT_CAUSE shows in bit 5. -/
def ckHwOv : Nat := 0
def ckHwUv : Nat := 1
def ckOvercurrent : Nat := 2
def ckCurrentInput : Nat := 3
def ckStale : Nat := 4
def ckInsulation : Nat := 5
def ckIsoLost : Nat := 6
def ckOutput : Nat := 7
def ckBusLost : Nat := 8
def ckNotIsolated : Nat := 9
def ckPrecharge : Nat := 10
def ckWeldSuspect : Nat := 11
def ckIsoWarn : Nat := 12

/-- Actions (Table 11.1). -/
def acNone : Nat := 0
def acWarn : Nat := 1
def acLimit : Nat := 2
def acOpen : Nat := 3
def acTrip : Nat := 4

/-- The action of a check (Tables 11.2, 11.9, R278). -/
def checkAction (s : State) (c : Nat) : Nat :=
  if 16 ≤ c then s.n (Obj.PR_ACTION (c - 16)) else
  match c with
  | 0 => s.n Obj.HW_OV_ACTION
  | 1 => s.n Obj.HW_UV_ACTION
  | 3 => s.n Obj.CI_FAULT_ACTION
  | 4 => s.n Obj.STALE_ACTION
  | 5 => s.n Obj.ISO_TRIP_ACTION
  | 6 => s.n Obj.ISO_LOST_ACTION
  | 8 | 11 | 12 => acWarn
  | 9 => acTrip
  | _ => acOpen

/-- Whether the opening mode of a check is EMERGENCY (Table 11.2, R263). -/
def checkEmergency (s : State) (c : Nat) : Bool :=
  if 16 ≤ c then s.n (Obj.PR_OPEN_MODE (c - 16)) == 1 else c == ckOvercurrent || c == ckOutput || c == ckNotIsolated

/-- The checks raised on a string. -/
def State.raisedChecks (s : State) (n : Nat) : List Nat := (List.range 32).filter fun c => bitOf (s.ps n).raised c

/-- PROT_LATCH of a string (R263). -/
def State.latchOf (s : State) (n : Nat) : Nat := if s.b Obj.CONTAINER_TRIPPED then acTrip else if (s.ps n).openLatch then acOpen else 0

/-- The protection limit of a string in a direction, 0 CHG or 1 DIS (R271). -/
def protLimit (s : State) (n dir : Nat) : Nat :=
  (s.raisedChecks n).foldl (fun acc c =>
    if checkAction s c ≠ acLimit then acc
    else if c < 16 then 0
    else if s.n (Obj.PR_LIMIT_DIR (c - 16)) = dir ∨ s.n (Obj.PR_LIMIT_DIR (c - 16)) = 2 then min acc (s.n (Obj.PR_LIMIT_PCT (c - 16)))
    else acc) 100

/-- What is published of a string's checks (R263, R271). -/
def showProt (n : Nat) (s : State) : State :=
  let r := (s.ps n).raised
  let cause := withBit (withBit r ckIsoWarn false) ckInsulation (bitOf r ckInsulation || bitOf r ckIsoWarn)
  let s := (s.putN (Obj.PROT_CAUSE n) cause).putN (Obj.PROT_LATCH n) (s.latchOf n)
  let top := (s.raisedChecks n).foldl (fun acc c => max acc (checkAction s c)) (s.latchOf n)
  ((s.putN (Obj.PROT_ACTION n) top).putN (Obj.PROT_LIMIT_CHG n) (protLimit s n 0)).putN (Obj.PROT_LIMIT_DIS n) (protLimit s n 1)

/-- TRIP_CONTAINER (Table 11.1): CONTAINER_TRIPPED is set, every string is opened. -/
def tripContainer (emergency : Bool) (s : State) : State :=
  let s := s.putB Obj.CONTAINER_TRIPPED true
  s.each s.asBuilt.strings fun n s => showProt n (openString n emergency s)

/-- What a check does when it is raised (R262, R263); nothing in STANDBY (R437). -/
def actCheck (n c : Nat) (s : State) : State :=
  if s.standby then s else
  match checkAction s c with
  | 1 => s.logN 0x0601 0x2600 n (s.n (Obj.PROT_CAUSE n)) 0
  | 3 => showProt n (openString n (checkEmergency s c) (s.modPs n fun x => { x with openLatch := true }))
  | 4 => tripContainer (checkEmergency s c) s
  | _ => s

/-- A check is raised or clears on a string. -/
def setCheck (n c : Nat) (b : Bool) (s : State) : State :=
  if bitOf (s.ps n).raised c = b then s else
  let s := showProt n (s.modPs n fun x => { x with raised := withBit x.raised c b })
  if b then actCheck n c s else s

/-- Whether protection runs. -/
def State.protecting (s : State) : Bool := s.running Obj.PROT_STATE

/-- A check is raised or clears on every string that has cells. -/
def setCheckAll (c : Nat) (b : Bool) (s : State) : State := s.forAll s.cellStrings fun n => setCheck n c b

/-! ### Fixed checks -/

/-- The comparators of a block with a correct CRC (R265, R266). -/
def hwComparators (n : Nat) (ov uv : Bool) (s : State) : State :=
  if !s.protecting || !s.hasCells n then s else
  let s := s.modPs n fun x => { x with hwOv := x.hwOv || ov, hwUv := x.hwUv || uv }
  let s := if ov then setCheck n ckHwOv true s else s
  if uv then setCheck n ckHwUv true s else s

/-- OVERCURRENT (R267): the hardware path removes the string's commands; blind while CI_FAULT is set. -/
def overcurrent (n : Nat) (s : State) : State :=
  if s.b (Obj.CI_FAULT n) then s else
  koOff n (if s.protecting && s.hasCells n then setCheck n ckOvercurrent true (abortProof n s) else abortProof n s)

/-- After the main-path samples of 40 µs: two in a row beyond a level trip; below, the check clears (R267). -/
def overcurrentPath (n : Nat) (s : State) : State :=
  let x := s.str n
  if 2 ≤ x.ocChg ∨ 2 ≤ x.ocDis then overcurrent n s
  else if x.ocChg = 0 ∧ x.ocDis = 0 then setCheck n ckOvercurrent false s
  else s

/-- CI_FAULT has been held for CI_FAULT_TIME (R265). -/
def currentInputTimeout (n : Nat) (s : State) : State :=
  if s.protecting ∧ s.hasCells n ∧ s.b (Obj.CI_FAULT n) then setCheck n ckCurrentInput true s else s

/-- One threshold of the insulation checks (R268): the messages in a row below it, the check by the latest value. -/
def isoThreshold (c lim r low : Nat) (s : State) : State :=
  if r < lim then (if 2 ≤ low then setCheckAll c true s else s)
  else if 11 * lim < 10 * r then setCheckAll c false s
  else s

/-- An insulation monitor frame (R268). -/
def isoMessage (f : CanFrame) (s : State) : State :=
  if !s.protecting || !frameOn f (s.n Obj.ISO_MSG_CHANNEL) (s.n Obj.ISO_MSG_ID) || f.fd then s else
  if f.data.length < 8 then s else
  let st := fieldU f.data 4 1
  let s := if bitOf st 1 then setCheckAll ckIsoLost true s else if bitOf st 0 then setCheckAll ckIsoLost false s else s
  if !bitOf st 0 then s else
  let r := fieldU f.data 0 4
  let a := if r < s.n Obj.ISO_TRIP then s.prot.isoLow + 1 else 0
  let b := if r < s.n Obj.ISO_WARN then s.prot.isoWarnLow + 1 else 0
  let s : State := { s.putN Obj.ISO_RESISTANCE r with prot := { s.prot with isoLow := a, isoWarnLow := b } }
  isoThreshold ckIsoWarn (s.n Obj.ISO_WARN) r b (isoThreshold ckInsulation (s.n Obj.ISO_TRIP) r a s)

/-- No valid insulation message for ISO_MSG_TIMEOUT (R265). -/
def isoLost (s : State) : State := if s.protecting then setCheckAll ckIsoLost true s else s

/-- No valid bus message for BUS_MSG_TIMEOUT while a string is not OPEN (R265). -/
def busLost (n : Nat) (s : State) : State :=
  if !s.protecting || !s.hasCells n || s.seq n == sqOpen then s else
  setCheck n ckBusLost true (s.modPs n fun x => { x with busL := none })

/-- The checks of every 1 ms clear (R265): CURRENT_INPUT with CI_FAULT, BUS_LOST with the string OPEN. -/
def fastChecks (n : Nat) (s : State) : State :=
  if !s.protecting then s else
  let s := if s.b (Obj.CI_FAULT n) then s else setCheck n ckCurrentInput false s
  if s.seq n = sqOpen then setCheck n ckBusLost false s else s

/-- The readback of a string's outputs in a 1 ms reading (R265, R281): a lost enable removes the commands without a latch;
three readings that differ raise OUTPUT_FAULT. -/
def outputCheck (n : Nat) (s : State) : State :=
  let outs := [koPos n, koNeg n, koPre n]
  if s.standby || s.b Obj.FIELD_LATCHED || (nth s.safety.strs n {}).proof.isSome then s
  else if !s.enablesPresent n then
    let s := s.modPs n fun x => { x with outBad := [0, 0, 0] }
    if outs.any fun m => s.koCmd m && !s.koOn m then emergencyOff n (setContactor n 12 true s) else s
  else
    let bad := (List.range 3).map fun i =>
      let m := nth outs i 0
      if s.koCmd m != s.koOn m then nth (s.ps n).outBad i 0 + 1 else 0
    let s := s.modPs n fun x => { x with outBad := bad }
    if !s.protecting || !s.hasCells n then s
    else if bad.any (Nat.ble 3) then setCheck n ckOutput true s
    else if bad.all (· == 0) then setCheck n ckOutput false s
    else s

/-! ### Rules -/

/-- The reference of a rule on a string in the unit of its source (R269); none without a valid profile. -/
def ruleRef (s : State) (n ref : Nat) : Option Rat :=
  if ref = 0 then some 0 else
  (s.profile? n).map fun p =>
    match ref with
    | 1 => pVmax p
    | 2 => pVmin p
    | 3 => pTcoreMax p
    | 4 => pTchargeMin p
    | 5 => cToA p (pIchgMax p)
    | _ => cToA p (pIdisMax p)

/-- One evaluation of an element of rule `r`, of string `n` (R269). -/
def ruleStep (s : State) (r n : Nat) (v : Option Rat) (e : DwellEl) : DwellEl :=
  match ruleRef s n (s.n (Obj.PR_REF r)) with
  | none => { e with raised := false, since := none }
  | some q => (dwellStep (s.n (Obj.PR_DIRECTION r) == 0) (q + s.q (Obj.PR_OFFSET r)) (s.q (Obj.PR_HYST r)) (s.n (Obj.PR_DWELL r)) s.lNow v e).1

/-- The elements of rule `r`. -/
def State.rule (s : State) (r : Nat) : List (Nat × DwellEl) := nth s.prot.rules r []
/-- The state with the elements of rule `r`. -/
def State.setRule (s : State) (r : Nat) (l : List (Nat × DwellEl)) : State :=
  ({ s with prot := { s.prot with rules := s.prot.rules.set r l } } : State).putN (Obj.PR_COUNT r) (raisedCount l)

/-- The string of an element of a rule's source (Table 11.4). -/
def ruleString (s : State) (source el : Nat) : Option Nat :=
  match source with
  | 1 | 2 | 3 => s.cellString? el
  | 8 => (s.entry? el).map fun e => e.string
  | _ => some el

/-- The rule's check follows its elements on every string (R269). -/
def ruleChecks (r : Nat) (s : State) : State :=
  let src := s.n (Obj.PR_SOURCE r)
  let up := (s.rule r).filterMap fun x => if x.2.raised then ruleString s src x.1 else none
  s.forAll s.cellStrings fun n => setCheck n (16 + r) (up.contains n)

/-- Rule `r` evaluates some elements with their strings and values; what belongs to no string with cells any more is
dropped. -/
def evalRule (r : Nat) (vals : List (Nat × Nat × Option Rat)) (s : State) : State :=
  let old := (s.rule r).filter fun x => ((ruleString s (s.n (Obj.PR_SOURCE r)) x.1).map s.hasCells).getD false
  let els := vals.foldl (fun acc x => amSet acc x.1 (ruleStep s r x.2.1 x.2.2 (amGetD acc x.1 {}))) old
  ruleChecks r (s.setRule r els)

/-- Whether the estimated rules skip a cell (R269). -/
def skipsCell (s : State) (c : Nat) : Bool := s.n Obj.CUSTODY_STATE == cuWait || s.estFlag c efReinit

/-- The elements of a rule at the sweep tail (Table 11.4). -/
def ruleElements (s : State) (r : Nat) : List (Nat × Nat × Option Rat) :=
  let cells := fun (f : Nat → Option Rat) => (s.mappedCells.filter fun x => !skipsCell s x.1).filterMap fun x =>
    (s.cellString? x.1).map fun n => (x.1, n, f x.1)
  let strs := fun (f : Nat → Option Rat) => s.cellStrings.map fun n => (n, n, f n)
  match s.n (Obj.PR_SOURCE r) with
  | 2 => cells fun c => (s.v (Obj.CORE_TEMP c)).toRat?
  | 3 => cells fun c => (s.v (Obj.SOC c)).toRat?
  | 4 => strs fun n => (s.v (Obj.STRING_I_MEAN n)).toRat?
  | 5 => strs fun n => (s.v (Obj.STRING_I_MEAN n)).toRat?.map fun q => -q
  | 8 => s.entries.map fun x => (x.1, x.2.string, (s.v (Obj.FE_DIE_TEMP x.1)).toRat?)
  | _ => []

/-- A rule on a threshold's bit (R269): raised exactly while the bit is set. -/
def bitRule (r : Nat) (s : State) : State :=
  let a := s.n (Obj.PR_ARG r)
  let els := s.cellStrings.map fun n =>
    let up := bitOf (s.n (if s.n (Obj.PR_SOURCE r) = 6 then Obj.LT_STRING_RAISED n else Obj.RT_STRING_RAISED n)) a
    (n, ({ raised := up } : DwellEl))
  ruleChecks r (s.setRule r els)

/-- The rules at the sweep tail. -/
def rulesTail (s : State) : State :=
  s.each 16 fun r s =>
    let src := s.n (Obj.PR_SOURCE r)
    if src = 0 then s else if src = 6 ∨ src = 7 then bitRule r s else evalRule r (ruleElements s r) s

/-- The CELL_V rules on the arrival of a fresh block of string `n` (Table 11.4): cells with their corrected VMEAN in V. -/
def rulesBlock (n : Nat) (cells : List (Nat × Rat)) (s : State) : State :=
  if !s.protecting || !s.hasCells n then s else
  s.each 16 fun r s => if s.n (Obj.PR_SOURCE r) = 1 then evalRule r (cells.map fun x => (x.1, n, some x.2)) s else s

/-! ### The close sequence -/

/-- Whether a contactor is confirmed closed (R277). -/
def confirmed (s : State) (m : Nat) : Bool := s.koOn m && s.auxMapped m && s.auxClosed m

/-- CONTACT_FAIL on output `m` (R277). -/
def contactFail (n m : Nat) (s : State) : State := emergencyOff n (s.logN 0x0602 0x2600 n m 0)

/-- A match of the voltages in step 3 of the close sequence (Table 11.7). -/
def prechargeMatch (n : Nat) (s : State) : State :=
  if (s.ps n).phase ≠ phPre ∨ !s.voltagesValid n ∨ s.q Obj.PRECHARGE_DV < s.voltageGap n then s else
  let s := (setKo (koPos n) true s).putN (Obj.STRING_SEQ_STATE n) sqClosingPos
  s.modPs n fun x => { x with stepL := s.lNow, phase := phPos, touched := withBit x.touched 0 true }

/-- PRECHARGE_TIMEOUT passes without a match (R277, R278). -/
def prechargeTimeout (n : Nat) (s : State) : State :=
  if (s.ps n).phase ≠ phPre then s else
  let s := s.logEx 0x0603 0x2600 n (.real (s.voltageGap n)) (.int 0) (.int 0)
  let f := (s.ps n).fails + 1
  let s := emergencyOff n (s.modPs n fun x => { x with cooldown := true, fails := f })
  if s.n Obj.PRECHARGE_ATTEMPTS ≤ f then setCheck n ckPrecharge true s else s

/-- PRECHARGE_OVERLAP passes: the precharge contactor is switched off, the string is CLOSED (Table 11.7 step 6). -/
def prechargeOverlap (n : Nat) (s : State) : State :=
  if (s.ps n).phase ≠ phOverlap then s else
  let s := ((setKo (koPre n) false s).putN (Obj.STRING_SEQ_STATE n) sqClosed).inc (Obj.OPERATIONS n)
  s.modPs n fun x => { x with stepL := s.lNow, phase := if s.auxMapped (koPre n) then phPreOpen else phNone, fails := 0 }

/-- The precharge cooldown ends (R278). -/
def prechargeCooldownEnd (n : Nat) (s : State) : State := s.modPs n fun x => { x with cooldown := false }

/-! ### Weld verdicts -/

/-- The WELDED bit of a contactor in CONTACTOR_STATUS. -/
def weldBit (i : Nat) : Nat := 4 * i + 3

/-- A WELDED verdict on contactor `i` of a string (R284). -/
def welded (n i : Nat) (s : State) : State :=
  ((setContactor n (weldBit i) true s).modPs n fun x => { x with lockout := true }).logN 0x0605 0x2600 n (3 * n + i) 0

/-- The checks end (Table 11.8 step 7). -/
def endChecks (n : Nat) (s : State) : State :=
  let s := s.putN (Obj.STRING_SEQ_STATE n) (if (s.ps n).lockout then sqLockedOut else sqOpen)
  s.modPs n fun x => { x with stepL := s.lNow, phase := phNone, zero := false, czero := false, touched := 0 }

/-- The aux and current checks of step 5 (Table 11.9); the voltage test begins, or the checks end. -/
def openChecks (n : Nat) (s : State) : State :=
  let touched := (s.ps n).touched
  let s := s.each 3 fun i s =>
    let m := 3 * n + i
    if bitOf touched i && s.auxMapped m && s.auxClosed m then welded n i s else s
  let s := if s.q Obj.WELD_CURRENT < s.magnitude n then setCheck n ckNotIsolated true s else s
  let s := (s.putN (Obj.STRING_SEQ_STATE n) sqChecking).modPs n fun x => { x with stepL := s.lNow, phase := phVoltage, czero := false, weldEval := false }
  if s.perString || !s.otherClosed n then s else endChecks n s

/-- An evaluation of the voltage test (Table 11.9). -/
def voltageTest (n : Nat) (s : State) : State :=
  if (s.ps n).phase ≠ phVoltage ∨ !s.voltagesValid n then s
  else if s.q Obj.WELD_DV < s.voltageGap n then endChecks n s
  else s.modPs n fun x => { x with weldEval := true }

/-- The voltage test ends without a pass (Table 11.9). -/
def weldCheckTime (n : Nat) (s : State) : State :=
  if (s.ps n).phase ≠ phVoltage then s else
  let s := if (s.ps n).weldEval then setCheck n ckWeldSuspect true s else setContactor n 13 true s
  endChecks n s

/-! ### Timers of the sequences -/

/-- CONTACT_TIME passes in whichever step waits for it (Tables 11.7, 11.8). -/
def contactTime (n : Nat) (s : State) : State :=
  let p := (s.ps n).phase
  if p = phNeg then
    if confirmed s (koNeg n) then
      let s := (setKo (koPre n) true s).putN (Obj.STRING_SEQ_STATE n) sqPrecharging
      s.modPs n fun x => { x with stepL := s.lNow, phase := phPre, touched := withBit x.touched 2 true }
    else contactFail n (koNeg n) s
  else if p = phPos then
    if confirmed s (koPos n) then s.modPs n fun x => { x with stepL := s.lNow, phase := phOverlap } else contactFail n (koPos n) s
  else if p = phPreOpen then
    let s := s.modPs n fun x => { x with stepL := s.lNow, phase := phNone }
    if s.auxClosed (koPre n) then welded n 2 s else s
  else if p = phContact then openChecks n s
  else s

/-- The break wait ends (Table 11.8 steps 2 and 3): current has fallen, or BREAK_WAIT has passed. -/
def breakWaitEnd (n : Nat) (s : State) : State :=
  if (s.ps n).phase ≠ phBreak then s else
  let i := s.magnitude n
  let s := if i ≤ s.q Obj.BREAK_CURRENT then s else
    ((s.inc (Obj.BREAKS_UNDER_LOAD n)).putQ (Obj.LAST_BREAK_CURRENT n) i).logEx 0x0604 0x2600 n (.real i) (.int 0) (.int 0)
  let s := (setKo (koPos n) false (setKo (koPre n) false s)).putN (Obj.STRING_SEQ_STATE n) sqOpening
  s.modPs n fun x => { x with stepL := s.lNow, phase := phNegDelay, breakMs := none }

/-- NEG_OPEN_DELAY passes (Table 11.8 step 4). -/
def negOpenDelay (n : Nat) (s : State) : State :=
  if (s.ps n).phase ≠ phNegDelay then s else (setKo (koNeg n) false s).modPs n fun x => { x with stepL := s.lNow, phase := phContact }

/-! ### Commands -/

/-- Why a CLOSE is refused (R276): the first reason in the listed order, BUSY while CHECKING (R281). -/
def closeRefusal (s : State) (n : Nat) : Option Nat :=
  let c := fun (m : Nat) => s.auxMapped m && s.auxClosed m
  if s.seq n = sqChecking then some 8
  else if s.latchOf n ≠ 0 then some 1
  else if !(s.ps n).voltValid || (s.stringCells n).any (fun x => s.measFlag x mfStale) || s.degraded then some 2
  else if !s.enablesPresent n then some 3
  else if (s.ps n).lockout || (s.seq n == sqOpen && (c (koPos n) || c (koNeg n) || c (koPre n))) then some 4
  else if !s.busValid n then some 5
  else if !s.perString && s.otherClosed n && decide (s.q Obj.PRECHARGE_DV < s.voltageGap n) then some 6
  else if (s.ps n).cooldown then some 7
  else if s.seq n ≠ sqOpen then some 8
  else if s.standby then some 9
  else none

/-- A CLOSE is accepted: step 1 of Table 11.7. -/
def beginClose (n : Nat) (s : State) : State :=
  let s := setCheck n ckWeldSuspect false (setContactor n 12 false (setContactor n 13 false (s.putN (Obj.CLOSE_REFUSAL n) 0)))
  let s := (setKo (koNeg n) true s).putN (Obj.STRING_SEQ_STATE n) sqClosingNeg
  s.modPs n fun x => { x with stepL := s.lNow, phase := phNeg, touched := 2, zero := false, czero := false }

/-- A CLOSE of a string (R276). -/
def closeString (n : Nat) (s : State) : Except Abort State :=
  if !s.protecting then .error (conflict Obj.PROT_STATE) else
  match closeRefusal s n with
  | some k => .error { inconsistent (Obj.CLOSE_REFUSAL n) with notes := [(Obj.CLOSE_REFUSAL n, k)] }
  | none => .ok (beginClose n s)

/-- STRING_COMMAND (R276, R281). A CLOSE that is refused while a proof test of the string runs still aborts the test (R305;
DEDUCED, log entry 179). -/
def ownStringCommand (n : Nat) (v : Val) (s : State) : Except Abort State :=
  if v.toNat = 1 then (closeString n s).mapError fun a => { a with endsProof := some n } else .ok (openString n false s)

/-- Whether a check blocks PROT_RESET (R264): an opening check that still stands. NOT_ISOLATED stands while the current that
gave the verdict does (DEDUCED, log entry 145); PRECHARGE_LOCKOUT is a latch only (R278). -/
def blocksReset (s : State) (n : Nat) : Bool :=
  (s.raisedChecks n).any fun c => c != ckPrecharge && Nat.ble acOpen (checkAction s c) &&
    (c != ckNotIsolated || decide (s.q Obj.WELD_CURRENT < s.magnitude n))

/-- PROT_RESET (R264). -/
def ownProtReset (v : Val) (s : State) : Except Abort State :=
  let all := v.toNat == 0xFF
  let l := if all then List.range s.asBuilt.strings else [v.toNat]
  match l.find? (blocksReset s) with
  | some n => .error (inconsistent (Obj.PROT_CAUSE n))
  | none =>
    match l.find? fun n => (s.ps n).lockout with
    | some n => .error (inconsistent (Obj.CONTACTOR_STATUS n))
    | none =>
      let s := s.forAll l fun n s => s.modPs n fun x =>
        { x with openLatch := false, raised := withBit (withBit x.raised ckNotIsolated false) ckPrecharge false }
      let s := if all then s.putB Obj.CONTAINER_TRIPPED false else s
      .ok (s.each s.asBuilt.strings showProt)

/-- WELD_CLEAR (R284, R304): WELD_LOCKOUT and SAFE_WELD clear once every aux input of the string shows open. -/
def ownWeldClear (v : Val) (s : State) : Except Abort State :=
  let n := v.toNat
  if [koPos n, koNeg n, koPre n].any fun m => s.auxMapped m && s.auxClosed m then .error (inconsistent Obj.WELD_CLEAR) else
  let s := s.each 3 fun i s => setContactor n (weldBit i) false s
  let s := s.modPs n fun x => { x with lockout := false }
  let s : State := { s with safety := { s.safety with strs := s.safety.strs.set n { nth s.safety.strs n {} with weld := false } } }
  .ok (if s.seq n = sqLockedOut then s.putN (Obj.STRING_SEQ_STATE n) sqOpen else s)

/-! ### Voltages, the tail, RUN -/

/-- STRING_VOLTAGE of a string (R274): the sum of the corrected VMEAN of its cells, that of a STALE cell as last measured;
valid while none is STALE. -/
def stringVoltage (n : Nat) (s : State) : State :=
  let cells := s.stringCells n
  let k := s.n Obj.SWEEP_COUNT
  let ok := !cells.isEmpty && cells.all fun c => (s.measOf c k).isSome && !s.measFlag c mfStale
  let v := (cells.map fun c => ((s.measOf c k).map Meas.vmean).getD (s.q (Obj.CELL_VMEAN c) / 1000000)).sum
  let s := s.modPs n fun x => { x with voltValid := ok }
  let s := if ok then s.modStr n fun x => { x with validVolt := v } else s
  if cells.isEmpty then s else s.putQ (Obj.STRING_VOLTAGE n) v

/-- The evaluations that each bus frame and each sweep tail bring (R277, R283). -/
def voltageEvents (n : Nat) (s : State) : State := if s.standby then s else voltageTest n (prechargeMatch n s)

/-- A PCS bus voltage frame (R275). -/
def busVoltageFrame (f : CanFrame) (s : State) : State :=
  if !s.protecting || f.fd then s else
  let id := s.n Obj.BUS_MSG_ID
  let l := (List.range s.asBuilt.strings).filter fun n => frameOn f (s.n Obj.BUS_MSG_CHANNEL) (if s.perString then id + n else id)
  let ok := Nat.ble 8 f.data.length && bitOf (fieldU f.data 4 1) 0
  s.forAll l fun n s =>
    if !ok then s.modPs n fun x => { x with busL := none } else
    let s := s.putQ (Obj.BUS_VOLTAGE n) ((fieldU f.data 0 4 : Rat) / 1000)
    voltageEvents n (setCheck n ckBusLost false (s.modPs n fun x => { x with busL := some s.lNow }))

/-- STALE at the sweep tail (R272). -/
def staleCheck (n : Nat) (s : State) : State :=
  let lim : Rat := (s.n Obj.STALE_LIMIT : Rat) / 1000
  setCheck n ckStale ((s.stringCells n).any fun c => decide (lim ≤ (s.n (Obj.CELL_AGE c) : Rat) * s.sweepT)) s

/-- A string without cells in the map is under no check (R265); verdicts and latches stand. -/
def dropChecks (n : Nat) (s : State) : State :=
  if (s.ps n).raised &&& 0xE00 = (s.ps n).raised then s else showProt n (s.modPs n fun x => { x with raised := x.raised &&& 0xE00 })

/-- Protection in the sweep tail (R26, R265 to R274). -/
def protectionTail (s : State) : State :=
  let s := s.each s.asBuilt.strings stringVoltage
  if !s.protecting then s else
  let s := s.forAll s.cellStrings fun n s =>
    let x := s.ps n
    let s := if !x.hwOv then setCheck n ckHwOv false s else s
    let s := if !x.hwUv then setCheck n ckHwUv false s else s
    staleCheck n (s.modPs n fun y => { y with hwOv := false, hwUv := false })
  let s := s.each s.asBuilt.strings fun n s => if s.hasCells n then s else dropChecks n s
  let s := rulesTail s
  s.each s.asBuilt.strings voltageEvents

/-- Whether every string is OPEN (R285). -/
def State.allOpen (s : State) : Bool := (List.range s.asBuilt.strings).all fun n => s.seq n == sqOpen
/-- The first string that is not OPEN. -/
def State.firstNotOpen (s : State) : Option Nat := (List.range s.asBuilt.strings).find? fun n => s.seq n != sqOpen

/-- STOP of protection is refused while any string is not OPEN (R285). -/
def protStopCheck (s : State) : Option Abort := s.firstNotOpen.map fun n => conflict (Obj.STRING_SEQ_STATE n)

/-- Whether a rule's reference matches its source (R269). -/
def refMatches (src ref : Nat) : Bool :=
  match ref with
  | 0 => true
  | 1 | 2 => src == 1
  | 3 | 4 => src == 2
  | 5 => src == 4
  | _ => src == 5

/-- RUN check of protection (R269, R277, R282, R285, R518). -/
def protRunCheck (s : State) : Option Abort :=
  match (List.range 16).find? fun r => !refMatches (s.n (Obj.PR_SOURCE r)) (s.n (Obj.PR_REF r)) with
  | some r => some (inconsistent (Obj.PR_REF r))
  | none =>
    if s.n Obj.PRECHARGE_OVERLAP < s.n Obj.CONTACT_TIME then some (inconsistent Obj.PRECHARGE_OVERLAP) else
    match s.cellStrings.find? fun n => !s.auxMapped (koPos n) || !s.auxMapped (koNeg n) with
    | some n => some (inconsistent (Obj.AUX_INPUT (if s.auxMapped (koPos n) then koNeg n else koPos n)))
    | none =>
      if s.n Obj.ISO_WARN ≤ s.n Obj.ISO_TRIP then some (inconsistent Obj.ISO_WARN)
      else if s.perString && !canIdSums s.asBuilt (s.n Obj.BUS_MSG_ID) then some (inconsistent Obj.BUS_MSG_ID)
      else none

/-- The comparator registers of every front-end follow the profiles (R266). -/
def writeTrips (s : State) : State :=
  writeAllRegs 0x09 (fun f e => let c := configRegs s e (s.regs f); [c.ovTrip, c.uvTrip]) s

/-- RUN of protection: trips written, every check starts clear, the latches stay. -/
def protRun (s : State) : State :=
  let s : State := { writeTrips s with prot := { s.prot with rules := List.replicate 16 [], isoLow := 0, isoWarnLow := 0 } }
  let s := s.each 16 fun r s => s.putN (Obj.PR_COUNT r) 0
  s.each s.asBuilt.strings fun n s =>
    showProt n (s.modPs n fun x => { x with raised := x.raised &&& 0xE00, hwOv := false, hwUv := false, outBad := [0, 0, 0] })

/-! ### Adoption after a reset of the controller die (R412) -/

/-- A string at the release of the pads (R412): adopted as CLOSED, or opened by the emergency opening. -/
def adoptString (n : Nat) (s : State) : State :=
  let l := fun m => bitOf s.field.koLatch m
  let shows := fun m => s.auxMapped m && s.auxClosed m
  if l (koPos n) && l (koNeg n) && !l (koPre n) && shows (koPos n) && shows (koNeg n) then
    let s := setKo (koPos n) true (setKo (koNeg n) true s)
    (s.putN (Obj.STRING_SEQ_STATE n) sqClosed).modPs n fun x => { x with stepL := s.lNow, phase := phNone, touched := 3 }
  else if l (koPos n) || l (koNeg n) || l (koPre n) then
    emergencyOff n (s.modPs n fun x => { x with touched := b2n (l (koPos n)) + 2 * b2n (l (koNeg n)) + 4 * b2n (l (koPre n)) })
  else s

end Sys2Proof.Machine
end

