-- ==== Sys2Proof/Machine/Safety.lean ====
section
/-!
DEFINITION. The safety functions (spec/12_safety.md): the two controllers with their input pairs, demands, resets and
enables, the cross-comparison, proof tests, QSF connections, safety sessions, passwords and the change log.
-/

namespace Sys2Proof.Machine

/-- The state with the safety controllers changed. -/
def State.modSafety (s : State) (f : SafetySt → SafetySt) : State := { s with safety := f s.safety }
/-- String `n` as the safety controllers see it. -/
def State.ss (s : State) (n : Nat) : SafeStr := nth s.safety.strs n {}
/-- The state with string `n` of the safety controllers changed. -/
def State.modSs (s : State) (n : Nat) (f : SafeStr → SafeStr) : State :=
  s.modSafety fun x => { x with strs := x.strs.set n (f (s.ss n)) }
/-- QSF connection `c`. -/
def State.qsf (s : State) (c : Nat) : QsfSt := nth s.safety.qsf c {}
/-- The state with QSF connection `c` changed. -/
def State.modQsf (s : State) (c : Nat) (f : QsfSt → QsfSt) : State :=
  s.modSafety fun x => { x with qsf := x.qsf.set c (f (s.qsf c)) }

/-- Whether the safety function is RUNNING. -/
def State.safetyRuns (s : State) : Bool := s.running Obj.SAFETY_STATE

/-! ### Codes -/

/-- The bits of a 32-bit word in reverse. -/
def reverse32 (w : Nat) : Nat := maskOf 32 fun i => bitOf w (31 - i)

/-- The CRC of R307 with an initial value: polynomial 0x04C1_1DB7 reflected, final XOR 0xFFFF_FFFF. -/
def crc32 (init : Nat) (b : Bytes) : Nat := (b.foldl (crcByte 0xEDB88320) (reverse32 init)) ^^^ 0xFFFFFFFF

/-- The indices of the safety function in ascending order. -/
def safetyIndices : List Nat := 0x3000 :: ((List.range 8).map (0x3010 + ·) ++ (List.range 8).map (0x3030 + ·))

/-- The objects whose values the signature covers: SAFE, and neither the function state, nor SIGNATURE_CONFIRM, nor
write-only (R315). -/
def signedKeys : List (Nat × Ty) :=
  (safetyIndices.flatMap fun idx => match findGroup idx with
    | some g => (g.rows.filter fun r => r.access == .safe).map fun r => (objKey idx r.lo, r.ty)
    | none => []).filter fun x => ! [Obj.SAFETY_STATE, Obj.SIGNATURE_CONFIRM, Obj.SAFETY_PASSWORD_NEW, Obj.SAFETY_RESTART].contains x.1

/-- SAFETY_SIGNATURE (R315). -/
def State.signature (s : State) : Nat := crc32 0xFFFFFFFF (signedKeys.flatMap fun x => x.2.encode (s.v x.1))

/-- An entry of the change log (R314, Table 12.6), in the copy of each controller. -/
def logChange (key event valueCrc : Nat) (s : State) : State :=
  let no := (s.safety.logNo + 1) % 2 ^ 32
  let e := leBytes 4 no ++ leBytes 8 s.pNow ++ leBytes 2 (key / 65536) ++ leBytes 1 (key % 65536) ++ leBytes 1 event ++
    leBytes 4 valueCrc ++ leBytes 4 s.signature ++ leBytes 4 (b2n s.pUnsetFlag)
  let e := e ++ leBytes 4 (crc32 0xFFFFFFFF e)
  let full := Nat.ble 512 s.safety.x.log.length
  let s := s.modSafety fun z =>
    { z with x := { z.x with log := e :: z.x.log.take 511 }, y := { z.y with log := e :: z.y.log.take 511 }, logNo := no }
  if full then s.inc Obj.LOG_OVERWRITTEN else s

/-! ### Pairs -/

/-- PAIR_STATE codes (Table 12.9). -/
def prSafe : Nat := 0
def prReleasing : Nat := 1
def prRun : Nat := 2
def prFault : Nat := 3

/-- One cycle of a pair with its two channels and DISCREPANCY_TIME (Table 12.1). -/
def pairStep (d now : Nat) (e o : Bool) (p : PairSt) : PairSt :=
  let edge := (e && !p.even) || (o && !p.odd)
  let q := { p with even := e, odd := o }
  if p.st = prSafe then
    if !e && !o then { q with mem := true }
    else if p.mem then
      if e && o then { q with st := prRun, c := 0, last := 0, mem := false, runL := now } else { q with st := prReleasing, c := 0 }
    else if edge then { q with st := prFault, cause := 1 }
    else q
  else if p.st = prReleasing then
    let c := p.c + 1
    if !e && !o then { q with st := prSafe, mem := true }
    else if (e && o) && Nat.ble c d then { q with st := prRun, c, last := c, mem := false, runL := now }
    else if (p.even && !e) || (p.odd && !o) then { q with st := prSafe, c }
    else if d < c then { q with st := prFault, cause := 1, c }
    else { q with c }
  else if p.st = prRun then (if e && o then q else { q with st := prSafe, mem := !e && !o })
  else if !e && !o then { q with st := prSafe, cause := 0, mem := true }
  else q

/-- A pair that starts (Table 12.1, R292): SAFE, its memory set if both channels are de-energised. -/
def pairStart (si p : Nat) : PairSt :=
  { even := bitOf si (2 * p), odd := bitOf si (2 * p + 1), mem := !bitOf si (2 * p) && !bitOf si (2 * p + 1) }

/-- Whether a pair's use is a demanding one (Table 12.2). -/
def demandingUse (u : Nat) : Bool := u == 1 || u == 2 || u == 5

/-- The pair of a use, if there is exactly one. -/
def State.pairOf (s : State) (use : Nat) : Option Nat :=
  match (List.range 8).filter fun p => s.n (Obj.PAIR_USE p) == use with
  | [p] => some p
  | _ => none

/-- Whether QSF connection `c` gives cause for a demand (R310). -/
def qsfCause (s : State) (c : Nat) : Bool :=
  s.n (Obj.QSF_ROLE c) == 2 && (s.n (Obj.QSF_STATE c) != 1 || !bitOf (s.n (Obj.QSF_RX_BITS c)) (s.n (Obj.QSF_BIT c)))

/-- A source is demanding while its cause lasts and, with MANUAL, until a reset (R299). -/
def demandNext (cause auto reset was : Bool) : Bool := cause || (!auto && !reset && was)

/-- The two-hand control of a controller (R301): held, rearmed, and whether it has just been released. -/
def twoHand (s : State) (c : CtlSt) (pairs : List PairSt) : Bool × Bool × Bool :=
  match s.pairOf 3, s.pairOf 4 with
  | some a, some b =>
    let x := nth pairs a {}
    let y := nth pairs b {}
    let both := x.st == prRun && y.st == prRun
    let near := Nat.ble (max x.runL y.runL - min x.runL y.runL) 500000000
    let held := both && (c.held || (c.rearmed && near))
    let rearmed := if x.st = prSafe ∧ y.st = prSafe then true else if held ∨ c.held then false else c.rearmed
    (held, rearmed, c.held && !held)
  | _, _ => (false, true, c.held)

/-- The evaluations of a controller in a cycle (R290, R296 to R301); `remote` is a reset by SAFE_RESET. -/
def ctlCycle (s : State) (remote : Bool) (c : CtlSt) : CtlSt :=
  let now := s.lNow
  let pairs := (List.range 8).map fun p =>
    if s.n (Obj.PAIR_USE p) = 0 then nth c.pairs p {}
    else pairStep (s.n (Obj.DISCREPANCY_TIME p)) now (bitOf c.si (2 * p)) (bitOf c.si (2 * p + 1)) (nth c.pairs p {})
  let edge := (List.range 8).any fun p =>
    let old := nth c.pairs p {}
    let span := now - old.runL
    s.n (Obj.PAIR_USE p) == 7 && old.st == prRun && (nth pairs p {}).st != prRun && Nat.ble 100000000 span && Nat.ble span 5000000000
  let reset := edge || remote
  let pairs := (List.range 8).map fun p =>
    let x := nth pairs p {}
    let cause := demandingUse (s.n (Obj.PAIR_USE p)) && x.st != prRun
    { x with dem := demandingUse (s.n (Obj.PAIR_USE p)) && demandNext cause (s.n (Obj.RESET_MODE p) == 0) reset x.dem }
  let qdem := (List.range 8).map fun q =>
    s.n (Obj.QSF_ROLE q) == 2 && demandNext (qsfCause s q) (s.n (Obj.QSF_RESET_MODE q) == 0) reset (nth c.qdem q false)
  let (held, rearmed, released) := twoHand s c pairs
  let door := (List.range 8).any fun p => s.n (Obj.PAIR_USE p) == 2 && (nth pairs p {}).dem
  { c with pairs, qdem, held, rearmed, doorNow := door && !held && (released || c.doorNow) }

/-! ### Enables -/

/-- A demand source that acts on a string: its number (8 and above for QSF), whether by category 0. -/
def actingSources (s : State) (c : CtlSt) (n : Nat) : List (Nat × Bool) :=
  let pairs := (List.range 8).filterMap fun p =>
    if (nth c.pairs p {}).dem && bitOf (s.n (Obj.STRING_MASK p)) n then
      let hand := s.n (Obj.PAIR_USE p) == 2 && s.n Obj.TWO_HAND_STRING == n
      if hand && c.held then none else some (p, (hand && c.doorNow) || s.n (Obj.STOP_CATEGORY p) == 0)
    else none
  pairs ++ (List.range 8).filterMap fun q =>
    if nth c.qdem q false && bitOf (s.n (Obj.QSF_STRING_MASK q)) n then some (8 + q, s.n (Obj.QSF_STOP_CATEGORY q) == 0) else none

/-- The enable of string `n` by controller `c` under its demands (R300). -/
def demandGrants (s : State) (c : CtlSt) (n : Nat) : Bool :=
  (actingSources s c n).all fun x => !x.2 && !(s.ss n).stop1

/-- Whether an activation is under way (R481). -/
def State.activating (s : State) : Bool := Nat.ble 3 (s.n Obj.UPDATE_STATE) && Nat.ble (s.n Obj.UPDATE_STATE) 5

/-- Whether a string's enables are withheld whatever its demands (R292, R302, R304 to R306, R429, R455, R467, R484); an OVERDUE string
once it is OPEN, until a test passes, also where a test of it was aborted meanwhile. -/
def withheld (s : State) (n : Nat) : Bool :=
  let x := s.ss n
  !s.safetyRuns || s.safety.selfTest.isSome || s.safety.yield || s.pow.phase == 4 || s.pow.phase == 6 || (s.standby && s.activating) || x.weld || x.stuck ||
    (x.proof.isNone && (x.failed || ((x.overdue || s.n (Obj.PROOF_STATE n) == 5) && s.seq n == sqOpen)))

/-- The enables of a proof test's step (Table 12.3): X and Y. -/
def proofEnables (step : Nat) : Bool × Bool :=
  match step with
  | 2 | 7 => (true, false)
  | 3 | 5 => (false, true)
  | _ => (true, true)

/-- What controller X (`isX`) or Y grants string `n`. -/
def grants (s : State) (isX : Bool) (n : Nat) : Bool :=
  let c := if isX then s.safety.x else s.safety.y
  !withheld s n && demandGrants s c n &&
    (match (s.ss n).proof with
     | some (_, step) => if step = 1 then true else if isX then (proofEnables step).1 else (proofEnables step).2
     | none => true)

/-- Both controllers drive their enables; what is published of the strings (R300, R320). -/
def driveEnables (s : State) : State :=
  let m := s.asBuilt.strings
  let ex := maskOf m (grants s true)
  let ey := maskOf m (grants s false)
  let s := s.modSafety fun z => { z with x := { z.x with en := ex }, y := { z.y with en := ey } }
  s.each m fun n s =>
    let z := s.ss n
    let dem := !(actingSources s s.safety.x n).isEmpty
    s.putN (Obj.SAFE_STRING_FLAGS n) (b2n (bitOf ex n) + 2 * b2n (bitOf ey n) + 4 * b2n dem + 8 * b2n z.weld + 16 * b2n z.stuck +
      32 * b2n z.proof.isSome)

/-- SAFETY_FAULT (R291): latched, every enable removed. -/
def safetyFault (cause : Nat) (s : State) : State :=
  if s.n Obj.SAFETY_FAULT_CAUSE ≠ 0 then s else
  driveEnables ((s.putN Obj.SAFETY_STATE 2).putN Obj.SAFETY_FAULT_CAUSE cause)

/-- Category 1 (R300): a string newly covered is asked to open; its removal is due once all three readbacks are off. The
sequencer of a STANDBY module does not act (R437). -/
def category1 (n : Nat) (s : State) : State :=
  let soft := (actingSources s s.safety.x n ++ actingSources s s.safety.y n).any fun x => !x.2
  let any := !(actingSources s s.safety.x n).isEmpty || !(actingSources s s.safety.y n).isEmpty
  let s := if any then abortProof n s else s
  if !soft then s.modSs n fun x => { x with asked := false, stop1 := false }
  else
    let off := !s.koOn (koPos n) && !s.koOn (koNeg n) && !s.koOn (koPre n)
    let s := if (s.ss n).asked || s.standby then s else openString n false s
    s.modSs n fun x => { x with asked := true, stop1 := x.stop1 || off }

/-- OUTPUT_STUCK (R302): an output on in three readings after both enables have been removed; the sequencer of a STANDBY module
does not act (R437). -/
def stuckCheck (x : SafetySample) (m : Nat) (s : State) : State :=
  let n := m / 3
  let run := if !bitOf s.safety.x.en n && !bitOf s.safety.y.en n && (bitOf x.koX m || bitOf x.koY m) then
    amGetD s.safety.stuckRun m 0 + 1 else 0
  let s := s.modSafety fun z => { z with stuckRun := if run = 0 then amErase z.stuckRun m else amSet z.stuckRun m run }
  if 3 ≤ run ∧ !(s.ss n).stuck then
    let s := s.modSs n fun z => { z with stuck := true }
    if s.standby then s else tripContainer true s
  else s

/-- The weld tests (R304): begun at a switch-off of an output whose aux input is a safety input, which is the removal of an
enable of its string or the readback of its going off; ended by its opening. -/
def weldTests (ko : Nat) (s : State) : State :=
  let gone := fun (m : Nat) =>
    (bitOf s.safety.enBefore.1 (m / 3) && !bitOf s.safety.x.en (m / 3)) || (bitOf s.safety.enBefore.2 (m / 3) && !bitOf s.safety.y.en (m / 3))
  let begun := (List.range s.asBuilt.contactors).filter fun m => s.auxIsSi m && ((bitOf s.safety.koBefore m && !bitOf ko m) || gone m)
  let l := (begun ++ s.safety.weldTests.filter fun m => !begun.contains m).filter fun m => s.auxClosed m
  s.modSafety fun z => { z with weldTests := l, koBefore := ko, enBefore := (z.x.en, z.y.en) }

/-- The exchanged items in which the controllers differ (R290, R291): inputs, pair states, enables, readbacks, evaluation
results. -/
def differences (s : State) (x : SafetySample) : List Nat :=
  let a := s.safety.x
  let b := s.safety.y
  ((List.range 16).filter fun i => bitOf a.si i != bitOf b.si i) ++
  ((List.range 8).filter fun p => (nth a.pairs p {}).st != (nth b.pairs p {}).st).map (16 + ·) ++
  ((List.range 16).filter fun n => bitOf a.en n != bitOf b.en n && (s.ss n).proof.isNone).map (24 + ·) ++
  ((List.range s.asBuilt.contactors).filter fun m => bitOf x.koX m != bitOf x.koY m).map (40 + ·) ++
  ((List.range 8).filter fun p => (nth a.pairs p {}).dem != (nth b.pairs p {}).dem).map (88 + ·) ++
  ((List.range 8).filter fun q => nth a.qdem q false != nth b.qdem q false).map (96 + ·) ++
  (if a.held != b.held then [104] else [])

/-- What is published of the pairs, and the log entry of a pair that has newly faulted (R296). -/
def showPairs (old : List PairSt) (s : State) : State :=
  s.each 8 fun p s =>
    let x := nth s.safety.x.pairs p {}
    let s := ((s.putN (Obj.PAIR_STATE p) x.st).putN (Obj.PAIR_FAULT p) x.cause).putN (Obj.LAST_DISCREPANCY p) x.last
    let s := s.putB (Obj.PAIR_DEMANDING p) x.dem
    if x.st = prFault ∧ (nth old p {}).st ≠ prFault then s.logN 0x0701 0x3000 p x.cause x.c else s

/-- Both controllers evaluate (R290). -/
def evaluate (remote : Bool) (s : State) : State :=
  let old := s.safety.x.pairs
  let s := s.modSafety fun z => { z with x := ctlCycle s remote z.x, y := ctlCycle s remote z.y }
  driveEnables (showPairs old (s.each s.asBuilt.strings category1))

/-- The remaining time of a lock-out runs down (R313). -/
def lockTick (s : State) : State :=
  if s.safety.lockMs = 0 then s else
  let ms := s.safety.lockMs - 1
  let s := (s.modSafety fun z => { z with lockMs := ms }).putN Obj.LOCKOUT_REMAINING ((ms + 999) / 1000)
  if ms = 0 then s.putN Obj.LOGIN_FAILURES 0 else s

/-- The pairs and connections start (R292, R296, R309, R310). -/
def startSafety (s : State) : State :=
  let s := s.modSafety fun z => { z with
    x := { z.x with pairs := (List.range 8).map (pairStart z.x.si), qdem := List.replicate 8 false, held := false, rearmed := true, doorNow := false },
    y := { z.y with pairs := (List.range 8).map (pairStart z.y.si), qdem := List.replicate 8 false, held := false, rearmed := true, doorNow := false },
    diffs := [], lost := 0, remote := false, tpRun := List.replicate 16 0, stuckRun := [] }
  let s := s.each 8 fun c s =>
    let s := s.modQsf c fun x => { x with last := none, synced := false, faultL := s.lNow, sent := 0 }
    (s.putN (Obj.QSF_STATE c) (if s.n (Obj.QSF_ROLE c) = 2 then 2 else if s.n (Obj.QSF_ROLE c) = 1 then 1 else 0)).putN (Obj.QSF_RX_BITS c) 0
  evaluate false s

/-- RUN check of the safety function (R292, R294, R298, R300, R301, R310, R315, R519). -/
def safetyRunCheck (s : State) : Option Abort :=
  let pairs := List.range 8
  let beyond := fun (m : Nat) => m / 2 ^ s.asBuilt.strings != 0
  let onCan := fun (c : Nat) => s.n (Obj.QSF_ROLE c) == 1 && Nat.blt (s.n (Obj.QSF_TRANSPORT c)) 2
  let count := fun (u : Nat) => (pairs.filter fun p => s.n (Obj.PAIR_USE p) == u).length
  if s.n Obj.SAFETY_FAULT_CAUSE ≠ 0 then some (inconsistent Obj.SAFETY_FAULT_CAUSE) else
  match pairs.find? fun p => s.n (Obj.PAIR_USE p) != 5 && (s.n (Obj.TP_SOURCE_EVEN p) == s.n (Obj.TP_SOURCE_ODD p) ||
      s.n (Obj.TP_SOURCE_EVEN p) == 0xFF || s.n (Obj.TP_SOURCE_ODD p) == 0xFF) with
  | some p => some (inconsistent (Obj.TP_SOURCE_ODD p))
  | none =>
  match pairs.find? fun p => beyond (s.n (Obj.STRING_MASK p)) with
  | some p => some (inconsistent (Obj.STRING_MASK p))
  | none =>
  match pairs.find? fun c => beyond (s.n (Obj.QSF_STRING_MASK c)) with
  | some c => some (inconsistent (Obj.QSF_STRING_MASK c))
  | none =>
  match pairs.find? fun p => demandingUse (s.n (Obj.PAIR_USE p)) && s.n (Obj.STOP_CATEGORY p) == 1 &&
      Nat.blt (s.n (Obj.STOP1_DELAY p)) (s.n Obj.BREAK_WAIT + s.n Obj.NEG_OPEN_DELAY + 50) with
  | some p => some (inconsistent (Obj.STOP1_DELAY p))
  | none =>
  if (pairs.any fun c => s.n (Obj.QSF_ROLE c) == 2 && s.n (Obj.QSF_STOP_CATEGORY c) == 1) &&
      Nat.blt 700 (s.n Obj.BREAK_WAIT + s.n Obj.NEG_OPEN_DELAY + 50) then some (inconsistent (Obj.STOP1_DELAY 0)) else
  if count 3 ≠ count 4 ∨ 1 < count 3 then
    some (inconsistent (Obj.PAIR_USE ((pairs.find? fun p => s.n (Obj.PAIR_USE p) == 3 || s.n (Obj.PAIR_USE p) == 4).getD 0))) else
  match pairs.find? fun c => s.n (Obj.QSF_ROLE c) == 1 && Nat.blt (s.n (Obj.QSF_WATCHDOG c)) (2 * s.n (Obj.QSF_CYCLE c)) with
  | some c => some (inconsistent (Obj.QSF_CYCLE c))
  | none =>
  if s.n Obj.SIGNATURE_CONFIRM ≠ s.signature then some (inconsistent Obj.SIGNATURE_CONFIRM) else
  match pairs.find? fun c => onCan c &&
      (idTaken s Obj.SAFETY_STATE (s.n (Obj.QSF_TRANSPORT c)) [s.n (Obj.QSF_CAN_ID c)] || (List.range c).any fun d => onCan d &&
        s.n (Obj.QSF_TRANSPORT d) == s.n (Obj.QSF_TRANSPORT c) && s.n (Obj.QSF_CAN_ID d) == s.n (Obj.QSF_CAN_ID c)) with
  | some c => some (inconsistent (Obj.QSF_CAN_ID c))
  | none => none

/-- The self-test of a SAFETY_RESTART has passed (R292): the function comes back as from start-up, so in its stored state and
with the checks of its RUN. -/
def selfTestPassed (s : State) : State :=
  let s := s.modSafety fun z => { z with selfTest := none }
  let stored := ((amGet? s.idp.flash Obj.SAFETY_STATE).map (·.1)).getD (s.n Obj.SAFETY_STATE)
  if s.n Obj.SAFETY_STATE = 0 ∨ stored = 0 then driveEnables (s.putN Obj.SAFETY_STATE 0)
  else if safetyRunCheck s = none then startSafety (s.putN Obj.SAFETY_STATE 1)
  else driveEnables (s.putN Obj.SAFETY_STATE 2)

/-- A cycle of the self-test of a SAFETY_RESTART, which takes at most 1.5 s (R292; DEDUCED, log entry 178). -/
def selfTestCycle (k : Nat) (x : SafetySample) (s : State) : State :=
  if x.tested ∨ 1499 ≤ k then selfTestPassed s
  else driveEnables (s.modSafety fun z => { z with selfTest := some (k + 1) })

/-- SAFETY_CYCLE (R290 to R304), in every state of the function. A difference of the two change logs is a fault too (R314). -/
def safetyCycle (x : SafetySample) (s : State) : State :=
  let s := lockTick s
  if x.failure = 3 ∨ x.failure = 5 then safetyFault x.failure s else if x.failure ≠ 0 then safetyFault 4 s else
  if s.safety.x.log ≠ s.safety.y.log then safetyFault 5 s else
  match s.safety.selfTest with
  | some k => selfTestCycle k x s
  | none =>
  let s := s.each s.asBuilt.contactors (stuckCheck x)
  let s := evaluate s.safety.remote s
  let s := weldTests (x.koX &&& x.koY) s
  let d := differences s x
  let again := d.any fun i => s.safety.diffs.contains i
  let lost := if x.lost then s.safety.lost + 1 else 0
  let s := s.modSafety fun z => { z with diffs := d, lost, remote := false }
  if 2 ≤ lost then safetyFault 2 s else if again then safetyFault 1 s else s

/-- A safety input level is accepted by X (1), Y (2) or both (0) (R293). -/
def siChange (controller channel : Nat) (level : Bool) (s : State) : State :=
  s.modSafety fun z => { z with
    x := if controller = 2 then z.x else { z.x with si := withBit z.x.si channel level },
    y := if controller = 1 then z.y else { z.y with si := withBit z.y.si channel level } }

/-- The test pulse source of a channel (R294). -/
def tpSource (s : State) (ch : Nat) : Nat := s.n (if ch % 2 = 0 then Obj.TP_SOURCE_EVEN (ch / 2) else Obj.TP_SOURCE_ODD (ch / 2))

/-- Base L of the test pulse frames: its own, on a standby that of its active partner (R428). -/
def State.tpBase (s : State) : Nat :=
  match s.duo.hb with
  | some h => if s.standby then s.lNow + h.l - s.duo.hbL else s.lNow
  | none => s.lNow

/-- Output TPn (R294): on, but for 300 µs from n × 12.5 ms within every frame of 50 ms. -/
def State.tpOn (s : State) (n : Nat) : Bool :=
  let t := s.tpBase % 50000000
  s.carrierOn && s.duo.tpDriven && !(Nat.ble (12500000 * n) t && Nat.blt t (12500000 * n + 300000))

/-- A pair faults in both controllers (Table 12.1). -/
def faultPair (p cause : Nat) (s : State) : State :=
  let f := fun (c : CtlSt) =>
    let x := nth c.pairs p {}
    if x.st = prRun ∨ x.st = prReleasing then { c with pairs := c.pairs.set p { x with st := prFault, cause } } else c
  s.modSafety fun z => { z with x := f z.x, y := f z.y }

/-- TEST_PULSE_FRAME (R295): the channels whose frame failed a check; two failed frames in a row raise TEST_PULSE. -/
def testPulseFrame (failed : List Nat) (s : State) : State :=
  let old := s.safety.x.pairs
  let s := s.each 16 fun ch s =>
    let p := ch / 2
    if s.n (Obj.PAIR_USE p) = 0 ∨ tpSource s ch = 0xFF ∨ !bitOf s.safety.x.si ch then s
    else if !failed.contains ch then s.modSafety fun z => { z with tpRun := z.tpRun.set ch 0 }
    else
      let run := nth s.safety.tpRun ch 0 + 1
      let s := (s.inc (Obj.TP_ERRORS p)).modSafety fun z => { z with tpRun := z.tpRun.set ch run }
      if 2 ≤ run then faultPair p 2 s else s
  showPairs old s

/-- DISCREPANCY_FAULT as an event: the count of a RELEASING pair exceeds DISCREPANCY_TIME (R296). -/
def discrepancyFault (p : Nat) (s : State) : State :=
  if (nth s.safety.x.pairs p {}).st != prReleasing then s else
  showPairs s.safety.x.pairs (faultPair p 1 s)

/-- STOP1_DELAY passes after a demand of a source (R300): the enables of the covered strings are removed. -/
def stop1Delay (source : Nat) (s : State) : State :=
  if !s.safetyRuns then s else
  driveEnables (s.each s.asBuilt.strings fun n s =>
    if (actingSources s s.safety.x n).any fun x => x.1 == source && !x.2 then s.modSs n fun z => { z with stop1 := true } else s)

/-- SAFE_WELD on an output whose aux input has not shown open within SAFE_AUX_TIME (R304). -/
def safeWeld (m : Nat) (s : State) : State :=
  if !s.safety.weldTests.contains m || !s.auxClosed m then s else
  driveEnables ((s.modSs (m / 3) fun z => { z with weld := true }).modSafety fun z => { z with weldTests := z.weldTests.filter (· != m) })

/-! ### Proof tests -/

/-- The output of a proof test's turn (Table 12.3). -/
def proofOutput (n i : Nat) : Nat := if i = 0 then koNeg n else if i = 1 then koPre n else koPos n

/-- A string falls due for a proof test (R305). -/
def proofDue (n : Nat) (s : State) : State :=
  if s.safetyRuns ∧ (s.n (Obj.PROOF_STATE n) = 0 ∨ s.n (Obj.PROOF_STATE n) = 6) then s.putN (Obj.PROOF_STATE n) 1 else s

/-- A string that has still not passed becomes OVERDUE (R306); one whose test runs shows what its test gives, and its enables
are withheld once it is OPEN (DEDUCED, log entry 180). -/
def proofOverdue (n : Nat) (s : State) : State :=
  if !s.safetyRuns || s.n (Obj.PROOF_STATE n) == 0 then s else
  let s := s.modSs n fun z => { z with overdue := true }
  if s.n (Obj.PROOF_STATE n) = 2 then s else driveEnables (s.putN (Obj.PROOF_STATE n) 5)

/-- Step `step` of output `i` begins. -/
def proofAt (n i step : Nat) (s : State) : State := driveEnables (s.modSs n fun z => { z with proof := some (i, step) })

/-- A proof test starts (R305). -/
def startProof (n : Nat) (s : State) : State :=
  let s := openString n false s
  proofAt n 0 1 (s.putN (Obj.PROOF_STATE n) 2)

/-- Whether a proof test of a string may start (R305). -/
def proofAllowed (s : State) (n : Nat) : Bool :=
  s.safetyRuns && (s.ss n).proof.isNone && (s.seq n == sqOpen || decide (s.magnitude n ≤ s.q Obj.BREAK_CURRENT))

/-- PROOF_START (R305). -/
def ownProofStart (v : Val) (s : State) : Except Abort State :=
  if proofAllowed s v.toNat then .ok (startProof v.toNat s) else .error (inconsistent Obj.PROOF_START)

/-- A proof test fails at a step of Table 12.3. -/
def proofFail (n i step : Nat) (s : State) : State :=
  let s := ((koOff n s).putN (Obj.PROOF_STATE n) 3).modSs n fun z => { z with proof := none, failed := true }
  driveEnables (s.logN 0x0702 0x3000 n (min step 6) (proofOutput n i))

/-- The pass condition of a step (Table 12.3). -/
def proofPasses (s : State) (m step : Nat) : Bool :=
  let on := step == 4 || step == 6
  s.koOn m == on && (!s.auxIsSi m || s.auxClosed m == on)

/-- A proof test passes (Table 12.3 step 7). -/
def proofPassed (n : Nat) (s : State) : State :=
  let s := ((koOff n s).putN (Obj.PROOF_STATE n) 0).putN (Obj.PROOF_LAST n) s.pNow
  driveEnables (s.modSs n fun z => { z with proof := none, failed := false, overdue := false })

/-- PROOF_TEST_STEP: the wait of the step in progress ends and its condition is judged (Table 12.3). -/
def proofTestStep (n : Nat) (s : State) : State :=
  match (s.ss n).proof with
  | none => s
  | some (i, step) =>
    if step = 1 then
      if s.seq n = sqOpen then proofAt n 0 2 (setKo (proofOutput n 0) true s)
      else if s.seq n = sqLockedOut then proofFail n 0 1 s
      else s
    else if !proofPasses s (proofOutput n i) step then proofFail n i step s
    else if step < 7 then proofAt n i (step + 1) s
    else
      let s := setKo (proofOutput n i) false s
      if i < 2 then proofAt n (i + 1) 2 (setKo (proofOutput n (i + 1)) true s) else proofPassed n s

/-! ### QSF -/

/-- SAFE_BITS of a producer (R310). -/
def producerBits (s : State) : Nat :=
  maskOf 16 (fun n => bitOf s.safety.x.en n && bitOf s.safety.y.en n) +
  2 ^ 16 * maskOf 8 (fun p => (nth s.safety.x.pairs p {}).st == prRun) + 2 ^ 31 * b2n s.safetyRuns

/-- The frame of a producer (Table 12.5). -/
def qsfFrame (s : State) (c : Nat) : Bytes :=
  let x := s.qsf c
  let fl := b2n (!s.safetyRuns) + 2 * b2n (Nat.blt x.sent 10)
  let b := leBytes 4 (s.n (Obj.QSF_CONN_ID c)) ++ leBytes 2 x.seq ++ leBytes 1 fl ++ [0] ++ leBytes 4 (producerBits s) ++ leBytes 4 0
  b ++ leBytes 4 (crc32 (s.n (Obj.QSF_SAFETY_ID c)) b)

/-- A producer sends its frame (R308, R310). -/
def qsfSend (c : Nat) (s : State) : State :=
  if s.n (Obj.QSF_ROLE c) ≠ 1 ∨ s.n Obj.SAFETY_STATE = 0 ∨ s.standby then s else
  let b := qsfFrame s c
  let s := s.modQsf c fun x => { x with seq := (x.seq + 1) % 65536, sent := x.sent + 1, bits := producerBits s }
  let t := s.n (Obj.QSF_TRANSPORT c)
  if t = 2 then s.emit (.udp 48821 (s.n (Obj.QSF_PEER_ADDR c)) b)
  else sendService (serviceFrame t (s.n (Obj.QSF_CAN_ID c)) true b) false s

/-- A producer whose bits have changed sends at once (R310). -/
def qsfChanges (s : State) : State := s.each 8 fun c s => if (s.qsf c).bits = producerBits s then s else qsfSend c s

/-- Whether a frame is well formed for a connection (R309). -/
def qsfOk (s : State) (c : Nat) (b : Bytes) : Bool :=
  b.length == 20 && fieldU b 16 4 == crc32 (s.n (Obj.QSF_SAFETY_ID c)) (b.take 16) && fieldU b 0 4 == s.n (Obj.QSF_CONN_ID c) &&
  fieldU b 6 1 / 4 == 0 && fieldU b 7 1 == 0 && fieldU b 12 4 == 0

/-- A consumer receives a frame (R309): accepted, ignored or rejected. -/
def qsfReceive (c : Nat) (b : Bytes) (s : State) : State :=
  if s.n (Obj.QSF_ROLE c) ≠ 2 ∨ s.n Obj.SAFETY_STATE = 0 then s else
  let x := s.qsf c
  let seq := fieldU b 4 2
  let fl := fieldU b 6 1
  let diff := x.last.map fun l => (seq + 65536 - l) % 65536
  let inRange := match diff with | some d => Nat.ble 1 d && Nat.ble d 4 | none => false
  let late := Nat.ble 10000 (s.msSince x.faultL)
  if !qsfOk s c b then s.inc (Obj.QSF_REJECTED c)
  else if diff = some 0 then s
  else if inRange || (!x.synced && (bitOf fl 1 || late)) then
    let s := (s.modQsf c fun y => { y with last := some seq, synced := true }).putN (Obj.QSF_STATE c) 1
    s.putN (Obj.QSF_RX_BITS c) (if bitOf fl 0 then 0 else fieldU b 8 4)
  else s.inc (Obj.QSF_REJECTED c)

/-- No frame accepted within QSF_WATCHDOG (R309). -/
def qsfWatchdog (c : Nat) (s : State) : State :=
  if s.n (Obj.QSF_ROLE c) ≠ 2 ∨ s.n Obj.SAFETY_STATE = 0 then s else
  ((s.putN (Obj.QSF_STATE c) 2).putN (Obj.QSF_RX_BITS c) 0).modQsf c fun x => { x with synced := false, faultL := s.lNow }

/-- The consumers a CAN frame belongs to (R308, R347). -/
def qsfFromCan (f : CanFrame) (s : State) : State :=
  if !f.fd then s else
  s.each 8 fun c s => if s.n (Obj.QSF_ROLE c) = 2 ∧ frameOn f (s.n (Obj.QSF_TRANSPORT c)) (s.n (Obj.QSF_CAN_ID c)) then qsfReceive c f.data s else s

/-! ### Sessions and configuration -/

/-- A safety session ends (R311). -/
def endSafetySession (s : State) : State := (s.modSafety fun z => { z with session := none }).putB Obj.SAFETY_SESSION false

/-- SAFETY_LOGIN (R311, R313). -/
def ownSafetyLogin (src : ReqSource) (v : Val) (s : State) : Except Abort State :=
  let b := v.toBytes
  if b.isEmpty then .ok (if s.safety.session = some src then endSafetySession s else s)
  else if s.safety.lockMs ≠ 0 then .error (Abort.of aPasswordLocked 0)
  else if s.safety.pwHash = some (Config.passwordHash b) then
    let s := (s.modSafety fun z => { z with session := some src }).putB Obj.SAFETY_SESSION true
    .ok (logChange Obj.SAFETY_LOGIN 2 0 (s.putN Obj.LOGIN_FAILURES 0))
  else .error (Abort.of aPasswordWrong 0)

/-- A login that the lock-out refused enters the change log (R314). -/
def loginBarred (s : State) : State :=
  if !s.safety.barred then s else logChange Obj.SAFETY_LOGIN 3 0 (s.modSafety fun z => { z with barred := false })

/-- A failed login is counted; the fifth starts a lock-out (R313, R314). -/
def loginFailed (s : State) : State :=
  let s := loginBarred s
  if !s.safety.wrong then s else
  let s := s.modSafety fun z => { z with wrong := false }
  let k := s.n Obj.LOGIN_FAILURES + 1
  let s := logChange Obj.SAFETY_LOGIN 3 0 (s.putN Obj.LOGIN_FAILURES k)
  if k < 5 then s else
  logChange Obj.SAFETY_LOGIN 4 0 ((s.modSafety fun z => { z with lockMs := 600000 }).putN Obj.LOCKOUT_REMAINING 600)

/-- 15 minutes pass without a SAFE write (R311). -/
def safetySessionTimeout (s : State) : State := if s.safety.session.isSome then endSafetySession s else s

/-- The lock-out ends (R313). -/
def lockoutEnd (s : State) : State :=
  if s.safety.lockMs = 0 then s else
  ((s.modSafety fun z => { z with lockMs := 0 }).putN Obj.LOCKOUT_REMAINING 0).putN Obj.LOGIN_FAILURES 0

/-- SAFETY_PASSWORD_NEW (R312, R314). -/
def ownPasswordNew (v : Val) (s : State) : Except Abort State :=
  .ok (logChange Obj.SAFETY_PASSWORD_NEW 8 0 (s.modSafety fun z => { z with pwHash := some (Config.passwordHash v.toBytes) }))

/-- A write of a SAFE setting (R311, R314). -/
def ownSafeWrite (key : Nat) (ty : Ty) (v : Val) (s : State) : Except Abort State :=
  .ok (logChange key 1 (crc32 0xFFFFFFFF (ty.encode v)) (s.put key v))

/-- SAFE_RESET (R299): it acts in the next cycle of the controllers. -/
def ownSafeReset (_ : Val) (s : State) : Except Abort State :=
  .ok (if s.b Obj.SAFE_RESET_REMOTE ∧ s.safetyRuns then s.modSafety fun z => { z with remote := true } else s)

/-- SAFETY_RESTART (R292, R302, R314): SAFETY_FAULT and OUTPUT_STUCK clear, the self-test begins again; every enable is
withheld until a cycle brings its end. -/
def ownSafetyRestart (_ : Val) (s : State) : Except Abort State :=
  let s := s.putN Obj.SAFETY_FAULT_CAUSE 0
  let s := (s.each 16 fun n s => s.modSs n fun z => { z with stuck := false }).modSafety fun z => { z with selfTest := some 0 }
  .ok (logChange Obj.SAFETY_RESTART 7 0 (driveEnables s))

/-- RUN of the safety function (R314, R315). -/
def safetyRun (s : State) : State :=
  logChange Obj.SAFETY_STATE 5 0 (startSafety (s.putN Obj.SIGNATURE_RUNNING s.signature))

/-- STOP of the safety function is refused while any string is not OPEN (R311). -/
def safetyStopCheck (s : State) : Option Abort := s.firstNotOpen.map fun n => conflict (Obj.STRING_SEQ_STATE n)

/-- STOP of the safety function (R311, R314): every enable is withheld. -/
def safetyStop (s : State) : State :=
  let s := s.each 8 fun c s => s.putN (Obj.QSF_STATE c) 0
  logChange Obj.SAFETY_STATE 6 0 (driveEnables s)

end Sys2Proof.Machine
end

