-- ==== Sys2Proof/Machine/Deals.lean ====
section
/-!
DEFINITION. Dispatch and the plant table (R321 to R339): string and container limits, the deal, set-points and their
frames, command sources, pilot periods, the calibration charge, proof tests, and the table of seats.
-/

namespace Sys2Proof.Machine

/-- The strings that are CLOSED. -/
def State.closedStrings (s : State) : List Nat := (List.range s.asBuilt.strings).filter fun n => s.seq n == sqClosed

/-! ### The deal (R324) -/

/-- A unit of a deal: its number, its limit in the direction of the command in kW, its weight. -/
structure DealUnit where
  id : Nat
  lim : Rat
  w : Rat
  deriving DecidableEq, Repr

/-- x to the power g: exactly for the whole exponents of the range 1 to 4. -/
def weightPow (x g : Rat) : Rat :=
  if g = 1 then x else if g = 2 then x * x else if g = 3 then x * x * x else if g = 4 then x * x * x * x else realPow x g

/-- The passes of a deal over the open units: the shares set and what remains. -/
def dealPasses : Nat → List DealUnit → Rat → List (Nat × Rat) → List (Nat × Rat) × Rat
  | 0, _, rest, acc => (acc, rest)
  | fuel + 1, open_, rest, acc =>
    if open_.isEmpty || decide (rest ≤ 0) then (acc, rest) else
    let total := (open_.map DealUnit.w).sum
    let want := fun (u : DealUnit) => if 0 < total then rest * u.w / total else rest / (open_.length : Rat)
    let clipped := open_.filter fun u => decide (u.lim ≤ want u)
    if clipped.isEmpty then (open_.map (fun u => (u.id, want u)) ++ acc, 0)
    else dealPasses fuel (open_.filter fun u => !decide (u.lim ≤ want u)) (rest - (clipped.map DealUnit.lim).sum)
      (clipped.map (fun u => (u.id, u.lim)) ++ acc)

/-- A deal of a command among units (R324): the magnitude of each share, in the order dealt, and the shortfall. -/
def dealUnits (command : Rat) (units : List DealUnit) : List (Nat × Rat) × Rat :=
  dealPasses (units.length + 1) (units.filter fun u => decide (0 < u.lim)) (rabs command) []

/-- The share of a unit after a deal, with the sign of the command; 0 for a unit that was not dealt. -/
def shareOf (command : Rat) (shares : List (Nat × Rat)) (id : Nat) : Rat :=
  let m := ((shares.find? fun x => x.1 == id).map (·.2)).getD 0
  if command < 0 then -m else m

/-- A command as a rational: an infinite command exceeds every sum of limits, so that it clips every unit. -/
def commandRat (v : Val) (sumLimits : Rat) : Rat :=
  match v with
  | .inf neg => if neg then -(sumLimits + 1) else sumLimits + 1
  | x => x.toRat

/-! ### Limits (R322, R323) -/

/-- Whether a string's limits are 0 (R322). -/
def limitsZero (s : State) (n : Nat) : Bool := s.seq n != sqClosed || (s.ps n).zero || s.b Obj.CONTAINER_TRIPPED

/-- The limits of string `n` at the sweep tail (R322). -/
def stringLimits (n : Nat) (s : State) : State :=
  let h := 0x10000 * s.n Obj.LIMIT_HORIZON
  let z := limitsZero s n
  let c := s.q (Obj.STRING_SOP_CHG_2S n + h)
  let d := s.q (Obj.STRING_SOP_DIS_2S n + h)
  let f := fun (sop : Rat) (dir : Nat) => if z then 0 else sop * (protLimit s n dir : Rat) / 100
  ((s.putQ (Obj.STRING_LIMIT_CHG n) (f c 0)).putQ (Obj.STRING_LIMIT_DIS n) (f d 1)).modDisp fun x => { x with sops := x.sops.set n (c, d) }

/-- A limit object falls to a value below it. -/
def State.lower (s : State) (key : Nat) (q : Rat) : State := if q < s.q key then s.putQ key q else s

/-- Between sweep tails the limits of string `n` only fall, at once: to 0 (R322), with a protection limit (R24, R271). -/
def fallLimits (n : Nat) (s : State) : State :=
  let x := nth s.disp.sops n (0, 0)
  let f := fun (sop : Rat) (dir : Nat) => if limitsZero s n then 0 else sop * (protLimit s n dir : Rat) / 100
  (s.lower (Obj.STRING_LIMIT_CHG n) (f x.1 0)).lower (Obj.STRING_LIMIT_DIS n) (f x.2 1)

/-- The ratios of this sweep enter the history of the last 10 sweeps of the closed set; a change of the set restarts it (R323).
A sweep whose sum lies below SHARE_MIN_CURRENT has none (log entry 71). -/
def shareHistory (s : State) : State :=
  let l := s.closedStrings
  let is := l.map fun n => s.q (Obj.STRING_I_MEAN n)
  let sum := is.sum
  let old := if s.disp.closed = l then s.disp.ratios else []
  let new := ((if rabs sum < s.q Obj.SHARE_MIN_CURRENT then [] else is.map fun i => i / sum) :: old).take 10
  s.modDisp fun d => { d with closed := l, ratios := new }

/-- σ of the closed strings (R323): each with its share. -/
def shares? (s : State) : List (Nat × Rat) :=
  let l := s.closedStrings
  let n : Rat := (l.length : Rat)
  let sum := (l.map fun m => s.q (Obj.STRING_I_MEAN m)).sum
  l.zipIdx.map fun x =>
    let r := (s.disp.ratios.filter fun row => !row.isEmpty).map fun row => nth row x.2 0
    if rabs sum < s.q Obj.SHARE_MIN_CURRENT ∨ r.isEmpty then (x.1, 1 / n)
    else (x.1, rmax (1 / 2 / n) (r.sum / (r.length : Rat)))

/-- The smallest of a list; 0 for an empty one. -/
def leastOf (l : List Rat) : Rat :=
  match l with
  | [] => 0
  | x :: r => r.foldl rmin x

/-- The container limits at the sweep tail (R323). -/
def containerLimits (s : State) : State :=
  if s.perString then
    let sum := fun key => ((List.range s.asBuilt.strings).map fun n => s.q (key n)).sum
    (s.putQ Obj.CONTAINER_LIMIT_CHG (sum Obj.STRING_LIMIT_CHG)).putQ Obj.CONTAINER_LIMIT_DIS (sum Obj.STRING_LIMIT_DIS)
  else
    let s := shareHistory s
    let sh := shares? s
    let s := s.each s.asBuilt.strings fun n s => s.putQ (Obj.STRING_SHARE n) (((sh.find? fun x => x.1 == n).map (·.2)).getD 0)
    let opening := (List.range s.asBuilt.strings).any fun n => (s.ps n).czero
    let f := fun (key : Nat → Nat) => if opening then 0 else leastOf (sh.map fun x => s.q (key x.1) / x.2)
    (s.putQ Obj.CONTAINER_LIMIT_CHG (f Obj.STRING_LIMIT_CHG)).putQ Obj.CONTAINER_LIMIT_DIS (f Obj.STRING_LIMIT_DIS)

/-! ### Set-points (R325 to R327) -/

/-- The low-form pilot value of the sweep in kW (R107). -/
def pilotValue (s : State) : Rat :=
  if !s.pilotOn || s.n Obj.PILOT_HARMONIC != 0 then 0 else
  (s.n Obj.PILOT_AMPLITUDE : Rat) / 10 * realSinTurn ((s.sweep.pilotK : Rat) / (s.n Obj.PILOT_SWEEPS_PER_PERIOD : Rat))

/-- The amplitude by which a harmonic-form pilot narrows the clamp, in kW (R327). -/
def pilotMargin (s : State) : Rat :=
  if s.b Obj.PILOT_ACTIVE && s.n Obj.PILOT_HARMONIC != 0 then (s.n Obj.PILOT_AMPLITUDE : Rat) / 10 else 0

/-- A set-point from its share: the pilot value added, then the clamp (R327). Where the amplitude of a harmonic pilot leaves
nothing between the limits the value is free within them. -/
def formSetpoint (s : State) (share chg dis : Rat) : Rat :=
  let lo := -dis + pilotMargin s
  let hi := chg - pilotMargin s
  if hi < lo then rclamp (-dis) chg (Config.clampCrossed lo hi) else rclamp lo hi (share + pilotValue s)

/-- The set-points from the shares and the limits in force (R24, R325, R327); under SHARED STRING_SETPOINT is 0. -/
def formSetpoints (s : State) : State :=
  s.each s.asBuilt.strings fun n s =>
    let s := fallLimits n s
    let sp := if limitsZero s n || !s.perString || !s.running Obj.DISPATCH_STATE then 0
      else formSetpoint s (nth s.disp.shares n 0) (s.q (Obj.STRING_LIMIT_CHG n)) (s.q (Obj.STRING_LIMIT_DIS n))
    s.putQ (Obj.STRING_SETPOINT n) sp

/-- The container limits between sweep tails: 0 with CONTAINER_TRIPPED and, under SHARED, while a string opens; under SHARED
they fall at once with a string limit, by the shares of the latest tail (R24, R323). -/
def fallContainer (s : State) : State :=
  if s.b Obj.CONTAINER_TRIPPED || !s.perString && ((List.range s.asBuilt.strings).any fun n => (s.ps n).czero) then
    (s.putQ Obj.CONTAINER_LIMIT_CHG 0).putQ Obj.CONTAINER_LIMIT_DIS 0
  else if s.perString then s else
  let f := fun (key : Nat → Nat) =>
    leastOf ((s.disp.closed.filter fun n => s.seq n == sqClosed).map fun n => s.q (key n) / s.q (Obj.STRING_SHARE n))
  (s.lower Obj.CONTAINER_LIMIT_CHG (f Obj.STRING_LIMIT_CHG)).lower Obj.CONTAINER_LIMIT_DIS (f Obj.STRING_LIMIT_DIS)

/-- The single set-point under SHARED (R325, R327). -/
def singleSetpoint (s : State) : Rat :=
  if s.running Obj.DISPATCH_STATE then formSetpoint s s.disp.single (s.q Obj.CONTAINER_LIMIT_CHG) (s.q Obj.CONTAINER_LIMIT_DIS)
  else 0

/-- The string in calibration charge, if one is (R335). -/
def State.calString? (s : State) : Option Nat := if s.n Obj.CAL_STRING = 0xFF then none else some (s.n Obj.CAL_STRING)

/-- The units of a deal among strings (R325). -/
def stringUnits (s : State) (command : Rat) (l : List Nat) : List DealUnit :=
  let g := s.q Obj.EQUALISE_EXPONENT
  l.map fun n =>
    if 0 ≤ command then ⟨n, s.q (Obj.STRING_LIMIT_CHG n), weightPow (s.q (Obj.STRING_SOE_ROOM n)) g⟩
    else ⟨n, s.q (Obj.STRING_LIMIT_DIS n), weightPow (s.q (Obj.STRING_SOE n)) g⟩

/-- The sum of both container limits and of CAL_POWER: no finite set of shares exceeds it. -/
def sumLimits (s : State) : Rat :=
  ((List.range s.asBuilt.strings).map fun n => s.q (Obj.STRING_LIMIT_CHG n) + s.q (Obj.STRING_LIMIT_DIS n)).sum + s.q Obj.CAL_POWER

/-- The shortfall of a deal of a command among strings. -/
def shortfallOf (s : State) (command : Rat) (l : List Nat) : Rat := (dealUnits command (stringUnits s command l)).2

/-- The shortfall of a deal among strings is published in DEAL_SHORTFALL; where it is 0, that of the dealer's own latest deal
among seats (R324; DESIGN CHOICE, log entry 152). -/
def publishShort (short : Rat) (s : State) : State :=
  (s.modDisp fun d => { d with short }).putQ Obj.DEAL_SHORTFALL (if 0 < short then short else s.disp.seatShort)

/-- The container command is dealt (R325, R335, R336): the string in calibration charge takes P_cal, a string set aside for
a proof test 0, the others the rest. -/
def redeal (s : State) : State :=
  if !s.running Obj.DISPATCH_STATE then s else
  let c := commandRat (s.v Obj.COMMAND_IN_FORCE) (sumLimits s)
  if s.perString then
    let cal := s.calString?
    let aside := s.disp.proof.map (·.1)
    let rest := if cal.isSome then c - s.disp.pcal else c
    let l := s.closedStrings.filter fun n => cal != some n && aside != some n
    let (sh, short) := dealUnits rest (stringUnits s rest l)
    let shares := (List.range 16).map fun n => if cal = some n then s.disp.pcal else if aside = some n then 0 else shareOf rest sh n
    formSetpoints ((publishShort short s).modDisp fun d => { d with shares })
  else
    let x := rclamp (-(s.q Obj.CONTAINER_LIMIT_DIS)) (s.q Obj.CONTAINER_LIMIT_CHG) c
    formSetpoints (publishShort (rabs (c - x)) (s.modDisp fun d => { d with single := x }))

/-! ### Set-point frames (R326) -/

/-- Watts of a power in kW, as an integer. -/
def watts (q : Rat) : Int := rround (q * 1000)

/-- The converters that get a frame: under PER_STRING each string with cells, under SHARED the one. -/
def State.converters (s : State) : List Nat := if s.perString then s.cellStrings else [0]

/-- The set-point frame of converter `n` leaves the module in the active role (Table 13.1). -/
def setpointOut (n : Nat) (s : State) : State :=
  if s.standby || !s.converters.contains n then s else
  let per := s.perString
  let sp := if per then s.q (Obj.STRING_SETPOINT n) else singleSetpoint s
  let chg := if per then s.q (Obj.STRING_LIMIT_CHG n) else s.q Obj.CONTAINER_LIMIT_CHG
  let dis := if per then s.q (Obj.STRING_LIMIT_DIS n) else s.q Obj.CONTAINER_LIMIT_DIS
  let on := s.pilotOn
  let h := s.n Obj.PILOT_HARMONIC
  let q := nth s.disp.seqs n 0
  let data := leBytes 4 (twos 32 (watts sp)) ++ leBytes 4 (twos 32 (watts chg)) ++ leBytes 4 (twos 32 (watts dis)) ++
    leBytes 2 (if on && h != 0 then s.n Obj.PILOT_AMPLITUDE else 0) ++ leBytes 1 (if on then h else 0) ++ leBytes 1 0 ++
    leBytes 2 q ++ leBytes 1 (b2n on + 2 * b2n (per && s.calString? == some n)) ++ leBytes 1 0
  let s := s.modDisp fun d => { d with seqs := d.seqs.set n ((q + 1) % 65536) }
  let id := s.n Obj.SETPOINT_MSG_ID
  sendService (serviceFrame (s.n Obj.SETPOINT_CHANNEL) (if per then id + n else id) true data) false s

/-- The set-point frame of converter `n` is sent: SETPOINT_PERIOD has passed, or a field of it has changed (R326). -/
def setpointFrame (n : Nat) (s : State) : State := if s.running Obj.DISPATCH_STATE then setpointOut n s else s

/-! ### Pilot periods (R334) -/

/-- Whether every converter's set-point ± PILOT_AMPLITUDE lies within its limits. -/
def pilotFits (s : State) : Bool :=
  let a := (s.n Obj.PILOT_AMPLITUDE : Rat) / 10
  let fits := fun (x chg dis : Rat) => decide (-dis ≤ x - a) && decide (x + a ≤ chg)
  if s.perString then
    s.cellStrings.all fun n => fits (nth s.disp.shares n 0) (s.q (Obj.STRING_LIMIT_CHG n)) (s.q (Obj.STRING_LIMIT_DIS n))
  else fits s.disp.single (s.q Obj.CONTAINER_LIMIT_CHG) (s.q Obj.CONTAINER_LIMIT_DIS)

/-- Whether a pilot period would be granted but for a calibration charge (R334). -/
def pilotDue (s : State) : Bool :=
  s.b Obj.PILOT_ENABLE && (s.n Obj.CAL_POLICY == 1 || s.n Obj.CAL_POLICY == 3) && s.running Obj.DISPATCH_STATE &&
  ((List.range s.asBuilt.strings).any fun n => s.b (Obj.CALIBRATION_WANTED n)) &&
  (match s.disp.grantEnd with
   | none => true
   | some l => Nat.ble (s.n Obj.PILOT_INTERVAL * 1000000000) (s.lNow - l)) &&
  pilotFits s

/-- Pilot periods at a sweep tail (R334): a running grant advances by a sweep, or ends; a grant that is due begins. -/
def pilotTail (s : State) : State :=
  if s.b Obj.PILOT_ACTIVE then
    if s.disp.grant ≤ 1 || !pilotFits s || !s.pilotOn then pilotEnd s
    else
      let s := s.modDisp fun d => { d with grant := d.grant - 1 }
      { s with sweep := { s.sweep with pilotK := s.sweep.pilotK + 1 } }
  else if pilotDue s && s.calString?.isNone then
    let s := ((s.putB Obj.PILOT_ACTIVE true).inc Obj.PILOT_GRANTS).modDisp fun d =>
      { d with grant := s.n Obj.PILOT_PERIODS * s.n Obj.PILOT_SWEEPS_PER_PERIOD }
    { s with sweep := { s.sweep with pilotK := 0, pilotCells := [], pilotStrs := [] } }
  else s

/-! ### The calibration charge (R335) -/

/-- CAL_PHASE codes. -/
def cpCharge : Nat := 1
def cpTaper : Nat := 2
def cpDone : Nat := 3
def cpAborted : Nat := 4

/-- The calibration charge ends in a phase. -/
def calFinish (phase : Nat) (s : State) : State :=
  (((s.putN Obj.CAL_STRING 0xFF).putN Obj.CAL_PHASE phase).modDisp fun d => { d with pcal := 0 })

/-- The calibration charge is aborted for a reason: 1 time, 2 shortfall, 3 left CLOSED, 4 pilot. -/
def calAbort13 (reason : Nat) (s : State) : State :=
  match s.calString? with
  | none => s
  | some n => redeal (calFinish cpAborted (s.logN 0x0802 0x2700 n reason 0))

/-- CAL_MAX_TIME has passed. -/
def calMaxTime (s : State) : State := calAbort13 1 s

/-- The others' shortfall has stayed above 0 for 1 s. -/
def calShortfall (s : State) : State := if 0 < s.disp.short then calAbort13 2 s else s

/-- The highest corrected VMEAN of a string in V; none while no cell has one. -/
def highestV (s : State) (n : Nat) : Option Rat :=
  match (s.stringCells n).filterMap fun c => (s.measOf c (s.n Obj.SWEEP_COUNT)).map Meas.vmean with
  | [] => none
  | v :: r => some (r.foldl rmax v)

/-- The string a calibration charge may start on: the largest CAL_WORST_BOUND among those that qualify, the others able to
carry the command less CAL_POWER, no pilot period due. -/
def calCandidate (s : State) : Option Nat :=
  if !s.running Obj.DISPATCH_STATE || !s.perString || s.n Obj.CAL_POLICY < 2 || s.b Obj.PILOT_ACTIVE then none else
  match s.closedStrings.filter fun n => s.b (Obj.CALIBRATION_WANTED n) && s.b (Obj.CAL_ALLOWED n) && s.disp.proof.map (·.1) != some n with
  | [] => none
  | n :: r =>
    let best := r.foldl (fun w m => if s.q (Obj.CAL_WORST_BOUND w) < s.q (Obj.CAL_WORST_BOUND m) then m else w) n
    let c := commandRat (s.v Obj.COMMAND_IN_FORCE) (sumLimits s) - s.q Obj.CAL_POWER
    if 0 < shortfallOf s c (s.closedStrings.filter fun m => m != best && s.disp.proof.map (·.1) != some m) || pilotDue s then none else some best

/-- A calibration charge begins at a deal that allows it. -/
def calStart (s : State) : State :=
  if s.calString?.isSome then s else
  match calCandidate s with
  | none => s
  | some n => ((s.putN Obj.CAL_STRING n).putN Obj.CAL_PHASE cpCharge).modDisp fun d => { d with pcal := s.q Obj.CAL_POWER }

/-- The calibration charge at a sweep tail: it advances, ends with a TOP anchor (`anchored`) or is aborted. -/
def calChargeTail (anchored : Nat → Bool) (s : State) : State :=
  match s.calString? with
  | none => s
  | some n =>
    if s.seq n ≠ sqClosed then calAbort13 3 s
    else if anchored n then calFinish cpDone s
    else if s.b (Obj.CALIBRATION_WANTED n) && pilotDue s then calAbort13 4 s
    else match s.profile? n, highestV s n with
      | some b, some v =>
        if s.n Obj.CAL_PHASE = cpCharge then
          (if pVcv b - (s.n Obj.TAPER_BAND : Rat) / 1000 ≤ v then s.putN Obj.CAL_PHASE cpTaper else s)
        else if pVcv b < v then s.modDisp fun d => { d with pcal := d.pcal * (1 - (s.n Obj.CAL_TAPER_STEP : Rat) / 100) }
        else s
      | _, _ => s

/-! ### Proof tests (R336) -/

/-- Whether a proof test runs on a string of the module. -/
def State.proofRunning (s : State) : Bool := (List.range s.asBuilt.strings).any fun n => (s.ss n).proof.isSome

/-- After PASSED the dispatcher requests CLOSE, as the host would. -/
def recloseAfter (s : State) : State :=
  match s.disp.reclose with
  | none => s
  | some n =>
    if (s.ss n).proof.isSome || s.n (Obj.PROOF_STATE n) = 2 then s else
    let s := s.modDisp fun d => { d with reclose := none }
    if s.n (Obj.PROOF_STATE n) ≠ 0 then s else
    match closeString n s with
    | .ok t => t
    | .error a => s.refused a

/-- Whether the other closed strings can carry the container command without string `n` (R336). -/
def othersCarry (s : State) (n : Nat) : Bool :=
  let c := commandRat (s.v Obj.COMMAND_IN_FORCE) (sumLimits s)
  let cal := s.calString?
  let rest := if cal.isSome then c - s.disp.pcal else c
  decide (shortfallOf s rest (s.closedStrings.filter fun m => m != n && cal != some m) ≤ 0)

/-- Whether string `n` is due for a proof test that dispatch may schedule (R336). -/
def duePick (s : State) (n : Nat) : Bool := s.n (Obj.PROOF_STATE n) == 1 && s.hasCells n && s.calString? != some n

/-- The dispatcher starts the proof test of string `n`, which was CLOSED or not. -/
def startDealt (n : Nat) (was : Bool) (s : State) : State :=
  startProof n (s.modDisp fun d => { d with proof := none, reclose := if was && s.b Obj.PROOF_RECLOSE then some n else none })

/-- A string set aside is tested once |I| ≤ BREAK_CURRENT (R336). -/
def proofWatch (s : State) : State :=
  match s.disp.proof with
  | none => s
  | some (n, was) =>
    if !duePick s n then s.modDisp fun d => { d with proof := none }
    else if decide (s.magnitude n ≤ s.q Obj.BREAK_CURRENT) && proofAllowed s n then startDealt n was s
    else s

/-- A string set aside takes part in the deals again while the others cannot carry the command without it (R336). -/
def releaseAside (s : State) : State :=
  match s.disp.proof with
  | some (n, _) => if othersCarry s n then s else s.modDisp fun d => { d with proof := none }
  | none => s

/-- Proof tests at a deal (R336): under PER_STRING a string is set aside, under SHARED its test starts when the command
is 0, whatever current still flows. -/
def proofDeal (s : State) : State :=
  if s.standby || s.proofRunning || s.disp.reclose.isSome || s.disp.proof.isSome then s else
  let idle := decide (commandRat (s.v Obj.COMMAND_IN_FORCE) (sumLimits s) = 0)
  match (List.range s.asBuilt.strings).find? fun n => duePick s n && (if s.perString then othersCarry s n else idle && s.safetyRuns) with
  | none => s
  | some n =>
    let was := s.seq n == sqClosed
    if s.perString then s.modDisp fun d => { d with proof := some (n, was) } else startDealt n was s

/-! ### The deal and what it answers -/

/-- A deal (R325, R334 to R336): the command dealt, a calibration charge or a proof test that it allows begun. -/
def deal (s : State) : State :=
  let s := redeal (releaseAside (recloseAfter s))
  if !s.running Obj.DISPATCH_STATE then s else proofWatch (redeal (proofDeal (calStart s)))

/-- The container command changes: it is dealt again (R325). -/
def setCommand (v : Val) (s : State) : State := deal (s.put Obj.COMMAND_IN_FORCE v)

/-- Dispatch in the sweep tail (R322 to R336). `done` is false where the limits of the sweep were abandoned (R27). -/
def dispatchTail (done : Bool) (anchored : Nat → Bool) (s : State) : State :=
  let s := if done then containerLimits (s.each s.asBuilt.strings stringLimits) else s
  if !s.running Obj.DISPATCH_STATE then formSetpoints s else
  deal (calChargeTail anchored (pilotTail (redeal s)))

/-- STOP of dispatch (R337): every set-point 0, which the converters are told; command, pilot and calibration end. -/
def dispatchStop (s : State) : State :=
  let s := if s.b Obj.PILOT_ACTIVE then pilotEnd s else s
  let s := if s.calString?.isSome then calFinish 0 s else s
  let s := formSetpoints ((s.putQ Obj.COMMAND_IN_FORCE 0).modDisp fun d =>
    { d with shares := List.replicate 16 0, single := 0, proof := none, reclose := none, lastSeq := none, fresh := .int 0, plant := .int 0 })
  s.forAll s.converters setpointOut

/-! ### Command sources (R328) -/

/-- A fresh command value (R328): it takes effect at once and ends CMD_LOST. -/
def freshCommand (v : Val) (s : State) : State :=
  if !s.running Obj.DISPATCH_STATE then s else
  let s := (s.putB Obj.CMD_LOST false).modDisp fun d => { d with fresh := v }
  if s.b Obj.TABLE_ENABLE then s.modDisp fun d => { d with plant := v } else setCommand v s

/-- A write of DISPATCH_COMMAND: an accepted write is a fresh value of source IDP. -/
def ownDispatchCommand (v : Val) (s : State) : Except Abort State :=
  let s := s.put Obj.DISPATCH_COMMAND v
  .ok (if s.n Obj.CMD_SOURCE = 0 then freshCommand v s else s)

/-- A command frame (Table 13.2): 8 bytes or more, VALID, a SEQ that differs from the previous frame's. A NaN is no
value. -/
def cmdCanFrame (f : CanFrame) (s : State) : State :=
  if !s.running Obj.DISPATCH_STATE || s.n Obj.CMD_SOURCE != 1 || f.fd || !frameOn f (s.n Obj.CMD_CAN_CHANNEL) (s.n Obj.CMD_CAN_ID) then s else
  if f.data.length < 8 then s else
  let q := fieldU f.data 6 2
  let old := s.disp.lastSeq
  let s := s.modDisp fun d => { d with lastSeq := some q }
  let v := fieldF32 f.data 0
  if bitOf (fieldU f.data 4 1) 0 && old != some q && v != .nan then freshCommand v s else s

/-- The linear map of an analog or pulse input (R328). Equal ends of CMD_IN give no line: the value is free. -/
def inputCommand (x : Rat) (s : State) : State :=
  let lo := s.q Obj.CMD_IN_LO
  let hi := s.q Obj.CMD_IN_HI
  if (s.v Obj.CMD_IN_LO).same (s.v Obj.CMD_IN_HI) then
    let (q, s) := s.freshQ
    freshCommand (.real q) s
  else freshCommand (.real (s.q Obj.CMD_P_LO + (x - lo) * (s.q Obj.CMD_P_HI - s.q Obj.CMD_P_LO) / (hi - lo))) s

/-- Source AI after a field cycle: each valid sample is fresh. -/
def aiCommand (s : State) : State :=
  let a := s.n Obj.CMD_ARG
  if s.n Obj.CMD_SOURCE = 2 ∧ s.aiValid a then inputCommand (s.q (Obj.AI_VALUE a)) s else s

/-- Sources PI_FREQ and PI_DUTY after a gate of PI `n`: each valid measurement is fresh. -/
def piCommand (n : Nat) (s : State) : State :=
  if s.n Obj.CMD_ARG ≠ n ∨ !s.piValid n then s
  else if s.n Obj.CMD_SOURCE = 3 then inputCommand (s.q (Obj.PI_FREQ n)) s
  else if s.n Obj.CMD_SOURCE = 4 then inputCommand (s.q (Obj.PI_DUTY n)) s
  else s

/-- No fresh value for CMD_TIMEOUT (R328). -/
def cmdLost (s : State) : State :=
  if !s.running Obj.DISPATCH_STATE || s.b Obj.CMD_LOST then s else
  let s := (s.putB Obj.CMD_LOST true).logN 0x0801 0x2700 noSubject (s.n Obj.CMD_SOURCE) 0
  let v := if s.n Obj.CMD_FALLBACK = 1 then s.disp.fresh else .int 0
  if s.b Obj.TABLE_ENABLE then s.modDisp fun d => { d with plant := v } else setCommand v s

/-! ### The table (R329 to R333) -/

/-- Whether the module takes part in the table (R329). -/
def State.atTable (s : State) : Bool :=
  s.b Obj.TABLE_ENABLE && s.running Obj.DISPATCH_STATE && s.running Obj.TABLE_STATE && !s.pUnsetFlag

/-- The table cycle of an instant of base P (R330). -/
def State.tableCycle (s : State) : Nat := s.pNow / 100000000

/-- The MAC of a table message (R329). -/
def tableMac (s : State) (b : Bytes) : Bytes := (Config.hmac (s.bytes Obj.TABLE_KEY) b).take 16

/-- The header of a table message (Table 13.3). -/
def tableHeader (s : State) (kind cycle : Nat) : Bytes :=
  leBytes 1 kind ++ leBytes 1 1 ++ leBytes 2 (s.n Obj.TABLE_ID) ++ leBytes 1 (s.n Obj.SEAT_NUMBER) ++
    leBytes 1 (s.n Obj.SEAT_PRIORITY) ++ leBytes 2 0 ++ leBytes 8 cycle

/-- A table message leaves with its MAC. -/
def sendTable (b : Bytes) (s : State) : State := s.emit (.udp 48822 (s.n Obj.TABLE_GROUP) (b ++ tableMac s b))

/-- Whether seat (prio, seat) a is better than b (R331). -/
def betterSeat (a b : Nat × Nat) : Bool := Nat.blt b.1 a.1 || (a.1 == b.1 && Nat.blt a.2 b.2)

/-- The own OFFER of a cycle (R330, Table 13.3). -/
def ownOffer (s : State) (cycle : Nat) : Offer :=
  let l := s.closedStrings
  { seat := s.n Obj.SEAT_NUMBER, prio := s.n Obj.SEAT_PRIORITY, cycle, chg := s.q Obj.CONTAINER_LIMIT_CHG,
    dis := s.q Obj.CONTAINER_LIMIT_DIS, soe := (l.map fun n => s.q (Obj.STRING_SOE n)).sum,
    room := (l.map fun n => s.q (Obj.STRING_SOE_ROOM n)).sum, eligible := s.b Obj.DEALER_ELIGIBLE && !s.b Obj.CMD_LOST }

/-- An OFFER is recorded beside those of its seat for the cycles before and after it; SEATS_HEARD counts those of the latest
cycle. -/
def recordOffer (o : Offer) (s : State) : State :=
  let l := o :: s.disp.offers.filter fun x => (x.seat != o.seat || x.cycle != o.cycle) && Nat.ble s.tableCycle (x.cycle + 1)
  let s := s.modDisp fun d => { d with offers := l, dealerPrio := if o.seat = s.n Obj.DEALER_SEAT then o.prio else d.dealerPrio }
  s.putN Obj.SEATS_HEARD (l.filter fun x => x.cycle == s.tableCycle).length

/-- t_n: the seat sends OFFER(n) (R330). -/
def tableCycleStart (s : State) : State :=
  if !s.atTable then s else
  let s := s.putB Obj.SEAT_DROPPED false
  if s.standby then s else
  let n := s.tableCycle
  let o := ownOffer s n
  let wants := (List.range s.asBuilt.strings).any fun i => s.b (Obj.CALIBRATION_WANTED i)
  let s := recordOffer o s
  sendTable (tableHeader s 1 n ++ f32Bytes (.real o.chg) ++ f32Bytes (.real o.dis) ++ f32Bytes (.real o.soe) ++
    f32Bytes (.real o.room) ++ leBytes 1 (b2n o.eligible + 2 * b2n wants + 4 * b2n (s.b Obj.CONTAINER_TRIPPED)) ++ leBytes 3 0) s

/-- A table message with its MAC checked (R329): none where it is discarded; a wrong MAC is counted. -/
def tableMessage (kind : Nat) (b : Bytes) (s : State) : Bool × State :=
  if !s.atTable || b.length < 32 || fieldU b 0 1 != kind || fieldU b 1 1 != 1 then (false, s) else
  let body := b.take (b.length - 16)
  if b.drop (b.length - 16) ≠ tableMac s body then (false, s.inc Obj.TABLE_AUTH_FAILS) else
  let c := fieldU b 8 8
  (fieldU b 2 2 == s.n Obj.TABLE_ID && Nat.ble c (s.tableCycle + 1) && Nat.ble s.tableCycle (c + 1), s)

/-- An OFFER arrives (R329). -/
def offerReceived (b : Bytes) (s : State) : State :=
  let (ok, s) := tableMessage 1 b s
  if !ok || b.length != 52 then s else
  recordOffer { seat := fieldU b 4 1, prio := fieldU b 5 1, cycle := fieldU b 8 8, chg := (fieldF32 b 16).toRat,
                dis := (fieldF32 b 20).toRat, soe := (fieldF32 b 24).toRat, room := (fieldF32 b 28).toRat,
                eligible := bitOf (fieldU b 32 1) 0 } s

/-- A seat's share of an accepted DEAL: none where it is not named (R333). -/
def takeShare (cycle prio seat : Nat) (share : Option Rat) (s : State) : State :=
  let s := (s.putB Obj.TABLE_LOST false).modDisp fun d =>
    { d with accepted := some (cycle, prio, seat),
             acceptedBefore := (d.accepted.map (·.1)).filter (· != cycle) }
  match share with
  | some q => setCommand (.real q) ((s.putQ Obj.SEAT_SHARE q).putB Obj.SEAT_DROPPED false)
  | none => setCommand (.int 0) ((s.putQ Obj.SEAT_SHARE 0).putB Obj.SEAT_DROPPED true)

/-- t_n + 30 ms: the dealer deals the plant command and sends DEAL(n) (R330, R332). -/
def dealSend (s : State) : State :=
  let me := s.n Obj.SEAT_NUMBER
  if !s.atTable || s.standby || s.n Obj.DEALER_SEAT != me || s.disp.quiet then s else
  if 2 * s.n Obj.SEATS_HEARD ≤ s.n Obj.TABLE_SEATS_EXPECTED then s else
  let n := s.tableCycle
  let l := s.disp.offers.filter fun o => o.cycle == n
  let c := commandRat s.disp.plant ((l.map fun o => o.chg + o.dis).sum)
  let g := s.q Obj.EQUALISE_EXPONENT
  let units := l.map fun o => if 0 ≤ c then (⟨o.seat, o.chg, weightPow o.room g⟩ : DealUnit) else ⟨o.seat, o.dis, weightPow o.soe g⟩
  let (sh, short) := dealUnits c units
  let entries := l.flatMap fun o => leBytes 1 o.seat ++ leBytes 3 0 ++ f32Bytes (.real (shareOf c sh o.seat))
  let s := sendTable (tableHeader s 2 n ++ f32Bytes s.disp.plant ++ leBytes 1 l.length ++ leBytes 3 0 ++ entries) s
  let own := if l.any fun o => o.seat == me then some (shareOf c sh me) else none
  takeShare n (s.n Obj.SEAT_PRIORITY) me own (s.modDisp fun d => { d with seatShort := short })

/-- The share of a seat in the entries of a DEAL. -/
def dealEntry (b : Bytes) (seat : Nat) : Option Rat :=
  ((List.range (fieldU b 20 1)).find? fun i => fieldU b (24 + 8 * i) 1 == seat).map fun i => (fieldF32 b (28 + 8 * i)).toRat

/-- A DEAL arrives (R330): accepted from the dealer held or from a better seat, replacing one of the same cycle from a worse seat;
one of a cycle before the latest accepted is not applied. -/
def dealReceived (b : Bytes) (s : State) : State :=
  let (ok, s) := tableMessage 2 b s
  if !ok || b.length != 40 + 8 * fieldU b 20 1 then s else
  let seat := fieldU b 4 1
  let prio := fieldU b 5 1
  let cycle := fieldU b 8 8
  let held := s.n Obj.DEALER_SEAT
  let better := held != 0xFF && betterSeat (prio, seat) (s.disp.dealerPrio, held)
  let replaces := match s.disp.accepted with
    | some (c, p, q) => Nat.blt c cycle || (c == cycle && betterSeat (prio, seat) (p, q))
    | none => true
  if !(seat == held || better) || !replaces then s else
  let s := if held = s.n Obj.SEAT_NUMBER ∧ seat ≠ held then s.modDisp fun d => { d with quiet := true, seatShort := 0 } else s
  takeShare cycle prio seat (dealEntry b (s.n Obj.SEAT_NUMBER)) s

/-- The best candidate of a list of offers (R331). -/
def bestOffer (l : List Offer) : Option Offer :=
  l.foldl (fun w o => match w with
    | none => some o
    | some x => if betterSeat (o.prio, o.seat) (x.prio, x.seat) then some o else some x) none

/-- The seat takes a dealer (R331). -/
def takeDealer (o : Option Offer) (s : State) : State :=
  match o with
  | none => s
  | some x =>
    let s := if s.n Obj.DEALER_SEAT = x.seat then s else (s.inc Obj.DEALER_CHANGES).putN Obj.DEALER_SEAT x.seat
    s.modDisp fun d =>
      { d with dealerPrio := x.prio, missed := 0, better := [], quiet := false,
               seatShort := if x.seat = s.n Obj.SEAT_NUMBER then d.seatShort else 0 }

/-- t_n + 70 ms (R330, R331): a missed cycle counts, a lost dealer and a better candidate change the view. -/
def tableCycleCheck (s : State) : State :=
  if !s.atTable then s else
  let n := s.tableCycle
  let got := s.disp.accepted.map (·.1) == some n || s.disp.acceptedBefore == some n
  let cand := s.disp.offers.filter fun o => o.cycle == n && o.eligible
  let held := s.n Obj.DEALER_SEAT
  let above := cand.filter fun o => betterSeat (o.prio, o.seat) (s.disp.dealerPrio, held)
  let runs := above.map fun o => (o.seat, amGetD s.disp.better o.seat 0 + 1)
  let missed := if got then 0 else s.disp.missed + 1
  let s := s.modDisp fun d => { d with missed, better := runs }
  if 2 ≤ missed then takeDealer (bestOffer cand) s
  else takeDealer (bestOffer (above.filter fun o => Nat.ble 10 (amGetD runs o.seat 0))) s

/-- DEAL_HOLD_MAX without an accepted DEAL (R333), also of a seat that no longer takes part. -/
def dealHoldMax (s : State) : State :=
  if !s.b Obj.TABLE_ENABLE || !s.running Obj.DISPATCH_STATE then s else setCommand (.int 0) ((s.putB Obj.TABLE_LOST true).putQ Obj.SEAT_SHARE 0)

/-- RUN check of the table (R338). -/
def tableRunCheck (s : State) : Option Abort :=
  if s.b Obj.TABLE_ENABLE && (s.bytes Obj.TABLE_KEY).isEmpty then some (inconsistent Obj.TABLE_KEY) else none

/-- The seat holds no dealer: it joins, or takes part no longer (R329, R331). -/
def tableRun (s : State) : State :=
  ((s.putN Obj.DEALER_SEAT 0xFF).putN Obj.SEATS_HEARD 0).modDisp fun d =>
    { d with offers := [], dealerPrio := 0, missed := 0, better := [], accepted := none, acceptedBefore := none, quiet := false, seatShort := 0 }

/-- TABLE_ROLE (R338). -/
def tableRole (s : State) : Nat :=
  if !s.atTable then 0 else if s.n Obj.DEALER_SEAT = s.n Obj.SEAT_NUMBER && !s.disp.quiet then 2 else 1

/-- A seat that takes part no longer holds no view (R329). -/
def leaveTable (s : State) : State := if s.atTable then s else tableRun s

/-! ### What follows at once -/

/-- What dispatch follows at once between deals: limits that fall (R24), a string in calibration that leaves CLOSED
(R335). -/
def dispatchWatch (s : State) : State :=
  let s := match s.calString? with
    | some n => if s.seq n = sqClosed then s else calAbort13 3 s
    | none => s
  formSetpoints (fallContainer s)

end Sys2Proof.Machine
end

