-- ==== Sys2Proof/Machine/Program.lean ====
section
/-!
DEFINITION. The control program (R389 to R403, R405 to R407): the image and its checks, the scan, the module blocks,
online change, debug and forces. The code section is no interface of the module: what it computes is free.
-/

namespace Sys2Proof.Machine

/-- The state with the program changed. -/
def State.modProg (s : State) (f : ProgSt → ProgSt) : State := { s with prog := f s.prog }

/-! ### The image (R389 to R391) -/

/-- Fields of the header (Table 16.1). -/
def imCodeSize (b : Bytes) : Nat := fieldU b 24 4
def imDataSize (b : Bytes) : Nat := fieldU b 28 4
def imSymbols (b : Bytes) : Nat := if b.length < 64 then 0 else fieldU b 34 2
def imBindings (b : Bytes) : Nat := fieldU b 36 2

/-- A symbol of an image (Table 16.2). -/
structure Symbol where
  path : Nat
  typeHash : Nat
  offset : Nat
  size : Nat
  kind : Nat
  ty : Nat
  attr : Nat
  deriving DecidableEq, Repr

/-- Symbol `n` of an image. -/
def imSymbol (b : Bytes) (n : Nat) : Symbol :=
  let e := slice b (64 + imCodeSize b + 32 * n) 32
  { path := fieldU e 0 8, typeHash := fieldU e 8 8, offset := fieldU e 16 4, size := fieldU e 20 2, kind := fieldU e 22 1,
    ty := fieldU e 23 1, attr := fieldU e 24 1 }

/-- Whether a symbol has an elementary type. -/
def Symbol.elementary (x : Symbol) : Bool := x.ty != 0xFF

/-- A binding of an image (Table 16.3). -/
structure Binding where
  var : Nat
  out : Bool
  kind : Nat
  chan : Nat
  sub : Nat
  dir : Nat
  deriving DecidableEq, Repr

/-- Binding `n` of an image. -/
def imBinding (b : Bytes) (n : Nat) : Binding :=
  let e := slice b (64 + imCodeSize b + 32 * imSymbols b + 12 * n) 12
  { var := fieldU e 0 2, out := fieldU e 2 1 == 1, kind := fieldU e 3 1, chan := fieldU e 4 2, sub := fieldU e 6 2, dir := fieldU e 2 1 }

/-- The bindings of an image with their numbers. -/
def imAllBindings (b : Bytes) : List (Nat × Binding) := (List.range (imBindings b)).map fun i => (i, imBinding b i)

/-- The code section. -/
def imCode (b : Bytes) : Bytes := slice b 64 (imCodeSize b)
/-- The initial data section. -/
def imInitial (b : Bytes) : Bytes :=
  slice b (64 + imCodeSize b + 32 * imSymbols b + 12 * imBindings b) (imDataSize b)

/-- The code of a type in the order of Table 15.1. -/
def Ty.code : Ty → Nat
  | .bool => 0 | .u8 => 1 | .u16 => 2 | .u32 => 3 | .u64 => 4 | .i32 => 7 | .i64 => 8 | .f32 => 9 | .f64 => 10
  | .time64 => 11 | .string => 12 | .domain => 13

/-- A request of the control program, which acts as an operator (R393). -/
def progReq (data : Bytes) : Req := { src := .program, tag := 0, data }
/-- Its session. -/
def progSession : Session := { peer := 17, role := 1 }

/-- Whether a binding suits its variable, its kind and the module (R392). -/
def bindingOk (s : State) (b : Bytes) (x : Binding) : Bool :=
  let v := imSymbol b x.var
  Nat.blt x.var (imSymbols b) && Nat.ble x.dir 1 &&
  (match x.kind with
   | 0 => v.ty == 0 && !x.out && Nat.blt x.chan 32
   | 1 => v.ty == 9 && !x.out && Nat.blt x.chan 4
   | 2 | 3 => v.ty == 9 && !x.out && Nat.blt x.chan 2
   | 4 => v.ty == 0 && x.out && Nat.blt x.chan 16
   | 5 =>
     (s.checkAccess (progReq []) progSession (if x.out then .write else .read) x.chan x.sub).isNone &&
     (match findRow (objKey x.chan x.sub) with
      | some (_, row) => v.ty == row.ty.code && row.ty != .domain && row.access != .rws && row.access != .safe
      | none => false)
   | _ => false)

/-- Whether the NAME of a header is ASCII, NUL-padded (Table 16.1). -/
def nameOk (b : Bytes) : Bool :=
  let l := slice b 8 16
  l.all (fun c => Nat.blt c.toNat 128) && (l.dropWhile fun c => c != 0).all fun c => c == 0

/-- Whether an image passes the checks of R392 that name PROGRAM_IMAGE. -/
def imageOk (s : State) (b : Bytes) : Bool :=
  let n := imSymbols b
  let bs := (imAllBindings b).map (·.2)
  let dos := (bs.filter fun x => x.kind == 4).map Binding.chan
  Nat.ble 64 b.length && fieldU b 0 2 == 1 && nameOk b && Nat.ble 1 (imCodeSize b) && Nat.ble (imCodeSize b) 262144 &&
  Nat.ble (imDataSize b) 65536 && Nat.ble (fieldU b 32 2) 2048 && Nat.ble 1 n && Nat.ble n 4096 && Nat.ble (imBindings b) 512 &&
  b.length == 64 + imCodeSize b + 32 * n + 12 * imBindings b + imDataSize b &&
  fieldU b 4 4 == crc32c (b.drop 8) &&
  Nat.ble (((List.range n).map fun i => let x := imSymbol b i; if bitOf x.attr 0 then x.size else 0).sum) 4096 &&
  ((List.range n).all fun i => let x := imSymbol b i; Nat.ble (x.offset + x.size) (imDataSize b)) &&
  bs.all (bindingOk s b) && !hasRepeat dos

/-- The DOs that an image binds (R391). -/
def imDos (b : Bytes) : Nat := maskOf 16 fun d => (imAllBindings b).any fun x => x.2.kind == 4 && x.2.chan == d

/-- The assignment object of a loop to which a DO of a mask is assigned (R23); a STOPPED loop keeps its assignment (R257). -/
def loopConflict (s : State) (mask : Nat) : Option Nat :=
  let held := fun key => let d := (s.shown key).toNat; Nat.blt d 16 && bitOf mask d
  match (List.range 16).find? fun n => held (Obj.OUT_A n) || held (Obj.OUT_B n) with
  | some n => some (if held (Obj.OUT_A n) then Obj.OUT_A n else Obj.OUT_B n)
  | none => none

/-- The image in force. -/
def State.image (s : State) : Bytes := s.bytes Obj.PROGRAM_IMAGE

/-- Whether a DO is assigned to the program (R23): the image in force binds it (R391), whatever PROG_STATE is. -/
def State.progHolds (s : State) (d : Nat) : Bool := bitOf (imDos (s.shown Obj.PROGRAM_IMAGE).toBytes) d

/-- RUN check of the program (R392). -/
def progRunCheck (s : State) : Option Abort :=
  if !imageOk s s.image then some (inconsistent Obj.PROGRAM_IMAGE)
  else (loopConflict s (imDos s.image)).map inconsistent

/-! ### Variables and forces -/

/-- Instance data with bytes at an offset. -/
def splice (data : Bytes) (o : Nat) (b : Bytes) : Bytes := data.take o ++ b ++ data.drop (o + b.length)

/-- The bytes of variable `n` in instance data. -/
def varGet (b data : Bytes) (n : Nat) : Bytes := let x := imSymbol b n; slice data x.offset x.size

/-- Instance data with variable `n` at a value. -/
def varSet (b : Bytes) (n : Nat) (v data : Bytes) : Bytes :=
  let x := imSymbol b n
  splice data x.offset (fit x.size v)

/-- The forces in force: entry, variable, value (Table 16.5). -/
def State.forces (s : State) : List (Nat × Nat × Bytes) :=
  ((List.range 64).filter fun e => !(s.bytes (Obj.FORCE_ENTRY e)).isEmpty).map fun e =>
    let d := s.bytes (Obj.FORCE_ENTRY e)
    (e, fieldU d 0 2, slice d 4 8)

/-- Whether a force entry fits an image (R400). -/
def forceFits (b d : Bytes) : Bool :=
  let n := fieldU d 0 2
  let x := imSymbol b n
  Nat.blt n (imSymbols b) && x.elementary && x.ty == fieldU d 2 1

/-- FORCE_COUNT follows the entries. -/
def countForces (s : State) : State := s.putN Obj.FORCE_COUNT s.forces.length

/-- A force entry is emptied. -/
def removeForce (e : Nat) (s : State) : State :=
  let d := s.bytes (Obj.FORCE_ENTRY e)
  if d.isEmpty then s else countForces ((s.putB (Obj.VAR_FORCED (fieldU d 0 2)) false).putBytes (Obj.FORCE_ENTRY e) [])

/-- A force entry takes a value; a value written online before it is replaced (R402). -/
def setForce (e : Nat) (d : Bytes) (s : State) : State :=
  let s := removeForce e s
  let n := fieldU d 0 2
  let s := (s.putBytes (Obj.FORCE_ENTRY e) d).putB (Obj.VAR_FORCED n) true
  countForces (s.modProg fun p => { p with online := amErase p.online n })

/-- A write of a force entry (R400, R404). -/
def ownForceEntry (e : Nat) (v : Val) (s : State) : Except Abort State :=
  let d := v.toBytes
  if s.prog.frozen then .error (Abort.of aBusy 0)
  else if d.isEmpty then .ok (removeForce e s)
  else if !s.running Obj.PROG_STATE || !s.b Obj.PROG_DEBUG || s.n Obj.DEBUG_MODEL != 1 || !forceFits s.image d ||
      (s.forces.any fun x => x.1 != e && x.2.1 == fieldU d 0 2) then .error (inconsistent (Obj.FORCE_ENTRY e))
  else .ok (setForce e d s)

/-- A write of a variable while the function runs (R397, R402, R404). -/
def ownVarValue (n : Nat) (v : Val) (s : State) : Except Abort State :=
  let x := imSymbol s.image n
  if s.prog.frozen then .error (Abort.of aBusy 0)
  else if !s.running Obj.PROG_STATE then .error (Abort.of aStopRequired 0)
  else if !(x.kind == 0 || x.kind == 1) || !x.elementary || v.toBytes.length != x.size then .error (inconsistent (Obj.VAR_VALUE n))
  else match s.forces.find? fun f => f.2.1 == n with
    | some f => .error (inconsistent (Obj.FORCE_ENTRY f.1))
    | none => .ok (s.modProg fun p => { p with online := amSet p.online n v.toBytes })

/-- Forces that no longer fit the image are removed and logged (R401). -/
def recheckForces (s : State) : State :=
  s.forAll (s.forces.filter fun f => !forceFits s.image (s.bytes (Obj.FORCE_ENTRY f.1))) fun f s =>
    removeForce f.1 (s.logN 0x0B01 0x2A00 f.2.1 0 0)

/-! ### Module blocks (R396, R398) -/

/-- The limits of a counter. -/
def satCv (i : Int) : Int := if i < -2147483648 then -2147483648 else if 2147483647 < i then 2147483647 else i

/-- ON_DELAY (Table 16.4). -/
def onDelay (c pt : Nat) (in_ : Bool) (x : BlockSt) : BlockSt :=
  if in_ then
    let start := if x.prev then x.start else c
    let et := min (c - start) pt
    { x with start, et, q := decide (pt ≤ et), prev := true }
  else { x with et := 0, q := false, prev := false }

/-- OFF_DELAY. -/
def offDelay (c pt : Nat) (in_ : Bool) (x : BlockSt) : BlockSt :=
  if in_ then { x with q := true, et := 0, prev := true }
  else
    let start := if x.prev then c else x.start
    let et := min (c - start) pt
    { x with start, et, q := decide (et < pt), prev := false }

/-- PULSE. -/
def pulseBlock (c pt : Nat) (in_ : Bool) (x : BlockSt) : BlockSt :=
  let x1 := if !x.q && in_ && !x.prev then { x with start := c, q := true } else x
  let x2 := if x1.q then let et := min (c - x1.start) pt; { x1 with et, q := decide (et < pt) } else x1
  { (if !x2.q && !in_ then { x2 with et := 0 } else x2) with prev := in_ }

/-- COUNT_UP. -/
def countUp (cu reset : Bool) (pv : Int) (x : BlockSt) : BlockSt :=
  let cv := if reset then 0 else if cu && !x.prev then satCv (x.cv + 1) else x.cv
  { x with cv, q := decide (pv ≤ cv), prev := cu }

/-- COUNT_DOWN. -/
def countDown (cd load : Bool) (pv : Int) (x : BlockSt) : BlockSt :=
  let cv := if load then satCv pv else if cd && !x.prev then satCv (x.cv - 1) else x.cv
  { x with cv, q := decide (cv ≤ 0), prev := cd }

/-- One call of a block at program clock `c`. -/
def callBlock (c : Nat) (k : Config.BlockCall) (x : BlockSt) : BlockSt :=
  let x := if x.noEdge then { x with prev := k.a, noEdge := false } else x
  match k.kind with
  | 0 => onDelay c k.v.toNat k.a x
  | 1 => offDelay c k.v.toNat k.a x
  | 2 => pulseBlock c k.v.toNat k.a x
  | 3 => { x with q := k.a && !x.prev, prev := k.a }
  | 4 => { x with q := x.prev && !k.a, prev := k.a }
  | 5 => countUp k.a k.b k.v x
  | _ => countDown k.a k.b k.v x

/-- Block instance `n` as the initial data section of its image gives it (R389, R403), with previous inputs false (R396). -/
def initBlock (b : Bytes) (n : Nat) : BlockSt :=
  let (start, et, q, cv) := Config.instanceValues (imSymbol b n).typeHash (varGet b (imInitial b) n)
  { start, et, q, cv := satCv cv }

/-- The bytes of block instance `n` in instance data. -/
def blockBytes (b : Bytes) (n : Nat) (x : BlockSt) : Bytes :=
  Config.instanceBytes (imSymbol b n).typeHash x.start x.et x.q x.cv x.prev

/-- Instance data in which every block instance that has been called shows its outputs: they change at its calls alone (R396). -/
def showBlocks (b : Bytes) (m : List (Nat × BlockSt)) (data : Bytes) : Bytes :=
  m.foldl (fun d x => varSet b x.1 (blockBytes b x.1 x.2) d) data

/-- Instance data in which the constants keep the values they had in `old` (R397). -/
def keepConstants (b old data : Bytes) : Bytes :=
  (List.range (imSymbols b)).foldl (fun d n => if (imSymbol b n).kind = 1 then varSet b n (varGet b old n) d else d) data

/-- What stands between two stretches of the code: instance data, working values, block instances. -/
structure CodeSt where
  data : Bytes
  work : Bytes := []
  blocks : List (Nat × BlockSt)
  deriving DecidableEq, Repr

/-- One stretch of the code at program clock `c` (log entry 78): it assigns variables, no constant and no output of a block; the
call in which it ends acts on its instance, whose outputs the next stretch sees. -/
def codeStretch (b : Bytes) (c : Nat) (x : CodeSt) (i : Nat) : CodeSt :=
  let (d, work, k) := Config.programStretch (imCode b) x.data x.work c i
  let d := keepConstants b x.data (fit x.data.length d)
  let m := match k with
    | none => x.blocks
    | some k => amSet x.blocks k.instance_ (callBlock c k ((amGet? x.blocks k.instance_).getD (initBlock b k.instance_)))
  { data := showBlocks b m d, work, blocks := m }

/-- One execution of the code. -/
def runCode (b : Bytes) (c : Nat) (x : CodeSt) : CodeSt :=
  (List.range (Config.programStretches (imCode b) x.data c)).foldl (codeStretch b c) x

/-! ### The scan (R393 to R395) -/

/-- The program faults (R394). -/
def progFault (cause : Nat) (s : State) : State :=
  ((s.putN Obj.PROG_STATE 2).putN Obj.PROG_FAULT_CAUSE cause).putB Obj.PROG_DEBUG false

/-- The value of a DIRECTION 0 binding (R391): the bytes for its variable; objects are read through `rd`. -/
def bindingRead (rd : Nat → State → Bytes × State) (x : Binding) (s : State) : Bytes × State :=
  match x.kind with
  | 0 => (leBytes 1 (b2n (bitOf (s.n Obj.DI_STATE) x.chan)), s)
  | 1 => (f32Bytes (s.v (Obj.AI_VALUE x.chan)), s)
  | 2 => (f32Bytes (s.v (Obj.PI_FREQ x.chan)), s)
  | 3 => (f32Bytes (s.v (Obj.PI_DUTY x.chan)), s)
  | _ => rd (objKey x.chan x.sub) s

/-- Whether variable `n` is written by the program to an output. -/
def isOutput (b : Bytes) (n : Nat) : Bool := (imAllBindings b).any fun x => x.2.out && x.2.var == n

/-- Whether variable `n` reads an input. -/
def isInput (b : Bytes) (n : Nat) : Bool := (imAllBindings b).any fun x => !x.2.out && x.2.var == n

/-- Step 1: bindings are read, forces applied to input variables and to those bound to nothing, then values written online. -/
def scanInputs (rd : Nat → State → Bytes × State) (s : State) : State :=
  let b := s.image
  let s := s.forAll ((imAllBindings b).filter fun x => !x.2.out) fun x s =>
    let (v, s) := bindingRead rd x.2 s
    s.modProg fun p => { p with data := varSet b x.2.var v p.data }
  let s := s.forAll (s.forces.filter fun f => isInput b f.2.1 || !isOutput b f.2.1) fun f s => s.modProg fun p => { p with data := varSet b f.2.1 f.2.2 p.data }
  (s.forAll s.prog.online fun o s => s.modProg fun p => { p with data := varSet b o.1 o.2 p.data }).modProg fun p => { p with online := [] }

/-- The program cycle in ns. -/
def State.cycleNs (s : State) : Nat := s.n Obj.PROG_CYCLE * 1000000

/-- The cycle boundaries passed since the accepted RUN (R393). -/
def State.progBoundaries (s : State) : Nat := (s.lNow - s.prog.gridL) / s.cycleNs

/-- Step 2: the program clock advances by the cycle boundaries passed, in HOLD by one cycle (R395). -/
def scanClock (s : State) : State :=
  let k := s.progBoundaries
  let d := if s.b Obj.PROG_HELD then 1 else k - s.prog.boundary
  (s.putN Obj.PROG_CLOCK (s.n Obj.PROG_CLOCK + s.cycleNs * d)).modProg fun p =>
    { p with boundary := k, holdK := k, stepDue := false, frozen := false }

/-- Step 3: the code runs once. -/
def scanCode (s : State) : State :=
  let x := runCode s.image (s.n Obj.PROG_CLOCK) { data := s.prog.data, blocks := s.prog.blocks }
  s.modProg fun p => { p with data := x.data, blocks := x.blocks }

/-- Step 5 for one binding: a DO takes its value; an object is written where its value differs from the last written. The last
scan of a module that has yielded in a planned swap reaches the plant through the new active module alone (R404). -/
def bindingWrite (wr : Nat → Bytes → State → Except Abort State) (i : Nat) (x : Binding) (s : State) : State :=
  let v := varGet s.image s.prog.data x.var
  if x.kind = 4 then s.modProg fun p => { p with dos := withBit p.dos x.chan (v.any fun c => c != 0) }
  else if s.standby ∨ amGet? s.prog.written i = some v then s
  else
    let s := s.modProg fun p => { p with written := amSet p.written i v }
    match wr (objKey x.chan x.sub) v s with
    | .ok t => t
    | .error a => ((s.refused a).inc Obj.WRITE_REFUSALS).putN Obj.WRITE_ABORT_LAST a.code

/-- Steps 4 and 5. -/
def scanOutputs (wr : Nat → Bytes → State → Except Abort State) (s : State) : State :=
  let b := s.image
  let s := s.forAll (s.forces.filter fun f => isOutput b f.2.1) fun f s => s.modProg fun p => { p with data := varSet b f.2.1 f.2.2 p.data }
  s.forAll ((imAllBindings b).filter fun x => x.2.out) fun x s => bindingWrite wr x.1 x.2 s

/-- Whether a scan takes place at a cycle boundary: the function runs, the module is not STANDBY (R437), but for the last scans
of the former active module in a planned swap, before which the new active module's wait (R448), and debug HOLD lets one
step through (R399). -/
def State.scans (s : State) : Bool :=
  s.running Obj.PROG_STATE && (!s.standby || (s.duo.lastB.map fun b => Nat.blt s.lNow b).getD false) && !s.prog.waits &&
  (!s.b Obj.PROG_HELD || s.prog.stepDue)

/-- Code that was stopped leaves instance data the spec does not state. -/
def scanBroken (s : State) : State :=
  let n := s.prog.data.length
  { s.modProg fun p => { p with data := fit n (Config.freeBytes s.free) } with free := s.free + 1 }

/-- What a scan sends to the partner (R405). -/
def progMirror (s : State) : ProgMsg :=
  let b := s.image
  { vars := ((List.range (imSymbols b)).filter fun n => bitOf (imSymbol b n).attr 0).map fun n => (n, varGet b s.prog.data n),
    blocks := s.prog.blocks.filter fun x => bitOf (imSymbol b x.1).attr 0,
    forces := (List.range 64).map fun e => s.bytes (Obj.FORCE_ENTRY e), dos := s.prog.dos, clock := s.n Obj.PROG_CLOCK, at_ := s.lNow }

/-- Whether a scan of `micros` µs still executes PROG_WATCHDOG cycles after its start (R394). -/
def State.scanTooLong (s : State) (micros : Nat) : Bool := Nat.blt (s.n Obj.PROG_WATCHDOG * s.n Obj.PROG_CYCLE * 1000) micros

/-- A scan of `micros` µs (R393); `trap` where its code traps, which it does before the watchdog stops it or not at all (R394). -/
def programScan (rd : Nat → State → Bytes × State) (wr : Nat → Bytes → State → Except Abort State)
    (micros : Nat) (trap : Bool) (s : State) : State :=
  if !s.scans then s else
  let s := (scanClock (scanInputs rd s)).modProg fun p => { p with endL := s.lNow + 1000 * micros }
  if s.scanTooLong micros then progFault 1 (scanBroken s) else
  if trap then progFault 2 (scanBroken s) else
  let s := scanOutputs wr (scanCode s)
  let s := (s.putN Obj.EXEC_TIME_LAST micros).putN Obj.EXEC_TIME_MAX (max micros (s.n Obj.EXEC_TIME_MAX))
  if s.n Obj.PROG_CYCLE * 1000 < micros then s.inc Obj.OVERRUNS else s

/-- A scan that still executes PROG_WATCHDOG cycles after its start is stopped (R394). -/
def progWatchdog (rd : Nat → State → Bytes × State) (s : State) : State :=
  if !s.scans then s else progFault 1 (scanBroken (scanClock (scanInputs rd s)))

/-- The level that the program gives a DO it holds (R394, R411): its own while it runs, else by PROG_STOP_OUTPUTS. -/
def State.progDo (s : State) (d : Nat) : Bool :=
  bitOf s.prog.mask d && bitOf s.prog.dos d && (s.running Obj.PROG_STATE || s.n Obj.PROG_STOP_OUTPUTS == 1)

/-! ### RUN, STOP, debug -/

/-- The level that HOLD keeps for DO `d` (R394, R411): the one the program gave it, else the one its latch holds. -/
def State.heldDo (s : State) (d : Nat) : Bool := if bitOf s.prog.mask d then bitOf s.prog.dos d else bitOf s.field.doLatch d

/-- RUN of the program (R395, R401, R403): until its first scan a DO keeps the level of PROG_STOP_OUTPUTS (R394). -/
def progRun (s : State) : State :=
  let b := s.image
  let s := ((s.putN Obj.PROG_FAULT_CAUSE 0).putN Obj.PROG_CLOCK 0).putN Obj.EXEC_TIME_MAX 0
  let s := (s.putN Obj.IMAGE_CRC (fieldU b 4 4)).modProg fun p =>
    { p with data := imInitial b, blocks := [], online := [], gridL := s.lNow, boundary := 0, written := [], mask := imDos b,
             dos := if s.n Obj.PROG_STOP_OUTPUTS = 1 then maskOf 16 fun d => bitOf (imDos b) d && s.heldDo d else 0,
             stepDue := false, frozen := false, endL := 0, waits := false }
  recheckForces s

/-- STOP check of the program (R406). -/
def progStopCheck (s : State) : Option Abort := if s.n Obj.EXCHANGE_STATE = 1 then some (conflict Obj.EXCHANGE_STATE) else none

/-- STOP of the program discards the instance data (R403); debug ends (R399). -/
def progStop (s : State) : State :=
  (s.putB Obj.PROG_DEBUG false).modProg fun p => { p with data := [], blocks := [], online := [], written := [], stepDue := false }

/-- The program clock stops for debug HOLD (R399). -/
def holdClock (s : State) : State := let k := s.progBoundaries; s.modProg fun p => { p with holdK := k }

/-- Leaving debug HOLD the program clock goes on: the boundaries passed while it stood count nothing (R399). -/
def resumeClock (s : State) : State :=
  if s.running Obj.PROG_STATE && s.b Obj.PROG_DEBUG && s.n Obj.DEBUG_MODEL == 0 then
    let k := s.progBoundaries
    s.modProg fun p => { p with boundary := p.boundary + (k - p.holdK) }
  else s

/-- A write of PROG_DEBUG (R399, R401). -/
def ownProgDebug (v : Val) (s : State) : Except Abort State :=
  if v.toNat = 0 then
    (if s.n Obj.FORCE_COUNT = 0 then .ok ((resumeClock s).putB Obj.PROG_DEBUG false) else .error (inconsistent Obj.FORCE_COUNT))
  else .ok (if s.running Obj.PROG_STATE then (if s.b Obj.PROG_DEBUG then s else holdClock s).putB Obj.PROG_DEBUG true else s)

/-- PROG_HELD: debug in model HOLD (R399). -/
def progHeld (s : State) : Bool := s.running Obj.PROG_STATE && s.b Obj.PROG_DEBUG && s.n Obj.DEBUG_MODEL == 0

/-- A write of PROG_STEP: one scan at the next cycle boundary in HOLD (R399). -/
def ownProgStep (_ : Val) (s : State) : Except Abort State :=
  .ok (if s.b Obj.PROG_HELD then s.modProg fun p => { p with stepDue := true } else s)

end Sys2Proof.Machine
end

