-- ==== Sys2Proof/Machine/Idp.lean ====
section
/-!
DEFINITION. Network access beside the requests themselves (R370, R376 to R388): sessions and peers, the store of
settings in flash, the Ethernet settings in force, redundancy, discovery.
-/

namespace Sys2Proof.Machine

/-- The state with the network side changed. -/
def State.modIdp (s : State) (f : IdpSt → IdpSt) : State := { s with idp := f s.idp }

/-! ### The store (R370) -/

/-- The values of the program's variables, as CONFIG_SAVE stores them: none while the program has no instance data. -/
def savedVariables (s : State) : List (Nat × Val) :=
  if s.prog.data.isEmpty then [] else
  (List.range (min s.symbolCount 65536)).map fun n => (Obj.VAR_VALUE n, .bytes (varGet s.image s.prog.data n))

/-- What CONFIG_SAVE stores (R370): the values of every RW object that is not a function state. -/
def savedRw (s : State) : List (Nat × Val) :=
  (s.store.filter fun kv =>
    match findRow kv.1 with
    | some (g, r) => r.access == .rw && !r.isFn g (kv.1 / 65536) (kv.1 % 65536) && kv.1 / 65536 != 0x2A10 && kv.1 / 65536 != 0x2A11
    | none => false) ++ savedVariables s

/-- CONFIG_SAVE (R370). -/
def ownConfigSave (_ : Val) (s : State) : Except Abort State :=
  .ok (stampStore (s.modIdp fun x => { x with flashRw := savedRw s }))

/-- A message from the network reaches its service unless it is a duplicate (R382). -/
def viaNet (v : NetFrame) (f : State → State) (s : State) : State :=
  let (ok, s) := netPass v s
  if ok then f s else s

/-! ### Sessions (R377) -/

/-- IDP_SESSIONS follows the open sessions. -/
def countSessions (s : State) : State := s.putN Obj.IDP_SESSIONS s.idp.sessions.length

/-- A handshake with a certificate's fingerprint from an address: the RUNNING peer entry it opens a session for. -/
def peerFor (s : State) (fp : Bytes) (addr : Nat) : Option Nat :=
  (List.range 16).find? fun p => s.running (Obj.PEER_STATE p) && s.bytes (Obj.PEER_FINGERPRINT p) == fp &&
    (s.n (Obj.PEER_ADDR p) == 0 || s.n (Obj.PEER_ADDR p) == addr) && (s.session? (.udp p)).isNone

/-- A DTLS handshake (R377): a session opens for a matching peer that has none, at most eight in all; a session confirms
the Ethernet settings (R384). -/
def sessionHandshake (fp : Bytes) (v : NetFrame) (s : State) : State :=
  match peerFor s fp v.addr with
  | none => s
  | some p =>
    if 8 ≤ s.idp.sessions.length then s else
    let s := s.modIdp fun x => { x with sessions := x.sessions ++ [{ peer := p, role := s.n (Obj.PEER_ROLE p), seen := s.lNow, addr := v.addr }], ethBefore := none }
    countSessions ((s.putB (Obj.PEER_SESSION p) true).putN (Obj.PEER_LAST_SEEN p) s.pNow)

/-- A session ends: its transfers lapse, a safety session within it ends (R311, R375). -/
def endSession (p : Nat) (s : State) : State :=
  if (s.session? (.udp p)).isNone then s else
  let s := if s.safety.session = some (.udp p) then endSafetySession s else s
  let s := s.modIdp fun x => { x with sessions := x.sessions.filter fun y => y.peer != p, transfers := x.transfers.filter fun t => t.src != .udp p }
  countSessions (s.putB (Obj.PEER_SESSION p) false)

/-- RUN check of a peer (R388). -/
def peerRunCheck (p : Nat) (s : State) : Option Abort :=
  if (s.bytes (Obj.PEER_FINGERPRINT p)).isEmpty then some (inconsistent (Obj.PEER_FINGERPRINT p))
  else if s.b (Obj.PEER_PUSH p) && s.n (Obj.PEER_ADDR p) == 0 then some (inconsistent (Obj.PEER_PUSH p)) else none

/-- A DOMAIN transfer lapses (R375). -/
def transferLapse (key : Nat) (s : State) : State := s.modIdp fun x => { x with transfers := x.transfers.filter fun t => t.key != key }

/-! ### Ethernet settings (R384) -/

/-- RUN check of the Ethernet function (R519). -/
def ethRunCheck (s : State) : Option Abort :=
  if s.b Obj.IDP_CAN_ENABLE && idTaken s Obj.ETH_STATE (s.n Obj.IDP_CAN_CHANNEL) [s.n Obj.IDP_CAN_RESP_ID] then
    some (inconsistent Obj.IDP_CAN_RESP_ID) else none

/-- RUN of the Ethernet function: the new settings act at once; those before wait for a session to confirm. -/
def ethRun (s : State) : State :=
  s.modIdp fun x => { x with ethBefore := some x.ethInForce, ethInForce := fnSettings s Obj.ETH_STATE }

/-- NET_CONFIRM_TIME without a session (R384): the settings before are in force again. -/
def netConfirmTimeout (s : State) : State :=
  match s.idp.ethBefore with
  | none => s
  | some old =>
    (loadSettings Obj.ETH_STATE old (s.modIdp fun x => { x with ethInForce := old, ethBefore := none })).logN 0x0A02 0x2900 noSubject 0 0

/-! ### Redundancy (R381, R382) -/

/-- A response as one PDU (R372, Table 15.8). -/
def responsePdu (x : Response) : Bytes :=
  leBytes 1 1 ++ leBytes 1 (128 + x.op) ++ leBytes 2 x.tag ++ leBytes 2 x.index ++ leBytes 2 x.sub ++ leBytes 4 x.abort ++
    leBytes 4 x.offset ++ leBytes 2 x.count ++ leBytes 2 x.data.length ++ leBytes 1 (b2n x.last) ++ leBytes 3 0 ++ x.data

/-- A piece of a PUSH transfer as one PDU (R378, Table 15.8). -/
def pushPdu (x : PushPdu) : Bytes :=
  leBytes 1 1 ++ leBytes 1 6 ++ leBytes 2 x.tag ++ leBytes 2 (x.key / 65536) ++ leBytes 2 (x.key % 65536) ++ leBytes 4 0 ++
    leBytes 4 x.offset ++ leBytes 2 0 ++ leBytes 2 x.data.length ++ leBytes 1 (b2n x.last) ++ leBytes 3 0 ++ x.data

/-- A frame on P1 (0) or P2 (1) (R381): the sender's and the receiver's IPv4 address, the next hop, VLAN identifier and priority
where tagged, the redundancy mode, LAN and sequence number that its PRP trailer or HSR tag carries, the UDP port, the payload
before DTLS. -/
structure WireFrame where
  port : Nat
  source : Nat
  dest : Nat
  hop : Nat
  vlan : Option (Nat × Nat)
  red : Option (Nat × Nat × Nat)
  udp : Nat
  payload : Bytes
  deriving DecidableEq, Repr

/-- What an output carries over Ethernet: address, UDP port, payload; a session opened or a supervision frame carries none that the
spec lays out (log entry 183). -/
def Output.datagram (s : State) : Output → Option (Nat × Nat × Bytes)
  | .udp port addr data => some (addr, port, data)
  | .response (.udp p) x => some (((s.session? (.udp p)).map Session.addr).getD 0, 48820, responsePdu x)
  | .push x => some (x.addr, x.port, pushPdu x)
  | .connect addr port => some (addr, port, [])
  | .supervision _ => some (0, 0, [])
  | _ => none

/-- The next hop to an address from a port's own (Table 15.15): the gateway for one outside the subnet that is no multicast. -/
def State.nextHop (s : State) (own dest : Nat) : Nat :=
  let m := s.ethN Obj.NET_MASK
  if dest / 2 ^ 28 = 14 ∨ own &&& m = dest &&& m ∨ s.ethN Obj.GATEWAY = 0 then dest else s.ethN Obj.GATEWAY

/-- The frames in which the outputs of the latest command leave P1 and P2 (R381, Table 15.10): on each port, in PRP and HSR with
one sequence number for both. -/
def State.wire (s : State) : List WireFrame :=
  let mode := s.ethN Obj.NET_MODE
  let vlan := if s.ethN Obj.VLAN_ID = 0 then none else some (s.ethN Obj.VLAN_ID, s.ethN Obj.VLAN_PRIORITY)
  (s.out.filterMap (Output.datagram s)).zipIdx.flatMap fun x => [0, 1].map fun port =>
    let own := if mode = 0 ∧ port = 1 then s.ethN Obj.IP_ADDR_P2 else s.ethN Obj.IP_ADDR_P1
    { port, source := own, dest := x.1.1, hop := s.nextHop own x.1.1, vlan,
      red := if mode = 0 then none else some (mode, port, (s.netSeq + x.2) % 65536), udp := x.1.2.1, payload := x.1.2.2 }

/-- A supervision frame is sent in PRP and HSR (R382). -/
def supervisionSend (s : State) : State :=
  let m := s.ethN Obj.NET_MODE
  if m = 0 then s else s.emit (.supervision m)

/-! ### Discovery (R385) -/

/-- A byte string of 16 bytes, NUL-padded. -/
def padded (n : Nat) (b : Bytes) : Bytes := (b ++ List.replicate n 0).take n

/-- The ANNOUNCE datagram (Table 15.12). -/
def announceBytes (s : State) : Bytes :=
  let b := asciiBytes "IBDN" ++ leBytes 1 1 ++ leBytes 1 1 ++ leBytes 2 0 ++ leBytes 8 (s.n Obj.MODULE_SERIAL) ++
    padded 16 (asciiBytes s.asBuilt.code.text) ++ leBytes 4 (s.n Obj.CONTAINER_ID) ++
    leBytes 1 (if s.b Obj.TABLE_ENABLE then s.n Obj.SEAT_NUMBER else 0xFF) ++ leBytes 1 (s.n Obj.PAIR_ROLE) ++
    leBytes 2 (fieldU (s.bytes Obj.RUNNING_VERSIONS) 0 2) ++ padded 32 s.asBuilt.certFp ++ leBytes 4 (s.ethN Obj.IP_ADDR_P1)
  b ++ leBytes 4 (crc32c b)

/-- The module sends its ANNOUNCE. -/
def announceSend (s : State) : State :=
  if s.ethN Obj.DISCOVERY_ENABLE = 0 then s else
  (s.modIdp fun x => { x with solicited := false }).emit (.udp 48820 (s.ethN Obj.DISCOVERY_GROUP) (announceBytes s))

/-- A SOLICIT arrives: an ANNOUNCE falls due. -/
def solicitReceived (b : Bytes) (s : State) : State :=
  let ok := b.length == 80 && b.take 4 == asciiBytes "IBDN" && fieldU b 4 1 == 1 && fieldU b 5 1 == 2 && (b.drop 8).all fun c => c == 0
  if ok && s.ethN Obj.DISCOVERY_ENABLE == 1 then s.modIdp fun x => { x with solicited := true } else s

/-! ### Links and IDP over CAN -/

/-- The link on P1 (0), P2 (1) or PAIR (2) comes up or goes down (R387, R431). -/
def linkChange (port : Nat) (up : Bool) (s : State) : State :=
  if port < 2 then s.putN Obj.LINK_STATE (withBit (s.n Obj.LINK_STATE) port up) else s

/-- Whether the response to a request over CAN has not been sent (R379). -/
def idpCanBusy (s : State) : Bool :=
  let c := s.ethN Obj.IDP_CAN_CHANNEL
  let f := serviceFrame c (s.ethN Obj.IDP_CAN_RESP_ID) true []
  let is_ := fun (t : SvcTx) => t.frame.id == f.id && t.frame.ext == f.ext
  ((s.canCh c).svc.any fun x => is_ x.2) || (s.canCh c).wait.any is_

/-- A response over CAN as a frame (R379). -/
def canResponse (x : Response) (s : State) : State :=
  let pdu := responsePdu x
  sendService (serviceFrame (s.ethN Obj.IDP_CAN_CHANNEL) (s.ethN Obj.IDP_CAN_RESP_ID) true (padded (fdLength pdu.length) pdu)) true s

end Sys2Proof.Machine
end

