-- ==== Sys2Proof/Machine/Pair.lean ====
section
/-!
DEFINITION. The active and standby pair (R425 to R451) and the program exchange (R404, R405): heartbeats, the role lines,
synchronisation, the mirror store, takeover, planned swaps.
-/

namespace Sys2Proof.Machine

/-- The state with the pair side changed. -/
def State.modDuo (s : State) (f : DuoSt → DuoSt) : State := { s with duo := f s.duo }

/-- Whether the module works as one of a pair (R425). -/
def State.paired (s : State) : Bool := s.running Obj.REDUNDANCY_STATE && s.b Obj.PAIR_ENABLE

/-- Whether it is the active module of a pair. -/
def State.pairActive (s : State) : Bool := s.n Obj.PAIR_ROLE == 1

/-- Whether flash holds the pair function as RUNNING with PAIR_ENABLE. -/
def storedPair (s : State) : Bool :=
  match amGet? s.idp.flash Obj.REDUNDANCY_STATE with
  | some (st, l) => st == 1 && (amGetD l Obj.PAIR_ENABLE (.int 0)).toNat != 0
  | none => false

/-- Whether the module heeds ROLE_IN (R425, R429): PAIR_ENABLE is 1, as flash holds it until start-up has given the pair function
its state. -/
def State.heedsRole (s : State) : Bool := s.b Obj.PAIR_ENABLE || s.pow.phase != 0 && storedPair s

/-- RUN check of the pair function (R425). -/
def pairRunCheck (s : State) : Option Abort :=
  if s.b Obj.PAIR_ENABLE && s.n Obj.PAIR_POSITION == 0 then some (inconsistent Obj.PAIR_POSITION) else none

/-- STOP check (R451). -/
def pairStopCheck (s : State) : Option Abort :=
  if s.pairActive && s.n Obj.PAIR_SYNC == 2 then some (conflict Obj.PAIR_SYNC) else none

/-! ### Changes of role -/

/-- The safety controllers yield, or end yielding (R429, R437). -/
def setYield (b : Bool) (s : State) : State := driveEnables (s.modSafety fun z => { z with yield := b })

/-- The heads of BRIDGE chains take a role (R437, R448). -/
def bridgeHeads (role : Nat) (s : State) : State :=
  s.forAll (s.headList.filter fun h => s.n (Obj.HEAD_SHAPE h) == shapeBridge && s.n (Obj.HEAD_ROLE h) != roleOff) fun h s =>
    s.putN (Obj.HEAD_ROLE h) role

/-- A role change is recorded; the overlap of the two modules' pads, which ends within 4 ms (R442), is not the module's to see
(log entry 86). -/
def recordChange (kind : Nat) (s : State) : State :=
  let (n, s) := s.freshN
  ((s.putN Obj.LAST_ROLE_CHANGE s.pNow).putN Obj.LAST_CHANGE_KIND kind).putN Obj.LAST_OVERLAP (n % 4001)

/-- The module becomes STANDBY in service: it yields; its chains, loops, program and custody rest, but for an emergency
generation that is on its way (R429, R437, R449). -/
def becomeStandby (kind : Nat) (s : State) : State :=
  let s := recordChange kind (s.putN Obj.PAIR_ROLE 2)
  let s := bridgeHeads roleListening (setYield true s)
  let s := if s.b Obj.PILOT_ACTIVE then pilotEnd s else s
  let s := if s.calString?.isSome then calFinish 0 s else s
  let s := if (s.custody.gen.map Generation.reason) = some 2 then s else abandonGeneration s
  let s := ((clearDeals s).each s.asBuilt.strings abortProof).putB Obj.PROG_DEBUG false
  let s := s.modCustody fun c => { c with due := none }
  let s := s.forAll s.mappedCells fun x s => (hideCell x.1 s).putN (Obj.EST_FLAGS x.1) (2 ^ efCold)
  let up := s.b Obj.PAIR_LINK_UP
  ((s.putN Obj.PAIR_SYNC (b2n up)).putN Obj.SYNC_BLOCK (if up then 8 else 1)).modDuo fun d =>
    { d with moved := false, opening := false, handing := false, ceded := false, due := none, swapMark := none, takeover := none, mirror := [],
             control := none, program := none, cfgRefused := false, lastB := none, heard := [], awaits := [] }

/-- The slow part of a mirror entry (Table 18.5). -/
def slowPart (r : CpRec) (part : Nat) : Bytes :=
  match part with
  | 0 => (r.xBound.take 6).flatMap f32q
  | 1 => f32q (nth r.xBound 6 0) ++ r.theta.flatMap f32q
  | 2 => r.thetaBound.flatMap f32q ++ milliPercent r.anchorU ++ leBytes 1 r.profile ++ leBytes 1 0
  | _ => f32Bytes (Val.ofRat? r.anchorZ) ++ f32q r.anchorQ ++ milliPercent r.anchorDq ++ leBytes 2 r.fe ++ List.replicate 12 0

/-- The mirror entry of a cell with a PART (Table 18.4). -/
def mirrorEntry (s : State) (n part : Nat) : Bytes :=
  let r := cellCp s n
  leBytes 2 n ++ leBytes 2 (r.flags % 16 + 16 * part) ++ leBytes 4 (((s.cell n).record.lastSweep % 2 ^ 32).toNat) ++ r.x.flatMap f32q ++
    f32q r.drift ++ slowPart r part

/-- PART of the entry that the MIRROR field of a cell record holds. -/
def mirrorPart (b : Bytes) : Nat := fieldU b 2 2 / 16 % 4

/-- The kernel writes the MIRROR field at each update, its PART one further; the entry leaves after the final record write
(R438). -/
def mirrorUpdated (n : Nat) (s : State) : State :=
  if !s.abacus.updated.contains n then s else
  let e := mirrorEntry s n ((mirrorPart (s.cell n).mirror + 1) % 4)
  let s := s.modCell n fun c => { c with mirror := e }
  if s.pairActive && s.b Obj.PAIR_LINK_UP then s.emit (.pair (.mirror [e])) else s

/-- At the sweep tail the held entries of the cells that were not updated leave, PART unchanged (R438). -/
def mirrorTail (s : State) : State :=
  if !s.pairActive || !s.b Obj.PAIR_LINK_UP then s else
  let l := (s.mappedCells.map (·.1)).filter fun n => !s.abacus.updated.contains n
  s.emit (.pair (.mirror (l.map fun n => (s.cell n).mirror)))

/-- The estimator objects of a standby show its mirror store (R436). -/
def showMirror (n : Nat) (m : MirrorCell) (s : State) : State :=
  let s := (s.putQ (Obj.SOC n) (100 * nth m.x 0 0)).putQ (Obj.CORE_TEMP n) (nth m.x 6 0)
  let s := match amGet? m.parts 0 with
    | some p => s.putQ (Obj.SOC_BOUND n) (100 * f32At p 0)
    | none => s
  match amGet? m.parts 1 with
    | some p => s.putQ (Obj.CAPACITY n) (f32At p 4)
    | none => s

/-- The mark on base P of the sweep that a mirror entry names and the cumulative charge of a string at it, as the module has the
sweep's descriptor. An entry of a sweep before its own record begins is taken back by whole periods, with the charge of the
latest mark (log entry 140). -/
def markOfSweep (s : State) (str sweep : Nat) : Nat × Rat :=
  match s.est.descs.find? fun d => d.sweep % 2 ^ 32 == sweep with
  | some d => (d.markP, (nth d.strs str {}).charge)
  | none =>
    let age : Nat := (s.n Obj.SWEEP_COUNT % 2 ^ 32 + 2 ^ 32 - sweep) % 2 ^ 32
    (s.time.markP - (rround (s.sweepT * 1000000000 * (age : Rat))).toNat, (s.track str).charge)

/-- A received entry enters the mirror store with the mark and the charge of its sweep, which an entry held over keeps; the
standby's estimator objects follow (R436, R439). -/
def storeEntry (b : Bytes) (s : State) : State :=
  let n := fieldU b 0 2
  let fl := fieldU b 2 2
  let old := amGetD s.duo.mirror n {}
  let at' := if old.sweep = fieldU b 4 4 ∧ !old.parts.isEmpty then (old.markP, old.charge)
    else markOfSweep s ((s.cellString? n).getD 0) (fieldU b 4 4)
  let m : MirrorCell :=
    { sweep := fieldU b 4 4, flags := fl % 16, markP := at'.1, charge := at'.2, x := (List.range 7).map fun i => f32At b (8 + 4 * i),
      drift := f32At b 36, parts := amSet old.parts (fl / 16 % 4) (slice b 40 24) }
  showMirror n m (s.modDuo fun d => { d with
    mirror := amSet d.mirror n m, heard := n :: d.heard.filter (· != n), awaits := d.awaits.filter (· != n) })

/-- MIRROR_COMPLETE (R439). -/
def countMirror (s : State) : State := s.putN Obj.MIRROR_COMPLETE (s.duo.mirror.filter fun x => x.2.complete).length

/-- The device of entry `f` is learned from a mirrored cell: the active module has used its blocks, so it stands at its
place with the UID of the map (R88, R109). -/
def learnDevice (x : Nat × MapEntry) (s : State) : State :=
  let (f, e) := x
  let s := if s.n (Obj.FE_STATUS f) = feMissing then (s.putN (Obj.FE_STATUS f) feMatch).putN (Obj.FE_UID f) e.uid else s
  let s := s.modHead e.head fun y =>
    let l := y.devs ++ List.replicate (e.address - y.devs.length) {}
    { y with devs := l.set (e.address - 1) { nth l (e.address - 1) {} with
        uid := e.uid, channels := 16, delayA := s.n (Obj.FE_DELAY_A f), delayB := s.n (Obj.FE_DELAY_B f) } }
  countDevices e.head s

/-- A listening head of a BRIDGE learns its chain from the mirror (R88): an entry one of whose cells the mirror store
holds as VALID. -/
def learnFromMirror (s : State) : State :=
  if !s.running Obj.CHAIN_STATE then s else
  let l := s.entries.filter fun x =>
    s.n (Obj.HEAD_ROLE x.2.head) == roleListening && s.n (Obj.HEAD_SHAPE x.2.head) == shapeBridge &&
    x.2.cells.any fun c => bitOf (amGetD s.duo.mirror c.1 {}).flags 0
  if l.isEmpty then s else countMismatches (refreshArrivalWaits (s.forAll l learnDevice))


/-- A standby that receives a restore fills its mirror store with it (R439): EST_AGE tells the sweep, the charge carried tells
that at its mark (R205). -/
def fillMirror (x : Restore) (s : State) : State :=
  countMirror (s.forAll (x.records.filter fun r => bitOf r.flags 0) fun r s =>
    let m : MirrorCell :=
      { sweep := (s.tailSweep % 2 ^ 32 + 2 ^ 32 - r.age) % 2 ^ 32, flags := r.flags % 16, x := r.x, drift := r.drift, markP := r.markP,
        charge := s.chargeNow ((s.cellString? r.cell).getD 0) - amGetD x.charges r.cell 0,
        parts := [0, 1, 2, 3].map fun p => (p, slowPart r p) }
    showMirror r.cell m (s.modDuo fun d => { d with mirror := amSet d.mirror r.cell m }))

/-- A restore offered by the partner (R205, R439); it ends the wait of either role (R204). -/
def restoreReceived (x : Restore) (s : State) : State := partnerOffer x (if s.standby then fillMirror x s else s)

/-- Cells restored from the mirror store at a role change (R437): as a partner restore, the gap charge being the string
charge since each record's sweep, as SWEEP brought it and the module has measured it. A generation starts (R211). -/
def restoreFromMirror (s : State) : State :=
  if !s.running Obj.EST_STATE then s else
  let base := (List.range s.asBuilt.strings).map s.chargeNow
  generationDue 0 (applyRestore false (mirrorRestore s) (s.modCustody fun c => { c with base }))

/-- An entry of the sweep before the swap mark that arrives after t_R (R448 step 2): its cell is restored from it, and its deal of
the sweep need wait no longer. -/
def lateEntry (b : Bytes) (s : State) : State :=
  let n := fieldU b 0 2
  match s.cellString? n with
  | some str =>
    if !s.duo.awaits.contains n then s else
    let s := storeEntry b s
    let base := (List.range s.asBuilt.strings).map s.chargeNow
    restoreCell false (mirrorRestore s) n str (s.modCustody fun c => { c with base })
  | none => s

/-- MIRROR messages (R439, R88): the standby stores them; a module that has become active in a planned swap completes the sweep
before it (R448 step 2). -/
def mirrorReceived (l : List Bytes) (s : State) : State :=
  let l := l.filter fun b => b.length == 64
  if s.standby then learnFromMirror (countMirror (s.forAll l storeEntry))
  else if s.duo.awaits.isEmpty then s else startAll (s.forAll l lateEntry)

/-- Mark outputs on base L continue their series, shifted by the difference of the two bases L (R437). -/
def shiftMarks (s : State) : State :=
  match s.duo.hb, s.duo.control with
  | some h, some c =>
    s.each 4 fun n s =>
      let next := nth c.marks n none
      s.setMark n { nth s.time.marks n {} with next := next.map fun t => if s.n (Obj.MK_BASE n) = 0 then t + s.duo.hbL - h.l else t }
  | _, _ => s

/-- A string at a role change (R444); a proof test that the former module ran ends ABORTED (R305). -/
def carryString (n : Nat) (s : State) : State :=
  let s := if s.n (Obj.PROOF_STATE n) = 2 then (koOff n s).putN (Obj.PROOF_STATE n) 4 else s
  match s.seq n with
  | 4 => setKo (koPos n) true (setKo (koNeg n) true s)
  | 1 | 2 | 3 => emergencyOff n (s.logN 0x0D03 0x2C00 n (s.seq n) 0)
  | 5 => s.modPs n fun x => { x with stepL := s.lNow, breakMs := some (s.n Obj.BREAK_WAIT) }
  | 6 | 7 => s.modPs n fun x => { x with stepL := s.lNow }
  | _ => s

/-- The program of a new active module (R441): initial values, the MIRROR variables, clock and forces of the last PROGRAM
message; the gap in cycles, counted from the last heartbeat where no PROGRAM message has come. It runs without debug (R405). -/
def programTakeover (s : State) : State :=
  let b := s.image
  if !s.running Obj.PROG_STATE then s else
  let s := s.putB Obj.PROG_DEBUG false
  let c := s.n Obj.PROG_CYCLE * 1000000
  let grid := s.duo.hbL - ((s.duo.hb.map Heartbeat.phase).getD 0)
  let s := s.modProg fun p => { p with data := imInitial b, blocks := [], online := [], written := [], gridL := grid % c, mask := imDos b,
                                       boundary := (s.lNow - grid % c) / c, stepDue := false, frozen := false, endL := 0 }
  let last := ((s.duo.program.map (·.2)).getD s.duo.hbL - grid % c) / c
  let s := s.putN Obj.LAST_GAP_CYCLES (min 255 ((s.lNow - grid % c + c - 1) / c - last - 1))
  match s.duo.program with
  | none => s.putN Obj.PROG_CLOCK 0
  | some (m, _) =>
    let k := (s.lNow - grid % c) / c - last
    let s := s.forAll m.vars fun v s => s.modProg fun p => { p with data := varSet b v.1 v.2 p.data }
    let s := s.forAll m.forces.zipIdx fun f s => if f.1.isEmpty then removeForce f.2 s else setForce f.2 f.1 s
    (s.putN Obj.PROG_CLOCK (m.clock + k * c)).modProg fun p => { p with dos := m.dos, blocks := m.blocks }

/-- The module becomes ACTIVE at t_R (R437, R440, R444, R448): 1 takeover, 2 planned, 3 exchange, 4 brown-out. -/
def becomeActive (kind : Nat) (s : State) : State :=
  let s := recordChange kind (s.putN Obj.PAIR_ROLE 1)
  let s := if kind = 1 then s.inc Obj.TAKEOVERS else s.inc Obj.PLANNED_SWAPS
  let s := s.modDuo fun d => { d with takeover := none, moved := false, splitWait := false, roleOut := true, due := none, swapMark := none }
  let s := s.each 8 fun c s => match s.duo.hb with
    | some h => s.modQsf c fun q => { q with seq := (nth h.qsf c q.seq + 2) % 65536 }
    | none => s
  let s := s.each s.asBuilt.strings carryString
  let s := programTakeover (shiftMarks (restoreFromMirror (bridgeHeads roleReading (setYield false s))))
  let s := if kind = 1 then s else
    (s.putN Obj.LAST_GAP_CYCLES 0).modProg fun p => { p with waits := s.running Obj.PROG_STATE }
  s.forAll s.converters setpointFrame

/-- The module has no partner: neither link nor synchronisation. -/
def dropPartner (s : State) : State :=
  (((s.putB Obj.PAIR_LINK_UP false).putN Obj.PAIR_SYNC 0).putN Obj.SYNC_BLOCK 0).modDuo fun d =>
    { d with hb := none, misses := 0, takeover := none, splitWait := false, startWait := false }

/-- The role settles when the safety self-test ends (R432), or at RUN of the pair function in service; the heads of BRIDGE
chains follow it. -/
def settleRole (s : State) : State :=
  if !s.paired then dropPartner (bridgeHeads roleReading (setYield false (s.putN Obj.PAIR_ROLE 0)))
  else if s.b Obj.ROLE_IN_STATE then
    bridgeHeads roleListening (setYield true ((s.putN Obj.PAIR_ROLE 2).modDuo fun d => { d with startWait := false }))
  else if s.n Obj.PAIR_POSITION = 1 then setYield false ((s.putN Obj.PAIR_ROLE 1).modDuo fun d => { d with startWait := false })
  else s.modDuo fun d => { d with startWait := true }

/-- The start-up wait of position 2 ends with a role (R432). -/
def endStartWait (role : Nat) (s : State) : State :=
  if !s.duo.startWait then s else
  bridgeHeads (if role = 2 then roleListening else roleReading)
    (setYield (role == 2) ((s.putN Obj.PAIR_ROLE role).modDuo fun d => { d with startWait := false }))

/-- RUN of the pair function. -/
def pairRun (s : State) : State := if !s.paired || s.n Obj.PAIR_ROLE = 0 then settleRole s else s

/-- STOP of the pair function (R451): the link rests; the role stands until a RUN settles it. -/
def pairStop (s : State) : State := armHost false (dropPartner s)

/-! ### Heartbeats and synchronisation (R430, R431, R434) -/

/-- The checksum over the shared configuration (R434, R435). -/
def configCrc (s : State) : Nat :=
  Config.sharedCrc ((s.shownStore.filter fun kv => match findRow kv.1 with
    | some (_, r) => r.shared (kv.1 / 65536)
    | none => false).flatMap fun kv => leBytes 4 kv.1 ++ (match findRow kv.1 with
      | some (_, r) => r.ty.encode kv.2
      | none => []))

/-- MAP_CRC of the position map. -/
def State.mapCrc (s : State) : Nat := fieldU (s.bytes Obj.POSITION_MAP) 4 4

/-- The running MAIN version. -/
def State.mainVersion (s : State) : Nat := nth s.upd.running.versions 0 0

/-- The first condition of R434 that fails, by SYNC_BLOCK; 0 for none. -/
def syncBlock (s : State) (h : Heartbeat) : Nat :=
  if !s.b Obj.PAIR_LINK_UP then 1
  else if !h.ready then 9
  else if h.position = s.n Obj.PAIR_POSITION then 2
  else if h.small ≠ s.asBuilt.small then 3
  else if h.mainVersion < s.upd.running.minMain ∨ s.mainVersion < h.minMain then 4
  else if s.duo.cfgRefused ∨ configCrc s ≠ h.configCrc then 5
  else if h.signature ≠ s.signature ∨ !h.safe ∨ !s.running Obj.SAFETY_STATE then 6
  else if h.mapCrc ≠ s.mapCrc then 7
  else if s.mappedCells.any fun x => !(amGetD s.duo.mirror x.1 {}).complete then 8
  else 0

/-- PAIR_SYNC for a block (R434): a standby removes the configuration and the mirror by itself. -/
def syncOfBlock (s : State) (b : Nat) : Nat := if b = 0 then 2 else if b = 8 ∨ (b = 5 ∧ !s.duo.cfgRefused) then 1 else 0

/-- Synchronisation is evaluated (R434): by the standby, which forgets a refused write once the configurations are equal again; the
active module reports the standby's value. -/
def evaluateSync (h : Heartbeat) (s : State) : State :=
  let s := if s.duo.cfgRefused && s.standby && configCrc s == h.configCrc then s.modDuo fun d => { d with cfgRefused := false } else s
  let b := if s.standby then syncBlock s h else h.block
  let v := if s.standby then syncOfBlock s b else h.sync
  let s := (s.putN Obj.PAIR_SYNC v).putN Obj.SYNC_BLOCK b
  if v = 2 then (s.putB Obj.SPLIT_DETECTED false).modDuo fun d => { d with tpDriven := true } else s

/-- The planned swap that the own HEARTBEAT announces with its kind (R430): the active module's, at its mark; on a standby the one
requested of it within the last 5 ms (R446, log entry 176). -/
def announcedSwap (s : State) : Option (Nat × Nat) :=
  if s.standby then
    match s.duo.due with
    | some (kind, l) => if s.lNow ≤ l + 5000000 then some (s.n Obj.SWEEP_COUNT + 2, kind) else none
    | none => none
  else s.duo.swapMark.map fun k => (k, (s.duo.due.map (·.1)).getD 2)

/-- The own HEARTBEAT. -/
def ownHeartbeat (s : State) : Heartbeat :=
  let c := s.n Obj.PROG_CYCLE * 1000000
  { role := s.n Obj.PAIR_ROLE, sync := s.n Obj.PAIR_SYNC, block := s.n Obj.SYNC_BLOCK, ready := s.pow.ready && !s.degraded,
    position := s.n Obj.PAIR_POSITION, serial := s.asBuilt.serial, l := s.lNow, markSweep := s.n Obj.SWEEP_COUNT + 1,
    markCycle := s.time.nextMark.getD 0, phase := (s.lNow - s.prog.gridL) % c, signature := s.signature, enables := s.safety.x.en,
    pairStates := s.safety.x.pairs.map PairSt.st, qsf := s.safety.qsf.map QsfSt.seq,
    swap := announcedSwap s, small := s.asBuilt.small, safe := s.running Obj.SAFETY_STATE,
    configCrc := configCrc s, mapCrc := s.mapCrc, mainVersion := s.mainVersion, minMain := s.upd.running.minMain,
    brownout := s.b Obj.BROWNOUT, restored := s.headList.filter fun i => (s.head i).silent }

/-- The CONTROL message of the state. -/
def ownControl (s : State) : Control :=
  { strs := (List.range s.asBuilt.strings).map fun n => let x := s.ps n
      { seq := s.seq n, phase := x.phase, touched := x.touched, raised := x.raised, openLatch := x.openLatch, lockout := x.lockout,
        proof := s.n (Obj.PROOF_STATE n), failed := (s.ss n).failed, overdue := (s.ss n).overdue, timer := s.lNow - x.stepL, zero := x.zero, czero := x.czero, cooldown := x.cooldown, fails := x.fails },
    ko := s.n Obj.KO_COMMAND, tripped := s.b Obj.CONTAINER_TRIPPED, command := (s.v Obj.COMMAND_IN_FORCE).toRat, shares := s.disp.shares,
    single := s.disp.single, seqs := s.disp.seqs, dealer := s.n Obj.DEALER_SEAT, dealerPrio := s.disp.dealerPrio,
    share := s.q Obj.SEAT_SHARE, accepted := s.disp.accepted,
    loops := (List.range 16).map fun n =>
      { band := s.b (Obj.BAND_OUT n), acc := s.n (Obj.ACCUMULATOR n), pending := s.i (Obj.PENDING n), pulses := s.i (Obj.PULSE_COUNT n),
        region := s.n (Obj.REGION n), handover := (s.loop n).handover.isSome, model := (s.loop n).model, fault := s.n (Obj.FAULT_CAUSE n) },
    marks := s.time.marks.map MarkSt.next }

/-- Each module sends HEARTBEAT, the active one CONTROL with it (R430); the die gives its alive signal (R429). -/
def heartbeatSend (s : State) : State :=
  if !s.paired then s else
  let s := (s.modDuo fun d => { d with alive := true }).emit (.pair (.heartbeat (ownHeartbeat s)))
  if s.pairActive then s.emit (.pair (.control (ownControl s))) else s

/-- In FAILED_START the PAIR MAC sends heartbeats with READY = 0 (R455). -/
def failedHeartbeat (s : State) : State :=
  if s.pow.phase = 4 ∧ storedPair s then s.emit (.pair (.heartbeat { ownHeartbeat s with position := s.asBuilt.plug, ready := false })) else s

/-- The objects of the shared configuration on a module as built (R435), and whether each is the state of a function. -/
def sharedObjects (a : AsBuilt) : List (Nat × ObjRow × Bool) :=
  objGroups.flatMap fun g => (List.range g.count).flatMap fun i => g.rows.flatMap fun r =>
    if r.shared (g.first + i) then
      (List.range (r.hi + 1 - r.lo)).filterMap fun k =>
        let key := objKey (g.first + i) (r.lo + k)
        if g.exists? a (g.first + i) (r.lo + k) then some (key, r, key == g.fnKey (g.first + i)) else none
    else []

/-- The active module sends its whole shared configuration, the settings before the states of the functions, and offers a
restore to a partner that has returned (R450). -/
def welcomePartner (s : State) : State :=
  let (fns, settings) := (sharedObjects s.asBuilt).partition fun x => x.2.2
  let s := s.forAll (settings ++ fns) fun x s => s.emit (.pair (.config (x.1 / 65536) (x.1 % 65536) (x.2.1.ty.encode (s.shown x.1))))
  offerRestore s

/-- A takeover falls due while heartbeats arrive (R440), of the kind that the heartbeats announce. -/
def takeoverDue (s : State) : State :=
  s.modDuo fun d => { d with takeover := some (match d.hb.bind Heartbeat.swap with
    | some (_, kind) => kind
    | none => 1) }

/-- A swap falls due for a reason: 2 planned, 3 exchange, 4 brown-out. -/
def makeDue (kind : Nat) (s : State) : State :=
  if !s.pairActive then s else s.modDuo fun d => { d with due := some (kind, s.lNow), swapMark := none, snapSent := false, waive := kind == 4 }

/-- Whether a heartbeat shows a standby partner that has started or whose link has returned (R450). -/
def partnerReturned (h : Heartbeat) (s : State) : Bool :=
  s.pairActive && h.role == 2 && (!s.b Obj.PAIR_LINK_UP || s.duo.hb.map Heartbeat.role == some 0)

/-- A heartbeat arrives (R430 to R434, R440, R450). -/
def heartbeatReceived (h : Heartbeat) (s : State) : State :=
  if !s.paired then s else
  let returned := partnerReturned h s
  let missed := s.duo.misses != 0
  let linked := !s.b Obj.PAIR_LINK_UP
  let s := (s.putB Obj.PAIR_LINK_UP true).putN Obj.PARTNER_SERIAL h.serial
  let s := s.modDuo fun d => { d with hb := some h, hbL := s.lNow, misses := 0, splitWait := false }
  let s := if h.role = 1 then endStartWait 2 s else s
  let s := if s.pairActive && h.role == 2 && h.swap.isSome && s.duo.due.isNone then makeDue 2 s else s
  let s := if s.standby then s else s.forAll (h.restored.filter fun i => s.n (Obj.HEAD_SHAPE i) == shapeBridge) fun i s =>
    s.modHead i fun x => { x with restored := true }
  let s := armHost false (evaluateSync h s)
  if returned then welcomePartner s
  else if linked && s.standby then offerRestore s
  else if missed && s.standby && s.n Obj.PAIR_SYNC == 2 && !s.b Obj.ROLE_IN_STATE && s.duo.takeover.isNone then takeoverDue s
  else s

/-- Link loss (R431, R440), which may also free a held host checkpoint (R204): a SYNCED standby takes over with ROLE_IN deasserted;
with ROLE_IN asserted a standby waits 2 ms (R433). A module in the middle of a planned swap goes on alone. -/
def linkLoss (s : State) : State :=
  let synced := s.n Obj.PAIR_SYNC == 2
  let block := s.n Obj.SYNC_BLOCK
  let s := armHost false (((s.putB Obj.PAIR_LINK_UP false).putN Obj.PAIR_SYNC 0).putN Obj.SYNC_BLOCK 1)
  let s := (s.modProg fun p => { p with waits := false }).modDuo fun d => { d with lastB := none, awaits := [] }
  if !s.standby then s
  else if s.b Obj.ROLE_IN_STATE then s.modDuo fun d => { d with splitWait := true, splitBlock := if synced then 0 else max 1 block }
  else if !synced then s.logN 0x0D02 0x2C00 noSubject block 0
  else s.modDuo fun d => { d with takeover := some 1 }

/-- 1.1 ms pass without a heartbeat (R431): the third miss makes link loss. -/
def heartbeatMiss (s : State) : State :=
  if !s.paired || s.duo.hb.isNone then s else
  let s := (s.inc Obj.HEARTBEATS_MISSED).modDuo fun d => { d with misses := d.misses + 1 }
  if s.duo.misses = 3 ∧ s.b Obj.PAIR_LINK_UP then linkLoss s else s

/-- ROLE_IN has stayed asserted 2 ms beyond the link loss (R433). -/
def splitDetected (s : State) : State :=
  if !s.duo.splitWait || !s.b Obj.ROLE_IN_STATE then s else
  (((s.putB Obj.SPLIT_DETECTED true).putN Obj.PAIR_SYNC 0).putN Obj.SYNC_BLOCK 1).modDuo fun d => { d with splitWait := false }

/-! ### Messages the standby takes -/

/-- What the proof tests of a string have left, as CONTROL carries it (R444). -/
def State.carryTest (s : State) (n : Nat) (x : StringControl) : State :=
  s.modSs n fun z => { z with failed := x.failed, overdue := x.overdue }

/-- CONTROL is taken by the standby (R437). -/
def controlReceived (c : Control) (s : State) : State :=
  if !s.standby then s else
  let s := s.each s.asBuilt.strings fun n s => match c.strs[n]? with
    | some x => showProt n ((((s.putN (Obj.STRING_SEQ_STATE n) x.seq).putN (Obj.PROOF_STATE n) x.proof).carryTest n x).modPs n fun y =>
        { y with
          phase := x.phase, touched := x.touched, raised := x.raised, openLatch := x.openLatch, lockout := x.lockout,
          zero := x.zero, czero := x.czero, cooldown := x.cooldown, fails := x.fails, stepL := s.lNow - x.timer })
    | none => s
  let s := ((s.putN Obj.KO_COMMAND c.ko).putB Obj.CONTAINER_TRIPPED c.tripped).putQ Obj.COMMAND_IN_FORCE c.command
  let s := ((s.putN Obj.DEALER_SEAT c.dealer).putQ Obj.SEAT_SHARE c.share).modDisp fun d =>
    { d with shares := c.shares, single := c.single, seqs := c.seqs, dealerPrio := c.dealerPrio, accepted := c.accepted }
  let s := s.each 16 fun n s => match c.loops[n]? with
    | some x =>
      let s := ((s.putB (Obj.BAND_OUT n) x.band).putN (Obj.ACCUMULATOR n) x.acc).putI (Obj.PENDING n) x.pending
      let s := ((s.putI (Obj.PULSE_COUNT n) x.pulses).putN (Obj.REGION n) x.region).putN (Obj.FAULT_CAUSE n) x.fault
      let s := if x.fault ≠ 0 ∧ s.n (Obj.LOOP_STATE n) = 1 then s.putN (Obj.LOOP_STATE n) 2 else s
      s.modLoop n fun y => { y with model := x.model, handover := if x.handover then some (y.handover.getD s.lNow) else none }
    | none => s
  s.modDuo fun d => { d with control := some c }

/-- SWEEP is taken by the standby (R437): schedule, string values, cumulative charge; whether the trains of the reading
heads stay normal (R111, log entry 134). -/
def sweepReceived (m : SweepMsg) (s : State) : State :=
  if !s.standby then s else
  let s := s.putN Obj.SWEEP_COUNT m.sweep
  let s := s.each s.asBuilt.strings fun n s => match m.strs[n]? with
    | some x =>
      let s := ((s.putQ (Obj.STRING_I_MEAN n) x.mean).putQ (Obj.STRING_I_A_RE n) x.iA.1).putQ (Obj.STRING_I_A_IM n) x.iA.2
      let s := (s.putQ (Obj.STRING_I_B_RE n) x.iB.1).putQ (Obj.STRING_I_B_IM n) x.iB.2
      (s.modStr n fun y => { y with invalid := x.invalid }).modTrack n fun t => { t with charge := x.charge, drift := x.drift }
    | none => s
  let s : State := { s with time := { s.time with nextMark := m.nextMark, delta := m.delta },
                            sweep := { s.sweep with syncs := [m.next, m.sync], latched := true } }
  let s := s.forAll (s.headsIn roleListening ++ s.headsIn roleSegment) fun i s =>
    if s.n (Obj.HEAD_SHAPE i) = shapeBridge then s.modHead i fun x => { x with normal := !m.cut.contains i } else s
  let d := makeDesc s
  { s with est := { s.est with descs := (d :: s.est.descs.filter fun x => x.sweep != d.sweep).take 2 } }

/-- SWEEP is sent by the active module at the latch (R430). -/
def sendSweep (s : State) : State :=
  if !s.pairActive || !s.b Obj.PAIR_LINK_UP then s else
  let k := s.n Obj.SWEEP_COUNT
  let r := s.syncOf k
  s.emit (.pair (.sweep
    { sweep := k, sync := r, next := syncFields s.syncSweep s, cut := s.headList.filter fun i => !(s.head i).normal, nextMark := s.time.nextMark, delta := s.time.delta,
      strs := (List.range s.asBuilt.strings).map fun n =>
      { mean := s.q (Obj.STRING_I_MEAN n), iA := (s.q (Obj.STRING_I_A_RE n), s.q (Obj.STRING_I_A_IM n)),
        iB := (s.q (Obj.STRING_I_B_RE n), s.q (Obj.STRING_I_B_IM n)), invalid := (s.str n).invalid, charge := (s.track n).charge,
        drift := (s.track n).drift } }))

/-- PROGRAM is kept by the standby (R405). -/
def programReceived (m : ProgMsg) (s : State) : State :=
  if !s.standby then s else s.modDuo fun d => { d with program := some (m, s.lNow) }

/-! ### Role lines (R429, R432, R433) -/

/-- Whether the module asserts ROLE_OUT (R429): it holds the active role of a pair, its safety function runs, the die is
alive, no planned swap and no loss of the crystal has opened it (R448, R457). -/
def roleOutNow (s : State) : Bool :=
  s.paired && s.pairActive && s.running Obj.SAFETY_STATE && s.duo.alive && !s.duo.handing && !s.duo.ceded

/-- The first cycle boundary of the program at or after an instant of base L in ns. -/
def State.boundaryFrom (s : State) (l : Nat) : Nat :=
  s.prog.gridL + (l - s.prog.gridL + s.cycleNs - 1) / s.cycleNs * s.cycleNs

/-- The cycle boundary at which the next scan starts, in ns of base L: this instant where its scan has not run, else the first one
after it and after the end of the latest scan (R393, R394). -/
def State.nextScanL (s : State) : Nat :=
  if s.boundaryFrom s.lNow = s.lNow ∧ s.prog.boundary < s.progBoundaries then s.lNow
  else s.boundaryFrom (max s.lNow s.prog.endL + 1)

/-- SNAPSHOT (R404 step 2): the program as the last scan of the former active module left it. -/
def sendSnapshot (s : State) : State :=
  let t := (s.emit (.pair (.snapshot
    { data := s.prog.data, blocks := s.prog.blocks, clock := s.n Obj.PROG_CLOCK,
      forces := (List.range 64).map fun e => s.bytes (Obj.FORCE_ENTRY e), debug := s.b Obj.PROG_DEBUG, dos := s.prog.dos,
      written := s.prog.written, passed := s.progBoundaries - s.prog.boundary, image := s.image }))).modDuo fun d =>
    { d with snapSent := true, lastB := none }
  if s.standby then t.putB Obj.PROG_DEBUG false else t

/-- The program of the former active module after t_R (R448 step 6): once no scan is to come before boundary b, SNAPSHOT follows the
last one, where that ended at least 1 ms before b; else the swap moves to the next boundary. -/
def handOver (s : State) : State :=
  match s.duo.lastB with
  | none => s
  | some b =>
    if s.running Obj.PROG_STATE && !s.b Obj.PROG_HELD && decide (s.nextScanL < b) then s
    else if b < s.prog.endL + 1000000 then s.modDuo fun d => { d with lastB := some (b + s.cycleNs) }
    else sendSnapshot s

/-- The former active module of a planned swap goes on scanning up to the first boundary 1 ms after t_R (R448 step 6), with the
debug state it had, which SNAPSHOT carries. -/
def startHandOver (debug : Bool) (s : State) : State :=
  if !s.running Obj.PROG_STATE then s else
  handOver ((s.putB Obj.PROG_DEBUG debug).modDuo fun d => { d with lastB := some (s.boundaryFrom (s.lNow + 1000000)) })

/-- ROLE_IN becomes asserted (R429, R432): with the own ROLE_OUT open the controllers yield, also while the pair function has not
received its state or the core domain is off. -/
def roleInAsserted (s : State) : State :=
  let s := s.putB Obj.ROLE_IN_STATE true
  if !s.paired then (if s.heedsRole && !s.duo.roleOut then setYield true s else s) else
  let s := endStartWait 2 s
  if s.duo.roleOut then s
  else if s.pairActive then
    let kind := if s.duo.handing then (s.duo.due.map (·.1)).getD 2 else 1
    let exch := s.duo.handing && s.n Obj.EXCHANGE_STATE == 1
    let planned := s.duo.handing
    let debug := s.b Obj.PROG_DEBUG
    let s := if planned then s.inc Obj.PLANNED_SWAPS else s
    let s := if exch then ((s.putN Obj.EXCHANGE_STATE 2).putBytes Obj.PROGRAM_STAGED s.image).putN Obj.STAGED_CRC (fieldU s.image 4 4) else s
    if planned then startHandOver debug (becomeStandby kind s) else becomeStandby kind s
  else setYield true s

/-- ROLE_IN becomes deasserted (R440): within the 2 ms of a link loss, or while heartbeats arrive, a takeover starts; where
one has been missed, the next heartbeat or the link loss decides. -/
def roleInDeasserted (s : State) : State :=
  let s := s.putB Obj.ROLE_IN_STATE false
  if !s.paired || !s.standby then s
  else if s.duo.splitWait then
    if s.duo.splitBlock = 0 then s.modDuo fun d => { d with takeover := some 1, splitWait := false }
    else (s.logN 0x0D02 0x2C00 noSubject s.duo.splitBlock 0).modDuo fun d => { d with splitWait := false }
  else if s.n Obj.PAIR_SYNC = 2 then (if s.duo.misses = 0 then takeoverDue s else s)
  else s.logN 0x0D02 0x2C00 noSubject (s.n Obj.SYNC_BLOCK) 0

/-- Both modules have asserted ROLE_OUT for 1 ms (R433): position 2 yields. -/
def roleCollision (s : State) : State :=
  if !s.paired || !s.pairActive || s.n Obj.PAIR_POSITION != 2 then s else
  becomeStandby 5 (s.logN 0x0D01 0x2C00 noSubject 0 0)

/-- The alive signal has been absent for 2.1 ms (R429): the ROLE_OUT switches open. -/
def aliveLost (s : State) : State := s.modDuo fun d => { d with alive := false, roleOut := false }

/-- 100 ms after heartbeats stopped without a takeover (R428). -/
def tpDriveStop (s : State) : State :=
  if s.standby && !s.b Obj.PAIR_LINK_UP then s.modDuo fun d => { d with tpDriven := false } else s

/-- A takeover is authorised in the safety cycle (R440), and a planned swap opens ROLE_OUT (R448 step 3). -/
def pairCycle (s : State) : State :=
  let s := if s.duo.opening then
      (s.modDuo fun d => { d with opening := false, handing := true, roleOut := false }).emit (.pair (.control (ownControl s))) else s
  match s.duo.takeover with
  | none => s
  | some kind =>
    let same := match s.duo.hb with
      | some h => h.signature == s.signature
      | none => false
    if s.standby && s.running Obj.SAFETY_STATE && same && !s.b Obj.ROLE_IN_STATE then becomeActive kind s
    else (s.logN 0x0D02 0x2C00 noSubject (s.n Obj.SYNC_BLOCK) 0).modDuo fun d => { d with takeover := none }

/-! ### Planned swaps (R446 to R449) -/

/-- ROLE_SWAP_TIME is reached (R446). -/
def swapDue (s : State) : State :=
  if s.n Obj.ROLE_SWAP_PERIOD = 0 || s.pUnsetFlag || s.duo.due.isSome then s else makeDue 2 s

/-- A write of SWAP_REQUEST (R446): on a standby, which may take it (R436), its heartbeats ask the active module for the swap (log
entry 176). -/
def ownSwapRequest (_ : Val) (s : State) : Except Abort State :=
  .ok (if s.standby then s.modDuo fun d => { d with due := some (2, s.lNow) } else if s.duo.due.isSome then s else makeDue 2 s)

/-- The conditions of R447; a swap of a brown-out or of a critical die waives all but SYNCED (R449, R468). -/
def swapAllowed (s : State) (kind : Nat) : Bool :=
  s.n Obj.PAIR_SYNC == 2 &&
  (s.duo.waive ||
   (((List.range s.asBuilt.strings).all fun n => s.seq n == sqOpen || s.seq n == sqClosed || s.seq n == sqLockedOut) && !s.proofRunning &&
    s.n Obj.LEAD_CAL_STATE != 1 && !s.b Obj.PROG_HELD && (kind == 3 || s.n Obj.EXCHANGE_STATE != 1)))

/-- At a sweep mark (R447, R448): the chains pass at the announced mark; a due swap whose conditions hold is announced
two sweeps ahead, a waived one starts at once. On the standby the heads read from the announced mark, and the deals of cells
whose entry is missing wait until the next mark at most (DEDUCED, log entry 188). -/
def swapAtMark (s : State) : State :=
  let k := s.n Obj.SWEEP_COUNT
  if s.standby then
    match s.duo.hb.bind Heartbeat.swap with
    | some (m, _) =>
      let missing := (s.mappedCells.map (·.1)).filter fun n => !s.duo.heard.contains n
      let s := s.modDuo fun d => { d with heard := [] }
      if m = k ∧ !s.duo.moved then bridgeHeads roleReading (s.modDuo fun d => { d with moved := true, awaits := missing }) else s
    | none => s.modDuo fun d => { d with heard := [] }
  else
    let s := s.modDuo fun d => { d with awaits := [] }
    let start := fun (s : State) => bridgeHeads roleListening (s.modDuo fun d => { d with moved := true, opening := true, snapSent := false })
    match s.duo.due with
    | none => s
    | some (kind, _) =>
      match s.duo.swapMark with
      | some m => if s.duo.moved then s else if m ≤ k then (if swapAllowed s kind then start s else s.modDuo fun d => { d with swapMark := none }) else s
      | none =>
        if !swapAllowed s kind then s
        else if s.duo.waive then start (s.modDuo fun d => { d with swapMark := some k })
        else s.modDuo fun d => { d with swapMark := some (k + 2) }

/-- A due swap has not started within 1 h (R447). -/
def swapSkip (s : State) : State :=
  if s.duo.due.isNone || s.duo.moved || s.standby then s else
  (s.inc Obj.SWAPS_SKIPPED).modDuo fun d => { d with due := none, swapMark := none }

/-! ### Program exchange (R403, R404) -/

/-- A write of PROGRAM_STAGED (R403): on a standby module only, checked as R392 checks an image. -/
def ownProgramStaged (v : Val) (s : State) : Except Abort State :=
  let b := v.toBytes
  if !s.standby then .error (inconsistent Obj.PROGRAM_STAGED)
  else if b.isEmpty then .ok ((s.putBytes Obj.PROGRAM_STAGED []).putN Obj.STAGED_CRC 0)
  else if !imageOk s b then .error (inconsistent Obj.PROGRAM_STAGED)
  else .ok ((s.putBytes Obj.PROGRAM_STAGED b).putN Obj.STAGED_CRC (fieldU b 4 4))

/-- The symbol of an image that matches one of another by PATH_HASH and a second key. -/
def matchSymbol (b : Bytes) (p : Symbol → Bool) : Option Nat := (List.range (imSymbols b)).find? fun n => p (imSymbol b n)

/-- Why an exchange is refused (R404): the object named. -/
def exchangeRefusal (s : State) (staged : Bytes) : Option Nat :=
  if !s.pairActive || s.n Obj.PAIR_SYNC != 2 then some Obj.PAIR_SYNC
  else if !imageOk s staged then some Obj.PROGRAM_STAGED
  else if s.b Obj.PROG_HELD then some Obj.PROG_HELD
  else match s.forces.find? fun f => let x := imSymbol s.image f.2.1
      (matchSymbol staged fun y => y.path == x.path && y.ty == x.ty).isNone with
    | some f => some (Obj.FORCE_ENTRY f.1)
    | none => loopConflict s (imDos staged)

/-- A write of EXCHANGE_REQUEST (R404); `staged` is the image that the standby holds. -/
def ownExchangeRequest (staged : Bytes) (_ : Val) (s : State) : Except Abort State :=
  match exchangeRefusal s staged with
  | some k => .error { inconsistent k with notes := [(Obj.EXCHANGE_STATE, 3)], logs := [(0x0B02, 0x2A00, noSubject, 3, aConsistency)] }
  | none => .ok (makeDue 3 ((s.putN Obj.EXCHANGE_STATE 1).modProg fun p => { p with armedL := s.lNow }))

/-- 10 s without the swap starting (R404). -/
def exchangeTimeout (s : State) : State :=
  if s.n Obj.EXCHANGE_STATE ≠ 1 || s.duo.moved then s else
  ((s.putN Obj.EXCHANGE_STATE 4).logN 0x0B02 0x2A00 noSubject 4 0).modDuo fun d => { d with due := none, swapMark := none }

/-- After every scan the active module sends PROGRAM (R405). -/
def programMessages (s : State) : State :=
  if !s.pairActive || !s.b Obj.PAIR_LINK_UP then s else s.emit (.pair (.program (progMirror s)))

/-- The values last written to the object bindings of a new image, from those of another image with its output image: a binding of
the same object takes the value that it has received there (DEDUCED, log entry 187). -/
def writtenOf (new : Bytes) (x : Snapshot) : List (Nat × Bytes) :=
  let old := (imAllBindings x.image).filter fun y => y.2.out && y.2.kind == 5
  ((imAllBindings new).filter fun y => y.2.out && y.2.kind == 5).filterMap fun y =>
    (old.find? fun z => z.2.chan == y.2.chan && z.2.sub == y.2.sub).map fun z => (y.1, varGet x.image x.data z.2.var)

/-- A SNAPSHOT arrives at the new active module (R404): the instance data of matched symbols carries over, others start
from the initial data, forces are translated, the output image applies. -/
def snapshotReceived (x : Snapshot) (s : State) : State :=
  if !s.paired || !(s.pairActive || s.standby) || !s.running Obj.PROG_STATE then s else
  let exch := s.n Obj.LAST_CHANGE_KIND == 3 && !(s.bytes Obj.PROGRAM_STAGED).isEmpty
  let s := if exch then
      storeFn Obj.PROG_STATE ((s.putBytes Obj.PROGRAM_IMAGE (s.bytes Obj.PROGRAM_STAGED)).putN Obj.IMAGE_CRC (s.n Obj.STAGED_CRC)) else s
  let s := if exch ∧ s.b Obj.PAIR_LINK_UP then (s.emit (.pair (.config 0x2A00 2 s.image))).emit (.pair (.config 0x2A00 1 [1])) else s
  let new := s.image
  let pairs := (List.range (imSymbols new)).filterMap fun n =>
    let y := imSymbol new n
    (matchSymbol x.image fun z => z.path == y.path && z.typeHash == y.typeHash).map fun m => (n, m)
  let data := pairs.foldl (fun d p => varSet new p.1 (varGet x.image x.data p.2) d) (imInitial new)
  let blocks := (List.range (imSymbols new)).foldl (fun (m : List (Nat × BlockSt)) n =>
    match pairs.find? fun p => p.1 == n with
    | some p => (match amGet? x.blocks p.2 with
      | some b => amSet m n b
      | none => m)
    | none => if bitOf (imSymbol new n).attr 1 then amSet m n { initBlock new n with noEdge := true } else m) []
  let s := s.each 64 fun e s => removeForce e s
  let s := s.forAll x.forces.zipIdx fun f s =>
    if f.1.isEmpty then s else
    let y := imSymbol x.image (fieldU f.1 0 2)
    match matchSymbol new fun z => z.path == y.path && z.ty == y.ty with
    | some n => setForce f.2 (leBytes 2 n ++ f.1.drop 2) s
    | none => s
  let s := ((s.putN Obj.PROG_CLOCK x.clock).putN Obj.EXCHANGE_MATCHED pairs.length).putB Obj.PROG_DEBUG x.debug
  let s := if exch then s.putN Obj.EXCHANGE_STATE 2 else s
  let k := s.progBoundaries
  s.modProg fun p =>
    { p with data, blocks, dos := x.dos, mask := imDos new, written := writtenOf new x, boundary := k - x.passed, frozen := true, waits := false }

end Sys2Proof.Machine
end

