-- ==== Sys2Proof/Machine/Recorder.lean ====
section
/-!
DEFINITION. The event recorder (spec/21_recorder.md, R486 to R500): what a sweep tail and a die reading add to the pages,
clearing, and the pages and the log as they are read.
-/

namespace Sys2Proof.Machine

/-! ### Bins and extremes (R491, R492) -/

/-- The bin of a value: how many edges lie at or below it. -/
def binOf (edges : List Rat) (v : Rat) : Nat := (edges.filter fun e => decide (e ≤ v)).length

/-- The edges of Table 21.1 and of R494. -/
def voltageEdges (lo hi : Rat) : List Rat := (List.range 15).map fun (j : Nat) => lo + (j : Rat) * (hi - lo) / 14
def socEdges : List Rat := (List.range 9).map fun j => ((10 * (j + 1) : Nat) : Rat)
def cellTempEdges : List Rat := [-20, -10, 0, 10, 20, 25, 30, 35, 40, 45, 55]
def dieTempEdges : List Rat := [-20, 0, 20, 40, 55, 70, 85, 95, 105, 110, 125]
def rateEdges : List Rat :=
  [-3 / 2, -1, -3 / 4, -1 / 2, -3 / 10, -1 / 5, -1 / 10, -1 / 20, -1 / 100, 1 / 100, 1 / 20, 1 / 10, 1 / 5, 3 / 10, 1 / 2, 3 / 4, 1, 3 / 2]

/-- Extreme `i` takes a value that is strictly more extreme, stamped (R491); `high` for a maximum. -/
def takeExtreme (i : Nat) (high : Bool) (v : Rat) (stamp : Nat) (unset : Bool) (p : RecPage) : RecPage :=
  let better := match amGet? p.ext i with
    | none => true
    | some (w, _, _) => if high then decide (w < v) else decide (v < w)
  if better then { p with ext := amSet p.ext i (v, stamp, unset) } else p

/-- The same for a value that may be absent. -/
def takeExtreme? (i : Nat) (high : Bool) (v : Option Rat) (stamp : Nat) (unset : Bool) (p : RecPage) : RecPage :=
  match v with
  | some v => takeExtreme i high v stamp unset p
  | none => p

/-! ### What a sweep tail adds -/

/-- SOC in percent and CORE_TEMP of a cell as the recorder takes them (R491, R496): the objects, or on a standby module
those of a complete cell of the mirror store; the second with whether the cell carries COLD_START. -/
def recordedState (s : State) (n : Nat) : Option (Rat × Rat) × Bool :=
  if s.standby then
    match amGet? s.duo.mirror n with
    | some m => if m.complete then (some (100 * nth m.x 0 0, nth m.x 6 0), bitOf m.flags 1) else (none, true)
    | none => (none, true)
  else if s.n Obj.CUSTODY_STATE = 0 ∨ s.estFlag n efReinit then (none, s.estFlag n efCold)
  else (some (s.q (Obj.SOC n), s.q (Obj.CORE_TEMP n)), s.estFlag n efCold)

/-- A cell page at a sweep tail (R491). -/
def recordCell (t : Rat) (n : Nat) (e : MapEntry) (s : State) : State :=
  let (lo, hi, _) := s.recorder.bins
  let v : Rat := s.q (Obj.CELL_VMEAN n) / 1000000
  let stale := s.measFlag n mfStale
  let fresh := s.n (Obj.CELL_AGE n) == 0
  let sensor := s.nearestSensor n
  let temp := if sensor = 0xFFFF then none else (s.v (Obj.SENSOR_TEMP sensor)).toRat?
  let subst := bitOf (s.n (Obj.SENSOR_FLAGS sensor)) 1
  let (st, cold) := recordedState s n
  let core := if s.standby then st.map (·.2) else (s.v (Obj.CORE_TEMP n)).toRat?
  let q := s.q (Obj.STRING_CHARGE e.string) - 3600 / 1000 * (s.q (Obj.BLEED_CHARGE_TOTAL n) - ((amGet? s.est.cells n).map CellSt.bleedBefore).getD 0)
  let at_ := s.time.markP
  let un := s.time.markUnset
  s.modPage n fun p =>
    let p := match temp with
      | some c => if stale then p else { p with h1 := addBin p.h1 (12 * binOf (voltageEdges lo hi) v + binOf cellTempEdges c) t }
      | none => p
    let p := match st with
      | some (z, c) => { p with h2 := addBin p.h2 (12 * binOf socEdges z + binOf cellTempEdges c) t }
      | none => p
    let i := if 0 < q then 0 else 1
    let p := if q = 0 then p else { p with sums := addBin (addBin p.sums i (rabs q / 3600)) (i + 2) (rabs q * v / 3600) }
    let p := if fresh then takeExtreme 1 false v at_ un (takeExtreme 0 true v at_ un p) else p
    let p := if subst then p else takeExtreme? 3 false temp at_ un (takeExtreme? 2 true temp at_ un p)
    if cold then p else takeExtreme? 4 true core at_ un p

/-- A string page at a sweep tail (R494). -/
def recordString (t : Rat) (n : Nat) (s : State) : State :=
  match s.profile? n with
  | none => s
  | some prof =>
    let closed := s.seq n == sqClosed
    let i := s.q (Obj.STRING_I_MEAN n)
    let b := s.recorder.bins.2.2
    let bin := if closed then 1 + binOf rateEdges (i / (pCNom prof / 1000)) else 0
    let kw := i * s.q (Obj.STRING_VOLTAGE n) / 1000
    let k := (rclamp 0 20 (((kw / b + 21 / 2).floor : Int) : Rat)).floor.toNat
    let at_ := s.time.markP
    let un := s.time.markUnset
    s.modPage (pageString n) fun p =>
      let p := { p with h1 := addBin p.h1 bin t, pBin := b }
      let p := if closed && (s.ps n).voltValid then { p with h2 := addBin p.h2 k t } else p
      takeExtreme 1 false i at_ un (takeExtreme 0 true i at_ un p)

/-! ### What a reading of the die sensors adds (R495) -/

/-- The recorder at a reading of the module die sensors, every 100 ms (R495). -/
def recordDie (s : State) : State :=
  let s := countTimes s
  s.each 6 fun n s =>
    let v := s.dieTemp n
    let at_ := s.pNow
    let un := s.pUnsetFlag
    s.modPage pageModule fun p =>
      takeExtreme n true v at_ un { p with h1 := addBin p.h1 (12 * n + binOf dieTempEdges v) (1 / 10) }

/-! ### Commits at a command and at a sweep tail (R487) -/

/-- A write of RECORDER_COMMIT_NOW (R487). -/
def ownCommitNow (_ : Val) (s : State) : Except Abort State := .ok (commitDue s)

/-- The recorder at a sweep tail (R491, R494, R487). -/
def recorderTail (s : State) : State :=
  let t : Rat := ((s.time.markL - s.time.prevMarkL : Nat) : Rat) / 1000000000
  let s := s.forAll s.mappedCells fun (n, _, _, e) s => recordCell t n e s
  let s := s.each s.asBuilt.strings (recordString t)
  if s.recorder.due then commit s else s

/-! ### Start-up (R488, R490) -/

/-- The working image is lost with the core domain: it starts again from the newer buffers. -/
def reloadPages (s : State) : State := s.modRecorder fun x => { x with work := x.newer, due := false, timesL := s.lNow }

/-- A page whose newer buffer fails its PAGE_CRC is loaded from the older one; with both failed it restarts from zero
(R488). -/
def loadPage (both : Bool) (k : Nat) (s : State) : State :=
  let lag := (s.page k).lag
  if !both then
    s.modRecorder fun x =>
      let p := { amGetD x.older k {} with lag := lag + 1 }
      { x with work := amSet x.work k p, newer := amSet x.newer k p }
  else
    let p : RecPage := { flags := 1, lag := s.recorder.commits }
    let s := s.modRecorder fun x => { x with work := amSet x.work k p, newer := amSet x.newer k p, older := amSet x.older k p }
    let (subject, kind) := if k < 8192 then (k, 0) else if k < 8208 then (k - 8192, 1) else (0xFFFF, 2)
    (s.inc Obj.PAGES_LOST).logN 0x0F01 0x2F00 subject kind 0

/-- The comparison with CONTAINER_ID (R490). -/
def compareContainer (s : State) : State :=
  let held := (s.page pageModule).container
  let cur := s.n Obj.CONTAINER_ID
  if held = 0 then s.modRecorder fun x => { x with work := amSet x.work pageModule { s.page pageModule with container := cur } }
  else if cur ≠ 0 ∧ held ≠ cur then s.putB Obj.RECORDER_FOREIGN true else s

/-! ### Clearing and RUN (R498, R499) -/

/-- A page zeroed: its COMMIT_COUNT continues. -/
def zeroPage (id : Nat) (p : RecPage) : RecPage := { container := id, lag := p.lag }

/-- The pages that a predicate chooses are zeroed in the working image and in both buffers. -/
def clearPages (sel : Nat → Bool) (s : State) : State :=
  let z := fun (l : List (Nat × RecPage)) => l.map fun x => if sel x.1 then (x.1, zeroPage x.2.container x.2) else x
  s.modRecorder fun x => { x with work := z x.work, newer := z x.newer, older := z x.older }

/-- The current CONTAINER_ID is adopted by every page, in both buffers (R490). -/
def adoptContainer (s : State) : State :=
  let own := fun (l : List (Nat × RecPage)) => (amSet l pageModule (amGetD l pageModule {})).map fun x =>
    (x.1, { x.2 with container := s.n Obj.CONTAINER_ID })
  s.modRecorder fun x => { x with work := own x.work, newer := own x.newer, older := own x.older }

/-- A write of RECORDER_CLEAR (R498, R490). -/
def ownRecorderClear (v : Val) (s : State) : Except Abort State :=
  let c := v.toNat
  let s := match c with
    | 1 => clearPages (fun k => Nat.blt k 8192) s
    | 2 => clearPages (fun k => Nat.ble 8192 k && Nat.blt k 8208) s
    | 3 => clearPages (fun k => k == pageModule) s
    | 0xFF =>
      adoptContainer ((clearPages (fun _ => true) s).putB Obj.RECORDER_FOREIGN false)
    | _ => s
  let s := if c = 4 ∨ c = 0xFF then { (s.putN Obj.LOG_COUNT 0).putN Obj.LOG_NEWEST 0 with exLog := [], exSlot := 0 } else s
  .ok (s.logN 0x0F02 0x2F00 noSubject c 0)

/-- RUN check of the recorder (R499). -/
def recorderRunCheck (s : State) : Option Abort :=
  if s.q Obj.VBIN_HI ≤ s.q Obj.VBIN_LO then some (inconsistent Obj.VBIN_HI) else none

/-- RUN of the recorder (R499): changed bins zero their histograms. -/
def recorderRun (s : State) : State :=
  let (lo, hi, b) := s.recorder.bins
  let drop1 := fun (l : List (Nat × RecPage)) => l.map fun x => if x.1 < 8192 then (x.1, { x.2 with h1 := [] }) else x
  let drop2 := fun (l : List (Nat × RecPage)) => l.map fun x => if 8192 ≤ x.1 ∧ x.1 < 8208 then (x.1, { x.2 with h2 := [] }) else x
  let s := if lo = s.q Obj.VBIN_LO ∧ hi = s.q Obj.VBIN_HI then s else
    (s.modRecorder fun x => { x with work := drop1 x.work, newer := drop1 x.newer, older := drop1 x.older }).logN 0x0F03 0x2F00 noSubject 0 0
  let s := if b = s.q Obj.STRING_P_BIN then s else
    (s.modRecorder fun x => { x with work := drop2 x.work, newer := drop2 x.newer, older := drop2 x.older }).logN 0x0F03 0x2F00 noSubject 1 0
  s.modRecorder fun x => { x with bins := (s.q Obj.VBIN_LO, s.q Obj.VBIN_HI, s.q Obj.STRING_P_BIN) }

/-! ### Reading (R493, R497, R500) -/

/-- `n` bins of U32 from a histogram. -/
def binBytes (n : Nat) (l : List (Nat × Rat)) : Bytes := (List.range n).flatMap fun i => leBytes 4 (amGetD l i 0).floor.toNat

/-- `n` extremes: value and stamp, zeros before the first. -/
def extBytes (n : Nat) (p : RecPage) : Bytes :=
  (List.range n).flatMap fun i => match amGet? p.ext i with
    | some (v, t, _) => f32Bytes (.real v) ++ leBytes 8 t
    | none => List.replicate 12 0

/-- The header of a page (Table 21.2). -/
def pageHeader (s : State) (id : Nat) (p : RecPage) : Bytes :=
  leBytes 2 id ++ leBytes 2 1 ++ leBytes 4 (s.recorder.commits - p.lag) ++ leBytes 4 p.container ++ leBytes 2 p.flags ++ [0, 0]

/-- A page closed by its CRC at the last four bytes. -/
def sealPage (n : Nat) (b : Bytes) : Bytes := let d := padded (n - 4) b; d ++ leBytes 4 (crc32c d)

/-- A committed page as it is read (R500). -/
def pageBytes (s : State) (k : Nat) : Bytes :=
  let p := amGetD s.recorder.newer k {}
  if k < 8192 then
    sealPage 1536 (pageHeader s k p ++ binBytes 192 p.h1 ++ binBytes 120 p.h2 ++
      ((List.range 4).flatMap fun i => f64Bytes (.real (amGetD p.sums i 0))) ++ extBytes 5 p ++
      leBytes 4 (maskOf 5 fun i => ((amGet? p.ext i).map fun x => x.2.2).getD false))
  else if k < 8208 then
    sealPage 512 (pageHeader s (k - 8192) p ++ binBytes 20 p.h1 ++ binBytes 21 p.h2 ++ f32Bytes (.real p.pBin) ++ extBytes 2 p)
  else
    sealPage 1024 (pageHeader s 0xFFFF p ++ binBytes 72 p.h1 ++ extBytes 6 p ++
      ((List.range 6).flatMap fun i => leBytes 8 (amGetD p.sums i 0).floor.toNat) ++
      ((List.range 27).flatMap fun i => leBytes 4 (amGetD p.counts i 0)))

/-- A record of the exception log (Table 21.4). -/
def recordOf (r : ExRec) : Bytes :=
  let b := leBytes 4 r.no ++ leBytes 2 r.code ++ leBytes 2 r.source ++ leBytes 2 r.subject ++ leBytes 2 r.flags ++ leBytes 4 r.rep ++
    leBytes 8 r.first ++ leBytes 8 r.last ++ leBytes 4 r.arg0 ++ leBytes 4 r.arg1 ++ leBytes 4 r.arg2
  b ++ leBytes 4 (crc32c b)

/-- The record in a slot of the ring; a slot that holds none reads as zeros. -/
def slotBytes (s : State) (i : Nat) : Bytes :=
  let back := (s.exSlot + 65535 - i) % 65536
  match s.exLog[back]? with
  | some r => recordOf r
  | none => List.replicate 48 0

/-- Bytes of EXCEPTION_LOG from an offset. -/
def logBytes (s : State) (offset n : Nat) : Bytes :=
  let a := offset / 48
  let k := (offset + n + 47) / 48 - a
  slice ((List.range k).flatMap fun i => slotBytes s (a + i)) (offset % 48) (min n (3145728 - offset))

end Sys2Proof.Machine
end

