-- ==== Sys2Proof/Machine/Functions.lean ====
section
/-!
DEFINITION. Function states (R369, R370): which objects they are, the checks of RUN and STOP of every chapter, what a
RUN and a STOP do, the stored states at start-up.
-/

namespace Sys2Proof.Machine

/-- The function state objects, in ascending order of index. -/
def fnKeys : List Nat :=
  [Obj.TIME_STATE] ++ (List.range 4).map Obj.MK_STATE ++
  [Obj.ANGLE_STATE, Obj.CHAIN_STATE, Obj.SWEEP_STATE, Obj.TEMP_STATE, Obj.BAL_STATE, Obj.EST_STATE, Obj.THERMAL_STATE] ++
  (List.range 16).map Obj.LOOP_STATE ++ [Obj.PROT_STATE, Obj.DISPATCH_STATE, Obj.TABLE_STATE] ++ [Obj.CAN_STATE 0, Obj.CAN_STATE 1] ++
  [Obj.ETH_STATE] ++ (List.range 16).map Obj.PEER_STATE ++
  [Obj.PROG_STATE, Obj.FIELD_STATE, Obj.REDUNDANCY_STATE, Obj.POWER_FN_STATE, Obj.UPDATE_FN_STATE, Obj.RECORDER_STATE, Obj.SAFETY_STATE]

/-- The functions that do not run in DEGRADED_CLOCK (R456). -/
def crystalFns : List Nat :=
  [Obj.CHAIN_STATE, Obj.SWEEP_STATE, Obj.BAL_STATE, Obj.EST_STATE, Obj.DISPATCH_STATE, Obj.TABLE_STATE, Obj.CAN_STATE 0, Obj.CAN_STATE 1]

/-- RUN check of dispatch: identifiers that fit their format and that no other service sends (R340, R519). -/
def dispatchRunCheck (s : State) : Option Abort :=
  if s.perString && !canIdSums s.asBuilt (s.n Obj.SETPOINT_MSG_ID) then some (inconsistent Obj.SETPOINT_MSG_ID)
  else if idTaken s Obj.DISPATCH_STATE (s.n Obj.SETPOINT_CHANNEL) (setpointIds s) then some (inconsistent Obj.SETPOINT_MSG_ID)
  else none

/-- The number of an instance within its group of indices. -/
def fnInst (key first : Nat) : Nat := key / 65536 - first

/-- The RUN checks of the owning chapter (R369). -/
def fnRunCheck (key : Nat) (s : State) : Option Abort :=
  let idx := key / 65536
  if s.degraded && crystalFns.contains key then some (inconsistent Obj.START_STATE)
  else if 0x2010 ≤ idx ∧ idx < 0x2014 then markRunCheck (fnInst key 0x2010) s
  else if key = Obj.CHAIN_STATE then chainRunCheck s
  else if key = Obj.SWEEP_STATE then sweepRunCheck s
  else if key = Obj.TEMP_STATE then tempRunCheck s
  else if key = Obj.BAL_STATE then balRunCheck s
  else if key = Obj.EST_STATE then estRunCheck s
  else if 0x2510 ≤ idx ∧ idx < 0x2520 then loopRunCheck s.progHolds (fnInst key 0x2510) s
  else if key = Obj.PROT_STATE then protRunCheck s
  else if key = Obj.DISPATCH_STATE then dispatchRunCheck s
  else if key = Obj.TABLE_STATE then tableRunCheck s
  else if 0x2810 ≤ idx ∧ idx < 0x2812 then canRunCheck (fnInst key 0x2810) s
  else if key = Obj.ETH_STATE then ethRunCheck s
  else if 0x2910 ≤ idx ∧ idx < 0x2920 then peerRunCheck (fnInst key 0x2910) s
  else if key = Obj.PROG_STATE then progRunCheck s
  else if key = Obj.FIELD_STATE then fieldRunCheck s
  else if key = Obj.REDUNDANCY_STATE then pairRunCheck s
  else if key = Obj.RECORDER_STATE then recorderRunCheck s
  else if key = Obj.SAFETY_STATE then safetyRunCheck s
  else none

/-- What a RUN does beside the state (R369); `found` is what an enumeration finds. -/
def fnRunEffect (found : List EnumHead) (key : Nat) (s : State) : State :=
  let idx := key / 65536
  if key = Obj.TIME_STATE then timeRun s
  else if 0x2010 ≤ idx ∧ idx < 0x2014 then markRun (fnInst key 0x2010) s
  else if key = Obj.ANGLE_STATE then angleRun s
  else if key = Obj.CHAIN_STATE then refreshSensors (chainRun found s)
  else if key = Obj.SWEEP_STATE then sweepRun (setCycles s)
  else if key = Obj.TEMP_STATE then tempRun s
  else if key = Obj.BAL_STATE then balRun s
  else if key = Obj.EST_STATE then compareContainer (estRun (setFloor s))
  else if 0x2510 ≤ idx ∧ idx < 0x2520 then loopRun (fnInst key 0x2510) s
  else if key = Obj.PROT_STATE then protRun s
  else if key = Obj.TABLE_STATE then tableRun s
  else if 0x2810 ≤ idx ∧ idx < 0x2812 then canRun (fnInst key 0x2810) s
  else if key = Obj.ETH_STATE then ethRun s
  else if key = Obj.PROG_STATE then progRun s
  else if key = Obj.FIELD_STATE then fieldRun s
  else if key = Obj.REDUNDANCY_STATE then pairRun s
  else if key = Obj.RECORDER_STATE then recorderRun s
  else if key = Obj.SAFETY_STATE then safetyRun s
  else if key = Obj.POWER_FN_STATE then writeChainRegs 0x0D [quietLimit s] s
  else s

/-- The STOP checks of the owning chapter (R369). -/
def fnStopCheck (key : Nat) (s : State) : Option Abort :=
  if key = Obj.ANGLE_STATE then angleStopCheck s
  else if key = Obj.CHAIN_STATE then chainStopCheck s
  else if key = Obj.TEMP_STATE then tempStopCheck s
  else if key = Obj.PROT_STATE then protStopCheck s
  else if key = Obj.PROG_STATE then progStopCheck s
  else if key = Obj.REDUNDANCY_STATE then pairStopCheck s
  else if key = Obj.SAFETY_STATE then safetyStopCheck s
  else none

/-- What a STOP does beside the state (R369). -/
def fnStopEffect (key : Nat) (s : State) : State :=
  let idx := key / 65536
  if key = Obj.TIME_STATE then leaveTable (timeStop s)
  else if 0x2010 ≤ idx ∧ idx < 0x2014 then s.setMark (fnInst key 0x2010) {}
  else if key = Obj.ANGLE_STATE then angleStop s
  else if key = Obj.CHAIN_STATE then chainStop s
  else if key = Obj.SWEEP_STATE then sweepStop (calAbort s)
  else if key = Obj.EST_STATE then estStop s
  else if key = Obj.THERMAL_STATE then thermalStop s
  else if 0x2510 ≤ idx ∧ idx < 0x2520 then loopStop (fnInst key 0x2510) s
  else if key = Obj.DISPATCH_STATE then leaveTable (dispatchStop s)
  else if key = Obj.TABLE_STATE then leaveTable s
  else if 0x2910 ≤ idx ∧ idx < 0x2920 then endSession (fnInst key 0x2910) s
  else if key = Obj.PROG_STATE then progStop s
  else if key = Obj.FIELD_STATE then fieldStop s
  else if key = Obj.REDUNDANCY_STATE then pairStop s
  else if key = Obj.SAFETY_STATE then safetyStop s
  else s

/-- A RUN of a function (Table 15.6): accepted without effect while RUNNING; else checked with the settings that wait for
it, carried out with them and stored. The field function takes them at its next cycle (R422). -/
def runFunction (found : List EnumHead) (key : Nat) (s : State) : Except Abort State :=
  if s.n key = 1 then .ok s else
  let t := adoptStaged key s
  match fnRunCheck key t with
  | some a => .error a
  | none =>
    let u := resumeAtMark key true (fnRunEffect found key ((if key = Obj.FIELD_STATE then s else t).putN key 1))
    .ok (storeFn key (if sweepFns.contains key && s.running Obj.SWEEP_STATE then withholdSettings key s u else u))

/-- A STOP of a function (Table 15.6). -/
def stopFunction (key : Nat) (s : State) : Except Abort State :=
  if s.n key = 0 then .ok s else
  match fnStopCheck key s with
  | some a => .error a
  | none => .ok (storeFn key (resumeAtMark key false (fnStopEffect key (s.putN key 0))))

/-- A write of a function state object (R369): 1 for RUN, 0 for STOP, 2 refused with RANGE. -/
def ownFunction (found : List EnumHead) (key : Nat) (v : Val) (s : State) : Except Abort State :=
  match v.toNat with
  | 0 => stopFunction key s
  | 1 => runFunction found key s
  | _ => .error (Abort.of aRange 0)

/-- A function enters FAULT because what it runs on is gone (R457): its stop effects, the state FAULT. -/
def faultFunction (key : Nat) (s : State) : State :=
  if s.n key = 1 then (fnStopEffect key (s.putN key 0)).putN key 2 else s

/-- A function receives its stored values and its stored state (R370): a stored RUNNING is carried out as a RUN; refused,
the function is in FAULT and the refusal is in the exception log. In DEGRADED_CLOCK every function that needs the crystal
is left in FAULT (R454 step 6). No earlier Ethernet settings wait for a confirmation. -/
def startFunction (found : List EnumHead) (key : Nat) (s : State) : State :=
  let (st, settings) := (amGet? s.idp.flash key).getD ((objDefault s.asBuilt key).toNat, [])
  let s := (loadSettings key settings s).putN key 0
  let s := if key = Obj.EST_STATE then refreshProfiles s else s
  let s := if key = Obj.ANGLE_STATE then freeRun s else s
  if st ≠ 1 then (if s.degraded && crystalFns.contains key then s.putN key 2 else s) else
  match fnRunCheck key s with
  | some a =>
    let s := s.forAll a.notes fun x s => s.putN x.1 x.2
    (s.putN key 2).logEx 0x0A01 0x2900 (key / 65536) (.int a.code) (.int a.named) (.int 0)
  | none => storeFn key (resumeAtMark key true (fnRunEffect found key (s.putN key 1)))

end Sys2Proof.Machine
end

