-- ==== Sys2Proof/Machine/Restart.lean ====
section
/-!
DEFINITION. What a restart keeps and what it loses (R202, R370, R408, R410, R452, R453): the core domain switched off, a
restart of the controller die, the loss of the carrier's power.
-/

namespace Sys2Proof.Machine

/-- The state with power changed. -/
def State.modPow (s : State) (f : PowSt → PowSt) : State := { s with pow := f s.pow }

/-- Latches that only a write resets (R263, R264, R284, R304). -/
def latchKeys : List Nat :=
  [Obj.CONTAINER_TRIPPED] ++ (List.range 16).flatMap fun n => [Obj.PROT_LATCH n, Obj.CONTACTOR_STATUS n]

/-- What the safety controllers keep of the proof tests: PROOF_INTERVAL runs from the last passed test (R305). -/
def proofKeys : List Nat := (List.range 16).flatMap fun n => [Obj.PROOF_STATE n, Obj.PROOF_LAST n]

/-- Objects that live in MRAM or flash: recorder, log, update, the store's own, the latches; what the safety controllers
keep across a restart (R313). -/
def keptUnpowered (key : Nat) : Bool :=
  let idx := key / 65536
  let ro := (findRow key).map (fun x => x.2.access == .ro) == some true
  (idx == 0x2F00 && ro) || (Nat.ble 0x2E00 idx && Nat.blt idx 0x2F00 && key != Obj.UPDATE_FN_STATE) || key == Obj.CONFIG_SAVED_TIME ||
    key == Obj.CONFIG_CRC || idx == 0x7010 || key == Obj.LOGIN_FAILURES || key == Obj.LOCKOUT_REMAINING || latchKeys.contains key || proofKeys.contains key

/-- Objects that a restart of the controller die keeps besides: those of the safety and the field function (R370), of the
always-on domain (R452), the input ROLE_IN. -/
def keptRestart (key : Nat) : Bool :=
  let idx := key / 65536
  match findRow key with
  | some (g, r) =>
    let fn := g.fnKey idx
    keptUnpowered key || fn == Obj.SAFETY_STATE || fn == Obj.FIELD_STATE || idx == 0x2D00 || (fn == Obj.TIME_STATE && r.access == .ro) ||
      key == Obj.ROLE_IN_STATE || (key / 65536 == Obj.CAN_WAKE_ENABLE 0 / 65536 || key / 65536 == Obj.CAN_WAKE_ENABLE 1 / 65536) && key % 65536 == Obj.CAN_WAKE_ENABLE 0 % 65536
  | none => false

/-- Protection without what the core domain held: the latches stay. -/
def keptProt (p : ProtSt) : ProtSt :=
  { strs := p.strs.map fun x => { openLatch := x.openLatch, lockout := x.lockout } }

/-- The safety controllers without what their supply held: password, change logs and lock-out stay (R312 to R314), and what only
a named event clears: SAFE_WELD (R304), OUTPUT_STUCK (R302), a failed or overdue proof test (R305, R306). -/
def keptSafety (z : SafetySt) : SafetySt :=
  { pwHash := z.pwHash, x := { log := z.x.log }, y := { log := z.y.log }, logNo := z.logNo, lockMs := z.lockMs,
    strs := z.strs.map fun x => { weld := x.weld, stuck := x.stuck, failed := x.failed, overdue := x.overdue } }

/-- The core domain is switched off (R202, R452): everything it held is lost. -/
def coreLost (s : State) : State :=
  let s := (if s.safety.session.isSome then endSafetySession s else s).each s.asBuilt.strings abortProof
  { asBuilt := s.asBuilt, store := s.store.filter fun kv => keptRestart kv.1, pending := s.pending, out := s.out, netSeq := s.netSeq, free := s.free,
    exLog := s.exLog, exSlot := s.exSlot, exNo := s.exNo,
    time := { l := s.time.l, p := s.time.p, stepped := s.time.stepped, past := s.time.past, savedRate := s.time.savedRate,
              xtal := s.time.xtal, die0 := s.time.die0, lfsr := lfsrSeed s.asBuilt.serial },
    idp := { flash := s.idp.flash, flashRw := s.idp.flashRw, stores := s.idp.stores, ethInForce := s.idp.ethInForce, leads := s.idp.leads },
    safety := s.safety, field := s.field, staged := s.staged.filter fun kv => fnOf kv.1 == Obj.FIELD_STATE || fnOf kv.1 == Obj.SAFETY_STATE, prot := keptProt s.prot, duo := { alive := false, tpDriven := false },
    upd := { s.upd with jobs := [] }, pow := { s.pow with request := none, demand := none, opened := false }, recorder := s.recorder }

/-- A restart that comes before an armed activation returns it to READY (R481); the inactive slots hold what they held (R472). -/
def disarm (s : State) : State :=
  if s.n Obj.UPDATE_STATE = 3 then
    { s.putN Obj.UPDATE_STATE 2 with upd := { s.upd with record := 0, boots := 0 } } else s

/-- No function has received its state yet: all read STOPPED, but the safety and the field function where what carries
them has not restarted (R370, Table 19.2). -/
def awaitStates (fresh : Bool × Bool) (s : State) : State :=
  s.forAll fnKeys fun k s =>
    if (k == Obj.SAFETY_STATE && !fresh.1) || (k == Obj.FIELD_STATE && !fresh.2) then s else s.putN k 0

/-- The start-up sequence begins at step 2 (Table 19.2). -/
def beginStart (xtal : Bool) (fresh : Bool × Bool) (s : State) : State :=
  let s := awaitStates fresh (((disarm (reloadPages s)).putN Obj.START_RETRIES 0).putB Obj.DIE_CRITICAL false)
  s.modPow fun p => { p with phase := 5, step := 2, startL := s.lNow, cause := 0, xtal, fresh, ready := false, releaseWait := false, slowPorts := false, canLow := 0 }

/-- The pads at a reset of the controller die (R410, R412): latches keep their levels, every sequencer starts OPEN. -/
def resetPads (s : State) : State := latchPads (s.putN Obj.KO_COMMAND 0)

/-- A restart of the controller die alone, with the safety controllers or the field side where they restart too. -/
def dieRestart (fresh : Bool × Bool) (s : State) : State := beginStart s.degraded fresh (resetPads (coreLost s))

/-- The carrier loses its power (R33, R453): base L ends, base P is UNSET, the safety controllers and the field side
stop. -/
def powerLost (s : State) : State :=
  let t := coreLost (cutStore s)
  { t with store := t.store.filter fun kv => keptUnpowered kv.1, staged := [], time := { lfsr := lfsrSeed s.asBuilt.serial },
           safety := keptSafety t.safety,
           field := { powered := false }, pow := { phase := 7, ready := false } }

/-- DIE_RESET (R408, R410): a software watchdog restarts the controller die while the core domain is on. -/
def dieReset (s : State) : State := if s.pow.phase = 0 ∨ s.pow.phase = 5 then dieRestart (false, false) s else s

end Sys2Proof.Machine
end

