-- ==== Sys2Proof/Machine/Upgrade.lean ====
section
/-!
DEFINITION. The firmware update (spec/20_update.md, R471 to R485): the manifest, pieces, the load of front-ends,
activation, post-checks, reversion, and the choice of a set at boot.
-/

namespace Sys2Proof.Machine

/-- The state with the update changed. -/
def State.modUpd (s : State) (f : UpdSt → UpdSt) : State := { s with upd := f s.upd }

/-! ### The manifest (R473 to R475) -/

/-- Entry `c` of a manifest and its fields (Table 20.2). -/
def mfEntry (b : Bytes) (c : Nat) : Bytes := slice b (64 + 104 * c) 104
def mfVersion (b : Bytes) (c : Nat) : Nat := fieldU (mfEntry b c) 2 2
def mfLength (b : Bytes) (c : Nat) : Nat := fieldU (mfEntry b c) 4 4
def mfDigest (b : Bytes) (c : Nat) : Bytes := slice (mfEntry b c) 8 32
/-- The manifest that is held. -/
def State.manifest (s : State) : Bytes := s.bytes Obj.UPDATE_MANIFEST
/-- Whether one is held. -/
def State.hasManifest (s : State) : Bool := s.manifest.length == 752

/-- The longest image of a component (Table 20.1). -/
def maxImage (c : Nat) : Nat := if c = 5 then 524288 else 33554432

/-- Whether a component of a manifest equals the running one (R474). -/
def componentSame (s : State) (b : Bytes) (c : Nat) : Bool := nth s.upd.running.digests c [] == mfDigest b c

/-- Whether a manifest's fields lie within Tables 20.1 and 20.2. -/
def manifestForm (b : Bytes) : Bool :=
  b.length == 752 && fieldU b 0 2 == 1 && Nat.blt (fieldU b 16 1) 8 && Nat.blt (fieldU b 17 1) 2 &&
  (List.range 6).all fun c => fieldU (mfEntry b c) 0 1 == c && Nat.ble (mfLength b c) (maxImage c)

/-- Whether the signature of an entry verifies under a key, the Qortos key written as no bytes (R474). -/
def entrySigned (key e : Bytes) : Bool := Config.signatureValid key (e.take 40) (slice e 40 64)

/-- Which key verifies the entry of a kernel: 0 the Qortos key, 1 an integrator key that is set (R176). The kernel delivered
with the module, without an entry, verifies under the Qortos key. -/
def kernelSigner (key e : Bytes) : Option Nat :=
  if e.isEmpty || entrySigned [] e then some 0 else if !key.isEmpty && entrySigned key e then some 1 else none

/-- Whether the signatures of a manifest verify (R474): the Qortos key or, for ABACUS, ABACUS_KEY. -/
def manifestSigned (s : State) (b : Bytes) : Bool :=
  let key := s.bytes Obj.ABACUS_KEY
  let entries := (List.range 6).all fun c => entrySigned [] (mfEntry b c) || (c == 1 && (kernelSigner key (mfEntry b c)).isSome)
  let own := fieldU b 17 1 == 1
  entries && (if own then !key.isEmpty && Config.signatureValid key (b.take 688) (slice b 688 64) &&
      (List.range 6).all (fun c => c == 1 || componentSame s b c)
    else Config.signatureValid [] (b.take 688) (slice b 688 64))

/-- The bit of ORDER_CODES of the module. -/
def AsBuilt.codeBit (a : AsBuilt) : Nat := match a.code with | .ibx8192S => 0 | .ibx8192M => 1 | .ibx4096S => 2

/-- Why a manifest is refused (R475); 0 where it is accepted. -/
def manifestBlock (s : State) (b : Bytes) : Nat :=
  if !manifestSigned s b then 1
  else if !manifestForm b then 2
  else if !bitOf (fieldU b 16 1) s.asBuilt.codeBit || Nat.blt s.asBuilt.hwRevision (fieldU b 14 2) then 3
  else if fieldU b 12 2 < s.n Obj.SECURITY_EPOCH then 4
  else if s.activating then 5 else 0

/-- How many pieces a component of a manifest has. -/
def pieceCount (b : Bytes) (c : Nat) : Nat := (mfLength b c + 1023) / 1024
/-- The pieces of a component that are held. -/
def State.pieces (s : State) (c : Nat) : List (Nat × Bytes) := amGetD s.upd.pieces c []

/-- PIECES_MISSING of a component. -/
def showPieces (b : Bytes) (c : Nat) (s : State) : State :=
  s.putN (Obj.PIECES_MISSING c) (if componentSame s b c then 0 else pieceCount b c - (s.pieces c).length)

/-- READY once nothing is missing (R475). -/
def refreshReady (b : Bytes) (s : State) : State :=
  if s.n Obj.UPDATE_STATE ≠ 1 ∧ s.n Obj.UPDATE_STATE ≠ 2 then s else
  let done := (List.range 6).all fun c => componentSame s b c || s.n (Obj.COMPONENT_STATUS c) == 2
  s.putN Obj.UPDATE_STATE (if done then 2 else 1)

/-- COMPONENT_STATUS where the MANIFEST_ID is the one held (R475): it keeps what the bitmaps say. -/
def statusAgain (s : State) (b : Bytes) (c : Nat) : Nat :=
  if componentSame s b c then 0
  else if s.n (Obj.COMPONENT_STATUS c) ≠ 0 then s.n (Obj.COMPONENT_STATUS c)
  else if (s.pieces c).length = pieceCount b c ∧ Config.sha256 ((s.pieces c).flatMap (·.2)) = mfDigest b c then 2 else 1

/-- A write of UPDATE_MANIFEST (R475). -/
def ownUpdateManifest (v : Val) (s : State) : Except Abort State :=
  let b := v.toBytes
  let k := manifestBlock s b
  if k ≠ 0 then .error { inconsistent Obj.UPDATE_MANIFEST with notes := [(Obj.UPDATE_BLOCK, k)] } else
  let again := s.hasManifest && fieldU s.manifest 4 8 == fieldU b 4 8
  let s := (s.putBytes Obj.UPDATE_MANIFEST b).putN Obj.UPDATE_BLOCK 0
  let s := if again then s.each 6 fun c s => s.putN (Obj.COMPONENT_STATUS c) (statusAgain s b c) else
    let s := s.modUpd fun u => { u with pieces := [], hashing := [], jobs := [], loaded := [] }
    let s := s.each 6 fun c s => s.putN (Obj.COMPONENT_STATUS c) (if componentSame s b c then 0 else 1)
    (s.each s.asBuilt.frontEnds fun f s => s.putN (Obj.FE_IMAGE_STATUS f) 0).putN Obj.FE_VERIFIED 0
  .ok (refreshReady b ((s.each 6 (showPieces b)).putN Obj.UPDATE_STATE 1))

/-! ### Pieces (R476, R477) -/

/-- A write of UPDATE_PIECE (R476). -/
def ownUpdatePiece (c p : Nat) (v : Val) (s : State) : Except Abort State :=
  let b := s.manifest
  let d := v.toBytes
  let len := mfLength b c
  if s.n Obj.UPDATE_STATE ≠ 1 || !s.hasManifest || componentSame s b c || Nat.ble len (1024 * p) ||
      d.length != min 1024 (len - 1024 * p) then .error (inconsistent Obj.UPDATE_MANIFEST) else
  if (amGet? (s.pieces c) p).isSome then .ok s else
  let s := (s.modUpd fun u => { u with pieces := amSet u.pieces c (amSet (s.pieces c) p d) }).putN (Obj.COMPONENT_STATUS c) 1
  let s := showPieces b c s
  .ok (if s.n (Obj.PIECES_MISSING c) = 0 then s.modUpd fun u => { u with hashing := c :: u.hashing.filter (· != c) } else s)

/-- The image in a component's inactive slot. -/
def slotImage (s : State) (c : Nat) : Bytes := (s.pieces c).flatMap (·.2)

/-- The hash of a completed slot is compared with the manifest (R477). -/
def componentHashDone (c : Nat) (s : State) : State :=
  if !s.upd.hashing.contains c then s else
  let b := s.manifest
  let s := s.modUpd fun u => { u with hashing := u.hashing.filter (· != c) }
  if Config.sha256 (slotImage s c) = mfDigest b c then refreshReady b (s.putN (Obj.COMPONENT_STATUS c) 2)
  else
    let s := (s.modUpd fun u => { u with pieces := amErase u.pieces c }).putN (Obj.COMPONENT_STATUS c) 3
    (showPieces b c s).logN 0x0E02 0x2E00 c 0 0

/-! ### The load of front-ends (R478 to R480) -/

/-- The entry of a head's chain at an address. -/
def statusAt (h addr st : Nat) (s : State) : State :=
  match s.entryAt? h addr with
  | some (f, _) => s.putN (Obj.FE_IMAGE_STATUS f) st
  | none => s

/-- FE_VERIFIED follows the statuses. -/
def countVerified (s : State) : State :=
  s.putN Obj.FE_VERIFIED (s.entries.filter fun x => s.n (Obj.FE_IMAGE_STATUS x.1) == 2).length

/-- The devices of a head's chain with their addresses. -/
def State.devices (s : State) (h : Nat) : List (Nat × FoundDev) := (s.head h).devs.zipIdx.map fun x => (x.2 + 1, x.1)

/-- The load of an update's CHAIN image over a chain (R478): while a device of the part, with a map entry or without, has
not taken it. -/
def updateJob (s : State) (h : Nat) : Option LoadJob :=
  let part := fieldU s.manifest 20 2
  let devs := s.devices h
  let mine := devs.filter fun d => d.2.part == part
  let fresh := mine.any fun d => !s.upd.loaded.contains d.2.uid ||
    ((s.entryAt? h d.1).map fun x => Nat.blt (s.n (Obj.FE_IMAGE_STATUS x.1)) 2) == some true
  if s.hasManifest && !componentSame s s.manifest 5 && s.n (Obj.COMPONENT_STATUS 5) == 2 && fresh then
    some { image := slotImage s 5, queue := if mine.length = devs.length then [(0, 0)] else mine.map fun d => (d.1, 0),
           checks := mine.map (·.1) }
  else none

/-- The alignment of a chain whose devices run different versions or slots (R480): its first pass to slot 0, its second to
the slot that every device does not run. It waits until every device's STATUS has shown its slot and none has an
activation armed. -/
def alignJob (s : State) (h : Nat) : Option LoadJob :=
  match s.devices h with
  | [] => none
  | (_, d) :: rest =>
    let devs := s.devices h
    let slots := rest.any fun x => x.2.slot != d.slot
    let odd := slots || rest.any fun x => x.2.fw != d.fw
    if !odd || devs.any (fun x => x.2.slot.isNone || x.2.armed) then none
    else if slots then
      let l := (devs.filter fun x => x.2.slot == some 1).map (·.1)
      some { image := s.upd.copy, activate := some 0, queue := l.map fun a => (a, 0), checks := l }
    else some { image := s.upd.copy, activate := some (1 - d.slot.getD 0), queue := [(0, 0)], checks := devs.map (·.1) }

/-- A load begins: the statuses of the chain show it. -/
def startJob (h : Nat) (j : LoadJob) (s : State) : State :=
  let s := s.modUpd fun u => { u with jobs := amSet u.jobs h j }
  if j.activate.isSome then s else
  s.forAll (s.devices h) fun d s => statusAt h d.1 (if j.checks.contains d.1 then 1 else 4) s

/-- The payload of ACTIVATE (Table 3.5): slot and target tag. -/
def activatePayload (slot sweep : Nat) : Bytes := leBytes 1 slot ++ leBytes 1 0 ++ leBytes 2 (sweep % 65536)

/-- ACTIVATE arms the devices of a chain that do not run the slot (R96). -/
def armDevices (h slot : Nat) (s : State) : State :=
  s.modHead h fun x => { x with devs := x.devs.map fun d => { d with armed := d.slot != some slot } }

/-- A load ends: an alignment activates the slot it has loaded (R480). -/
def endJob (h : Nat) (j : LoadJob) (s : State) : State :=
  let s := s.modUpd fun u => { u with jobs := amErase u.jobs h }
  match j.activate with
  | none => countVerified s
  | some slot =>
    armDevices h slot (offer h kActivate 0 (activatePayload slot (s.n Obj.SWEEP_COUNT + s.n Obj.ACTIVATE_LEAD)) s)

/-- Base L in ns of the next SYNC's reference instant while the sweeps run (R100). -/
def nextSyncL (s : State) : Option Nat :=
  if s.running Obj.SWEEP_STATE then
    some (s.time.markL + (s.sweepT * 1000000000).floor.toNat - windowNs s (s.n Obj.M_FREQ_WORD) - s.n Obj.SYNC_LEAD)
  else none

/-- Whether an IMAGE frame that starts now, 141 µs of PREAMBLE, SFD and bytes with 250 ns of EOD, ends 0.2 ms before the
next SYNC (R478). -/
def imageFits (s : State) : Bool := match nextSyncL s with
  | some l => Nat.ble (s.lNow + airTime 132 + 250 + 200000) l
  | none => true

/-- Once CHAIN is COMPLETE the devices of other parts read NOT_APPLICABLE (R478). -/
def markOthers (h : Nat) (s : State) : State :=
  if !s.hasManifest || s.n (Obj.COMPONENT_STATUS 5) != 2 then s else
  s.forAll (s.devices h) fun d s => if d.2.part = fieldU s.manifest 20 2 then s else statusAt h d.1 4 s

/-- Idle chain time of a reading head (R478, R479): the next IMAGE frame, or, once in a sweep, an IMAGE_CHECK to each device
outstanding. -/
def imageLoadFrame (h : Nat) (s : State) : State :=
  if !s.running Obj.CHAIN_STATE || !s.leads || s.n (Obj.HEAD_ROLE h) != roleReading || !(s.head h).idle then s else
  let s := if (amGet? s.upd.jobs h).isSome then s else
    let s := markOthers h s
    match updateJob s h with
    | some j => startJob h j s
    | none => match alignJob s h with
      | some j => startJob h j s
      | none => s
  match amGet? s.upd.jobs h with
  | none => s
  | some j =>
    match j.queue with
    | (dest, i) :: rest =>
      let frames := (j.image.length + 127) / 128
      if frames ≤ i then s.modUpd fun u => { u with jobs := amSet u.jobs h { j with queue := rest } }
      else if !imageFits s then s
      else
        let s := sendFrame h kImage dest (leBytes 4 (128 * i) ++ fit 128 (slice j.image (128 * i) 128)) s
        let q := if i + 1 = frames then rest else (dest, i + 1) :: rest
        s.modUpd fun u => { u with jobs := amSet u.jobs h { j with queue := q, endL := s.lNow + airTime 132 + 250 } }
    | [] =>
      if j.checks.isEmpty then endJob h j s
      else if s.running Obj.SWEEP_STATE ∧ j.round = some (s.n Obj.SWEEP_COUNT) then s
      else
        let s := s.modUpd fun u => { u with jobs := amSet u.jobs h { j with round := some (s.n Obj.SWEEP_COUNT) } }
        s.forAll j.checks fun a s => offer h kImageCheck a (leBytes 4 j.image.length) s

/-- A device has taken the update's image, or failed to (R478). -/
def deviceLoaded (h addr st : Nat) (s : State) : State :=
  let uid := ((s.devAt? h addr).map FoundDev.uid).getD 0
  statusAt h addr st (s.modUpd fun u => { u with loaded := uid :: u.loaded.filter (· != uid) })

/-- The answer to an IMAGE_CHECK (R478, R479): while RESULT is 4 the check is repeated; a digest that differs loads the
device again, after three failures it is FAILED. -/
def imageChecked (h : Nat) (block : Bytes) (s : State) : State :=
  match amGet? s.upd.jobs h with
  | none => s
  | some j =>
    let a := fieldU block 0 1
    if !j.checks.contains a || fieldU block 1 1 != 0 then s else
    let left := j.checks.filter (· != a)
    let put := fun (j : LoadJob) (s : State) =>
      let s := s.modUpd fun u => { u with jobs := amSet u.jobs h j }
      if j.queue.isEmpty && j.checks.isEmpty then endJob h j s else countVerified s
    if slice block 4 32 = Config.sha256 j.image then
      put { j with checks := left } (if j.activate.isSome then s else deviceLoaded h a 2 s)
    else
      let f := amGetD j.fails a 0 + 1
      if 3 ≤ f then put { j with checks := left } (if j.activate.isSome then s else deviceLoaded h a 3 s)
      else put { j with queue := j.queue ++ [(a, 0)], fails := amSet j.fails a f } s

/-! ### Activation (R481) -/

/-- The components that an ACTIVATE of this module switches (R481, R484). -/
def switched (s : State) : List Nat :=
  let b := s.manifest
  let changed := (List.range 6).filter fun c => !componentSame s b c
  if !s.paired || s.n Obj.PAIR_ROLE == 0 then changed
  else if s.standby then changed.filter (· != 5)
  else changed.filter (· == 5)

/-- Whether the module is a single one. -/
def State.single (s : State) : Bool := !s.paired || s.n Obj.PAIR_ROLE == 0

/-- Why an ACTIVATE is refused (R481); 0 where it is accepted. `reads` are the record formats the new kernel reads. Each slot is
verified once more (R176): one that does not read back, or whose digest differs, is not COMPLETE; a signature that fails
now, ABACUS_KEY having changed, is reason 1 (log entry 139). -/
def activateBlock (s : State) (reads : List Nat) (intact : Bool) : Nat :=
  let b := s.manifest
  let sw := switched s
  let part := fieldU b 20 2
  let newMain := mfVersion b 0
  let partner := (s.duo.hb.map Heartbeat.mainVersion).getD 0
  let loaded := s.entries.all fun x =>
    (s.devAt? x.2.head x.2.address).map FoundDev.part != some part || s.n (Obj.FE_IMAGE_STATUS x.1) == 2
  if s.activating then 5
  else if !s.hasManifest || !intact || sw.any (fun c => s.n (Obj.COMPONENT_STATUS c) != 2 || Config.sha256 (slotImage s c) != mfDigest b c) ||
      (sw.contains 5 && !loaded) then 6
  else if sw.any fun c => if c = 1 then (kernelSigner (s.bytes Obj.ABACUS_KEY) (mfEntry b 1)).isNone else !entrySigned [] (mfEntry b c) then 1
  else if sw.contains 1 && !reads.contains (s.n Obj.RECORD_FORMAT) then 7
  else if s.single && (sw.any fun c => c == 0 || c == 2 || c == 3 || c == 4) && s.firstNotOpen.isSome then 8
  else if !s.single && (Nat.blt partner (fieldU b 18 2) || Nat.blt newMain s.upd.running.minMain) then 9
  else if s.pairActive && !(s.mainVersion == newMain && partner == newMain) then 10
  else 0

/-- The set that an activation puts on trial; `k` is what the header of its kernel declares where ABACUS changes. -/
def trialSet (s : State) (sw : List Nat) (k : Kernel) : FwSet :=
  let b := s.manifest
  let u := s.upd.running
  { slots := (List.range 6).map fun c => if sw.contains c then 1 - nth u.slots c 0 else nth u.slots c 0,
    versions := (List.range 6).map fun c => if sw.contains c then mfVersion b c else nth u.versions c 0,
    digests := (List.range 6).map fun c => if sw.contains c then mfDigest b c else nth u.digests c [],
    minMain := fieldU b 18 2,
    kernel := if sw.contains 1 then
        { head := k, entry := mfEntry b 1, signer := (kernelSigner (s.bytes Obj.ABACUS_KEY) (mfEntry b 1)).getD 1 }
      else u.kernel }

/-- ACTIVATE goes out on every chain (R481 step 2). -/
def sendActivate (slot sweep : Nat) (s : State) : State :=
  if !s.running Obj.CHAIN_STATE || !s.leads then s else
  s.forAll (s.headsIn roleReading) fun h s => armDevices h slot (offer h kActivate 0 (activatePayload slot sweep) s)

/-- Whether the set on trial switches a component. -/
def onTrial (s : State) (c : Nat) : Bool := nth s.upd.trial.slots c 0 != nth s.upd.committed.slots c 0

/-- A write of ACTIVATE (R481). -/
def activate (kernel : Kernel) (intact : Bool) (s : State) : Except Abort State :=
  let k := activateBlock s kernel.reads intact
  if k ≠ 0 then .error { inconsistent Obj.UPDATE_COMMAND with notes := [(Obj.UPDATE_BLOCK, k)] } else
  let sw := switched s
  let n := s.n Obj.SWEEP_COUNT + s.n Obj.ACTIVATE_LEAD
  let s := ((s.putN Obj.ACTIVATE_SWEEP n).putN Obj.UPDATE_BLOCK 0).putN Obj.UPDATE_STATE 3
  let s := s.modUpd fun u => { u with committed := u.running, trial := trialSet s sw kernel, record := 1, boots := 0, demand := none }
  let s := if sw.contains 0 && s.single then
      let s := demandGeneration s
      s.modUpd fun u => { u with demand := some (demandedNumber s) } else s
  .ok (if sw.contains 5 then sendActivate (nth s.upd.trial.slots 5 0) n s else s)

/-- A write of CANCEL (R481). -/
def cancelUpdate (s : State) : Except Abort State :=
  if s.activating then .error { inconsistent Obj.UPDATE_COMMAND with notes := [(Obj.UPDATE_BLOCK, 5)] } else
  let s := ((s.putBytes Obj.UPDATE_MANIFEST []).putN Obj.UPDATE_STATE 0).modUpd fun u => { u with pieces := [], hashing := [], jobs := [], loaded := [] }
  let s := s.each 6 fun c s => (s.putN (Obj.COMPONENT_STATUS c) 0).putN (Obj.PIECES_MISSING c) 0
  .ok ((s.each s.asBuilt.frontEnds fun f s => s.putN (Obj.FE_IMAGE_STATUS f) 0).putN Obj.FE_VERIFIED 0)

/-- A write of UPDATE_COMMAND (R481). -/
def ownUpdateCommand (kernel : Kernel) (intact : Bool) (v : Val) (s : State) : Except Abort State :=
  if v.toNat = 2 then activate kernel intact s else cancelUpdate s

/-- RUNNING_VERSIONS shows the running set, the objects of Table 7.4 its kernel (R176, R199). -/
def showVersions (s : State) : State :=
  let u := s.upd.running
  let s := s.putBytes Obj.RUNNING_VERSIONS ((List.range 6).flatMap fun c => leBytes 2 (nth u.versions c 0))
  let s := ((s.putN Obj.KERNEL_ID u.kernel.head.id).putN Obj.KERNEL_VERSION (nth u.versions 1 0)).putN Obj.KERNEL_SIGNER u.kernel.signer
  s.putBytes Obj.KERNEL_COSTS (u.kernel.head.costs.flatMap (leBytes 4))

/-- The safety controllers or the field side restart alone from the trial set (R481 step 5). -/
def restartSides (x y field : Bool) (s : State) : State :=
  let s := if field then fieldOff s else s
  if x || y then startFunction [] Obj.SAFETY_STATE (s.putN Obj.SAFETY_FAULT_CAUSE 0) else s

/-- Reversion (R483) for a cause. -/
def revert (cause : Nat) (s : State) : State :=
  let old := s.upd.committed
  let now := s.upd.running
  let chain := onTrial s 5
  let diff := fun c => nth now.slots c 0 != nth old.slots c 0
  let s := ((s.putN Obj.UPDATE_STATE 7).putN Obj.REVERT_CAUSE cause).inc Obj.UPDATES_REVERTED
  let s := if chain then sendActivate (nth old.slots 5 0) (s.n Obj.SWEEP_COUNT + s.n Obj.ACTIVATE_LEAD) s else s
  let s := s.modUpd fun u => { u with record := 2 }
  if diff 0 then dieRestart (diff 2 || diff 3, diff 4) s
  else
    let s := restartSides (diff 2) (diff 3) (diff 4) (s.modUpd fun u => { u with running := old, trial := now, record := 0 })
    showVersions s

/-- Before SYNC(N) (R481 steps 3 and 4). -/
def updateAtSync (k : Nat) (s : State) : State :=
  if s.n Obj.UPDATE_STATE ≠ 3 ∨ k ≠ s.n Obj.ACTIVATE_SWEEP then s else
  match s.upd.demand with
  | some g => if s.n Obj.LAST_GEN_SEALED = g then s.putN Obj.UPDATE_STATE 4 else revert 6 s
  | none => s.putN Obj.UPDATE_STATE 4

/-- The idle time of sweeps k + 1 and k + 2 carries ACTIVATE as the acceptance did in sweep k (R481 step 2). -/
def updateTail (s : State) : State :=
  let n := s.n Obj.ACTIVATE_SWEEP
  if s.n Obj.UPDATE_STATE = 3 ∧ onTrial s 5 ∧ n < s.n Obj.SWEEP_COUNT + s.n Obj.ACTIVATE_LEAD ∧ s.n Obj.SWEEP_COUNT + s.n Obj.ACTIVATE_LEAD ≤ n + 2 then
    sendActivate (nth s.upd.trial.slots 5 0) n s else s

/-- The running set is the trial set. -/
def takeTrial (s : State) : State :=
  showVersions (s.modUpd fun u => { u with running := u.trial })

/-- Mark N + 1 (R481 step 5): what has no restart takes effect, the rest restarts. -/
def updateAtMark (s : State) : State :=
  if s.n Obj.UPDATE_STATE ≠ 4 ∨ s.n Obj.SWEEP_COUNT ≠ s.n Obj.ACTIVATE_SWEEP + 1 then s else
  let s := s.modUpd fun u => { u with actL := s.time.prevMarkL }
  if onTrial s 0 then dieRestart (onTrial s 2 || onTrial s 3, onTrial s 4) (commit s)
  else restartSides (onTrial s 2) (onTrial s 3) (onTrial s 4) ((takeTrial s).putN Obj.UPDATE_STATE 5)

/-! ### Post-checks (R482, R483) -/

/-- Whether every function that had stored RUNNING is RUNNING. -/
def functionsBack (s : State) : Bool :=
  fnKeys.all fun k => ((amGet? s.idp.flash k).map (·.1)).getD (objDefault s.asBuilt k).toNat != 1 || s.n k == 1

/-- The cause of the first post-check that fails, 0 for none; `fes` says whether every front-end shows the target slot
and version. -/
def postFailure (fes : Bool) (s : State) : Nat :=
  if s.upd.running.slots != s.upd.trial.slots then 1
  else if s.n Obj.SAFETY_FAULT_CAUSE ≠ 0 then 2
  else if !functionsBack s then 3
  else if !s.b Obj.ENUM_DONE then 4
  else if onTrial s 5 && !fes then 5 else 0

/-- Whether every CHAIN_PART front-end, with a map entry or without, shows the target slot in STATUS and the manifest's VERSION in
its register FW, which the heads read; `answers` are the trains that answer, by 256 x head + address (R482). -/
def frontEndsShow (answers : List (Nat × Option Train)) (s : State) : Bool × State :=
  let slot := nth s.upd.trial.slots 5 0
  let mine := (s.headsIn roleReading).flatMap fun h =>
    (s.devices h).filterMap fun d => if d.2.part = fieldU s.manifest 20 2 then some (h, d.1) else none
  mine.foldl (fun (x : Bool × State) y =>
    let (ok, s) := x
    let (h, a) := y
    let (v, s) := readRegs h a 0x03 1 ((amGet? answers (256 * h + a)).getD none) s
    let fw := (v.map fun v => nth v 0 0 / 2 ^ (16 * slot) % 65536)
    (ok && fw == some (mfVersion s.manifest 5) && (s.devAt? h a).bind FoundDev.slot == some slot, s)) (true, s)

/-- The front-ends' part of the post-checks; without CHAIN in the trial set there is none. -/
def checkFrontEnds (answers : List (Nat × Option Train)) (s : State) : Bool × State :=
  if s.n Obj.UPDATE_STATE = 5 ∧ onTrial s 5 then frontEndsShow answers s else (true, s)

/-- All post-checks pass (R481 step 8). -/
def postcheckComplete (answers : List (Nat × Option Train)) (s : State) : State :=
  let (fes, s) := checkFrontEnds answers s
  if s.n Obj.UPDATE_STATE ≠ 5 ∨ postFailure fes s ≠ 0 then s else
  let s := if onTrial s 5 then s.modUpd fun u => { u with copy := slotImage s 5 } else s
  let s := (s.putN Obj.UPDATE_STATE 6).putN Obj.SECURITY_EPOCH (fieldU s.manifest 12 2)
  (s.inc Obj.UPDATES_COMMITTED).modUpd fun u => { u with committed := u.running, trial := u.committed, record := 0, boots := 0 }

/-- POSTCHECK_TIME without all checks (R483). -/
def postcheckTimeout (answers : List (Nat × Option Train)) (s : State) : State :=
  let (fes, s) := checkFrontEnds answers s
  if s.n Obj.UPDATE_STATE ≠ 5 then s else
  let c := postFailure fes s
  revert (if c = 0 then 7 else c) s

/-! ### Boot (R472) -/

/-- A kernel is verified at boot against ABACUS_KEY as the store holds it (R176): the kernel with the key that verifies it. -/
def bootKernel (s : State) (k : KernelSt) : Option KernelSt :=
  let key := (((amGet? s.idp.flash Obj.EST_STATE).bind fun x => amGet? x.2 Obj.ABACUS_KEY).map Val.toBytes).getD []
  (kernelSigner key k.entry).map fun g => { k with signer := g }

/-- The kernels of both sets are verified: a set whose kernel fails does not verify. -/
def verifyKernels (sets : Bool × Bool) (s : State) : (Bool × Bool) × State :=
  let a := bootKernel s s.upd.committed.kernel
  let t := bootKernel s s.upd.trial.kernel
  ((sets.1 && a.isSome, sets.2 && t.isSome), s.modUpd fun u => { u with
    committed := { u.committed with kernel := a.getD u.committed.kernel }, trial := { u.trial with kernel := t.getD u.trial.kernel } })

/-- The loader's choice at step 4 (R472): the set on trial, or the committed one, or the other whole where that fails; the other
of a COMMITTED record is the set that the inactive slots last held, if there is one. The state with the set chosen, none where no set verifies; `sets` says whether every
slot of the committed and of the trial set verifies. -/
def bootChoice (sets : Bool × Bool) (s : State) : Option State :=
  let (sets, s) := verifyKernels sets s
  let u := s.upd
  let s := if u.record = 1 ∧ 2 ≤ u.boots then (s.putN Obj.REVERT_CAUSE 1).modUpd fun u => { u with record := 2 } else s
  let want := s.upd.record = 1
  let s := if want then s.modUpd fun u => { u with boots := u.boots + 1 } else s
  let use := fun (t : Bool) (s : State) => if t then takeTrial s else showVersions (s.modUpd fun u => { u with running := u.committed })
  if want then
    if sets.2 then some (use true s)
    else if sets.1 then some (use false ((s.putN Obj.REVERT_CAUSE 1).modUpd fun u => { u with record := 2 }))
    else none
  else if sets.1 then some (use false s)
  else if sets.2 ∧ u.trial.slots ≠ u.committed.slots then some (use true (s.putN Obj.REVERT_CAUSE 1))
  else none

/-- What the update does when the start-up sequence is complete (R481, R483): post-checks of a trial set; a reversion
completes its front-ends and is COMMITTED. -/
def updateStarted (s : State) : State :=
  if s.upd.record = 2 then
    let s := sendActivate (nth s.upd.committed.slots 5 0) (s.n Obj.SWEEP_COUNT + s.n Obj.ACTIVATE_LEAD) s
    let s := if s.n Obj.UPDATE_STATE = 7 then s else
      let s := if s.n Obj.REVERT_CAUSE = 0 then s.putN Obj.REVERT_CAUSE 1 else s
      (s.putN Obj.UPDATE_STATE 7).inc Obj.UPDATES_REVERTED
    s.modUpd fun u => { u with record := 0, boots := 0 }
  else if s.n Obj.UPDATE_STATE = 4 then s.putN Obj.UPDATE_STATE 5 else s

end Sys2Proof.Machine
end

