-- ==== Sys2Proof/Machine/Power.lean ====
section
/-!
DEFINITION. Power states, start-up and brown-out (spec/19_power.md, R452 to R470).
-/

namespace Sys2Proof.Machine

/-- PAIR_HEARTBEAT_SEND (R430, R455): the die sends, or the PAIR MAC of a module in FAILED_START. -/
def heartbeatEvent (s : State) : State := if s.coreOn then heartbeatSend s else failedHeartbeat s

/-! ### Start-up (R454, R455) -/

/-- FAILED_START (R455): 1 REGULATOR, 2 BOOT. Every enable is withheld, every pad latch off. -/
def failStart (cause : Nat) (s : State) : State :=
  let s := (coreLost s).modField fun x => { x with koLatch := 0, doLatch := 0, release := false }
  driveEnables (s.modPow fun p => { p with phase := 4, step := 0, cause, ready := false })

/-- A cold start: the supply monitors release the carrier (R33, R454); base L starts at 0. From TRANSPORT only
TRANSPORT_RELEASE starts the module. -/
def coldStartFrom (s : State) : State :=
  let s := beginStart true (true, true) (powerLost s)
  countPage 0 (s.putN Obj.WAKE_CAUSE 0x80)

/-- COLD_START (R454): after final stop and in FAILED_START only once the carrier has lost power (R455, R467). -/
def coldStart (s : State) : State := if s.pow.phase = 3 ∨ s.pow.phase = 4 ∨ s.pow.phase = 6 then s else coldStartFrom s

/-- TRANSPORT_RELEASE (R461): supply present and the input energised for 100 ms. -/
def transportRelease (supply : Bool) (s : State) : State := if s.pow.phase = 3 ∧ supply then coldStartFrom s else s

/-- No power-good within 20 ms (Table 19.2 step 2). -/
def regulatorRetry (s : State) : State :=
  if s.pow.phase ≠ 5 ∨ s.pow.step ≠ 2 then s
  else if s.n Obj.START_RETRIES < 3 then s.putN Obj.START_RETRIES (s.n Obj.START_RETRIES + 1)
  else failStart 1 s

/-- The RW objects that a start takes from the store alone, though the always-on domain has kept them (R370, R452). -/
def unsavedRw (key : Nat) : Bool :=
  match findRow key with
  | some (g, r) => key / 65536 == 0x2D00 && r.access == .rw && !r.isFn g (key / 65536) (key % 65536)
  | none => false

/-- The RW values that CONFIG_SAVE stored (R370); those of the field and the safety function only where these have
restarted. PROG_DEBUG reads 0 while the program does not run (R399); a staged image shows its CRC (R406). -/
def loadRw (s : State) : State :=
  let s : State := { s with store := s.store.filter fun kv => !unsavedRw kv.1 }
  s.forAll s.idp.flashRw fun kv s =>
    let fn := (findGroup (kv.1 / 65536)).map fun g => g.fnKey (kv.1 / 65536)
    let skip := (fn == some Obj.FIELD_STATE && !s.pow.fresh.2) || (fn == some Obj.SAFETY_STATE && !s.pow.fresh.1) || kv.1 == Obj.PROG_DEBUG
    let s := if skip then s else s.put kv.1 kv.2
    if kv.1 = Obj.PROGRAM_STAGED then s.putN Obj.STAGED_CRC (if kv.2.toBytes.isEmpty then 0 else fieldU kv.2.toBytes 4 4) else s

/-- Step 5 of Table 19.2: the coding plug is read (R511), the safety self-test judged, the safety and the pair function
receive their stored states, the role settles. -/
def startSafetyStep (selfTest : Bool) (s : State) : State :=
  let s := loadRw (s.putN Obj.PAIR_POSITION s.asBuilt.plug)
  let s := if s.pow.fresh.1 then startFunction [] Obj.SAFETY_STATE s else s
  let s := if selfTest then s else safetyFault 3 s
  let s := s.modDuo fun d => { d with alive := true, tpDriven := true }
  let s := startFunction [] Obj.REDUNDANCY_STATE s
  if s.running Obj.REDUNDANCY_STATE then s else settleRole s

/-- The functions that receive their stored state at step 6, in ascending order of index. -/
def stepSixKeys (s : State) : List Nat :=
  fnKeys.filter fun k => k != Obj.SAFETY_STATE && k != Obj.REDUNDANCY_STATE && k != Obj.EST_STATE && (k != Obj.FIELD_STATE || s.pow.fresh.2)

/-- Step 6 of Table 19.2: pages are loaded, functions receive their stored states, the pads are released (R411). -/
def startFunctions (pages : List (Nat × Bool)) (found : List EnumHead) (s : State) : State :=
  let s := s.forAll pages fun x s => loadPage x.2 x.1 s
  let s := s.forAll (stepSixKeys s) fun k s => startFunction found k s
  let s := compareContainer s
  if !s.b Obj.FIELD_RELEASE_AUTO then s
  else if s.running Obj.PROG_STATE && !s.standby then s.modPow fun p => { p with releaseWait := true }
  else s.modField fun x => { x with release := true }

/-- Step 7 of Table 19.2: the estimator receives its stored state, READY is reported, the module is ACTIVE. -/
def startDone (s : State) : State :=
  let s := startFunction [] Obj.EST_STATE s
  let s := (s.putN Obj.START_DURATION (min (2 ^ 32 - 1) ((s.lNow - s.pow.startL) / 1000000))).putN Obj.POWER_STATE 0
  updateStarted (s.modPow fun p => { p with phase := 0, step := 0, ready := true })

/-- A start-up step completes (Table 19.2). -/
def startStepDone (x : StartObs) (s : State) : State :=
  if s.pow.phase ≠ 5 then s else
  let next := fun (s : State) => s.modPow fun p => { p with step := p.step + 1 }
  match s.pow.step with
  | 2 => next s
  | 3 =>
    if !s.pow.xtal then next s
    else next (if x.crystal then s.putN Obj.START_STATE 0 else degradeClock (s.putN Obj.START_STATE 1))
  | 4 => match bootChoice x.sets s with
    | some s => next s
    | none => failStart 2 s
  | 5 => next (startSafetyStep x.selfTest s)
  | 6 => if s.duo.startWait then s else next (startFunctions x.pages x.found s)
  | 7 => startDone s
  | _ => s

/-- The release of the pads that waits for the program's first scan (R411). -/
def releaseAfterScan (s : State) : State :=
  if s.pow.releaseWait then (s.modPow fun p => { p with releaseWait := false }).modField fun x => { x with release := true } else s

/-! ### Degraded clock (R456, R457) -/

/-- CRYSTAL_LOST in service (R457); `deviation` in 0.01 % of nominal, 0 if it stopped. -/
def crystalLost (deviation : Nat) (s : State) : State :=
  if s.pow.phase ≠ 0 || s.degraded then s else
  let synced := s.n Obj.PAIR_SYNC == 2
  let s := ((degradeClock s).putN Obj.START_STATE 1).logN 0x0E03 0x2D00 noSubject deviation 0
  let s := s.forAll [Obj.SWEEP_STATE, Obj.CHAIN_STATE, Obj.BAL_STATE, Obj.EST_STATE, Obj.DISPATCH_STATE, Obj.TABLE_STATE,
    Obj.CAN_STATE 0, Obj.CAN_STATE 1] faultFunction
  let s := s.modPow fun p => { p with ready := false }
  if s.pairActive && synced then s.modDuo fun d => { d with roleOut := false, ceded := true }
  else if s.standby then s
  else s.each s.asBuilt.strings fun n s => openString n false s

/-- The crystal is tested every 60 s (R456). -/
def xtalTest (ready : Bool) (s : State) : State := if s.degraded && ready then s.putB Obj.XTAL_RECOVERED true else s

/-- A write of POWER_RESTART (R456, R457, R487). -/
def ownPowerRestart (_ : Val) (s : State) : Except Abort State :=
  if !(s.standby && s.degraded) && s.firstNotOpen.isSome then .error (inconsistent Obj.POWER_RESTART)
  else .ok (beginStart true (false, false) (resetPads (coreLost (commit s))))

/-! ### The entry handshake (R458, R459) -/

/-- A write of POWER_REQUEST (R458) by a role; `energised` is the TRANSPORT_RELEASE input. -/
def ownPowerRequest (energised : Bool) (v : Val) (s : State) : Except Abort State :=
  let k := v.toNat
  if s.b Obj.BROWNOUT || s.pow.request.isSome || (k == 3 && energised) then .error (inconsistent Obj.POWER_REQUEST)
  else
    let s := ((s.putN Obj.REQUEST_RESULT 1).putN Obj.REFUSING_BLOCK 0).putN Obj.REFUSAL_REASON 0
    let s := s.modPow fun p => { p with request := some (k, s.lNow), answers := [0, 0, 0, 0, 0, 0, 0], demand := none }
    .ok (if s.paired && s.b Obj.PAIR_LINK_UP then s.emit (.pair (.request k)) else s)

/-- The handshake ends with a result. -/
def endHandshake (result : Nat) (s : State) : State :=
  (s.putN Obj.REQUEST_RESULT result).modPow fun p => { p with request := none, demand := none }

/-- Whether the custody service can make the generation that the Abacus demands. -/
def generationPossible (s : State) : Bool := s.active && s.estimating && pushPeerOk s

/-- Whether a block holds ACCEPT (R459). -/
def State.accepted (s : State) (block : Nat) : Bool := nth s.pow.answers (block - 1) 0 == 1

/-- The reason with which a block refuses (Table 19.3); 0 for none. `partner` is what the partner answers: 0 ACCEPT, 1 not
yet, 2 REFUSE. -/
def refusal (block partner k : Nat) (s : State) : Nat :=
  match block with
  | 1 => if k = 1 ∧ !s.b Obj.ENUM_DONE then 1 else 0
  | 2 => match s.pow.demand with
    | some g => if s.accepted 2 ∨ s.n Obj.LAST_GEN_SEALED = g ∨ (s.custody.gen.map Generation.number) = some g then 0 else 2
    | none => 0
  | 5 => if s.running Obj.PROG_STATE ∧ s.n Obj.POWER_VOTE = 65535 then 3 else 0
  | 6 => if s.firstNotOpen.isSome then 4 else if s.proofRunning then 5 else if s.safety.session.isSome then 6 else 0
  | 7 => if s.paired && s.b Obj.PAIR_LINK_UP && partner == 2 then 7 else 0
  | _ => 0

/-- Whether a block answers DELAY (Table 19.3). A piece of an IMAGE transfer is one IMAGE frame with the train that answers it; a
re-addressing is one command, within which nothing asks (log entry 177). -/
def delays (block partner : Nat) (s : State) : Bool :=
  match block with
  | 1 => s.upd.jobs.any (fun j => Nat.blt s.lNow j.2.endL) || s.chain.heads.any fun h => (h.awaiting.map Await.kind) == some kImage
  | 2 => match s.pow.demand with
    | some g => !s.accepted 2 && s.n Obj.LAST_GEN_SEALED != g
    | none => false
  | 3 => [0, 1].any fun c => (List.range 24).any fun b => s.n (Obj.TX_STATE c (8 + b)) == txPending
  | 4 => !s.idp.transfers.isEmpty || !s.custody.pieces.isEmpty
  | 5 => s.running Obj.PROG_STATE && s.n Obj.POWER_VOTE != 0
  | 7 => s.paired && s.b Obj.PAIR_LINK_UP && partner == 1
  | _ => false

/-- The reason with which a block that would not accept now refuses where it has accepted (R459): that of its refusal, the
program's own, 0 where Table 19.3 gives the condition none (log entry 154); none where it still accepts. -/
def withdrawal (s : State) (block partner k : Nat) : Option Nat :=
  let r := refusal block partner k s
  if r ≠ 0 then some r else if delays block partner s then some (if block = 5 then 3 else 0) else none

/-- The Abacus demands its generation at the first ask (Table 19.3); where the custody service can make none it demands none. -/
def sleepDemand (s : State) : State :=
  if s.pow.demand.isSome || !generationPossible s then s else
  let s := demandGeneration s
  s.modPow fun p => { p with demand := some (demandedNumber s) }

/-- Pending CAN buffers are cancelled once they have delayed the entry for 1 s (Table 19.3). -/
def cancelPending (since : Nat) (s : State) : State :=
  if s.lNow < since + 1000000000 then s else
  s.each 2 fun c s => s.each 24 fun b s =>
    if s.n (Obj.TX_STATE c (8 + b)) = txPending then s.putN (Obj.TX_STATE c (8 + b)) txCancelled else s

/-! ### Entry (R460, R461) -/

/-- Every front-end receives BALANCE with MODE OFF. -/
def bleedOff (s : State) : State :=
  if !s.running Obj.CHAIN_STATE || !s.leads then s else
  s.forAll s.entries fun x s => sendBalance 0 (List.replicate 16 0) x.1 x.2 s

/-- What waits for idle chain time goes out before the entry goes on, which awaits each train in turn (R72, R460). -/
def flushAll (s : State) : State :=
  s.forAll s.headList fun h s =>
    (s.forAll (s.head h).outbox fun f s => transmit h f.kind f.dest f.payload (dropAwaited h s)).modHead h fun x =>
      { x with outbox := [], awaiting := none }

/-- A command with DEST 0 twice on every chain: from the reading heads, and from segment heads to the devices beyond a cut. -/
def sendTwice (kind : Nat) (payload : Bytes) (s : State) : State :=
  let heads := s.headList.filter fun h => s.headSends h && (s.leads || s.n (Obj.HEAD_ROLE h) == roleSegment)
  s.forAll heads fun h s => transmit h kind 0 payload (transmit h kind 0 payload s)

/-- The limits of the watch engine (R462): VMAX and VMIN in µV, the raw value of WATCH_T_MAX. -/
def watchLimits (s : State) : Nat × Nat × Nat :=
  let profs := (List.range s.asBuilt.strings).filterMap fun n => if s.hasCells n then s.profile? n else none
  let uv := fun (v : Rat) => (v * 1000000).floor.toNat
  let hi := if s.n Obj.WATCH_V_MAX ≠ 0 then s.n Obj.WATCH_V_MAX * 1000 else
    match profs.map pVmax with
    | [] => 2 ^ 24
    | v :: l => uv (l.foldl rmin v)
  let lo := if s.n Obj.WATCH_V_MIN ≠ 0 then s.n Obj.WATCH_V_MIN * 1000 else
    match profs.map pVmin with
    | [] => 0
    | v :: l => uv (l.foldl rmax v)
  (hi, lo, tempRaw s (s.q Obj.WATCH_T_MAX))

/-- TONE at a head, sourced or present (R88, R98). -/
def setTone (on : Bool) (s : State) : State :=
  let s := s.forAll s.pow.watchHeads fun x s => s.putB (Obj.HEAD_TONE x.1) on
  s.forAll s.pow.toneHeads fun h s => s.emit (.tone h on)

/-- Entry into WATCH (1) or DORMANT (2) (R460): the front-ends of every chain enter QUIET, in which the head at the far end of a
LOOP or BRIDGE sources TONE (R88), P1 and P2 drop to 100BASE-TX except in HSR, CAN transceivers that may wake rest
(both end with the wake: DEDUCED, log entry 189). -/
def enterSleep (k : Nat) (s : State) : State :=
  let s := if s.pairActive && s.b Obj.PAIR_LINK_UP then s.emit (.pair (.enter k)) else s
  let s := sendTwice kQuiet [] (flushAll (bleedOff (calAbort s)))
  let s := commit (stopMarks s)
  let heads := (s.headsIn roleReading).map fun h => (h, s.n (Obj.HEAD_DEVICES h))
  let far := s.headsIn roleListening ++ s.headsIn roleSegment
  let limits := watchLimits s
  let slow := s.n Obj.NET_MODE != 2
  let low := maskOf 2 fun c => s.b (Obj.CAN_WAKE_ENABLE c)
  let s := if s.pUnsetFlag then s else s.putN Obj.P_STATE pHoldover
  let levels := s.n Obj.SLEEP_DO_LEVELS
  let s := resetPads (coreLost (endHandshake 0 s))
  let s := (s.putN Obj.POWER_STATE k).modField fun x => { x with koLatch := 0, doLatch := levels % 65536 }
  setTone true (s.modPow fun p =>
    { p with phase := k, entryL := s.lNow, wakeOut := false, ready := false, watchHeads := heads, toneHeads := far, limits, slowPorts := slow, canLow := low })

/-- Entry into TRANSPORT (R461): the supply latch is released. -/
def enterTransport (s : State) : State :=
  let s := sendTwice kShip (leBytes 2 0x5A17) (calAbort s)
  let s := powerLost (commit (stopMarks s))
  s.modPow fun p => { p with phase := 3 }

/-- Entry into the state requested. -/
def enterLower (k : Nat) (s : State) : State := if k = 3 then enterTransport s else enterSleep k s

/-- The pair block of a standby hears that its partner's handshake has ended (R460), as 3 and the state entered: the module
enters the same state (log entry 185). -/
def partnerEnters (block partner : Nat) (s : State) : State :=
  if block = 7 ∧ s.standby ∧ s.b Obj.PAIR_LINK_UP ∧ (partner = 4 ∨ partner = 5) then enterSleep (partner - 3) s else s

/-- A block answers (R459): a refusal ends the request, one that withdraws an ACCEPT among them; with every block at ACCEPT at
once entry begins. -/
def handshakeAnswer (block partner : Nat) (s : State) : State :=
  match s.pow.request with
  | none => partnerEnters block partner s
  | some (k, since) =>
    if block = 0 ∨ 7 < block then s else
    let s := if block = 2 then sleepDemand s else if block = 3 then cancelPending since s else s
    let refuse := fun (b r : Nat) (s : State) => ((endHandshake 2 s).putN Obj.REFUSING_BLOCK b).putN Obj.REFUSAL_REASON r
    let r := refusal block partner k s
    if r ≠ 0 then refuse block r s else
    if s.accepted block && delays block partner s then refuse block ((withdrawal s block partner k).getD 0) s else
    let a := if delays block partner s then 2 else 1
    let s := s.modPow fun p => { p with answers := p.answers.set (block - 1) a }
    if !(s.pow.answers.all (· == 1)) then s else
    match (List.range 7).findSome? fun b => (withdrawal s (b + 1) 0 k).map fun r => (b + 1, r) with
    | some (b, r) => refuse b r s
    | none => enterLower k s

/-- A block's delay has run out (R459): it is asked again. -/
def handshakeDelayExpiry (block : Nat) (s : State) : State :=
  if s.pow.request.isSome ∧ 0 < block ∧ nth s.pow.answers (block - 1) 0 = 2 then
    s.modPow fun p => { p with answers := p.answers.set (block - 1) 0 } else s

/-- 5 s without all ACCEPT (R459). -/
def handshakeTimeout (s : State) : State := if s.pow.request.isSome then endHandshake 3 s else s

/-! ### Waking (R462 to R465) -/

/-- WAKE_OUT is high for WAKE_OUT_PULSE from the wake decision (R465). -/
def State.wakeOutHigh (s : State) : Bool :=
  s.pow.wakeOut && decide (s.lNow < s.n Obj.WAKE_TIME + s.n Obj.WAKE_OUT_PULSE * 1000000)

/-- The wake of a sleeping module (R465): each head sends WAKE, the start-up sequence runs from step 2; the wake in one module of a
pair is sent over PAIR. -/
def wakeNow (bit : Nat) (s : State) : State :=
  let slept : Rat := ((s.lNow - s.pow.entryL : Nat) : Rat) / 1000000000
  let place := 1 + s.pow.phase
  let pair := storedPair s && s.asBuilt.plug != 0
  let s := (s.putN Obj.WAKE_CAUSE (2 ^ bit)).putN Obj.WAKE_TIME s.lNow
  let s := s.forAll (s.pow.watchHeads.map (·.1) ++ s.pow.toneHeads) fun h s => s.emit (.wakeSymbol h false)
  let s := setTone false s
  let s := (beginStart false (false, false) s).modPow fun p => { p with wakeOut := true }
  let t := countPage 1 (addTime place slept s)
  if pair then t.emit (.pair .wake) else t

/-- A source fires (R464): enabled, it wakes the module. -/
def wake (bit : Nat) (s : State) : State :=
  if !s.sleeps || !(bitOf (s.n Obj.WAKE_SOURCES) bit || bit == 6) then s else wakeNow bit s

/-- The pair block of a sleeping module hears of its partner's wake over PAIR, as answer 6 (R465): the module wakes with cause CHAIN,
whatever WAKE_SOURCES says (DEDUCED, log entry 185). -/
def partnerWakes (block partner : Nat) (s : State) : State :=
  if s.sleeps ∧ block = 7 ∧ partner = 6 ∧ storedPair s ∧ s.asBuilt.plug ≠ 0 then wakeNow 1 s else s

/-- TONE has been absent for 32 µs on a chain (R91, R463). DESIGN CHOICE (log entry 135): the event does not name the chain;
HEAD_TONE of every reading head reads 0. -/
def toneLoss (s : State) : State :=
  if !s.sleeps then s else wake 0 (s.forAll s.pow.watchHeads fun x s => s.putB (Obj.HEAD_TONE x.1) false)

/-- CAN wake-up pattern on a channel with CAN_WAKE_ENABLE (R356, R464). -/
def canWake (c : Nat) (s : State) : State := if s.b (Obj.CAN_WAKE_ENABLE c) then wake 2 s else s

/-- WAKE_TIMER has passed since the entry (R464). -/
def wakeTimer (s : State) : State := if s.n Obj.WAKE_TIMER = 0 then s else wake 5 s

/-- An input changes while the module sleeps (R464): an edge of the filtered value of a DI of WAKE_DI_MASK (R414), SI pairs of
WAKE_SI_MASK that leave RUN. -/
def inputWake (before s : State) : State :=
  if !s.sleeps then s else
  let di := (maskOf 32 fun n => before.di n != s.di n || before.n (Obj.DI_EDGES n) != s.n (Obj.DI_EDGES n)) &&& s.n Obj.WAKE_DI_MASK
  let left := maskOf 8 fun p => before.n (Obj.PAIR_STATE p) == 2 && s.n (Obj.PAIR_STATE p) != 2
  if di ≠ 0 ∨ left &&& s.n Obj.WAKE_SI_MASK ≠ 0 then wake 4 s else s

/-- Whether a chain of `devices` devices that answers SCAN with a train raises WATCH_LIMIT, the aggregate being the whole block of
the train, if it has one (R462). -/
def watchTrips (s : State) (devices : Nat) (a : Await) (t : Option Train) (agg : Option Bytes) : Bool :=
  let (hi, lo, raw) := s.pow.limits
  match t, agg with
  | some t, some b =>
    !t.after.isEmpty || !trainAnswers a t || (trainCause t == 2 && Nat.blt (trainTurn t) devices) ||
      Nat.blt hi (fieldU b 5 3) || Nat.blt (fieldU b 0 3) lo || Nat.blt (fieldU b 10 2) raw || fieldU b 14 1 % 16 != 0
  | _, _ => true

/-- SCAN on one chain (R462): its aggregate is kept in WATCH_LAST; whether it raises WATCH_LIMIT. -/
def scanChain (trains : List (Nat × Option Train)) (x : Bool × State) (hd : Nat × Nat) : Bool × State :=
  let (trip, s) := x
  let (h, devices) := hd
  let a : Await := ⟨kScan, 0, (s.head h).seq, []⟩
  let s := transmit h kScan 0 [] s
  let t := (trains.find? fun x => x.1 == h).bind (·.2)
  let agg := t.bind fun t => (trainBlocks a t).head?.filter blockCrcOk
  let old := padded (17 * s.asBuilt.heads) (s.bytes Obj.WATCH_LAST)
  let s := match agg with
    | some b => s.putBytes Obj.WATCH_LAST (old.take (17 * h) ++ b ++ old.drop (17 * h + 17))
    | none => s
  (trip || watchTrips s devices a t agg, s)

/-- The watch engine scans every chain (R462). -/
def watchScan (trains : List (Nat × Option Train)) (s : State) : State :=
  if s.pow.phase ≠ 1 then s else
  let (trip, s) := s.pow.watchHeads.foldl (scanChain trains) (false, s.inc Obj.WATCH_SCANS)
  if trip then wake 6 s else s

/-! ### Brown-out (R466, R467) -/

/-- BROWNOUT is raised (R466, R467, R216, R449). -/
def brownoutRaised (s : State) : State :=
  if !s.carrierOn || s.b Obj.BROWNOUT then s else
  let s := ((s.putB Obj.BROWNOUT true).inc Obj.BROWNOUTS).modPow fun p => { p with opened := false }
  let s := countPage 2 s
  if !s.coreOn then s else
  let s := if s.pow.request.isSome then endHandshake 4 s else s
  let s := custodyBrownout (bleedOff (calAbort s))
  if s.pairActive && s.n Obj.PAIR_SYNC == 2 && !((s.duo.hb.map Heartbeat.brownout).getD false) then makeDue 4 s else s

/-- The input has recovered (R466): BROWNOUT clears unless final stop has begun. -/
def brownoutCleared (s : State) : State := if s.pow.phase = 6 then s else s.putB Obj.BROWNOUT false

/-- Final stop (R467): enables withheld, latches off, WAKE_OUT low, the core domain stops. -/
def finalStop (s : State) : State :=
  let s := (resetPads (coreLost s)).modField fun x => { x with koLatch := 0, doLatch := 0 }
  driveEnables (s.modPow fun p => { p with phase := 6, step := 0, wakeOut := false, ready := false })

/-- The opening that a brown-out makes (R467): its break waits last BROWNOUT_OPEN_MARGIN − 500 ms at most. -/
def brownoutOpening (s : State) : State :=
  let s := s.modPow fun p => { p with opened := true }
  if s.standby then s else
  let margin := s.n Obj.BROWNOUT_OPEN_MARGIN - 500
  s.each s.asBuilt.strings fun n s =>
    if s.seq n = sqOpen ∨ s.seq n = sqLockedOut then s else
    ((openString n false s).modPs n fun x => { x with breakMs := x.breakMs.map (min · margin) }).logN 0x0606 0x2D00 n 0 0

/-- HOLDUP_REMAINING is recomputed from the usable energy in J and the load in W (R466), with the input voltages; under
BROWNOUT the strings open at BROWNOUT_OPEN_MARGIN and final stop begins at 50 ms (R467). -/
def holdupRecompute (energy load v1 v2 : Rat) (s : State) : State :=
  if !s.carrierOn || s.pow.phase = 6 then s else
  let ms := if load ≤ 0 then 65535 else min 65535 (energy / load * 1000).floor.toNat
  let s := (s.putN Obj.HOLDUP_REMAINING ms).putQ Obj.MODULE_POWER load
  let s := s.putBytes Obj.INPUT_VOLTAGE (f32Bytes (.real v1) ++ f32Bytes (.real v2))
  let s := if 72 ≤ energy then s.putB Obj.HOLDUP_READY true else s
  if !s.b Obj.BROWNOUT then s
  else if ms ≤ 50 then finalStop s
  else if s.pow.phase = 0 ∧ ms ≤ s.n Obj.BROWNOUT_OPEN_MARGIN ∧ !s.pow.opened then brownoutOpening s else s

/-- The hold-up runs empty (R455, R467): after final stop, or in FAILED_START with the inputs removed. -/
def carrierPowerLost (s : State) : State := if s.pow.phase = 6 ∨ s.pow.phase = 4 then powerLost s else s

/-! ### Heat (R468) -/

/-- Die sensor 01 has read 110 °C or more for 1 s: the fall of the clock is ordered, also in place of a return that waits for
its mark (R187). -/
def throttleStart (s : State) : State :=
  if s.abacus.clockStep == 1 || s.b Obj.THROTTLED && s.abacus.clockStep != 2 then s else
  (s.inc Obj.THROTTLE_EVENTS).modAbacus fun a => { a with clockStep := 1 }

/-- Die sensor 01 has read 100 °C or less for 60 s: the return of the clock is ordered; a fall that still waits for its mark is
dropped, and the period returns (R187). -/
def throttleEnd (s : State) : State :=
  if s.b Obj.THROTTLED then s.modAbacus fun a => { a with clockStep := 2 }
  else if s.abacus.clockStep = 1 then s.modAbacus fun a => { a with clockStep := 3 } else s

/-- A controller-die sensor has read 125 °C or more for 1 s. -/
def dieCritical (sensor : Nat) (temp : Rat) (s : State) : State :=
  if s.b Obj.DIE_CRITICAL then s else
  let s := (s.putB Obj.DIE_CRITICAL true).logEx 0x0E01 0x2D00 sensor (.real temp) (.int 0) (.int 0)
  if s.pairActive && s.n Obj.PAIR_SYNC == 2 then (makeDue 2 s).modDuo fun d => { d with waive := true } else s

/-! ### Indicators (R513, R514) -/

/-- The code that the FAULT LED shows, the lowest that applies; 0 for none (Table 22.12). -/
def faultCode (s : State) : Nat :=
  if s.pow.phase = 4 then s.pow.cause
  else if s.n Obj.SAFETY_FAULT_CAUSE ≠ 0 then 3
  else if s.degraded then 4
  else if s.b Obj.FIELD_SUPPLY_FAULT then 5
  else if s.b Obj.DIE_CRITICAL then 6 else 0

/-- The POWER LED (Table 22.11): 0 off, 1 steady, 2 flashing. -/
def powerLed (s : State) : Nat := if !s.carrierOn then 0 else if s.sleeps then 2 else 1

/-- The FAULT LED: 2 with a code, 1 with a function in FAULT. -/
def faultLed (s : State) : Nat :=
  if !s.carrierOn then 0 else if faultCode s ≠ 0 then 2 else if fnKeys.any (fun k => s.n k == 2) then 1 else 0

/-- The SAFETY LED. -/
def safetyLed (s : State) : Nat := if s.b Obj.SAFETY_SESSION then 2 else if s.running Obj.SAFETY_STATE then 1 else 0

/-- The ROLE LED: colour 0 off, 1 green, 2 amber; whether it flashes. -/
def roleLed (s : State) : Nat × Bool :=
  match s.n Obj.PAIR_ROLE with
  | 0 => (0, false)
  | r => if s.n Obj.PAIR_SYNC ≠ 2 then (2, true) else (r, false)

/-- The FORCE LED (R401). -/
def forceLed (s : State) : Bool := s.n Obj.FORCE_COUNT != 0

/-- The LED of P1 (0), P2 (1) and PAIR (2) shows the link; its flashing by traffic is left out (log entry 101). -/
def portLed (s : State) (port : Nat) : Bool := if port = 2 then s.b Obj.PAIR_LINK_UP else bitOf (s.n Obj.LINK_STATE) port

/-- The LED of a head: 0 off, 1 green, 2 red, 3 flashing green. -/
def headLed (s : State) (h : Nat) : Nat :=
  if s.n (Obj.HEAD_SHAPE h) = shapeNone then 0 else
  let bad := s.n (Obj.BREAK_HOP h) != 0xFF || (s.entries.any fun x => x.2.head == h && s.n (Obj.FE_STATUS x.1) != feMatch)
  if bad then 2
  else match s.n (Obj.HEAD_ROLE h) with
    | 1 => 1
    | 2 | 3 => 3
    | _ => 0

end Sys2Proof.Machine
end

