-- ==== Sys2Proof/Machine/Block.lean ====
section
/-!
DEFINITION. A sweep block as it arrives (R105, R107, R109, R110, R115, R191, R192): freshness, the measurement of each
of its cells, the low-form pilot.
-/

namespace Sys2Proof.Machine

/-! ### The low-form pilot (R107) -/

/-- Whether the low form of the pilot tone is applied. -/
def State.lowPilot (s : State) : Bool := s.b Obj.PILOT_ACTIVE && s.n Obj.PILOT_HARMONIC == 0

/-- A value of the sweep enters a pilot sum: v × e^(−2πik/P); `ok` false leaves the set without this member. -/
def pilotAdd (s : State) (x : PilotSum) (v : Rat) (ok : Bool) : PilotSum :=
  let turn : Rat := ((s.sweep.pilotK : Nat) : Rat) / (s.n Obj.PILOT_SWEEPS_PER_PERIOD : Rat)
  { re := x.re + v * realCosTurn turn, im := x.im - v * realSinTurn turn, ok := x.ok && ok }

/-- The string current means of the sweep enter the sums of the pilot, as the window values are latched. -/
def pilotStrings (s : State) : State :=
  if !s.lowPilot then s else
  s.each s.asBuilt.strings fun n s =>
    let x := pilotAdd s (amGetD s.sweep.pilotStrs n {}) (s.q (Obj.STRING_I_MEAN n)) true
    { s with sweep := { s.sweep with pilotStrs := amSet s.sweep.pilotStrs n x } }

/-- A cell's window mean in V enters its sum. -/
def pilotCell (n : Nat) (v : Rat) (ok : Bool) (s : State) : State :=
  if !s.lowPilot then s else
  let x := pilotAdd s (amGetD s.sweep.pilotCells n {}) v ok
  { s with sweep := { s.sweep with pilotCells := amSet s.sweep.pilotCells n x } }

/-- A cell that is STALE in a sweep of the set gets no Z_P. -/
def pilotStale (s : State) : State :=
  if !s.lowPilot then s else
  s.forAll s.mappedCells fun (n, _, _, _) s =>
    if s.measFlag n mfStale then
      let x := amGetD s.sweep.pilotCells n {}
      { s with sweep := { s.sweep with pilotCells := amSet s.sweep.pilotCells n { x with ok := false } } }
    else s

/-- A quotient of complex numbers, a free value where the divisor is 0. -/
def cQuot (a b : Rat × Rat) (s : State) : (Rat × Rat) × State :=
  if b = (0, 0) then
    let (x, s) := s.freshQ
    let (y, s) := s.freshQ
    ((x, y), s)
  else (cDiv a b, s)

/-- Z_P in mΩ and |I_P| in A of a cell as its set is completed in this sweep; none otherwise (R107). -/
def pilotResult (n str : Nat) (s : State) : Option ((Rat × Rat) × Rat) × State :=
  if !s.lowPilot || Nat.blt 1 s.disp.grant then (none, s) else
  let v := amGetD s.sweep.pilotCells n {}
  let i := amGetD s.sweep.pilotStrs str {}
  if !v.ok then (none, s) else
  let (z, s) := cQuot (v.re, v.im) (i.re, i.im) s
  let sweeps : Rat := ((s.n Obj.PILOT_PERIODS * s.n Obj.PILOT_SWEEPS_PER_PERIOD : Nat) : Rat)
  (some (cScale 1000 z, realSqrt (i.re * i.re + i.im * i.im) / sweeps), s)

/-! ### The measurement of a cell -/

/-- The surface value of a cell with its SLOT_FLAGS (R192, Table 7.3): converted from the block where the nearest sensor belongs
to it and was OK or SUSPECT at the last sweep tail, else the value published there. -/
def blockSurface (s : State) (e : MapEntry) (b : Bytes) (cell : Nat) : Option Rat × Nat :=
  let n := s.nearestSensor cell
  if n = 0xFFFF then (none, 0) else
  let (st, fl, v) := s.sensorAtTail n
  let own := Nat.ble e.ntcBase n && Nat.blt n (e.ntcBase + 8) && (st == snOk || st == snSuspect) && rawValid (blkNtc b (n - e.ntcBase))
  if own then (some (rawTemp s (blkNtc b (n - e.ntcBase))), 0) else (v.toRat?, b2n (bitOf fl 1) + 2 * b2n (bitOf fl 2))

/-- CELL_MEAS_FLAGS of a channel of a fresh block (Table 4.8). -/
def measFlags (s : State) (k : Nat) (seg : Bool) (e : MapEntry) (b : Bytes) (c : Nat) : Nat :=
  let min2 := s.q Obj.IMP_MIN_CURRENT * s.q Obj.IMP_MIN_CURRENT
  let low := fun (re im : Nat) => decide (s.q re * s.q re + s.q im * s.q im < min2)
  let n := e.string
  let fl := withBit 0 mfBreak (beyondNewCut s k e.head e.address)
  let fl := withBit fl mfBleed (bitOf (blkBleedMap b) c)
  let fl := withBit fl mfUntrimmed (bitOf (blkStatus b) 8)
  let fl := withBit fl mfCiInvalid (s.str n).invalid
  let fl := withBit fl mfLowA (low (Obj.STRING_I_A_RE n) (Obj.STRING_I_A_IM n))
  let fl := withBit fl mfLowB (low (Obj.STRING_I_B_RE n) (Obj.STRING_I_B_IM n))
  let fl := withBit fl mfUnlocked s.sweep.unlockedK
  let fl := withBit fl mfSegment seg
  let fl := withBit fl mfLate s.sweep.deadline
  withBit fl mfPilot (s.syncOf k).pilot

/-- The measurement of one cell of a fresh block is formed, published and written into its slot (R105, R106, R136, R191,
R192). -/
def measureCell (k : Nat) (seg : Bool) (e : MapEntry) (b : Bytes) (cs : List Corr) (x : Nat × Nat) (s : State) : State :=
  let (n, c) := x
  let r := s.syncOf k
  let cor := nth cs c Corr.zero
  let v : Rat := (blkVmean b c : Rat) / 1000000 - cor.mean
  let fl := measFlags s k seg e b c
  let str := e.string
  let (za, s) := cQuot (cSub (blkIq b c 0) cor.a) (s.q (Obj.STRING_I_A_RE str), s.q (Obj.STRING_I_A_IM str)) s
  let (zb, s) := cQuot (cSub (blkIq b c 1) cor.b) (s.q (Obj.STRING_I_B_RE str), s.q (Obj.STRING_I_B_IM str)) s
  let za := cScale 1000 za
  let zb := cScale 1000 zb
  let s := ((s.putN (Obj.CELL_VMEAN n) (rround (v * 1000000)).toNat).putN (Obj.CELL_AGE n) 0).putN (Obj.CELL_MEAS_FLAGS n) fl
  let s := s.putQ (Obj.BLEED_CORR_BOUND n) cor.bound
  let hidden := bitOf fl mfCiInvalid || bitOf fl mfUntrimmed || bitOf fl mfUnlocked
  let s := if hidden then s else
    (((s.putQ (Obj.Z_A_RE n) za.1).putQ (Obj.Z_A_IM n) za.2).putQ (Obj.Z_B_RE n) zb.1).putQ (Obj.Z_B_IM n) zb.2
  let s := pilotCell n v (!bitOf fl mfCiInvalid) s
  let (p, s) := pilotResult n str s
  let s := match p with
    | some (z, _) => (s.putQ (Obj.Z_P_RE n) z.1).putQ (Obj.Z_P_IM n) z.2
    | none => s
  let mag := fun (re im : Nat) => realSqrt (cAbs2 (s.q re, s.q im))
  let (surface, surf) := blockSurface s e b n
  let m : Meas :=
    { sweep := k % 2 ^ 32, flags := fl, surf, vmean := v, za, zb, zp := p.map fun z => z.1,
      iP := (p.map fun z => z.2).getD 0, noZ := bitOf (blkStatus b) 12 && !blankedAt r e.head && bitOf (blkBleedMap b) c,
      corrBound := cor.bound, eA := cor.eA, eB := cor.eB, iA := mag (Obj.STRING_I_A_RE str) (Obj.STRING_I_A_IM str),
      iB := mag (Obj.STRING_I_B_RE str) (Obj.STRING_I_B_IM str),
      iWindow := s.q (Obj.STRING_I_MEAN str) - (if blankedAt r e.head then 0 else 2 / 10 * cor.m), tSurf := surface }
  s.modCell n fun y => if k % 2 = 0 then { y with even := some m } else { y with odd := some m }

/-- A fresh block of front-end `f`: its cells are measured and stored, its limits checked, and the Abacus starts what it
can; after the deadline its cells are LATE and DEFERRED (R109, R110, R182, R192). -/
def takeBlock (k : Nat) (seg : Bool) (f : Nat) (e : MapEntry) (b : Bytes) (s : State) : State :=
  let (cs, s) := blockCorrections f e b s
  let cells := e.cells
  let s := blockTemps f e b s
  let s := s.forAll cells (measureCell k seg e b cs)
  let s := s.modFe f fun x => { x with rawK := k, raw := (List.range 16).map fun c => blkVmean b c }
  let s : State := { s with sweep := { s.sweep with fresh := f :: s.sweep.fresh } }
  let s := rulesBlock e.string (cells.map fun x => (x.1, (blkVmean b x.2 : Rat) / 1000000 - (nth cs x.2 Corr.zero).mean)) s
  if s.sweep.deadline then
    let s := if s.estimating then s.forAll cells fun x s => defer x.1 s else s
    (s.putN Obj.STALE_CELLS (s.n Obj.STALE_CELLS - cells.length)).inc Obj.LATE_BLOCKS
  else
    startAll (s.modAbacus fun a => { a with stored := a.stored ++ cells.map fun x => x.1 })

/-- What the module takes from any block of entry `f` with a correct CRC (R74, R85, R109, R130): its comparators go to protection;
FE_STATE shows whether the device is SAFE; the running slot and an armed activation are noted, with the version loaded
where an activation has switched it (R96, R480); its BLEED_SCALE where the
block carries data; a FORMAT other than 1 makes the device WRONG_PART (log entry 133). -/
def blockStatus (f : Nat) (e : MapEntry) (b : Bytes) (s : State) : State :=
  let st := blkStatus b
  let s := hwComparators e.string (bitOf st 10) (bitOf st 9) s
  let s := s.putN (Obj.FE_STATE f) (if bitOf st 11 then 2 else 1)
  let version := nth (if s.upd.record = 1 then s.upd.trial.versions else s.upd.running.versions) 5 0
  let slot := some (b2n (bitOf st 5))
  let s := s.modDev e.head e.address fun d =>
    { d with slot, armed := bitOf st 4, format := blkFormat b, fw := if d.armed ∧ d.slot.isSome ∧ d.slot ≠ slot then version else d.fw }
  let s := s.modFe f fun x => { x with safe := bitOf st 11, scale := if bitOf st 15 || bitOf st 13 then x.scale else blkScale b }
  if s.n (Obj.FE_STATUS f) = feMatch ∧ blkFormat b ≠ 1 then countMismatches (s.putN (Obj.FE_STATUS f) feWrongPart) else s

/-- A block arrives whole at head `h` at the place of address `expected` (R109) and enters the block buffer (R192): with a correct CRC its STATUS is taken; the
first fresh copy of the sweep is measured. `seg` says that a segment head delivered it. -/
def blockArrives (seg : Bool) (h expected : Nat) (b : Bytes) (s : State) : State :=
  if !s.running Obj.SWEEP_STATE || !s.running Obj.CHAIN_STATE then s else
  let s : State := { s with sweep := { s.sweep with blocks := s.sweep.blocks ++ [(h, b)] } }
  if !blkCrcOk b then s else
  let k := s.n Obj.SWEEP_COUNT
  match s.entryAt? (s.readingHeadOf h) (blkAddr b) with
  | none => s
  | some (f, e) =>
    let s := blockStatus f e b s
    if !blockFresh s k f expected b || s.sweep.fresh.contains f then s else takeBlock k seg f e b s

/-- BLOCK_RECEIVED: a segment head of the standby forwards the block over PAIR and stores it in its own slots (R115,
R437); any other head's block is checked and stored. -/
def blockReceived (h expected : Nat) (b : Bytes) (s : State) : State :=
  if s.standby ∧ !s.leads then
    if s.n (Obj.HEAD_ROLE h) = roleSegment then blockArrives true h expected b (s.emit (.pair (.segment h expected b))) else s
  else blockArrives (s.n (Obj.HEAD_ROLE h) == roleSegment) h expected b s

/-- SEGMENT_RECEIVED (R115): a block that the standby's segment head has forwarded. -/
def segmentReceived (h expected : Nat) (b : Bytes) (s : State) : State := blockArrives true h expected b s

end Sys2Proof.Machine
end

