-- ==== Sys2Proof/Machine/Events.lean ====
section
/-!
DEFINITION. The events in which several chapters meet: the sweep mark, SYNC, the latch of the window values, a train, a
finished update, the sweep tail, the 1 ms cycles, a dwell that has passed (R26, R100, R408, and the rules each names).
-/

namespace Sys2Proof.Machine

/-- What the open burst window sees (R51, R104): M_STATE not LOCKED, CI_FAULT. -/
def watchWindow (s : State) : State :=
  if !s.windowOpen then s else
  { s with time := { s.time with unlocked := s.time.unlocked || s.n Obj.M_STATE != mLocked },
           sweep := { s.sweep with strs := s.sweep.strs.zipIdx.map fun x => { x.1 with faultSeen := x.1.faultSeen || s.b (Obj.CI_FAULT x.2) } } }

/-! ### The sweep tail -/

/-- The bleed charge of the sweep is booked (R130), the totals and surface temperatures before it kept (R181, R491). -/
def bookBleed (s : State) : State :=
  let s := s.forAll s.mappedCells fun (n, _, _, _) s => s.modCell n fun c =>
    { c with bleedBefore := s.q (Obj.BLEED_CHARGE_TOTAL n), tempBefore := s.surfaceTemp n }
  if s.standby then s else bleedCharge s

/-- The tail of a sweep (R26): estimated values and limits are checked, bleed targets and power limits formed, anchors,
temperature, deals and recording done, the records read checked (R196). With `finished` false core 0 has not finished by the next mark: the checks are
complete, bleed targets and limits of the sweep are abandoned, the overrun is logged (R27). -/
def sweepTail (run : TailRun) (finished : Bool) (s : State) : State :=
  if !s.running Obj.SWEEP_STATE || s.sweep.tailDone then s else
  let s := pilotStale (abacusDeadline s)
  let armed := (List.range 16).map fun n => (s.track n).armed == some 1
  let s := cellsTail (readChecked (s.mappedCells.map (·.1)) run.words (bookBleed s))
  let s := stepPattern (countDeals (knownAnswers run.rods s))
  let s := if s.sweeping Obj.EST_STATE && !s.standby then s.each s.asBuilt.strings anchorTail else s
  let anchored := fun n => nth armed n false && (s.stringCells n).any fun c => s.abacus.updated.contains c && s.estFlag c efAnchored
  let s := s.each s.asBuilt.strings stringOutputs
  let s := s.each s.asBuilt.strings calibrationWanted
  let s := powersTail (protectionTail (keepSensors (temperatureTail s)))
  let s := if s.standby then s else
    let s := if finished then balanceTail s else s
    dispatchTail finished anchored (loopsTail (calTail s))
  let s := recorderTail (updateTail (custodyTail (mirrorTail s)))
  let s : State := { s with sweep := { s.sweep with tailDone := true } }
  if finished then s else s.logN 0x0101 0x2200 noSubject (s.n Obj.SWEEP_COUNT % 2 ^ 32) 0

/-! ### The sweep mark -/

/-- The main-path charge of a string since the latest mark is latched (R104), with the drift allowance (R158). -/
def latchCharge (n : Nat) (s : State) : State :=
  let x := s.str n
  let s := s.putQ (Obj.STRING_CHARGE n) x.acc
  let s := s.modTrack n fun t => { t with
    charge := t.charge + x.acc,
    drift := t.drift + s.q (Obj.CI_GAIN_UNC n) / 100 * rabs x.acc + s.q (Obj.CI_OFFSET_UNC n) * s.sweepT }
  s.modStr n fun y => { y with acc := 0, overK := y.ovr, ovr := false, faultK := y.faultSeen, faultSeen := false }

/-- The next mark of the schedule (R48, R50): the active module draws its dither, a standby has it from SWEEP. -/
def scheduleNext (s : State) : State :=
  let s := if s.b Obj.SWEEP_DITHER && !s.standby then drawDither s else s
  { s with time := { s.time with nextMark := s.time.nextMark.map fun c => c + s.n Obj.SWEEP_CYCLES_EFFECTIVE } }

/-- SWEEP_MARK (R25): the window closes, the count advances, what is bound to the mark takes effect. -/
def sweepMark (s : State) : State :=
  if !s.running Obj.SWEEP_STATE || s.time.nextMark.isNone || s.degraded then s else
  let s := sweepTail ⟨[], []⟩ false s
  let s := s.each s.asBuilt.strings latchCharge
  let s := (adoptResuming s).incW 64 Obj.SWEEP_COUNT
  let s : State := { s with
    time := { s.time with prevMarkL := s.time.markL, markL := s.lNow, markP := s.pNow, markUnset := s.pUnsetFlag, unlocked := false },
    sweep := { s.sweep with resuming := [], blocks := [], fresh := [], deadline := false, latched := false, tailDone := false, unlockedK := s.time.unlocked } }
  let s := scheduleNext (clockAtMark s)
  let s := gainAtMark (temperatureAtMark (dealsAtMark (chainAtMark s)))
  let s := refreshReadLimit (restoreAtMark s)
  watchWindow (updateAtMark (swapAtMark s))

/-! ### SYNC, the latch, trains, updates -/

/-- SYNC_SEND (R101): before SYNC(N) of an armed activation its conditions are judged (R481). -/
def syncEvent (s : State) : State :=
  if s.running Obj.SWEEP_STATE then syncSend (updateAtSync s.syncSweep s) else s

/-- WINDOW_LATCH (R104, R107, R178): the Abacus starts what it can, the standby receives SWEEP (R430). -/
def latchEvent (ws : List StringWindow) (s : State) : State :=
  if !s.running Obj.SWEEP_STATE || s.sweep.latched then s else startAll (sendSweep (pilotStrings (windowLatch ws s)))

/-- CI_MAIN_PATH_SAMPLE: the densities of the strings (R103), the overcurrent path of each (R267), a proof test that waits for
the current (R336). -/
def mainPathEvent (d : List (Nat × Rat)) (s : State) : State :=
  proofWatch (s.forAll d fun x s => if x.1 < s.asBuilt.strings then overcurrentPath x.1 (mainPathSample x.1 x.2 s) else s)

/-- PROOF_TEST_STEP (R305); after PASSED the dispatcher requests CLOSE (R336). -/
def proofStepEvent (n : Nat) (s : State) : State := recloseAfter (proofTestStep n s)

/-- What the train that answers a frame decides by its kind (R75, R111). -/
def trainResult (h : Nat) (a : Await) (t : Train) (s : State) : State :=
  if a.kind = kRead then (if s.running Obj.SWEEP_STATE then readTrain h a t s else s)
  else match answerBlock a t with
    | none => s
    | some b =>
      if a.kind = kBalance then balanceAck h a b s
      else if a.kind = kConfigWrite then configAck h a b s
      else if a.kind = kImageCheck then imageChecked h b s
      else s

/-- TRAIN_RECEIVED: the header and its counters; a train that answers another frame leaves the one awaited; then what the
answer decides, and what waits for idle chain time goes out (R70, R72). DESIGN CHOICE (log entry 167): a train whose header
CRC is wrong may be the one awaited; it ends the wait, and its blocks count by their own CRC and address. -/
def trainEvent (h : Nat) (t : Train) (s : State) : State :=
  match (s.head h).awaiting with
  | none => s
  | some a =>
    let s := trainHeader h a t s
    if trainOk t && !trainAnswers a t then s else
    drainIdle h (trainResult h a t (s.modHead h fun x => { x with awaiting := none }))

/-- The record that the partner's mirror entry of a cell gives, with its CP_FLAGS (R197): as for a restore from the partner. -/
def mirrorRecord (n : Nat) (x : Option (CpRec × Rat)) (s : State) : Option (CellRec × Nat) :=
  if !(s.pairActive && s.b Obj.PAIR_LINK_UP && s.n Obj.PAIR_SYNC == 2) then none else
  match x, s.cellString? n with
  | some (r, q), some str =>
    match s.profile? str with
    | some b =>
      if bitOf r.flags 0 then
        some (restoredRecord b false ⟨0, [], [], [], [(n, q)]⟩ { r with cell := n } str (s.track str).charge s, r.flags)
      else none
    | none => none
  | _, _ => none

/-- CELL_UPDATE_DONE (R156, R438). -/
def updateEvent (rod n : Nat) (errs : List WordErr) (mirror : Option (CpRec × Rat)) (s : State) : State :=
  if (s.rod rod).slots.any fun u => u.cell == n then mirrorUpdated n (cellUpdateDone rod n (mirrorRecord n mirror s) errs s) else s

/-! ### The cycles of 1 ms and 100 ms -/

/-- The release of the pads at a field cycle (R411, R412): strings are adopted before the first release after a reset. -/
def releasePads (s : State) : State :=
  let s := if s.field.adopt && !s.standby then s.each s.asBuilt.strings adoptString else s
  let s := if !s.running Obj.PROG_STATE && s.prog.mask == 0 then
      s.modProg fun p => { p with mask := imDos s.image, dos := s.field.doLatch } else s
  (s.putB Obj.FIELD_LATCHED false).modField fun x => { x with release := false, adopt := false }

/-- FIELD_CYCLE (R408). -/
def fieldEvent (x : FieldSample) (s : State) : State :=
  if !s.carrierOn || !s.field.powered then s else
  let before := s
  let s := fieldInputs x s
  let s := if s.coreOn then aiCommand (s.each s.asBuilt.strings fun n s => outputCheck n (fastChecks n s)) else s
  let s := if s.field.release && s.b Obj.FIELD_LATCHED && s.coreOn then releasePads s else s
  inputWake before s

/-- SAFETY_CYCLE (R290), with what the pair settles in it (R429, R440). -/
def safetyEvent (x : SafetySample) (s : State) : State :=
  if !s.carrierOn then s else
  let s' := safetyCycle x s
  inputWake s (if s'.coreOn then qsfChanges (pairCycle s') else s')

/-- MODULE_DIE_READ (R234, R495); the crystal compensation, on the always-on domain, has die sensor 00 in every state (R55, R452). -/
def dieEvent (temps : List Rat) (s : State) : State :=
  let s : State := { s with time := { s.time with die0 := nth temps 0 s.time.die0 } }
  if s.coreOn then recordDie (moduleDieRead temps s) else s

/-- PI_GATE_END (R421) with the command that a measurement may carry (R328); an extended gate has measured nothing. -/
def gateEvent (n : Nat) (rises falls : List Nat) (s : State) : State :=
  let t := piGateEnd n rises falls s
  if (piResult n rises falls s).isSome then piCommand n t else t

/-- THRESHOLD_DWELL (R229, R269): an element that has held its condition for the dwell changes state: of level threshold
(0), of rate threshold (1), of protection rule (2) `n`. -/
def dwellEvent (kind n el : Nat) (s : State) : State :=
  match kind with
  | 0 => stringRaised (s.setLt n (fireElement (s.lt n) el))
  | 1 => stringRaised (s.setRt n (fireElement (s.rt n) el))
  | _ => if s.protecting then ruleChecks n (s.setRule n (fireElement (s.rule n) el)) else s

end Sys2Proof.Machine
end

