-- ==== Sys2Proof/Machine/Writes.lean ====
section
/-!
DEFINITION. What a read of an object answers and what a write of it does, object by object (R365 to R375, and the rules of
the chapter that owns the object); the operations READ, WRITE, READ_RANGE, DOMAIN_READ and DOMAIN_WRITE over them; writes
that reach the dictionary from the partner.
-/

namespace Sys2Proof.Machine

/-! ### Reads -/

/-- The bytes of the change log, oldest first (R314). -/
def changeLogBytes (s : State) : Bytes := padded 16384 s.safety.x.log.reverse.flatten

/-- The value of a program variable as it is read (R397): its instance data; a program without any shows what CONFIG_SAVE has kept
over a restart (R370; DEDUCED, log entry 184), and what is read otherwise the spec does not state. -/
def readVariable (n : Nat) (s : State) : Bytes × State :=
  if s.prog.data.isEmpty then
    match amGet? s.store (Obj.VAR_VALUE n) with
    | some v => (fit (imSymbol s.image n).size v.toBytes, s)
    | none => (fit (imSymbol s.image n).size (Config.freeBytes s.free), { s with free := s.free + 1 })
  else (varGet s.image s.prog.data n, s)

/-- A whole object as it is read (R366), with what the read itself changes. -/
def readObject (key : Nat) (ty : Ty) (s : State) : Bytes × State :=
  let idx := key / 65536
  let sub := key % 65536
  if key = Obj.P_SECONDS then
    (ty.encode (.int (s.pNow / 1000000000 : Nat)), { s with time := { s.time with latchedNs := s.pNow % 1000000000 } })
  else if key = Obj.P_NANOSECONDS then (ty.encode (.int s.time.latchedNs), s)
  else if key = Obj.L_NOW then (ty.encode (.int s.lNow), s)
  else if key = Obj.M_ANGLE then (ty.encode (.int s.angle), s)
  else if key = Obj.SAFETY_SIGNATURE then (ty.encode (.int s.signature), s)
  else if key = Obj.CHANGE_LOG then (changeLogBytes s, s)
  else if key = Obj.MODULE_PAGE then (pageBytes s pageModule, s)
  else if key = Obj.TABLE_KEY then ([], s)
  else if key = Obj.RUNNING_VERSIONS then ((List.range 6).flatMap fun c => leBytes 2 (nth s.upd.running.versions c 0), s)
  else if idx = Obj.CELL_PAGE 0 / 65536 then (pageBytes s sub, s)
  else if idx = Obj.STRING_PAGE 0 / 65536 then (pageBytes s (pageString sub), s)
  else if idx = Obj.VAR_VALUE 0 / 65536 then readVariable sub s
  else (ty.encode (s.shown key), s)

/-- The type of an object. -/
def typeOf (idx sub : Nat) : Ty := ((findRow (objKey idx sub)).map fun x => x.2.ty).getD .u8

/-- How many bytes of DATA a response carries at most (Table 15.8). -/
def dataLimit : ReqSource → Nat
  | .can => 40
  | _ => 1024

/-- READ (R373); a value that no PDU of the transport carries is refused with LENGTH (Table 15.8). -/
def readAct (src : ReqSource) (idx sub : Nat) (s : State) : Except Abort (State × Bool × Bytes) :=
  let ty := typeOf idx sub
  if !Op.suits .read ty then .error (Abort.of aLength 0) else
  let (b, s) := readObject (objKey idx sub) ty s
  if dataLimit src < b.length then .error (Abort.of aLength 0) else .ok (s, false, b)

/-- Whether element `sub` of a range can be read with a type (R373). -/
def rangeElement (s : State) (idx sub : Nat) (ty : Ty) : Option Abort :=
  match findGroup idx with
  | none => some (Abort.of aNoSubindex 0)
  | some g =>
    if !g.exists? s.asBuilt idx sub || (idx == 0x2A12 && Nat.ble s.symbolCount sub) then some (Abort.of aNoSubindex 0) else
    match g.row? sub with
    | none => some (Abort.of aNoSubindex 0)
    | some row => if row.ty != ty || row.access == .wo || objKey idx sub == Obj.SAFETY_RESTART then some (Abort.of aLength 0) else none

/-- The elements of a range, each read whole (R373). -/
def readElements (idx : Nat) (ty : Ty) : Nat → Nat → State → Bytes × State
  | 0, _, s => ([], s)
  | n + 1, sub, s =>
    let (b, s) := readObject (objKey idx sub) ty s
    let (r, s) := readElements idx ty n (sub + 1) s
    (b ++ r, s)

/-- READ_RANGE (R373). -/
def readRangeAct (src : ReqSource) (idx sub count : Nat) (s : State) : Except Abort (State × Bool × Bytes) :=
  let ty := typeOf idx sub
  if (List.range count).any fun i => rangeElement s idx (sub + i) ty == some (Abort.of aNoSubindex 0) then .error (Abort.of aNoSubindex 0) else
  if !ty.isScalar || Nat.blt (dataLimit src) (count * (ty.size.getD 1)) then .error (Abort.of aLength 0) else
  match (List.range count).findSome? fun i => rangeElement s idx (sub + i) ty with
  | some a => .error a
  | none =>
    let (b, s) := readElements idx ty count sub s
    .ok (s, false, b)

/-- DOMAIN_READ (R373): up to LENGTH bytes from OFFSET, LAST on the piece that reaches the end. -/
def domainReadAct (src : ReqSource) (idx sub offset length : Nat) (s : State) : Except Abort (State × Bool × Bytes) :=
  let ty := typeOf idx sub
  let key := objKey idx sub
  let n := min length (dataLimit src)
  if ty != .domain then .error (Abort.of aLength 0)
  else if key = Obj.EXCEPTION_LOG then .ok (s, decide (3145728 ≤ offset + n), logBytes s offset n)
  else
    let (b, s) := match popQueue? key with
      | some (c, q) => popRead src key c q offset s
      | none => readObject key ty s
    .ok (s, decide (b.length ≤ offset + n), slice b offset n)

/-! ### Writes -/

/-- ACCEPT_DEVICE with what the acceptance brings (R86, R135, R226). -/
def ownAccept (v : Val) (s : State) : Except Abort State :=
  match ownAcceptDevice v s with
  | .error a => .error a
  | .ok t => .ok (refreshLeadNeeded (returnFrontEnd v.toNat (setLead v.toNat 0 0 t)))

/-- Whether an object is a function state object (R369). -/
def isFnKey (key : Nat) : Bool := fnKeys.contains key

/-- What a write of a value does to the object at a key, its checks passed: a function state runs or stops its function,
a SAFE object enters the change log, an object with rules of its own follows them, every other object takes the value.
What such a write meets outside the module is neutral: nothing enumerated, no level energised, no attempt begun, an ABACUS image
that declares what the running kernel declares. -/
def ownWrite (src : ReqSource) (key : Nat) (v : Val) (s : State) : Except Abort State :=
  let idx := key / 65536
  let sub := key % 65536
  if isFnKey key then ownFunction [] key v s
  else if idx = 0x2A10 then ownVarValue sub v s
  else if idx = 0x2A11 then ownForceEntry sub v s
  else if 0x2E10 ≤ idx ∧ idx < 0x2E16 then ownUpdatePiece (idx - 0x2E10) sub v s
  else if idx = 0x6050 then ownStringCommand sub v s
  else if (idx = 0x2818 ∨ idx = 0x2819) ∧ 8 ≤ sub ∧ sub < 32 ∧ key = Obj.TX_BUFFER (idx - 0x2818) sub then ownTxBuffer (idx - 0x2818) sub v s
  else if key = Obj.P_SET then ownPSet v s
  else if key = Obj.ACCEPT_DEVICE then ownAccept v s
  else if key = Obj.LEAD_CAL_START then ownLeadCalStart v s
  else if key = Obj.CHECKPOINT_DEMAND then ownCheckpointDemand v s
  else if key = Obj.CHECKPOINT then ownCheckpoint v s
  else if key = Obj.SENSOR_RESET then ownSensorReset v s
  else if 0x2510 ≤ idx ∧ idx < 0x2520 ∧ key = Obj.MANUAL_OUT (idx - 0x2510) then ownManualOut (idx - 0x2510) v s
  else if key = Obj.PROT_RESET then ownProtReset v s
  else if key = Obj.WELD_CLEAR then ownWeldClear v s
  else if key = Obj.PROOF_START then ownProofStart v s
  else if key = Obj.SAFETY_LOGIN then ownSafetyLogin src v s
  else if key = Obj.SAFETY_PASSWORD_NEW then ownPasswordNew v s
  else if key = Obj.SAFETY_RESTART then ownSafetyRestart v s
  else if key = Obj.SAFE_RESET then ownSafeReset v s
  else if key = Obj.DISPATCH_COMMAND then ownDispatchCommand v s
  else if key = Obj.TX_REQUEST 0 then ownTxRequest 0 v s
  else if key = Obj.TX_REQUEST 1 then ownTxRequest 1 v s
  else if key = Obj.TX_CANCEL 0 then ownTxCancel 0 0 v s
  else if key = Obj.TX_CANCEL 1 then ownTxCancel 1 0 v s
  else if key = Obj.CONFIG_SAVE then ownConfigSave v s
  else if key = Obj.PROG_DEBUG then ownProgDebug v s
  else if key = Obj.PROG_STEP then ownProgStep v s
  else if key = Obj.PROGRAM_STAGED then ownProgramStaged v s
  else if key = Obj.EXCHANGE_REQUEST then ownExchangeRequest [] v s
  else if key = Obj.FIELD_RELEASE then ownFieldRelease v s
  else if key = Obj.SWAP_REQUEST then ownSwapRequest v s
  else if key = Obj.POWER_REQUEST then ownPowerRequest false v s
  else if key = Obj.POWER_RESTART then ownPowerRestart v s
  else if key = Obj.UPDATE_MANIFEST then ownUpdateManifest v s
  else if key = Obj.UPDATE_COMMAND then ownUpdateCommand s.kernel.head true v s
  else if key = Obj.RECORDER_COMMIT_NOW then ownCommitNow v s
  else if key = Obj.RECORDER_CLEAR then ownRecorderClear v s
  else
    match findRow key with
    | some (_, row) =>
      if row.access = .safe then ownSafeWrite key row.ty v s
      else
        if Obj.PROFILE_0 ≤ key ∧ key ≤ Obj.PROFILE_3 then .ok (refreshProfiles (s.put key v))
        else .ok (if row.access = .rws ∧ fnOf key ≠ 0 then stage key v s else s.put key v)
    | none => .error (Abort.of aNoObject 0)

/-- WRITE (R363, R373). -/
def genericWriteAct (r : Req) (idx sub : Nat) (s : State) : Except Abort (State × Bool × Bytes) :=
  if !Op.suits .write (typeOf idx sub) then .error (Abort.of aLength 0)
  else State.writeAct r idx sub (ownWrite r.src (objKey idx sub)) s

/-- DOMAIN_WRITE (R375): a piece at offset 0 starts or restarts the session's transfer, a later one begins where the one
before ended; the piece with LAST carries out the write of the whole value, which meets rows 8 to 12 of Table 15.4 in their order. -/
def domainWriteAct (r : Req) (idx sub offset : Nat) (last : Bool) (s : State) : Except Abort (State × Bool × Bytes) :=
  let key := objKey idx sub
  if typeOf idx sub != .domain || Nat.blt (dataLimit r.src) r.data.length then .error (Abort.of aLength 0) else
  let hold := s.idp.transfers.find? fun t => t.key == key
  if (hold.map fun t => t.src != r.src) = some true && !(last && offset == 0) then .error (Abort.of aBusy 0) else
  let before : Option Bytes := if offset = 0 then some [] else (hold.map Transfer.data).filter fun d => d.length == offset
  match before with
  | none => .error (Abort.of aSequence 0)
  | some d =>
    let all := d ++ r.data
    if last then State.writeAct { r with data := all } idx sub (ownWrite r.src key) s
    else
      let s := closeTransfer r.src key s
      .ok ({ s with idp := { s.idp with transfers := { src := r.src, key, data := all } :: s.idp.transfers } }, false, [])

/-! ### Writes that no session makes -/

/-- A binding of the control program reads an object (R391). -/
def progRead (key : Nat) (s : State) : Bytes × State := readObject key (typeOf (key / 65536) (key % 65536)) s

/-- A binding of the control program writes an object: the checks of Table 15.4 as for any other source (R366, R393). -/
def progWrite (key : Nat) (data : Bytes) (s : State) : Except Abort State :=
  let r := progReq data
  match s.checkAccess r progSession .write (key / 65536) (key % 65536) with
  | some a => .error a
  | none => (genericWriteAct r (key / 65536) (key % 65536) s).map (·.1)

/-- A function of the standby rests before a setting that differs reaches it in CONFIG, which the active module has taken while it
was STOPPED there: the CONFIG of its state that follows runs it again with what was applied, and stores it (R435, R450;
DEDUCED, log entry 192). -/
def restForConfig (g : ObjGroup) (row : ObjRow) (idx : Nat) (s : State) : State :=
  let key := g.fnKey idx
  if row.access = .rws ∧ s.n key = 1 then fnStopEffect key (s.putN key 0) else s

/-- A shared write of the active module reaches the standby (R435), which applies it; a write that it refuses makes it
UNSYNCED. A setting that it already holds changes nothing (R450). -/
def configReceived (idx sub : Nat) (data : Bytes) (s : State) : State :=
  if !s.standby then s else
  match findRow (objKey idx sub) with
  | none => s
  | some (g, row) =>
    if !row.shared idx then s else
    if row.access = .rws ∧ s.shown (objKey idx sub) = row.ty.decode data then s else
    let r : Req := { src := .program, tag := 0, data }
    let s := restForConfig g row idx s
    let res : Except Abort State :=
      match ({ s with idp := { s.idp with transfers := [] } }.putN Obj.PAIR_ROLE 0).checkValue r g row idx sub data with
      | some a => .error a
      | none => ownWrite .program (objKey idx sub) (row.ty.decode data) s
    match res with
    | .ok t => t
    | .error _ => ((s.putN Obj.PAIR_SYNC 0).putN Obj.SYNC_BLOCK 5).modDuo fun d => { d with cfgRefused := true }

/-- The output image of scan k reaches the objects that the snapshot's program binds, through the new active module (R404): a value
that the former module has not written yet, or one that the object does not read here. -/
def snapshotObjects (x : Snapshot) (s : State) : State :=
  s.forAll ((imAllBindings x.image).filter fun y => y.2.out && y.2.kind == 5) fun y s =>
    let key := objKey y.2.chan y.2.sub
    let v := varGet x.image x.data y.2.var
    if amGet? x.written y.1 != some v || (findRow key).any (fun r => r.2.access == .rw) && (progRead key s).1 != v then
      match progWrite key v s with
      | .ok t => t
      | .error a => ((s.refused a).inc Obj.WRITE_REFUSALS).putN Obj.WRITE_ABORT_LAST a.code
    else s

/-- A SNAPSHOT arrives (R404): the output image of the scan also reaches the objects; a command (WO object) that the former
module has issued is not issued again. -/
def snapshotEvent (x : Snapshot) (s : State) : State :=
  let t := snapshotReceived x s
  if t.n Obj.PROG_STATE ≠ 1 ∨ !t.pairActive then t else snapshotObjects x t

/-- The cells whose records the object bindings of a scan read (R28, R196). -/
def bindingRecords (b : Bytes) : List Nat :=
  (imAllBindings b).flatMap fun x => if x.2.kind = 5 ∧ !x.2.out then recordsRead x.2.chan x.2.sub 1 else []

/-- A scan of the program with what follows it: the records that its bindings read are checked (R196); the messages to the
partner (R405, R448), the release of the pads that waited for it (R411). -/
def scanEvent (micros : Nat) (scan : ScanRun) (s : State) : State :=
  if !s.scans then s else
  let s := programScan progRead progWrite micros scan.trap (readChecked (bindingRecords s.image) scan.words s)
  releaseAfterScan (handOver (programMessages s))

end Sys2Proof.Machine
end

