-- ==== Sys2Proof/Machine/Flags.lean ====
section
/-!
DEFINITION. What follows at once from the state, settled after every command: the commands of the DOs and their latches
(R410, R418), the pads that conduct (R21, R427, R504), the status objects that show other state, the ROLE_OUT line
(R429), the set-points (R320 to R324), responses over CAN (R379).
-/

namespace Sys2Proof.Machine

/-! ### Status objects -/

/-- Whether the pads of the module are held off as those of a STANDBY or a yielding module (R427, R429). -/
def State.padsHeld (s : State) : Bool := s.standby || s.safety.yield

/-- The level that the owner of DO `d` commands (R22, R411, R418): the running loop that names it, else the program. -/
def doLevel (s : State) (d : Nat) : Bool :=
  match (List.range 16).find? fun n => s.loopActs n && (s.n (Obj.OUT_A n) == d || s.n (Obj.OUT_B n) == d) with
  | some n => if s.n (Obj.OUT_A n) = d then (s.loop n).outA else (s.loop n).outB
  | none => s.progDo d

/-- DO_COMMAND (R410). -/
def showDos (s : State) : State := s.putN Obj.DO_COMMAND (maskOf 16 (doLevel s))

/-- The bits of CONTACTOR_STATUS that show command, readback and aux of a string's contactors (Table 11.15). -/
def showContactors (n : Nat) (s : State) : State :=
  let w := s.n (Obj.CONTACTOR_STATUS n)
  let live := fun (i : Nat) =>
    let m := 3 * n + i
    b2n (s.koCmd m) + 2 * b2n (s.koOn m) + 4 * b2n (s.auxMapped m && s.auxClosed m)
  let kept := maskOf 16 fun b => (b % 4 == 3 || 12 ≤ b) && bitOf w b
  s.putN (Obj.CONTACTOR_STATUS n) (kept + live 0 + 16 * live 1 + 256 * live 2)

/-- The objects that show what other state says. -/
def showStatus (s : State) : State :=
  let s := s.each s.asBuilt.strings showContactors
  let s := s.putN Obj.LOOPS_RUNNING (maskOf 16 fun n => s.n (Obj.LOOP_STATE n) == 1)
  let s := s.putN Obj.LOOPS_FAULT (maskOf 16 fun n => s.n (Obj.LOOP_STATE n) == 2)
  let s := (s.putB Obj.SWEEP_FREE_RUN (s.n Obj.M_STATE == mFree)).putB Obj.WINDOW_UNLOCKED s.sweep.unlockedK
  ((s.putB Obj.PROG_HELD (progHeld s)).putN Obj.TABLE_ROLE (tableRole s)).modDuo fun d => { d with roleOut := roleOutNow s }

/-! ### Latches and pads -/

/-- The latches of the pads follow the commands while FIELD_LATCHED is 0 (R410); those of a STANDBY module are off
(R427). -/
def settleLatches (s : State) : State :=
  if s.b Obj.FIELD_LATCHED then s
  else if s.padsHeld then s.modField fun x => { x with koLatch := 0, doLatch := 0 }
  else s.modField fun x => { x with koLatch := s.n Obj.KO_COMMAND, doLatch := s.n Obj.DO_COMMAND }

/-- DO `d` after an overload (R418): the bit clears when the command goes high again after at least 100 ms low. -/
def overloadStep (d : Nat) (s : State) : State :=
  if !bitOf (s.n Obj.DO_OVERLOAD) d then s else
  let low := amGet? s.field.doLow d
  if !bitOf s.field.doLatch d then
    (if low.isSome then s else s.modField fun x => { x with doLow := amSet x.doLow d s.lNow })
  else
    let t := s.modField fun x => { x with doLow := amErase x.doLow d }
    match low with
    | some l => if 100000000 ≤ s.lNow - l then t.putN Obj.DO_OVERLOAD (withBit (s.n Obj.DO_OVERLOAD) d false) else t
    | none => s

/-- The contactor outputs that conduct (R21, R427, R504): latched on, both controllers granting the string's enable, the
field side powered, the module not held off, the group path whole. -/
def padMask (s : State) : Nat :=
  maskOf 48 fun m => bitOf s.field.koLatch m && bitOf s.safety.x.en (m / 3) && bitOf s.safety.y.en (m / 3) &&
    s.field.powered && !s.padsHeld && !(s.field.tripped.any fun x => x.1 == koGroup m)

/-- The DOs that conduct (R418, R427). -/
def doMask (s : State) : Nat :=
  maskOf 16 fun d => bitOf s.field.doLatch d && s.field.powered && !s.padsHeld && !bitOf (s.n Obj.DO_OVERLOAD) d

/-- KO_SWITCHES counts each output that has switched off (R417). -/
def countSwitches (old new : Nat) (s : State) : State :=
  if old = new then s else
  s.each 48 fun m s => if bitOf old m && !bitOf new m then s.incW 64 (Obj.KO_SWITCHES m) else s

/-- The pads take their levels. -/
def drivePads (s : State) : State :=
  let t := countSwitches s.field.koPad (padMask s) (s.each 16 overloadStep)
  t.modField fun x => { x with koPad := padMask t, doPad := doMask t }

/-! ### Settling -/

/-- A response of the session over CAN becomes a service frame (R379). -/
def sendCanResponse (o : Output) (s : State) : State :=
  match o with
  | .response .can x => canResponse x s
  | _ => s

/-- What the core domain settles after a command. -/
def settleCore (s : State) : State :=
  let s := showStatus (showDos (dispatchWatch (loginFailed (watchWindow s))))
  s.forAll s.out sendCanResponse

/-- What settles after a command: the core domain's part while it has power, the latches, the pads. -/
def settle (s : State) : State := drivePads (settleLatches (if s.coreOn then settleCore s else s))

/-! ### The form of every command -/

/-- The state in which a command's effect begins: nothing is put out yet. -/
def began (s : State) : State := watchWindow s.cleared

/-- The state after a command that began in `s` and whose effect left `t`: what follows at once is settled; the queue and
what the module was built with stand as they stood. -/
def finish (s t : State) : State := { settle { t with asBuilt := s.asBuilt } with pending := s.pending, asBuilt := s.asBuilt }

/-- A command with the effect `f`. -/
def run (f : State → State) (s : State) : Host.Outcome State Fault Refusal := .next (finish s (f (began s)))

/-- The effect of a command that needs the core domain: none while it has no power (R452). -/
def core (f : State → State) (s : State) : State := if s.coreOn then f s else s

/-- The effect of a command that needs the carrier's supply: none without it (R452). -/
def carrier (f : State → State) (s : State) : State := if s.carrierOn then f s else s

/-- A command on a resource of the part: `ok` says whether the part has it (R1 to R3, R29). -/
def onPart (ok : Bool) (f : State → State) (s : State) : Host.Outcome State Fault Refusal :=
  if ok then run f s else .fault .absentResource

end Sys2Proof.Machine
end

