-- ==== Sys2Proof/Machine/Services.lean ====
section
/-!
DEFINITION. A CAN frame as every service of the module takes it (R347), IDP over CAN among them (R379); the resources of
the part that a command may name (R1 to R3, R29).
-/

namespace Sys2Proof.Machine

/-! ### IDP over CAN (R372, R373, R379) -/

/-- An operation on an object as a session asks for it (Table 15.9); a read of cell objects checks the records it reads (R196). -/
def request (op : Op) (idx sub : Nat) (r : Req) (s : State) : State :=
  s.request r op idx sub fun s =>
    match op with
    | .read => readAct r.src idx sub (readChecked (recordsRead idx sub 1) r.words s)
    | .write => genericWriteAct r idx sub s
    | .readRange count => readRangeAct r.src idx sub count (readChecked (recordsRead idx sub count) r.words s)
    | .domainRead offset length => domainReadAct r.src idx sub offset length s
    | .domainWrite offset last => domainWriteAct r idx sub offset last s
    | .push => .error (Abort.of aTransport 0)
    | .keepalive => .ok (s, false, [])
    | .other _ => .error (Abort.of aUnknownOp 0)

/-- The operation of a header (Tables 15.8, 15.9); a code of no operation is refused (R365). -/
def headerOp (b : Bytes) : Op :=
  match fieldU b 1 1 with
  | 1 => .read
  | 2 => .write
  | 3 => .readRange (fieldU b 16 2)
  | 4 => .domainRead (fieldU b 12 4) (fieldU b 18 2)
  | 5 => .domainWrite (fieldU b 12 4) (bitOf (fieldU b 20 1) 0)
  | 6 => .push
  | 7 => .keepalive
  | c => .other c

/-- The reserved fields of a request's header as one number: PDU_FLAGS from bit 1, bytes 21 to 23, ABORT (Table 15.8). -/
def headerReserved (b : Bytes) : Nat := fieldU b 20 1 / 2 + 2 ^ 8 * fieldU b 21 3 + 2 ^ 32 * fieldU b 8 4

/-- How many bytes of DATA follow a header: LENGTH, which in a DOMAIN_READ counts the bytes asked for. -/
def headerData (b : Bytes) : Nat := if fieldU b 1 1 = 4 then 0 else fieldU b 18 2

/-- A frame of the request identifier (R379): one whole PDU in the smallest frame that holds it. A frame of another
length, and a request before the response to the one before has left, are discarded. -/
def idpFromCan (f : CanFrame) (s : State) : State :=
  let b := f.data
  let n := 24 + headerData b
  if s.ethN Obj.IDP_CAN_ENABLE ≠ 1 ∨ f.channel ≠ s.ethN Obj.IDP_CAN_CHANNEL ∨ idWord f ≠ s.ethN Obj.IDP_CAN_REQ_ID ∨ !f.fd ∨
      b.length < 24 ∨ 64 < n ∨ b.length ≠ fdLength n ∨ idpCanBusy s then s
  else
    let op := fieldU b 1 1
    let r : Req := { src := .can, tag := fieldU b 2 2, version := fieldU b 0 1, op := if 1 ≤ op ∧ op ≤ 7 then none else some op,
                     reserved := headerReserved b, data := slice b 24 (headerData b) }
    request (headerOp b) (fieldU b 4 2) (fieldU b 6 2) r s

/-- Every service that a frame is for takes it (R347). -/
def serveFrame (f : CanFrame) (sofL : Nat) (s : State) : State :=
  idpFromCan f (qsfFromCan f (cmdCanFrame f (senseCan f (busVoltageFrame f (isoMessage f (pcsAngle f sofL s))))))

/-- CAN_FRAME_RECEIVED (R347): first every service that the frame is for, then the filter list. -/
def canFrameEvent (f : CanFrame) (esi : Bool) (sofL : Nat) (s : State) : State :=
  let (s, delivered) := canReceive f sofL s
  if !delivered then s else routeFrame f esi sofL (serveFrame f sofL s)

/-- A frame of a service on a channel that receives (R345, R347); an FD frame on a channel that runs the classical protocol is a
form error (R341). -/
def serviceRx (f : CanFrame) (g : CanFrame → State → State) (s : State) : State :=
  if !s.canHears f.channel || s.canMode f.channel == cmDetect then s
  else if f.fd && !s.b (Obj.FD_ENABLE f.channel) then canReceiveError f.channel { dataPhase := false } s
  else g f s

end Sys2Proof.Machine
end

