-- ==== Sys2Proof/Machine/Operands.lean ====
section
/-!
DEFINITION. The operand forms of the commands: which resources of the part an operand may name (R1 to R3, R29, Table 0.1),
and the two fixed forms of a request, a written value that the command's row fixes.
-/

namespace Sys2Proof.Machine

/-- A chain head of the part. -/
def hasHead (s : State) (h : Nat) : Bool := Nat.blt h s.asBuilt.heads
/-- A string of the part. -/
def hasString (s : State) (n : Nat) : Bool := Nat.blt n s.asBuilt.strings
/-- A contactor output of the part. -/
def hasContactor (s : State) (m : Nat) : Bool := Nat.blt m s.asBuilt.contactors
/-- A cell of the part. -/
def hasCell (s : State) (n : Nat) : Bool := Nat.blt n s.asBuilt.cells
/-- A temperature sensor of the part. -/
def hasSensor (s : State) (n : Nat) : Bool := Nat.blt n s.asBuilt.sensors
/-- A group of contactor outputs of the part (R415). -/
def hasGroup (s : State) (g : Nat) : Bool := Nat.blt g (s.asBuilt.contactors / 8)
/-- A value of a 16-bit field: an index or a subindex (R360). -/
def isU16 (n : Nat) : Bool := Nat.blt n 65536
/-- An element of one of the tables of thresholds and rules: 16 level thresholds, 8 rate thresholds, 16 rules. -/
def hasDwell (kind n : Nat) : Bool := (kind == 0 && Nat.blt n 16) || (kind == 1 && Nat.blt n 8) || (kind == 2 && Nat.blt n 16)

/-- A CAN channel (R337). -/
def hasChannel (c : Nat) : Bool := Nat.blt c 2

/-! ### Effects that several forms share -/

/-- What a STANDBY module does not do: sequences, loops, its part at the table (R437). -/
def acting (f : State → State) (s : State) : State := if s.standby then s else f s

/-- LOOP_TICK: held while the module hands its role over (R437, R448). -/
def loopEvent (s : State) : State := if s.duo.handing then s else loopTick s

/-- Whether a datagram belongs to a QSF connection over Ethernet (R308): port 48821, from QSF_PEER_ADDR. -/
def qsfFromPeer (c : Nat) (v : NetFrame) (s : State) : Bool :=
  s.n (Obj.QSF_TRANSPORT c) == 2 && v.udp == 48821 && v.addr == s.n (Obj.QSF_PEER_ADDR c)

/-- A QSF frame comes over Ethernet (R308, R309); those over CAN are CAN frames (R347). -/
def qsfEvent (c : Nat) (data : Bytes) (v : NetFrame) (s : State) : State :=
  viaNet v (fun s => if qsfFromPeer c v s then qsfReceive c data s else s) s

/-- A read of a FIFO or of the event queue (R350, R355). -/
def popRequest (key offset length : Nat) (r : Req) (s : State) : State :=
  request (.domainRead offset length) (key / 65536) (key % 65536) r s

/-- A DI changes: it reaches its users, and may wake the module (R414, R464). -/
def diEvent (n : Nat) (level : Bool) (s : State) : State := inputWake s (diChange n level s)

/-- ROLE_IN changes: without the core domain only its level is taken (R429). -/
def roleInEvent (level : Bool) (f : State → State) (s : State) : State :=
  if s.coreOn then f s else if s.carrierOn then s.putB Obj.ROLE_IN_STATE level else s

/-- A request whose written value the command's row fixes. -/
def writing (r : Req) (data : Bytes) : Req := { r with data }

end Sys2Proof.Machine
end

