-- ==== Sys2Proof/Machine/ExecCan.lean ====
section
/-!
DEFINITION. The meaning of each command of one family: the CAN FD channels.
-/

namespace Sys2Proof.Machine

/-- CAN_FRAME_RECEIVED (R347). A frame received without error goes to service filters and the filter list. -/
def execCanFrameReceived (f : CanFrame) (esi : Bool) (sofL : Nat) (s : State) : Host.Outcome State Fault Refusal :=
  onPart (hasChannel f.channel) (core (canFrameEvent f esi sofL)) s

/-- PROTOCOL_EXCEPTION (R340). A recessive res bit makes the controller wait for bus idle. -/
def execProtocolException (channel : Nat) (s : State) : Host.Outcome State Fault Refusal :=
  onPart (hasChannel channel) (core (Machine.protocolException channel)) s

/-- CAN_TX_DONE (R352). A transmit attempt completes, fails or is cancelled and TX_STATE updates. -/
def execCanTxDone (channel : Nat) (early : Option Nat) (outcome : TxOutcome) (sofL : Nat) (s : State) : Host.Outcome State Fault Refusal :=
  onPart (hasChannel channel) (core (Machine.canTxDone channel early outcome sofL)) s

/-- CAN_BUS_OFF (R344). The channel enters bus-off and it is logged. -/
def execCanBusOff (channel : Nat) (s : State) : Host.Outcome State Fault Refusal :=
  onPart (hasChannel channel) (core (Machine.canBusOff channel)) s

/-- BUSOFF_RECOVERY (R344). Bus-off recovery completes and pending buffers resume. -/
def execBusoffRecovery (channel : Nat) (s : State) : Host.Outcome State Fault Refusal :=
  onPart (hasChannel channel) (core (Machine.busoffRecovery channel)) s

/-- TX_REQUEST (R351). A write requests transmission of integrator buffers. -/
def execTxRequest (channel : Nat) (r : Req) (s : State) : Host.Outcome State Fault Refusal :=
  onPart (hasChannel channel) (core fun s => s.writeRequest r (Obj.TX_REQUEST channel) (ownTxRequest channel)) s

/-- TX_CANCEL (R353). A write requests cancellation of buffers. -/
def execTxCancel (channel begun : Nat) (r : Req) (s : State) : Host.Outcome State Fault Refusal :=
  onPart (hasChannel channel) (core fun s => s.writeRequest r (Obj.TX_CANCEL channel) (ownTxCancel channel begun)) s

/-- RX_FIFO_POP (R350). A read at offset 0 returns and removes the oldest FIFO entry. -/
def execRxFifoPop (channel fifo offset length : Nat) (r : Req) (s : State) : Host.Outcome State Fault Refusal :=
  onPart (hasChannel channel && Nat.blt fifo 2) (core (popRequest (if fifo = 0 then Obj.RX_FIFO0_POP channel else Obj.RX_FIFO1_POP channel) offset length r)) s

/-- TX_EVENT_POP (R355). A read at offset 0 returns and removes the oldest transmit event. -/
def execTxEventPop (channel offset length : Nat) (r : Req) (s : State) : Host.Outcome State Fault Refusal :=
  onPart (hasChannel channel) (core (popRequest (Obj.TX_EVENT_POP channel) offset length r)) s

/-- DETECT_DWELL_EXPIRY (R346). DETECT_DWELL passes and the next rate candidate is tried. -/
def execDetectDwellExpiry (channel : Nat) (s : State) : Host.Outcome State Fault Refusal :=
  onPart (hasChannel channel) (core (detectDwell channel)) s

/-- DETECT_TIMEOUT (R346). DETECT_TIMEOUT passes and the channel faults with DETECT_FAILED. -/
def execDetectTimeout (channel : Nat) (s : State) : Host.Outcome State Fault Refusal :=
  onPart (hasChannel channel) (core (Machine.detectTimeout channel)) s

/-- CAN_WAKE_PATTERN (R356). A wake-up pattern on the bus raises the CAN wake source. -/
def execCanWakePattern (channel : Nat) (s : State) : Host.Outcome State Fault Refusal :=
  onPart (hasChannel channel) (canWake channel) s

/-- CAN_RECEIVE_ERROR (R346). A stuff, form or CRC error is detected in a frame being received on a channel. -/
def execCanReceiveError (channel : Nat) (error : RxError) (s : State) : Host.Outcome State Fault Refusal :=
  onPart (hasChannel channel) (core (Machine.canReceiveError channel error)) s

end Sys2Proof.Machine
end

