-- ==== Sys2Proof/Machine/ExecCells.lean ====
section
/-!
DEFINITION. The meaning of each command of one family: the Abacus, balancing, the anchors and the custody of estimator state.
-/

namespace Sys2Proof.Machine

/-- ABACUS_DEADLINE (R182). At t0 + T − 2 ms unblocked cells are STALE and unused fresh cells DEFERRED. -/
def execAbacusDeadline (s : State) : Host.Outcome State Fault Refusal :=
  run (core Machine.abacusDeadline) s

/-- CELL_UPDATE_DONE (R156). A rod finishes a cell update and stores the record whole. -/
def execCellUpdateDone (rod cell : Nat) (errs : List WordErr) (mirror : Option (CpRec × Rat)) (s : State) : Host.Outcome State Fault Refusal :=
  onPart (Nat.blt rod 16 && hasCell s cell) (core (updateEvent rod cell errs mirror)) s

/-- KERNEL_OVERRUN (R177). An update that issued its worst cost is stopped and the cell DEFERRED. -/
def execKernelOverrun (rod cell : Nat) (s : State) : Host.Outcome State Fault Refusal :=
  onPart (Nat.blt rod 16 && hasCell s cell) (core (Machine.kernelOverrun rod cell)) s

/-- SCRUB_WORD (R196). The scrubber reads a protected word, corrects and writes it back. -/
def execScrubWord (w : WordErr) (s : State) : Host.Outcome State Fault Refusal :=
  run (core (scrubEvent w)) s

/-- BALANCE_SEND (R125). BALANCE frames are sent every BALANCE_PERIOD or after an inhibit change. -/
def execBalanceSend (periodic : Bool) (s : State) : Host.Outcome State Fault Refusal :=
  run (core (Machine.balanceSend periodic)) s

/-- LEAD_CAL_START (R133). A write starts the lead calibration of one or all front-ends. -/
def execLeadCalStart (r : Req) (s : State) : Host.Outcome State Fault Refusal :=
  run (core fun s => s.writeRequest r Obj.LEAD_CAL_START ownLeadCalStart) s

/-- LEAD_CAL_TIMEOUT (R133). A front-end not complete after 30 × LEAD_CAL_REPEATS sweeps is abandoned. -/
def execLeadCalTimeout (s : State) : Host.Outcome State Fault Refusal :=
  run (core calTimeout) s

/-- ANCHOR_ARM (R164). An anchor timer reaches its hold time and arms its anchor. -/
def execAnchorArm (string : Nat) (s : State) : Host.Outcome State Fault Refusal :=
  onPart (hasString s string) (core (Machine.anchorArm string)) s

/-- ANCHOR_TIMER_EXPIRY (R164). After 2 s of stale or invalid sweeps the anchor timer resets. -/
def execAnchorTimerExpiry (string : Nat) (s : State) : Host.Outcome State Fault Refusal :=
  onPart (hasString s string) (core (anchorExpiry string)) s

/-- PARTNER_PREFERENCE_EXPIRY (R204). PARTNER_PREFERENCE passes and a held host checkpoint may be applied. -/
def execPartnerPreferenceExpiry (s : State) : Host.Outcome State Fault Refusal :=
  run (core (armHost true)) s

/-- RESTORE_TIMEOUT_EXPIRY (R204). RESTORE_TIMEOUT passes without a restore and the estimator starts cold. -/
def execRestoreTimeoutExpiry (s : State) : Host.Outcome State Fault Refusal :=
  run (core restoreTimeout) s

/-- CHECKPOINT (R209). A completed write of a host checkpoint is checked and accepted or refused. -/
def execCheckpoint (r : Req) (s : State) : Host.Outcome State Fault Refusal :=
  run (core fun s => s.writeRequest r Obj.CHECKPOINT ownCheckpoint) s

/-- CHECKPOINT_PERIOD_EXPIRY (R211). CHECKPOINT_PERIOD passes and a paced generation starts. -/
def execCheckpointPeriodExpiry (s : State) : Host.Outcome State Fault Refusal :=
  run (core (generationDue 0)) s

/-- CHECKPOINT_DEMAND (R211). A write starts a generation or makes the running one unpaced; the records it reads are checked
(R196). -/
def execCheckpointDemand (r : Req) (s : State) : Host.Outcome State Fault Refusal :=
  run (core fun s => s.writeRequest r Obj.CHECKPOINT_DEMAND fun v s => ownCheckpointDemand v (readChecked (s.mappedCells.map (·.1)) r.words s)) s

/-- PUSH_CONFIRM (R378). A peer confirms a PUSH piece; the last confirmation completes the transfer. -/
def execPushConfirm (peer offset : Nat) (abort : Nat) (s : State) : Host.Outcome State Fault Refusal :=
  onPart (Nat.blt peer 16) (core (Machine.pushConfirm peer offset abort)) s

/-- PUSH_RETRY (R378). An unconfirmed piece is resent after 200 ms, failing the transfer after five attempts. -/
def execPushRetry (piece : PushRef) (s : State) : Host.Outcome State Fault Refusal :=
  onPart (Nat.blt piece.peer 16) (core (Machine.pushRetry piece)) s

end Sys2Proof.Machine
end

