-- ==== Sys2Proof/Machine/ExecDictionary.lean ====
section
/-!
DEFINITION. The meaning of each command of one family: the object dictionary, the sessions and the Ethernet ports.
-/

namespace Sys2Proof.Machine

/-- READ (R373). An IDP READ returns an object value. -/
def execRead (index sub : Nat) (r : Req) (s : State) : Host.Outcome State Fault Refusal :=
  onPart (isU16 index && isU16 sub) (core (request .read index sub r)) s

/-- WRITE (R363). An IDP WRITE to an object without a row of its own. -/
def execWrite (index sub : Nat) (r : Req) (s : State) : Host.Outcome State Fault Refusal :=
  onPart (isU16 index && isU16 sub) (core (request .write index sub r)) s

/-- READ_RANGE (R373). An IDP READ_RANGE returns consecutive elements. -/
def execReadRange (index sub count : Nat) (r : Req) (s : State) : Host.Outcome State Fault Refusal :=
  onPart (isU16 index && isU16 sub) (core (request (.readRange count) index sub r)) s

/-- DOMAIN_READ (R373). An IDP DOMAIN_READ returns a piece of a DOMAIN. -/
def execDomainRead (index sub offset length : Nat) (r : Req) (s : State) : Host.Outcome State Fault Refusal :=
  onPart (isU16 index && isU16 sub) (core (request (.domainRead offset length) index sub r)) s

/-- DOMAIN_WRITE (R375). An IDP DOMAIN_WRITE piece extends a transfer that applies whole at LAST. -/
def execDomainWrite (index sub offset : Nat) (last : Bool) (r : Req) (s : State) : Host.Outcome State Fault Refusal :=
  onPart (isU16 index && isU16 sub) (core (request (.domainWrite offset last) index sub r)) s

/-- PUSH (R373). A PUSH request sent to the module is refused. -/
def execPush (r : HeadReq) (s : State) : Host.Outcome State Fault Refusal :=
  run (core (request .push r.index r.sub r.req)) s

/-- KEEPALIVE (R373). An IDP KEEPALIVE is answered. -/
def execKeepalive (r : HeadReq) (s : State) : Host.Outcome State Fault Refusal :=
  run (core (request .keepalive r.index r.sub r.req)) s

/-- TRANSFER_LAPSE (R375). A DOMAIN transfer lapses after 10 s without a piece. -/
def execTransferLapse (index sub : Nat) (s : State) : Host.Outcome State Fault Refusal :=
  onPart (isU16 index && isU16 sub) (core (Machine.transferLapse (objKey index sub))) s

/-- FUNCTION_RUN (R369). A RUN of a function runs its checks and arms it. -/
def execFunctionRun (index sub : Nat) (r : Req) (found : List EnumHead) (s : State) : Host.Outcome State Fault Refusal :=
  onPart (isFnKey (objKey index sub)) (core fun s => s.writeRequest (writing r [1]) (objKey index sub) (ownFunction found (objKey index sub))) s

/-- FUNCTION_STOP (R369). A STOP of a function stops it unless refused. -/
def execFunctionStop (index sub : Nat) (r : Req) (s : State) : Host.Outcome State Fault Refusal :=
  onPart (isFnKey (objKey index sub)) (core fun s => s.writeRequest (writing r [0]) (objKey index sub) (ownFunction [] (objKey index sub))) s

/-- CONFIG_SAVE (R370). A write stores the RW objects to flash. -/
def execConfigSave (r : Req) (s : State) : Host.Outcome State Fault Refusal :=
  run (core fun s => s.writeRequest (writing r [1]) Obj.CONFIG_SAVE ownConfigSave) s

/-- SESSION_HANDSHAKE (R377). A DTLS handshake opens an IDP session for a matching peer. -/
def execSessionHandshake (fingerprint : Bytes) (via : NetFrame) (s : State) : Host.Outcome State Fault Refusal :=
  run (core (viaNet via (Machine.sessionHandshake fingerprint via))) s

/-- IDP_IDLE_TIMEOUT (R377). A session without a valid datagram for IDP_IDLE_TIMEOUT ends. -/
def execIdpIdleTimeout (peer : Nat) (s : State) : Host.Outcome State Fault Refusal :=
  onPart (Nat.blt peer 16) (core (endSession peer)) s

/-- NET_CONFIRM_TIMEOUT (R384). No session within NET_CONFIRM_TIME reverts the Ethernet settings. -/
def execNetConfirmTimeout (s : State) : Host.Outcome State Fault Refusal :=
  run (core Machine.netConfirmTimeout) s

/-- SUPERVISION_FRAME_SEND (R382). PRP or HSR supervision frames are sent every RED_SUPERVISION. -/
def execSupervisionFrameSend (s : State) : Host.Outcome State Fault Refusal :=
  run (core supervisionSend) s

/-- SOLICIT (R385). A received SOLICIT schedules an ANNOUNCE after a random delay. -/
def execSolicit (data : Bytes) (via : NetFrame) (s : State) : Host.Outcome State Fault Refusal :=
  run (core (viaNet via (solicitReceived data))) s

/-- ANNOUNCE (R385). The module sends its discovery ANNOUNCE. -/
def execAnnounce (s : State) : Host.Outcome State Fault Refusal :=
  run (core announceSend) s

/-- CONFIG_RECEIVED (R435). The standby applies a shared configuration write. -/
def execConfigReceived (index sub : Nat) (data : Bytes) (s : State) : Host.Outcome State Fault Refusal :=
  onPart (isU16 index && isU16 sub) (core (Machine.configReceived index sub data)) s

/-- ETHERNET_LINK_CHANGE (R387). The link on P1, P2 or PAIR comes up or goes down. -/
def execEthernetLinkChange (port : Nat) (up : Bool) (s : State) : Host.Outcome State Fault Refusal :=
  onPart (Nat.blt port 3) (core (linkChange port up)) s

end Sys2Proof.Machine
end

