-- ==== Sys2Proof/Machine/ExecDispatch.lean ====
section
/-!
DEFINITION. The meaning of each command of one family: dispatch and the plant table.
-/

namespace Sys2Proof.Machine

/-- DISPATCH_COMMAND (R328). A write gives a fresh IDP command value. -/
def execDispatchCommand (r : Req) (s : State) : Host.Outcome State Fault Refusal :=
  run (core fun s => s.writeRequest r Obj.DISPATCH_COMMAND ownDispatchCommand) s

/-- CMD_CAN_FRAME (R328). A command frame gives a fresh CAN command value. -/
def execCmdCanFrame (f : CanFrame) (s : State) : Host.Outcome State Fault Refusal :=
  onPart (hasChannel f.channel) (core (serviceRx f Machine.cmdCanFrame)) s

/-- CMD_LOST (R328). No fresh command for CMD_TIMEOUT applies CMD_FALLBACK. -/
def execCmdLost (s : State) : Host.Outcome State Fault Refusal :=
  run (core (acting Machine.cmdLost)) s

/-- SETPOINT_FRAME_SEND (R326). A set-point frame is sent every SETPOINT_PERIOD or on change. -/
def execSetpointFrameSend (string : Nat) (s : State) : Host.Outcome State Fault Refusal :=
  onPart (hasString s string) (core (setpointFrame string)) s

/-- TABLE_CYCLE_START (R330). At t_n every seat sends its OFFER. -/
def execTableCycleStart (s : State) : Host.Outcome State Fault Refusal :=
  run (core (acting Machine.tableCycleStart)) s

/-- OFFER_RECEIVED (R329). A table OFFER is authenticated and recorded. -/
def execOfferReceived (data : Bytes) (via : NetFrame) (s : State) : Host.Outcome State Fault Refusal :=
  run (core (viaNet via (Machine.offerReceived data))) s

/-- DEAL_SEND (R330). At t_n + 30 ms the dealer deals the plant command and sends DEAL. -/
def execDealSend (s : State) : Host.Outcome State Fault Refusal :=
  run (core (acting Machine.dealSend)) s

/-- DEAL_RECEIVED (R330). A DEAL is accepted and the seat takes its share. -/
def execDealReceived (data : Bytes) (via : NetFrame) (s : State) : Host.Outcome State Fault Refusal :=
  run (core (viaNet via (Machine.dealReceived data))) s

/-- TABLE_CYCLE_CHECK (R330). At t_n + 70 ms a seat without a DEAL counts a missed cycle. -/
def execTableCycleCheck (s : State) : Host.Outcome State Fault Refusal :=
  run (core (acting Machine.tableCycleCheck)) s

/-- DEAL_HOLD_MAX_EXPIRY (R333). DEAL_HOLD_MAX without a DEAL sets the command to 0 and TABLE_LOST. -/
def execDealHoldMaxExpiry (s : State) : Host.Outcome State Fault Refusal :=
  run (core (acting dealHoldMax)) s

/-- CAL_MAX_TIME_EXPIRY (R335). CAL_MAX_TIME aborts the calibration charge. -/
def execCalMaxTimeExpiry (s : State) : Host.Outcome State Fault Refusal :=
  run (core (acting calMaxTime)) s

/-- CAL_SHORTFALL_TIMEOUT (R335). A shortfall above 0 for 1 s aborts the calibration charge. -/
def execCalShortfallTimeout (s : State) : Host.Outcome State Fault Refusal :=
  run (core (acting calShortfall)) s

end Sys2Proof.Machine
end

