-- ==== Sys2Proof/Machine/ExecField.lean ====
section
/-!
DEFINITION. The meaning of each command of one family: field inputs and outputs.
-/

namespace Sys2Proof.Machine

/-- FIELD_CYCLE (R408). Each 1 ms field cycle reads back outputs, inputs and drives pads. -/
def execFieldCycle (x : FieldSample) (s : State) : Host.Outcome State Fault Refusal :=
  run (fieldEvent x) s

/-- FIELD_RESTART (R408). Barrier power returns and the field side restarts with pads off and latches cleared. -/
def execFieldRestart (x : FieldSample) (s : State) : Host.Outcome State Fault Refusal :=
  run (carrier (Machine.fieldRestart x)) s

/-- FIELD_SUPPLY_FAULT (R408). The barrier supply out of limits for 1 ms raises FIELD_SUPPLY_FAULT. -/
def execFieldSupplyFault (s : State) : Host.Outcome State Fault Refusal :=
  run (carrier Machine.fieldSupplyFault) s

/-- DIE_RESET (R410). A controller die reset keeps pad latches and sets FIELD_LATCHED. -/
def execDieReset (s : State) : Host.Outcome State Fault Refusal :=
  run Machine.dieReset s

/-- FIELD_RELEASE (R411). A write releases the pad latches to their owners' commands. -/
def execFieldRelease (r : Req) (s : State) : Host.Outcome State Fault Refusal :=
  run (core fun s => s.writeRequest (writing r [1]) Obj.FIELD_RELEASE ownFieldRelease) s

/-- DI_CHANGE (R414). A filtered DI value changes and reaches its users. -/
def execDiChange (n : Nat) (level : Bool) (s : State) : Host.Outcome State Fault Refusal :=
  onPart (Nat.blt n 32) (carrier (diEvent n level)) s

/-- AI_SETTLED (R420). An AI in range for 100 ms becomes VALID. -/
def execAiSettled (n : Nat) (s : State) : Host.Outcome State Fault Refusal :=
  onPart (Nat.blt n 4) (carrier fun s => core aiCommand (Machine.aiSettled n s)) s

/-- PI_GATE_END (R421). A pulse input gate ends and frequency and duty are computed. -/
def execPiGateEnd (n : Nat) (rises falls : List Nat) (s : State) : Host.Outcome State Fault Refusal :=
  onPart (Nat.blt n 2) (carrier fun s => if s.coreOn then gateEvent n rises falls s else Machine.piGateEnd n rises falls s) s

/-- PI_TIMEOUT (R421). PI_TIMEOUT without two edges makes the input LOST. -/
def execPiTimeout (n : Nat) (s : State) : Host.Outcome State Fault Refusal :=
  onPart (Nat.blt n 2) (carrier (Machine.piTimeout n)) s

/-- KG_WINDOW_END (R415). A 1 s group current window ends and overloads are counted. -/
def execKgWindowEnd (last : List Rat) (s : State) : Host.Outcome State Fault Refusal :=
  run (carrier (Machine.kgWindowEnd last)) s

/-- KO_CLAMP_MEASURED (R416). A switch-off clamp ends and its energy is recorded. -/
def execKoClampMeasured (m : Nat) (current time : Rat) (s : State) : Host.Outcome State Fault Refusal :=
  onPart (hasContactor s m) (carrier (Machine.koClampMeasured m current time)) s

/-- DO_OVERTEMP (R418). A DO driver switches off at overtemperature and sets DO_OVERLOAD. -/
def execDoOvertemp (n : Nat) (s : State) : Host.Outcome State Fault Refusal :=
  onPart (Nat.blt n 16) (carrier (Machine.doOvertemp n)) s

/-- KG_PATH_TRIP (R504). A group path trips and switches off all eight outputs. -/
def execKgPathTrip (g : Nat) (s : State) : Host.Outcome State Fault Refusal :=
  onPart (hasGroup s g) (carrier (Machine.kgPathTrip g)) s

end Sys2Proof.Machine
end

