-- ==== Sys2Proof/Machine/ExecHeat.lean ====
section
/-!
DEFINITION. The meaning of each command of one family: temperature and the thermal loops.
-/

namespace Sys2Proof.Machine

/-- SENSOR_FAILED (R226). The suspect timer or three open/short raw values make a sensor FAILED and substituted. -/
def execSensorFailed (sensor cause : Nat) (s : State) : Host.Outcome State Fault Refusal :=
  onPart (hasSensor s sensor) (core (Machine.sensorFailed sensor cause)) s

/-- SENSOR_RESET (R226). A write returns a FAILED sensor to OK. -/
def execSensorReset (r : Req) (s : State) : Host.Outcome State Fault Refusal :=
  run (core fun s => s.writeRequest r Obj.SENSOR_RESET ownSensorReset) s

/-- THRESHOLD_DWELL (R229). A level, rate or protection rule element holds its condition for the dwell and changes state. -/
def execThresholdDwell (kind n element : Nat) (s : State) : Host.Outcome State Fault Refusal :=
  onPart (hasDwell kind n) (core (dwellEvent kind n element)) s

/-- MODULE_DIE_READ (R234). Every 100 ms the module die sensors are read and die thresholds evaluated. -/
def execModuleDieRead (temps : List Rat) (s : State) : Host.Outcome State Fault Refusal :=
  run (carrier (dieEvent temps)) s

/-- LOOP_TICK (R246). Every 1 ms each running thermal loop runs its law and drives its output. -/
def execLoopTick (s : State) : Host.Outcome State Fault Refusal :=
  run (core (acting loopEvent)) s

/-- HANDOVER_FORCED (R254). HANDOVER_MAX passes and the hand-over is ended by force. -/
def execHandoverForced (loop : Nat) (s : State) : Host.Outcome State Fault Refusal :=
  onPart (Nat.blt loop 16) (core (acting (Machine.handoverForced loop))) s

/-- SENSE_LOST (R243). A sensed value invalid for SENSE_TIMEOUT faults the loop. -/
def execSenseLost (loop : Nat) (s : State) : Host.Outcome State Fault Refusal :=
  onPart (Nat.blt loop 16) (core (acting (Machine.senseLost loop))) s

/-- PLAUSIBILITY_FAULT (R255). A residual above PLAUS_LIMIT for PLAUS_TIME faults the loop. -/
def execPlausibilityFault (loop : Nat) (s : State) : Host.Outcome State Fault Refusal :=
  onPart (Nat.blt loop 16) (core (acting (Machine.plausibilityFault loop))) s

/-- LOOP_FRAME_SEND (R250). A loop with a CAN output sends its frame on change or every 100 ms. -/
def execLoopFrameSend (loop : Nat) (s : State) : Host.Outcome State Fault Refusal :=
  onPart (Nat.blt loop 16) (core (acting (loopFrame loop))) s

/-- SENSE_CAN_FRAME (R242). A CAN frame updates a loop's coolant temperature. -/
def execSenseCanFrame (f : CanFrame) (s : State) : Host.Outcome State Fault Refusal :=
  onPart (hasChannel f.channel) (core (serviceRx f senseCan)) s

/-- LAW_REQ (R253). A write changes the loop law and starts a hand-over. -/
def execLawReq (loop : Nat) (r : Req) (s : State) : Host.Outcome State Fault Refusal :=
  onPart (Nat.blt loop 16) (core fun s => s.writeRequest r (Obj.LAW_REQ loop) (storeOnly (Obj.LAW_REQ loop))) s

/-- MANUAL (R253). A write changes between AUTO and MANUAL and starts a hand-over. -/
def execManual (loop : Nat) (r : Req) (s : State) : Host.Outcome State Fault Refusal :=
  onPart (Nat.blt loop 16) (core fun s => s.writeRequest r (Obj.MANUAL loop) (storeOnly (Obj.MANUAL loop))) s

/-- MANUAL_OUT (R253). A write sets the manual level or adds pulses to PENDING. -/
def execManualOut (loop : Nat) (r : Req) (s : State) : Host.Outcome State Fault Refusal :=
  onPart (Nat.blt loop 16) (core fun s => s.writeRequest r (Obj.MANUAL_OUT loop) (ownManualOut loop)) s

end Sys2Proof.Machine
end

