-- ==== Sys2Proof/Machine/ExecPair.lean ====
section
/-!
DEFINITION. The meaning of each command of one family: the pair.
-/

namespace Sys2Proof.Machine

/-- PAIR_HEARTBEAT_SEND (R430). Every 1 ms each module sends HEARTBEAT and the active module CONTROL; a module in
FAILED_START reports READY = 0 (R455). -/
def execPairHeartbeatSend (s : State) : Host.Outcome State Fault Refusal :=
  run heartbeatEvent s

/-- PAIR_HEARTBEAT_RECEIVED (R430). A partner heartbeat is received and synchronisation evaluated. -/
def execPairHeartbeatReceived (h : Heartbeat) (s : State) : Host.Outcome State Fault Refusal :=
  run (core (heartbeatReceived h)) s

/-- HEARTBEAT_MISS (R431). 1.1 ms without a heartbeat counts a miss. -/
def execHeartbeatMiss (s : State) : Host.Outcome State Fault Refusal :=
  run (core Machine.heartbeatMiss) s

/-- CONTROL_RECEIVED (R430). The standby takes sequencer, loop and dispatch states from CONTROL. -/
def execControlReceived (c : Control) (s : State) : Host.Outcome State Fault Refusal :=
  run (core (Machine.controlReceived c)) s

/-- SWEEP_MESSAGE_RECEIVED (R430). The standby takes the sweep schedule and string values. -/
def execSweepMessageReceived (m : SweepMsg) (s : State) : Host.Outcome State Fault Refusal :=
  run (core (sweepReceived m)) s

/-- MIRROR_RECEIVED (R439). Mirror entries update the standby's mirror store. -/
def execMirrorReceived (entries : List Bytes) (s : State) : Host.Outcome State Fault Refusal :=
  run (core (Machine.mirrorReceived entries)) s

/-- PROGRAM_MESSAGE_RECEIVED (R405). The standby keeps the mirrored variables, forces and output image. -/
def execProgramMessageReceived (p : ProgMsg) (s : State) : Host.Outcome State Fault Refusal :=
  run (core (programReceived p)) s

/-- RESTORE_RECEIVED (R205). A partner restore offer is received. -/
def execRestoreReceived (x : Restore) (s : State) : Host.Outcome State Fault Refusal :=
  run (core (Machine.restoreReceived x)) s

/-- ROLE_IN_ASSERTED (R429). ROLE_IN asserted with own ROLE_OUT open makes the safety controllers yield. -/
def execRoleInAsserted (s : State) : Host.Outcome State Fault Refusal :=
  run (carrier Machine.roleInAsserted) s

/-- ROLE_IN_DEASSERTED (R440). ROLE_IN deasserted starts a takeover in a SYNCED standby. -/
def execRoleInDeasserted (s : State) : Host.Outcome State Fault Refusal :=
  run (roleInEvent false Machine.roleInDeasserted) s

/-- ROLE_COLLISION (R433). Both ROLE_OUT asserted for 1 ms: position 2 yields and becomes STANDBY. -/
def execRoleCollision (s : State) : Host.Outcome State Fault Refusal :=
  run (core Machine.roleCollision) s

/-- SPLIT_DETECTED (R433). Link loss with ROLE_IN asserted 2 ms longer sets SPLIT_DETECTED. -/
def execSplitDetected (s : State) : Host.Outcome State Fault Refusal :=
  run (core Machine.splitDetected) s

/-- ALIVE_LOST (R429). No die alive signal for 2.1 ms opens the ROLE_OUT switches. -/
def execAliveLost (s : State) : Host.Outcome State Fault Refusal :=
  run (carrier Machine.aliveLost) s

/-- PAIR_START_WAIT_EXPIRY (R432). A position-2 module ends its wait and becomes ACTIVE. -/
def execPairStartWaitExpiry (s : State) : Host.Outcome State Fault Refusal :=
  run (core (endStartWait 1)) s

/-- TP_DRIVE_STOP (R428). 100 ms after heartbeats stop without takeover the standby stops driving TP. -/
def execTpDriveStop (s : State) : Host.Outcome State Fault Refusal :=
  run (carrier Machine.tpDriveStop) s

/-- SWAP_DUE (R446). ROLE_SWAP_TIME is reached and a planned swap falls due. -/
def execSwapDue (s : State) : Host.Outcome State Fault Refusal :=
  run (core Machine.swapDue) s

/-- SWAP_REQUEST (R446). A write makes a planned swap due at once. -/
def execSwapRequest (r : Req) (s : State) : Host.Outcome State Fault Refusal :=
  run (core fun s => s.writeRequest (writing r [1]) Obj.SWAP_REQUEST ownSwapRequest) s

/-- SWAP_SKIP (R447). A swap not started within 1 h is skipped. -/
def execSwapSkip (s : State) : Host.Outcome State Fault Refusal :=
  run (core Machine.swapSkip) s

end Sys2Proof.Machine
end

