-- ==== Sys2Proof/Machine/ExecPower.lean ====
section
/-!
DEFINITION. The meaning of each command of one family: power states, start-up and brown-out.
-/

namespace Sys2Proof.Machine

/-- COLD_START (R454). The supply monitors release the carrier and start-up begins. -/
def execColdStart (s : State) : Host.Outcome State Fault Refusal :=
  run Machine.coldStart s

/-- START_STEP_DONE (R454). A start-up step completes and the next begins. -/
def execStartStepDone (x : StartObs) (s : State) : Host.Outcome State Fault Refusal :=
  run (Machine.startStepDone x) s

/-- REGULATOR_RETRY (R454). No power-good within 20 ms switches regulators off for a retry. -/
def execRegulatorRetry (s : State) : Host.Outcome State Fault Refusal :=
  run Machine.regulatorRetry s

/-- WELL_TONE_LOSS (R463). Tone absent for 32 µs raises the TONE wake source. -/
def execWellToneLoss (s : State) : Host.Outcome State Fault Refusal :=
  run toneLoss s

/-- CHAIN_ACTIVITY (R92). Chain activity at a sleeping head raises the CHAIN wake source. -/
def execChainActivity (s : State) : Host.Outcome State Fault Refusal :=
  run (wake 1) s

/-- WAKE_ON_LAN (R464). A magic packet raises the ETHERNET wake source. -/
def execWakeOnLan (s : State) : Host.Outcome State Fault Refusal :=
  run (wake 3) s

/-- WAKE_TIMER_EXPIRY (R464). WAKE_TIMER passes and raises the TIMER wake source. -/
def execWakeTimerExpiry (s : State) : Host.Outcome State Fault Refusal :=
  run wakeTimer s

/-- WATCH_SCAN (R462). Every WATCH_PERIOD the watch engine scans each chain against the watch limits. -/
def execWatchScan (trains : List (Nat × Option Train)) (s : State) : Host.Outcome State Fault Refusal :=
  onPart (trains.all fun x => hasHead s x.1) (Machine.watchScan trains) s

/-- POWER_REQUEST_WATCH (R458). A write requests WATCH and starts an entry handshake. -/
def execPowerRequestWatch (r : Req) (s : State) : Host.Outcome State Fault Refusal :=
  run (core fun s => s.writeRequest (writing r [1]) Obj.POWER_REQUEST (ownPowerRequest false)) s

/-- POWER_REQUEST_DORMANT (R458). A write requests DORMANT and starts an entry handshake. -/
def execPowerRequestDormant (r : Req) (s : State) : Host.Outcome State Fault Refusal :=
  run (core fun s => s.writeRequest (writing r [2]) Obj.POWER_REQUEST (ownPowerRequest false)) s

/-- POWER_REQUEST_TRANSPORT (R458). A write requests TRANSPORT and starts an entry handshake. -/
def execPowerRequestTransport (r : Req) (energised : Bool) (s : State) : Host.Outcome State Fault Refusal :=
  run (core fun s => s.writeRequest (writing r [3]) Obj.POWER_REQUEST (ownPowerRequest energised)) s

/-- HANDSHAKE_ANSWER (R459). A block answers ACCEPT, DELAY or REFUSE to the entry handshake; the pair block of a sleeping module
hears of its partner's wake (R465). -/
def execHandshakeAnswer (block partner : Nat) (s : State) : Host.Outcome State Fault Refusal :=
  onPart (Nat.blt 0 block && Nat.blt block 8) (fun s => if s.coreOn then Machine.handshakeAnswer block partner s else partnerWakes block partner s) s

/-- HANDSHAKE_DELAY_EXPIRY (R459). A block's delay runs out and it is asked again. -/
def execHandshakeDelayExpiry (block : Nat) (s : State) : Host.Outcome State Fault Refusal :=
  onPart (Nat.blt 0 block && Nat.blt block 8) (core (Machine.handshakeDelayExpiry block)) s

/-- HANDSHAKE_TIMEOUT (R459). 5 s without all ACCEPT ends the request with TIMEOUT. -/
def execHandshakeTimeout (s : State) : Host.Outcome State Fault Refusal :=
  run (core Machine.handshakeTimeout) s

/-- TRANSPORT_RELEASE (R461). Supply with TRANSPORT_RELEASE energised for 100 ms returns the module by a cold start. -/
def execTransportRelease (supply : Bool) (s : State) : Host.Outcome State Fault Refusal :=
  run (Machine.transportRelease supply) s

/-- BROWNOUT_RAISED (R466). Input below 16 V for 1 ms raises BROWNOUT. -/
def execBrownoutRaised (s : State) : Host.Outcome State Fault Refusal :=
  run Machine.brownoutRaised s

/-- BROWNOUT_CLEARED (R466). Input above 17 V for 100 ms clears BROWNOUT. -/
def execBrownoutCleared (s : State) : Host.Outcome State Fault Refusal :=
  run (carrier Machine.brownoutCleared) s

/-- HOLDUP_RECOMPUTE (R466). Every 10 ms HOLDUP_REMAINING is recomputed. -/
def execHoldupRecompute (energy load v1 v2 : Rat) (s : State) : Host.Outcome State Fault Refusal :=
  run (Machine.holdupRecompute energy load v1 v2) s

/-- CARRIER_POWER_LOST (R467). After final stop, or with inputs removed in FAILED_START, the hold-up runs empty and the carrier loses power. -/
def execCarrierPowerLost (s : State) : Host.Outcome State Fault Refusal :=
  run Machine.carrierPowerLost s

/-- CRYSTAL_LOST (R457). The crystal stops or drifts and the module enters DEGRADED_CLOCK in service. -/
def execCrystalLost (deviation : Nat) (s : State) : Host.Outcome State Fault Refusal :=
  run (core (Machine.crystalLost deviation)) s

/-- XTAL_TEST (R456). Every 60 s in DEGRADED_CLOCK the crystal is tested. -/
def execXtalTest (ready : Bool) (s : State) : Host.Outcome State Fault Refusal :=
  run (core (Machine.xtalTest ready)) s

/-- POWER_RESTART (R456). A write restarts the core domain from step 2. -/
def execPowerRestart (r : Req) (s : State) : Host.Outcome State Fault Refusal :=
  run (core fun s => s.writeRequest (writing r [1]) Obj.POWER_RESTART ownPowerRestart) s

/-- THROTTLE_START (R468). Die sensor 01 at 110 °C for 1 s throttles the Abacus. -/
def execThrottleStart (s : State) : Host.Outcome State Fault Refusal :=
  run (core Machine.throttleStart) s

/-- THROTTLE_END (R468). Die sensor 01 at 100 °C or less for 60 s returns the clock. -/
def execThrottleEnd (s : State) : Host.Outcome State Fault Refusal :=
  run (core Machine.throttleEnd) s

/-- DIE_CRITICAL (R468). A die sensor at 125 °C for 1 s sets DIE_CRITICAL. -/
def execDieCritical (sensor : Nat) (temp : Rat) (s : State) : Host.Outcome State Fault Refusal :=
  onPart (Nat.blt sensor 3) (core (Machine.dieCritical sensor temp)) s

end Sys2Proof.Machine
end

