-- ==== Sys2Proof/Machine/ExecProgram.lean ====
section
/-!
DEFINITION. The meaning of each command of one family: the control program.
-/

namespace Sys2Proof.Machine

/-- PROGRAM_SCAN (R393). At a cycle boundary core 1 runs a scan of the control program. -/
def execProgramScan (micros : Nat) (scan : ScanRun) (s : State) : Host.Outcome State Fault Refusal :=
  run (core (scanEvent micros scan)) s

/-- PROG_WATCHDOG (R394). A scan still running after PROG_WATCHDOG cycles is stopped and the program faults. -/
def execProgWatchdog (s : State) : Host.Outcome State Fault Refusal :=
  run (core (Machine.progWatchdog progRead)) s

/-- VAR_VALUE (R397). A write changes one program variable online. -/
def execVarValue (n : Nat) (r : Req) (s : State) : Host.Outcome State Fault Refusal :=
  onPart (isU16 n) (core fun s => s.writeRequest r (Obj.VAR_VALUE n) (ownVarValue n)) s

/-- FORCE_ENTRY (R400). A write sets or removes a force. -/
def execForceEntry (n : Nat) (r : Req) (s : State) : Host.Outcome State Fault Refusal :=
  onPart (isU16 n) (core fun s => s.writeRequest r (Obj.FORCE_ENTRY n) (ownForceEntry n)) s

/-- PROG_DEBUG_ENTER (R399). A write of 1 enters debug in DEBUG_MODEL. -/
def execProgDebugEnter (r : Req) (s : State) : Host.Outcome State Fault Refusal :=
  run (core fun s => s.writeRequest (writing r [1]) Obj.PROG_DEBUG ownProgDebug) s

/-- PROG_DEBUG_LEAVE (R399). A write of 0 leaves debug unless forces remain. -/
def execProgDebugLeave (r : Req) (s : State) : Host.Outcome State Fault Refusal :=
  run (core fun s => s.writeRequest (writing r [0]) Obj.PROG_DEBUG ownProgDebug) s

/-- PROG_STEP (R399). A write runs one scan in HOLD. -/
def execProgStep (r : Req) (s : State) : Host.Outcome State Fault Refusal :=
  run (core fun s => s.writeRequest (writing r [1]) Obj.PROG_STEP ownProgStep) s

/-- PROGRAM_STAGED (R403). A write stages a new image on the standby. -/
def execProgramStaged (r : Req) (s : State) : Host.Outcome State Fault Refusal :=
  run (core fun s => s.writeRequest r Obj.PROGRAM_STAGED ownProgramStaged) s

/-- EXCHANGE_REQUEST (R404). A write arms a program exchange through a planned swap. -/
def execExchangeRequest (r : Req) (staged : Bytes) (s : State) : Host.Outcome State Fault Refusal :=
  run (core fun s => s.writeRequest (writing r [1]) Obj.EXCHANGE_REQUEST (ownExchangeRequest staged)) s

/-- EXCHANGE_TIMEOUT (R404). A swap not started within 10 s fails the exchange. -/
def execExchangeTimeout (s : State) : Host.Outcome State Fault Refusal :=
  run (core Machine.exchangeTimeout) s

/-- SNAPSHOT_RECEIVED (R404). The new active module maps the snapshot and applies the output image. -/
def execSnapshotReceived (x : Snapshot) (s : State) : Host.Outcome State Fault Refusal :=
  run (core (snapshotEvent x)) s

end Sys2Proof.Machine
end

