-- ==== Sys2Proof/Machine/ExecProtection.lean ====
section
/-!
DEFINITION. The meaning of each command of one family: string protection and the contactor sequences.
-/

namespace Sys2Proof.Machine

/-- OVERCURRENT (R267). Two consecutive main-path samples beyond a level remove the string's commands in hardware. -/
def execOvercurrent (string : Nat) (s : State) : Host.Outcome State Fault Refusal :=
  onPart (hasString s string) (core (Machine.overcurrent string)) s

/-- ISO_MESSAGE (R268). An insulation monitor frame updates R_ISO and the insulation checks. -/
def execIsoMessage (f : CanFrame) (s : State) : Host.Outcome State Fault Refusal :=
  onPart (hasChannel f.channel) (core (serviceRx f Machine.isoMessage)) s

/-- ISO_LOST (R265). No valid insulation message for ISO_MSG_TIMEOUT raises ISO_LOST. -/
def execIsoLost (s : State) : Host.Outcome State Fault Refusal :=
  run (core Machine.isoLost) s

/-- BUS_VOLTAGE_FRAME (R275). A PCS bus voltage frame updates BUS_VOLTAGE. -/
def execBusVoltageFrame (f : CanFrame) (s : State) : Host.Outcome State Fault Refusal :=
  onPart (hasChannel f.channel) (core (serviceRx f Machine.busVoltageFrame)) s

/-- BUS_LOST (R265). No valid bus message for BUS_MSG_TIMEOUT raises the BUS_LOST warning. -/
def execBusLost (string : Nat) (s : State) : Host.Outcome State Fault Refusal :=
  onPart (hasString s string) (core (Machine.busLost string)) s

/-- CURRENT_INPUT_TIMEOUT (R265). CI_FAULT held for CI_FAULT_TIME raises CI_FAULT_ACTION. -/
def execCurrentInputTimeout (string : Nat) (s : State) : Host.Outcome State Fault Refusal :=
  onPart (hasString s string) (core (Machine.currentInputTimeout string)) s

/-- STRING_COMMAND_CLOSE (R276). A CLOSE is checked and starts the close sequence. -/
def execStringCommandClose (string : Nat) (r : Req) (s : State) : Host.Outcome State Fault Refusal :=
  onPart (isU16 string) (core fun s => s.writeRequest (writing r [1]) (Obj.STRING_COMMAND string) (ownStringCommand string)) s

/-- STRING_COMMAND_OPEN (R279). An OPEN starts a normal opening of the string. -/
def execStringCommandOpen (string : Nat) (r : Req) (s : State) : Host.Outcome State Fault Refusal :=
  onPart (isU16 string) (core fun s => s.writeRequest (writing r [2]) (Obj.STRING_COMMAND string) (ownStringCommand string)) s

/-- CONTACT_TIME_EXPIRY (R277). CONTACT_TIME passes and the contactor is confirmed or the sequence fails. -/
def execContactTimeExpiry (string : Nat) (s : State) : Host.Outcome State Fault Refusal :=
  onPart (hasString s string) (core (acting (contactTime string))) s

/-- PRECHARGE_TIMEOUT (R277). PRECHARGE_TIMEOUT passes without a match: PRECHARGE_FAIL and emergency opening. -/
def execPrechargeTimeout (string : Nat) (s : State) : Host.Outcome State Fault Refusal :=
  onPart (hasString s string) (core (acting (Machine.prechargeTimeout string))) s

/-- PRECHARGE_OVERLAP_EXPIRY (R277). PRECHARGE_OVERLAP passes and the precharge contactor is switched off. -/
def execPrechargeOverlapExpiry (string : Nat) (s : State) : Host.Outcome State Fault Refusal :=
  onPart (hasString s string) (core (acting (prechargeOverlap string))) s

/-- PRECHARGE_COOLDOWN_END (R278). The precharge cooldown ends. -/
def execPrechargeCooldownEnd (string : Nat) (s : State) : Host.Outcome State Fault Refusal :=
  onPart (hasString s string) (core (acting (Machine.prechargeCooldownEnd string))) s

/-- BREAK_WAIT_END (R279). Current falls below BREAK_CURRENT or BREAK_WAIT passes, and positive and precharge open. -/
def execBreakWaitEnd (string : Nat) (s : State) : Host.Outcome State Fault Refusal :=
  onPart (hasString s string) (core (acting (Machine.breakWaitEnd string))) s

/-- NEG_OPEN_DELAY_EXPIRY (R279). NEG_OPEN_DELAY passes and the negative contactor opens. -/
def execNegOpenDelayExpiry (string : Nat) (s : State) : Host.Outcome State Fault Refusal :=
  onPart (hasString s string) (core (acting (negOpenDelay string))) s

/-- WELD_CHECK_TIME_EXPIRY (R283). The voltage test ends with WELD_SUSPECT or WELD_UNCHECKED. -/
def execWeldCheckTimeExpiry (string : Nat) (s : State) : Host.Outcome State Fault Refusal :=
  onPart (hasString s string) (core (acting (weldCheckTime string))) s

/-- PROT_RESET (R264). A write clears protection latches of a string or all strings. -/
def execProtReset (r : Req) (s : State) : Host.Outcome State Fault Refusal :=
  run (core fun s => s.writeRequest r Obj.PROT_RESET ownProtReset) s

/-- WELD_CLEAR (R284). A write clears WELD_LOCKOUT and SAFE_WELD when every aux shows open. -/
def execWeldClear (r : Req) (s : State) : Host.Outcome State Fault Refusal :=
  run (core fun s => s.writeRequest r Obj.WELD_CLEAR ownWeldClear) s

end Sys2Proof.Machine
end

