-- ==== Sys2Proof/Machine/ExecSafety.lean ====
section
/-!
DEFINITION. The meaning of each command of one family: the safety controllers.
-/

namespace Sys2Proof.Machine

/-- SAFETY_CYCLE (R290). Each 1 ms safety cycle samples, evaluates, drives enables and cross-compares. -/
def execSafetyCycle (x : SafetySample) (s : State) : Host.Outcome State Fault Refusal :=
  run (safetyEvent x) s

/-- SI_CHANGE_ACCEPTED (R293). A safety input level held for SI_FILTER or OSSD_DIP_MAX is accepted. -/
def execSiChangeAccepted (controller channel : Nat) (level : Bool) (s : State) : Host.Outcome State Fault Refusal :=
  onPart (Nat.blt controller 3 && Nat.blt channel 16) (carrier (siChange controller channel level)) s

/-- TEST_PULSE_FRAME (R295). Each 50 ms frame checks channel dips and may raise TEST_PULSE. -/
def execTestPulseFrame (failed : List Nat) (s : State) : Host.Outcome State Fault Refusal :=
  run (carrier fun s => inputWake s (Machine.testPulseFrame failed s)) s

/-- DISCREPANCY_FAULT (R296). The discrepancy count exceeds DISCREPANCY_TIME and the pair faults. -/
def execDiscrepancyFault (pair : Nat) (s : State) : Host.Outcome State Fault Refusal :=
  onPart (Nat.blt pair 8) (carrier fun s => inputWake s (Machine.discrepancyFault pair s)) s

/-- STOP1_DELAY_EXPIRY (R300). STOP1_DELAY passes and the enables of covered strings are removed. -/
def execStop1DelayExpiry (source : Nat) (s : State) : Host.Outcome State Fault Refusal :=
  onPart (Nat.blt source 16) (carrier (stop1Delay source)) s

/-- SAFE_WELD (R304). An SI aux input not open within SAFE_AUX_TIME raises SAFE_WELD. -/
def execSafeWeld (output : Nat) (s : State) : Host.Outcome State Fault Refusal :=
  onPart (hasContactor s output) (carrier (Machine.safeWeld output)) s

/-- PROOF_DUE (R305). PROOF_INTERVAL passes and the string becomes DUE. -/
def execProofDue (string : Nat) (s : State) : Host.Outcome State Fault Refusal :=
  onPart (hasString s string) (carrier (Machine.proofDue string)) s

/-- PROOF_OVERDUE (R306). PROOF_INTERVAL + PROOF_GRACE passes and the string becomes OVERDUE. -/
def execProofOverdue (string : Nat) (s : State) : Host.Outcome State Fault Refusal :=
  onPart (hasString s string) (carrier (Machine.proofOverdue string)) s

/-- PROOF_START (R305). A write or the dispatcher starts a proof test of a string. -/
def execProofStart (r : Req) (s : State) : Host.Outcome State Fault Refusal :=
  run (core fun s => s.writeRequest r Obj.PROOF_START ownProofStart) s

/-- PROOF_TEST_STEP (R305). A proof test step's wait ends and its pass condition is judged. -/
def execProofTestStep (string : Nat) (s : State) : Host.Outcome State Fault Refusal :=
  onPart (hasString s string) (core (proofStepEvent string)) s

/-- QSF_FRAME_RECEIVED (R309). A QSF frame is accepted or rejected by a consumer. -/
def execQsfFrameReceived (conn : Nat) (data : Bytes) (via : NetFrame) (s : State) : Host.Outcome State Fault Refusal :=
  onPart (Nat.blt conn 8) (core (qsfEvent conn data via)) s

/-- QSF_WATCHDOG_EXPIRY (R309). No accepted frame within QSF_WATCHDOG makes the connection FAULTED. -/
def execQsfWatchdogExpiry (conn : Nat) (s : State) : Host.Outcome State Fault Refusal :=
  onPart (Nat.blt conn 8) (carrier (qsfWatchdog conn)) s

/-- QSF_SEND (R310). A producer sends its frame every QSF_CYCLE or on a change of bits. -/
def execQsfSend (conn : Nat) (s : State) : Host.Outcome State Fault Refusal :=
  onPart (Nat.blt conn 8) (core (Machine.qsfSend conn)) s

/-- SAFETY_LOGIN (R311). A password write opens a safety session or counts a failure. -/
def execSafetyLogin (r : Req) (s : State) : Host.Outcome State Fault Refusal :=
  run (core fun s => s.writeRequest r Obj.SAFETY_LOGIN (ownSafetyLogin r.src)) s

/-- SAFETY_LOGOUT (R311). An empty string write ends the safety session. -/
def execSafetyLogout (r : Req) (s : State) : Host.Outcome State Fault Refusal :=
  run (core fun s => s.writeRequest (writing r []) Obj.SAFETY_LOGIN (ownSafetyLogin r.src)) s

/-- SAFETY_SESSION_TIMEOUT (R311). 15 minutes without a SAFE write end the safety session. -/
def execSafetySessionTimeout (s : State) : Host.Outcome State Fault Refusal :=
  run (core Machine.safetySessionTimeout) s

/-- LOCKOUT_END (R313). The 10-minute login lock-out ends. -/
def execLockoutEnd (s : State) : Host.Outcome State Fault Refusal :=
  run (carrier Machine.lockoutEnd) s

/-- SAFETY_PASSWORD_NEW (R312). A write sets the safety password. -/
def execSafetyPasswordNew (r : Req) (s : State) : Host.Outcome State Fault Refusal :=
  run (core fun s => s.writeRequest r Obj.SAFETY_PASSWORD_NEW ownPasswordNew) s

/-- SAFETY_RESTART (R292). A write re-runs the safety self-test and restarts the safety function. -/
def execSafetyRestart (r : Req) (s : State) : Host.Outcome State Fault Refusal :=
  run (core fun s => s.writeRequest (writing r [1]) Obj.SAFETY_RESTART ownSafetyRestart) s

/-- SAFE_RESET (R299). A remote reset ends the demanding state of returned sources. -/
def execSafeReset (r : Req) (s : State) : Host.Outcome State Fault Refusal :=
  run (core fun s => s.writeRequest (writing r [1]) Obj.SAFE_RESET ownSafeReset) s

end Sys2Proof.Machine
end

