-- ==== Sys2Proof/Machine/ExecSweep.lean ====
section
/-!
DEFINITION. The meaning of each command of one family: the sweep, the Krytlink chains and the current inputs.
-/

namespace Sys2Proof.Machine

/-- SWEEP_MARK (R25). Base M reaches the sweep mark phase: the window closes, the sweep count advances and mark-bound actions run. -/
def execSweepMark (s : State) : Host.Outcome State Fault Refusal :=
  run (core Machine.sweepMark) s

/-- SYNC_SEND (R101). At t_w − SYNC_LEAD each reading head sends SYNC(k) with fields from base M. -/
def execSyncSend (s : State) : Host.Outcome State Fault Refusal :=
  run (core syncEvent) s

/-- WINDOW_LATCH (R104). String window values of the sweep are latched into cell state memory. -/
def execWindowLatch (ws : List StringWindow) (s : State) : Host.Outcome State Fault Refusal :=
  onPart (ws.all fun w => hasString s w.string) (core (latchEvent ws)) s

/-- READ_START (R100). Each reading head sends READ(k) with DEST 0. -/
def execReadStart (s : State) : Host.Outcome State Fault Refusal :=
  run (core Machine.readStart) s

/-- BLOCK_RECEIVED (R109). A sweep block arrives whole at a head and is checked, stored and passed to protection. -/
def execBlockReceived (head expected : Nat) (raw : Bytes) (s : State) : Host.Outcome State Fault Refusal :=
  onPart (hasHead s head) (core (Machine.blockReceived head expected raw)) s

/-- TRAIN_RECEIVED (R70). A train's EOD arrives at a head and the train is evaluated. -/
def execTrainReceived (head : Nat) (t : Train) (s : State) : Host.Outcome State Fault Refusal :=
  onPart (hasHead s head) (core (trainEvent head t)) s

/-- TRAIN_WAIT_TIMEOUT (R72). A train not complete within its wait is counted in HEAD_TIMEOUTS. -/
def execTrainWaitTimeout (head : Nat) (begun : Bool) (s : State) : Host.Outcome State Fault Refusal :=
  onPart (hasHead s head) (core (trainTimeout head begun)) s

/-- SEGMENT_READ_ORDER (R114). The other head of a cut chain receives the order and reads its segment if it fits. -/
def execSegmentReadOrder (head devices : Nat) (s : State) : Host.Outcome State Fault Refusal :=
  onPart (hasHead s head) (core (segmentOrder head devices)) s

/-- CARRIER_CHECK (R112). At ARRIVAL_WAIT a listening head checks for the reading head's frame carrier. -/
def execCarrierCheck (head kind : Nat) (arrived : Bool) (s : State) : Host.Outcome State Fault Refusal :=
  onPart (hasHead s head) (core (Machine.carrierCheck head kind arrived)) s

/-- CONTINUITY_RESTORED (R116). A segment head receiving a valid down frame stops transmitting and sets HEAD_CONTINUITY. -/
def execContinuityRestored (head : Nat) (s : State) : Host.Outcome State Fault Refusal :=
  onPart (hasHead s head) (core (Machine.continuityRestored head)) s

/-- HEARTBEAT_DUE (R90). 10 ms after the last chain frame on an idle chain the head sends HEARTBEAT. -/
def execHeartbeatDue (head : Nat) (s : State) : Host.Outcome State Fault Refusal :=
  onPart (hasHead s head) (core (heartbeat head (airTime 4))) s

/-- ECHO_DUE (R76). ECHO_PERIOD expires and the head re-measures delays and rewrites changed ones. -/
def execEchoDue (head : Nat) (fromB : Bool) (results : List EchoDev) (s : State) : Host.Outcome State Fault Refusal :=
  onPart (hasHead s head) (core (Machine.echoDue head fromB results)) s

/-- READDRESS (R87). In idle chain time a head sends ENUM to re-address a device that lost its address. -/
def execReaddress (head : Nat) (answers : List (Option Train)) (s : State) : Host.Outcome State Fault Refusal :=
  onPart (hasHead s head) (core (Machine.readdress head answers)) s

/-- ACCEPT_DEVICE (R86). A write adopts the observed UID of a MISMATCH entry into the position map. -/
def execAcceptDevice (r : Req) (s : State) : Host.Outcome State Fault Refusal :=
  run (core fun s => s.writeRequest r Obj.ACCEPT_DEVICE ownAccept) s

/-- SWEEP_TAIL (R26). Core 0 runs the tail: estimated checks, bleed targets, limits, anchors, temperature, deals and recording. -/
def execSweepTail (tail : TailRun) (finished : Bool) (s : State) : Host.Outcome State Fault Refusal :=
  run (core (Machine.sweepTail tail finished)) s

/-- CI_FAULT (R103). A bitstream without transitions for 2 µs or a bad sensor supply raises CI_FAULT. -/
def execCiFault (string : Nat) (s : State) : Host.Outcome State Fault Refusal :=
  onPart (hasString s string) (core (Machine.ciFault string)) s

/-- CI_FAULT_CLEAR (R103). CI_FAULT clears after 100 ms without its conditions. -/
def execCiFaultClear (string : Nat) (s : State) : Host.Outcome State Fault Refusal :=
  onPart (hasString s string) (core (Machine.ciFaultClear string)) s

/-- CI_MAIN_PATH_SAMPLE (R103). Every 40 µs of base L the current input front-end produces a main-path sample for each string. -/
def execCiMainPathSample (d : List (Nat × Rat)) (s : State) : Host.Outcome State Fault Refusal :=
  onPart (d.all fun x => hasString s x.1) (core (mainPathEvent d)) s

/-- SEGMENT_RECEIVED (R115). A block forwarded by the standby segment head is checked and stored. -/
def execSegmentReceived (head expected : Nat) (raw : Bytes) (s : State) : Host.Outcome State Fault Refusal :=
  onPart (hasHead s head) (core (Machine.segmentReceived head expected raw)) s

end Sys2Proof.Machine
end

