-- ==== Sys2Proof/Machine/ExecTime.lean ====
section
/-!
DEFINITION. The meaning of each command of one family: time bases, the mains angle and the mark outputs.
-/

namespace Sys2Proof.Machine

/-- PTP_SYNC_MESSAGE (R36). A Sync from the selected master gives an offset measurement that drives the servo, lock state and slew. -/
def execPtpSyncMessage (port profile domain master : Nat) (x : PtpSync) (s : State) : Host.Outcome State Fault Refusal :=
  run (core (ptpSync port profile domain master x)) s

/-- PTP_ANNOUNCE_MESSAGE (R41). An Announce message is taken into master selection and port choice. -/
def execPtpAnnounceMessage (a : Announce) (s : State) : Host.Outcome State Fault Refusal :=
  run (core (ptpAnnounce a)) s

/-- ANNOUNCE_RECEIPT_TIMEOUT (R38). No Sync or Announce within the timeout puts base P in HOLDOVER or moves to the other path. -/
def execAnnounceReceiptTimeout (port : Nat) (s : State) : Host.Outcome State Fault Refusal :=
  run (core (announceTimeout port)) s

/-- P_SET (R35). A write of P_SET steps base P while the step is armed. -/
def execPSet (r : Req) (s : State) : Host.Outcome State Fault Refusal :=
  run (core fun s => s.writeRequest r Obj.P_SET ownPSet) s

/-- ANG_EDGE (R44). A rising ANG edge captures the angle and gives a phase error to the lock loop. -/
def execAngEdge (s : State) : Host.Outcome State Fault Refusal :=
  run (core Machine.angEdge) s

/-- PCS_ANGLE_MESSAGE (R45). The PCS angle message is stamped on base L and gives a phase error. -/
def execPcsAngleMessage (f : CanFrame) (sofL : Nat) (s : State) : Host.Outcome State Fault Refusal :=
  onPart (hasChannel f.channel) (core (serviceRx f fun f => pcsAngle f sofL)) s

/-- ANG_EDGE_TIMEOUT (R47). No accepted ANG edge within 1.5 nominal periods puts base M in HOLDOVER. -/
def execAngEdgeTimeout (s : State) : Host.Outcome State Fault Refusal :=
  run (core Machine.angEdgeTimeout) s

/-- ANG_MSG_TIMEOUT (R47). No valid PCS angle message within ANG_MSG_TIMEOUT puts base M in HOLDOVER. -/
def execAngMsgTimeout (s : State) : Host.Outcome State Fault Refusal :=
  run (core Machine.angMsgTimeout) s

/-- M_HOLDOVER_MAX_EXPIRY (R47). After M_HOLDOVER_MAX in HOLDOVER base M becomes FREE at the nominal frequency. -/
def execMHoldoverMaxExpiry (s : State) : Host.Outcome State Fault Refusal :=
  run (core holdoverMax) s

/-- XTAL_COMP_UPDATE (R55). Every 100 ms the crystal correction is updated by at most 0.05 ppm and passed to the servos. -/
def execXtalCompUpdate (s : State) : Host.Outcome State Fault Refusal :=
  run (carrier xtalUpdate) s

/-- MARK_PULSE (R53). A mark output reaches its programmed instant and emits its pulse. -/
def execMarkPulse (n : Fin 4) (s : State) : Host.Outcome State Fault Refusal :=
  run (core (markFire n)) s

end Sys2Proof.Machine
end

