-- ==== Sys2Proof/Machine/ExecUpdate.lean ====
section
/-!
DEFINITION. The meaning of each command of one family: the firmware update and the recorder.
-/

namespace Sys2Proof.Machine

/-- UPDATE_MANIFEST (R475). A written manifest is verified and held. -/
def execUpdateManifest (r : Req) (s : State) : Host.Outcome State Fault Refusal :=
  run (core fun s => s.writeRequest r Obj.UPDATE_MANIFEST ownUpdateManifest) s

/-- UPDATE_PIECE (R476). A firmware piece is written, read back and marked in the bitmap. -/
def execUpdatePiece (component piece : Nat) (r : Req) (s : State) : Host.Outcome State Fault Refusal :=
  onPart (Nat.blt component 6 && isU16 piece) (core fun s => s.writeRequest r (Obj.UPDATE_PIECE component piece) (ownUpdatePiece component piece)) s

/-- COMPONENT_HASH_DONE (R477). The hash of a completed component slot is compared with the manifest. -/
def execComponentHashDone (component : Nat) (s : State) : Host.Outcome State Fault Refusal :=
  onPart (Nat.blt component 6) (core (Machine.componentHashDone component)) s

/-- IMAGE_LOAD_FRAME (R478). In idle chain time a head sends IMAGE frames to front-ends. -/
def execImageLoadFrame (head : Nat) (s : State) : Host.Outcome State Fault Refusal :=
  onPart (hasHead s head) (core (Machine.imageLoadFrame head)) s

/-- UPDATE_COMMAND_ACTIVATE (R481). A write arms an activation at sweep N. -/
def execUpdateCommandActivate (r : Req) (kernel : Kernel) (intact : Bool) (s : State) : Host.Outcome State Fault Refusal :=
  run (core fun s => s.writeRequest (writing r [2]) Obj.UPDATE_COMMAND (ownUpdateCommand kernel intact)) s

/-- UPDATE_COMMAND_CANCEL (R481). A write discards the manifest and bitmaps. -/
def execUpdateCommandCancel (r : Req) (s : State) : Host.Outcome State Fault Refusal :=
  run (core fun s => s.writeRequest (writing r [3]) Obj.UPDATE_COMMAND fun _ => cancelUpdate) s

/-- POSTCHECK_COMPLETE (R482). All post-checks pass and the activation is committed. -/
def execPostcheckComplete (frontEnds : List (Nat × Option Train)) (s : State) : Host.Outcome State Fault Refusal :=
  run (core (Machine.postcheckComplete frontEnds)) s

/-- POSTCHECK_TIMEOUT (R482). POSTCHECK_TIME passes without all checks and reversion starts. -/
def execPostcheckTimeout (frontEnds : List (Nat × Option Train)) (s : State) : Host.Outcome State Fault Refusal :=
  run (core (Machine.postcheckTimeout frontEnds)) s

/-- RECORDER_COMMIT (R487). Every 900 s the working image is committed to MRAM. -/
def execRecorderCommit (s : State) : Host.Outcome State Fault Refusal :=
  run (core commitDue) s

/-- RECORDER_COMMIT_NOW (R487). A write commits the working image at once. -/
def execRecorderCommitNow (r : Req) (s : State) : Host.Outcome State Fault Refusal :=
  run (core fun s => s.writeRequest (writing r [1]) Obj.RECORDER_COMMIT_NOW ownCommitNow) s

/-- RECORDER_CLEAR (R498). A write clears recorder pages or the log. -/
def execRecorderClear (r : Req) (s : State) : Host.Outcome State Fault Refusal :=
  run (core fun s => s.writeRequest r Obj.RECORDER_CLEAR ownRecorderClear) s

end Sys2Proof.Machine
end

