-- ==== Sys2Proof/Machine/Dispatch.lean ====
section
/-!
DEFINITION. The meaning of every command of the table.
-/

namespace Sys2Proof.Machine

def exec (i : Instr) (s : State) : Host.Outcome State Fault Refusal :=
  match i with
  | .sweepMark => Sys2Proof.Machine.execSweepMark s
  | .ptpSyncMessage port profile domain master x => Sys2Proof.Machine.execPtpSyncMessage port profile domain master x s
  | .ptpAnnounceMessage a => Sys2Proof.Machine.execPtpAnnounceMessage a s
  | .announceReceiptTimeout port => Sys2Proof.Machine.execAnnounceReceiptTimeout port s
  | .pSet r => Sys2Proof.Machine.execPSet r s
  | .angEdge => Sys2Proof.Machine.execAngEdge s
  | .pcsAngleMessage f sofL => Sys2Proof.Machine.execPcsAngleMessage f sofL s
  | .angEdgeTimeout => Sys2Proof.Machine.execAngEdgeTimeout s
  | .angMsgTimeout => Sys2Proof.Machine.execAngMsgTimeout s
  | .mHoldoverMaxExpiry => Sys2Proof.Machine.execMHoldoverMaxExpiry s
  | .xtalCompUpdate => Sys2Proof.Machine.execXtalCompUpdate s
  | .markPulse n => Sys2Proof.Machine.execMarkPulse n s
  | .syncSend => Sys2Proof.Machine.execSyncSend s
  | .windowLatch ws => Sys2Proof.Machine.execWindowLatch ws s
  | .readStart => Sys2Proof.Machine.execReadStart s
  | .blockReceived head expected raw => Sys2Proof.Machine.execBlockReceived head expected raw s
  | .trainReceived head t => Sys2Proof.Machine.execTrainReceived head t s
  | .trainWaitTimeout head kind => Sys2Proof.Machine.execTrainWaitTimeout head kind s
  | .segmentReadOrder head devices => Sys2Proof.Machine.execSegmentReadOrder head devices s
  | .carrierCheck head kind arrived => Sys2Proof.Machine.execCarrierCheck head kind arrived s
  | .continuityRestored head => Sys2Proof.Machine.execContinuityRestored head s
  | .heartbeatDue head => Sys2Proof.Machine.execHeartbeatDue head s
  | .echoDue head fromB results => Sys2Proof.Machine.execEchoDue head fromB results s
  | .readdress head answer => Sys2Proof.Machine.execReaddress head answer s
  | .acceptDevice r => Sys2Proof.Machine.execAcceptDevice r s
  | .abacusDeadline => Sys2Proof.Machine.execAbacusDeadline s
  | .sweepTail run finished => Sys2Proof.Machine.execSweepTail run finished s
  | .ciFault string => Sys2Proof.Machine.execCiFault string s
  | .ciFaultClear string => Sys2Proof.Machine.execCiFaultClear string s
  | .overcurrent string => Sys2Proof.Machine.execOvercurrent string s
  | .cellUpdateDone rod cell errs mirror => Sys2Proof.Machine.execCellUpdateDone rod cell errs mirror s
  | .kernelOverrun rod cell => Sys2Proof.Machine.execKernelOverrun rod cell s
  | .scrubWord w => Sys2Proof.Machine.execScrubWord w s
  | .balanceSend periodic => Sys2Proof.Machine.execBalanceSend periodic s
  | .leadCalStart r => Sys2Proof.Machine.execLeadCalStart r s
  | .leadCalTimeout => Sys2Proof.Machine.execLeadCalTimeout s
  | .anchorArm string => Sys2Proof.Machine.execAnchorArm string s
  | .anchorTimerExpiry string => Sys2Proof.Machine.execAnchorTimerExpiry string s
  | .partnerPreferenceExpiry => Sys2Proof.Machine.execPartnerPreferenceExpiry s
  | .restoreTimeoutExpiry => Sys2Proof.Machine.execRestoreTimeoutExpiry s
  | .checkpoint r => Sys2Proof.Machine.execCheckpoint r s
  | .checkpointPeriodExpiry => Sys2Proof.Machine.execCheckpointPeriodExpiry s
  | .checkpointDemand r => Sys2Proof.Machine.execCheckpointDemand r s
  | .pushConfirm peer offset abort => Sys2Proof.Machine.execPushConfirm peer offset abort s
  | .pushRetry piece => Sys2Proof.Machine.execPushRetry piece s
  | .sensorFailed sensor cause => Sys2Proof.Machine.execSensorFailed sensor cause s
  | .sensorReset r => Sys2Proof.Machine.execSensorReset r s
  | .thresholdDwell kind n element => Sys2Proof.Machine.execThresholdDwell kind n element s
  | .moduleDieRead temps => Sys2Proof.Machine.execModuleDieRead temps s
  | .loopTick => Sys2Proof.Machine.execLoopTick s
  | .handoverForced loop => Sys2Proof.Machine.execHandoverForced loop s
  | .senseLost loop => Sys2Proof.Machine.execSenseLost loop s
  | .plausibilityFault loop => Sys2Proof.Machine.execPlausibilityFault loop s
  | .loopFrameSend loop => Sys2Proof.Machine.execLoopFrameSend loop s
  | .senseCanFrame f => Sys2Proof.Machine.execSenseCanFrame f s
  | .lawReq loop r => Sys2Proof.Machine.execLawReq loop r s
  | .manual loop r => Sys2Proof.Machine.execManual loop r s
  | .manualOut loop r => Sys2Proof.Machine.execManualOut loop r s
  | .isoMessage f => Sys2Proof.Machine.execIsoMessage f s
  | .isoLost => Sys2Proof.Machine.execIsoLost s
  | .busVoltageFrame f => Sys2Proof.Machine.execBusVoltageFrame f s
  | .busLost string => Sys2Proof.Machine.execBusLost string s
  | .currentInputTimeout string => Sys2Proof.Machine.execCurrentInputTimeout string s
  | .stringCommandClose string r => Sys2Proof.Machine.execStringCommandClose string r s
  | .stringCommandOpen string r => Sys2Proof.Machine.execStringCommandOpen string r s
  | .contactTimeExpiry string => Sys2Proof.Machine.execContactTimeExpiry string s
  | .prechargeTimeout string => Sys2Proof.Machine.execPrechargeTimeout string s
  | .prechargeOverlapExpiry string => Sys2Proof.Machine.execPrechargeOverlapExpiry string s
  | .prechargeCooldownEnd string => Sys2Proof.Machine.execPrechargeCooldownEnd string s
  | .breakWaitEnd string => Sys2Proof.Machine.execBreakWaitEnd string s
  | .negOpenDelayExpiry string => Sys2Proof.Machine.execNegOpenDelayExpiry string s
  | .weldCheckTimeExpiry string => Sys2Proof.Machine.execWeldCheckTimeExpiry string s
  | .protReset r => Sys2Proof.Machine.execProtReset r s
  | .weldClear r => Sys2Proof.Machine.execWeldClear r s
  | .safetyCycle x => Sys2Proof.Machine.execSafetyCycle x s
  | .siChangeAccepted controller channel level => Sys2Proof.Machine.execSiChangeAccepted controller channel level s
  | .testPulseFrame failed => Sys2Proof.Machine.execTestPulseFrame failed s
  | .discrepancyFault pair => Sys2Proof.Machine.execDiscrepancyFault pair s
  | .stop1DelayExpiry source => Sys2Proof.Machine.execStop1DelayExpiry source s
  | .safeWeld output => Sys2Proof.Machine.execSafeWeld output s
  | .proofDue string => Sys2Proof.Machine.execProofDue string s
  | .proofOverdue string => Sys2Proof.Machine.execProofOverdue string s
  | .proofStart r => Sys2Proof.Machine.execProofStart r s
  | .proofTestStep string => Sys2Proof.Machine.execProofTestStep string s
  | .qsfFrameReceived conn data via => Sys2Proof.Machine.execQsfFrameReceived conn data via s
  | .qsfWatchdogExpiry conn => Sys2Proof.Machine.execQsfWatchdogExpiry conn s
  | .qsfSend conn => Sys2Proof.Machine.execQsfSend conn s
  | .safetyLogin r => Sys2Proof.Machine.execSafetyLogin r s
  | .safetyLogout r => Sys2Proof.Machine.execSafetyLogout r s
  | .safetySessionTimeout => Sys2Proof.Machine.execSafetySessionTimeout s
  | .lockoutEnd => Sys2Proof.Machine.execLockoutEnd s
  | .safetyPasswordNew r => Sys2Proof.Machine.execSafetyPasswordNew r s
  | .safetyRestart r => Sys2Proof.Machine.execSafetyRestart r s
  | .safeReset r => Sys2Proof.Machine.execSafeReset r s
  | .dispatchCommand r => Sys2Proof.Machine.execDispatchCommand r s
  | .cmdCanFrame f => Sys2Proof.Machine.execCmdCanFrame f s
  | .cmdLost => Sys2Proof.Machine.execCmdLost s
  | .setpointFrameSend string => Sys2Proof.Machine.execSetpointFrameSend string s
  | .tableCycleStart => Sys2Proof.Machine.execTableCycleStart s
  | .offerReceived data via => Sys2Proof.Machine.execOfferReceived data via s
  | .dealSend => Sys2Proof.Machine.execDealSend s
  | .dealReceived data via => Sys2Proof.Machine.execDealReceived data via s
  | .tableCycleCheck => Sys2Proof.Machine.execTableCycleCheck s
  | .dealHoldMaxExpiry => Sys2Proof.Machine.execDealHoldMaxExpiry s
  | .calMaxTimeExpiry => Sys2Proof.Machine.execCalMaxTimeExpiry s
  | .calShortfallTimeout => Sys2Proof.Machine.execCalShortfallTimeout s
  | .canFrameReceived f esi sofL => Sys2Proof.Machine.execCanFrameReceived f esi sofL s
  | .protocolException channel => Sys2Proof.Machine.execProtocolException channel s
  | .canTxDone channel early outcome sofL => Sys2Proof.Machine.execCanTxDone channel early outcome sofL s
  | .canBusOff channel => Sys2Proof.Machine.execCanBusOff channel s
  | .busoffRecovery channel => Sys2Proof.Machine.execBusoffRecovery channel s
  | .txRequest channel r => Sys2Proof.Machine.execTxRequest channel r s
  | .txCancel channel begun r => Sys2Proof.Machine.execTxCancel channel begun r s
  | .rxFifoPop channel fifo offset length r => Sys2Proof.Machine.execRxFifoPop channel fifo offset length r s
  | .txEventPop channel offset length r => Sys2Proof.Machine.execTxEventPop channel offset length r s
  | .detectDwellExpiry channel => Sys2Proof.Machine.execDetectDwellExpiry channel s
  | .detectTimeout channel => Sys2Proof.Machine.execDetectTimeout channel s
  | .canWakePattern channel => Sys2Proof.Machine.execCanWakePattern channel s
  | .read index sub r => Sys2Proof.Machine.execRead index sub r s
  | .write index sub r => Sys2Proof.Machine.execWrite index sub r s
  | .readRange index sub count r => Sys2Proof.Machine.execReadRange index sub count r s
  | .domainRead index sub offset length r => Sys2Proof.Machine.execDomainRead index sub offset length r s
  | .domainWrite index sub offset last r => Sys2Proof.Machine.execDomainWrite index sub offset last r s
  | .push r => Sys2Proof.Machine.execPush r s
  | .keepalive r => Sys2Proof.Machine.execKeepalive r s
  | .transferLapse index sub => Sys2Proof.Machine.execTransferLapse index sub s
  | .functionRun index sub r found => Sys2Proof.Machine.execFunctionRun index sub r found s
  | .functionStop index sub r => Sys2Proof.Machine.execFunctionStop index sub r s
  | .configSave r => Sys2Proof.Machine.execConfigSave r s
  | .sessionHandshake fingerprint via => Sys2Proof.Machine.execSessionHandshake fingerprint via s
  | .idpIdleTimeout peer => Sys2Proof.Machine.execIdpIdleTimeout peer s
  | .netConfirmTimeout => Sys2Proof.Machine.execNetConfirmTimeout s
  | .supervisionFrameSend => Sys2Proof.Machine.execSupervisionFrameSend s
  | .solicit data via => Sys2Proof.Machine.execSolicit data via s
  | .announce => Sys2Proof.Machine.execAnnounce s
  | .programScan micros scan => Sys2Proof.Machine.execProgramScan micros scan s
  | .progWatchdog => Sys2Proof.Machine.execProgWatchdog s
  | .varValue n r => Sys2Proof.Machine.execVarValue n r s
  | .forceEntry n r => Sys2Proof.Machine.execForceEntry n r s
  | .progDebugEnter r => Sys2Proof.Machine.execProgDebugEnter r s
  | .progDebugLeave r => Sys2Proof.Machine.execProgDebugLeave r s
  | .progStep r => Sys2Proof.Machine.execProgStep r s
  | .programStaged r => Sys2Proof.Machine.execProgramStaged r s
  | .exchangeRequest r staged => Sys2Proof.Machine.execExchangeRequest r staged s
  | .exchangeTimeout => Sys2Proof.Machine.execExchangeTimeout s
  | .snapshotReceived x => Sys2Proof.Machine.execSnapshotReceived x s
  | .fieldCycle x => Sys2Proof.Machine.execFieldCycle x s
  | .fieldRestart x => Sys2Proof.Machine.execFieldRestart x s
  | .fieldSupplyFault => Sys2Proof.Machine.execFieldSupplyFault s
  | .dieReset => Sys2Proof.Machine.execDieReset s
  | .fieldRelease r => Sys2Proof.Machine.execFieldRelease r s
  | .diChange n level => Sys2Proof.Machine.execDiChange n level s
  | .aiSettled n => Sys2Proof.Machine.execAiSettled n s
  | .piGateEnd n rises falls => Sys2Proof.Machine.execPiGateEnd n rises falls s
  | .piTimeout n => Sys2Proof.Machine.execPiTimeout n s
  | .kgWindowEnd last => Sys2Proof.Machine.execKgWindowEnd last s
  | .koClampMeasured m current time => Sys2Proof.Machine.execKoClampMeasured m current time s
  | .doOvertemp n => Sys2Proof.Machine.execDoOvertemp n s
  | .kgPathTrip g => Sys2Proof.Machine.execKgPathTrip g s
  | .pairHeartbeatSend => Sys2Proof.Machine.execPairHeartbeatSend s
  | .pairHeartbeatReceived h => Sys2Proof.Machine.execPairHeartbeatReceived h s
  | .heartbeatMiss => Sys2Proof.Machine.execHeartbeatMiss s
  | .controlReceived c => Sys2Proof.Machine.execControlReceived c s
  | .sweepMessageReceived m => Sys2Proof.Machine.execSweepMessageReceived m s
  | .mirrorReceived entries => Sys2Proof.Machine.execMirrorReceived entries s
  | .programMessageReceived p => Sys2Proof.Machine.execProgramMessageReceived p s
  | .configReceived index sub data => Sys2Proof.Machine.execConfigReceived index sub data s
  | .restoreReceived x => Sys2Proof.Machine.execRestoreReceived x s
  | .segmentReceived head expected raw => Sys2Proof.Machine.execSegmentReceived head expected raw s
  | .roleInAsserted => Sys2Proof.Machine.execRoleInAsserted s
  | .roleInDeasserted => Sys2Proof.Machine.execRoleInDeasserted s
  | .roleCollision => Sys2Proof.Machine.execRoleCollision s
  | .splitDetected => Sys2Proof.Machine.execSplitDetected s
  | .aliveLost => Sys2Proof.Machine.execAliveLost s
  | .pairStartWaitExpiry => Sys2Proof.Machine.execPairStartWaitExpiry s
  | .tpDriveStop => Sys2Proof.Machine.execTpDriveStop s
  | .swapDue => Sys2Proof.Machine.execSwapDue s
  | .swapRequest r => Sys2Proof.Machine.execSwapRequest r s
  | .swapSkip => Sys2Proof.Machine.execSwapSkip s
  | .coldStart => Sys2Proof.Machine.execColdStart s
  | .startStepDone x => Sys2Proof.Machine.execStartStepDone x s
  | .regulatorRetry => Sys2Proof.Machine.execRegulatorRetry s
  | .wellToneLoss => Sys2Proof.Machine.execWellToneLoss s
  | .chainActivity => Sys2Proof.Machine.execChainActivity s
  | .wakeOnLan => Sys2Proof.Machine.execWakeOnLan s
  | .wakeTimerExpiry => Sys2Proof.Machine.execWakeTimerExpiry s
  | .watchScan trains => Sys2Proof.Machine.execWatchScan trains s
  | .powerRequestWatch r => Sys2Proof.Machine.execPowerRequestWatch r s
  | .powerRequestDormant r => Sys2Proof.Machine.execPowerRequestDormant r s
  | .powerRequestTransport r energised => Sys2Proof.Machine.execPowerRequestTransport r energised s
  | .handshakeAnswer block partner => Sys2Proof.Machine.execHandshakeAnswer block partner s
  | .handshakeDelayExpiry block => Sys2Proof.Machine.execHandshakeDelayExpiry block s
  | .handshakeTimeout => Sys2Proof.Machine.execHandshakeTimeout s
  | .transportRelease supply => Sys2Proof.Machine.execTransportRelease supply s
  | .brownoutRaised => Sys2Proof.Machine.execBrownoutRaised s
  | .brownoutCleared => Sys2Proof.Machine.execBrownoutCleared s
  | .holdupRecompute energy load v1 v2 => Sys2Proof.Machine.execHoldupRecompute energy load v1 v2 s
  | .crystalLost deviation => Sys2Proof.Machine.execCrystalLost deviation s
  | .xtalTest ready => Sys2Proof.Machine.execXtalTest ready s
  | .powerRestart r => Sys2Proof.Machine.execPowerRestart r s
  | .throttleStart => Sys2Proof.Machine.execThrottleStart s
  | .throttleEnd => Sys2Proof.Machine.execThrottleEnd s
  | .dieCritical sensor temp => Sys2Proof.Machine.execDieCritical sensor temp s
  | .updateManifest r => Sys2Proof.Machine.execUpdateManifest r s
  | .updatePiece component piece r => Sys2Proof.Machine.execUpdatePiece component piece r s
  | .componentHashDone component => Sys2Proof.Machine.execComponentHashDone component s
  | .imageLoadFrame head => Sys2Proof.Machine.execImageLoadFrame head s
  | .updateCommandActivate r kernel intact => Sys2Proof.Machine.execUpdateCommandActivate r kernel intact s
  | .updateCommandCancel r => Sys2Proof.Machine.execUpdateCommandCancel r s
  | .postcheckComplete frontEnds => Sys2Proof.Machine.execPostcheckComplete frontEnds s
  | .postcheckTimeout frontEnds => Sys2Proof.Machine.execPostcheckTimeout frontEnds s
  | .recorderCommit => Sys2Proof.Machine.execRecorderCommit s
  | .recorderCommitNow r => Sys2Proof.Machine.execRecorderCommitNow r s
  | .recorderClear r => Sys2Proof.Machine.execRecorderClear r s
  | .canReceiveError channel error => Sys2Proof.Machine.execCanReceiveError channel error s
  | .ciMainPathSample d => Sys2Proof.Machine.execCiMainPathSample d s
  | .carrierPowerLost => Sys2Proof.Machine.execCarrierPowerLost s
  | .ethernetLinkChange port up => Sys2Proof.Machine.execEthernetLinkChange port up s

end Sys2Proof.Machine
end

