-- ==== Sys2Proof/Machine/Step.lean ====
section
/-!
DEFINITION. One step: the command at the front of the queue, or one tick of the bases while none waits.
-/

namespace Sys2Proof.Machine

/-- What happens while no command waits: 10 ns pass on every base that has power (R32, R33). -/
def idle (s : State) : State :=
  let t := s.cleared
  if t.carrierOn then t.tick else t

/-- One step: the command at the front of the queue is carried out on the state with the rest of the queue; on an empty
queue 10 ns pass. -/
def step (s : State) : Host.Outcome State Fault Refusal :=
  match s.pending with
  | [] => .next (idle s)
  | c :: rest => exec c { s with pending := rest }

/-- The state with the command that a table word spells at the front of its queue; unchanged where it spells none. -/
def State.withFetchWord (s : State) (nbits w : Nat) : State :=
  match decodeTableWord nbits w with
  | some c => { s with pending := c :: s.pending }
  | none => s

end Sys2Proof.Machine
end

