-- ==== Sys2Proof/Safety.lean ====
section
/-!
DEFINITION. What a safe run is, in the terms the claims use: which outcomes of a step are stops, and the promise of R21 on
the contactor outputs.
-/

namespace Sys2Proof.Safety

open Sys2Proof.Machine

/-- A step that goes on. -/
def goesOn (s : State) : Prop := ∃ t, step s = .next t

/-- A contactor output conducts only while its latch is on and both safety controllers grant the enable of its string
(R21). -/
def gated (s : State) : Prop :=
  ∀ m, bitOf s.field.koPad m = true →
    bitOf s.field.koLatch m = true ∧ bitOf s.safety.x.en (m / 3) = true ∧ bitOf s.safety.y.en (m / 3) = true

/-- Whether the part that the pads follow is as the rules say: a contactor output conducts exactly while its latch is on,
both safety controllers grant its string, the field side is powered, the module is neither STANDBY nor yielding and its
group path is whole; a DO exactly while its latch is on, the field side is powered, the module is not held off and it is
not overloaded (R21, R408, R418, R427, R429, R504). -/
def padsFollow (s : State) : Prop :=
  (∀ m, bitOf s.field.koPad m = true ↔
    m < 48 ∧ bitOf s.field.koLatch m = true ∧ bitOf s.safety.x.en (m / 3) = true ∧ bitOf s.safety.y.en (m / 3) = true ∧
    s.field.powered = true ∧ s.standby = false ∧ s.safety.yield = false ∧ ∀ x ∈ s.field.tripped, x.1 ≠ koGroup m) ∧
  (∀ d, bitOf s.field.doPad d = true ↔
    d < 16 ∧ bitOf s.field.doLatch d = true ∧ s.field.powered = true ∧ s.standby = false ∧ s.safety.yield = false ∧
    bitOf (s.n Obj.DO_OVERLOAD) d = false)

/-! ### What settling may change -/

/-- The objects that settling after a command writes: those that show other state, DO overloads and switch counts, the
log's counters, a failed login's, the limits and set-points, the calibration charge, service buffers of CAN. -/
def settledKey (k : Nat) : Bool :=
  [Obj.DO_COMMAND, Obj.DO_OVERLOAD, Obj.LOOPS_RUNNING, Obj.LOOPS_FAULT, Obj.SWEEP_FREE_RUN, Obj.WINDOW_UNLOCKED, Obj.PROG_HELD,
   Obj.TABLE_ROLE, Obj.LOGIN_FAILURES, Obj.LOCKOUT_REMAINING, Obj.LOG_OVERWRITTEN, Obj.LOG_NEWEST, Obj.LOG_COUNT,
   Obj.EXCEPTIONS_OVERWRITTEN, Obj.CONTAINER_LIMIT_CHG, Obj.CONTAINER_LIMIT_DIS, Obj.CAL_STRING, Obj.CAL_PHASE,
   Obj.DEAL_SHORTFALL, Obj.TX_SUPPRESSED 0, Obj.TX_SUPPRESSED 1].contains k ||
  [0x605C, 0x6080, 0x6081, 0x6082, 0x2B21].contains (k / 65536) ||
  ((k / 65536 == 0x2818 || k / 65536 == 0x2819) && Nat.ble 0x20 (k % 65536) && Nat.blt (k % 65536) 0x28)

/-- The state without what settling after a command may change: two states that agree here agree in every other object
and field. -/
def unsettled (s : State) : State :=
  { s with
    store := s.store.filter fun kv => !settledKey kv.1
    free := 0
    exLog := []
    exSlot := 0
    exNo := 0
    time := { s.time with unlocked := false }
    sweep := { s.sweep with strs := [] }
    safety := { s.safety with wrong := false, barred := false, lockMs := 0, x := { s.safety.x with log := [] }, y := { s.safety.y with log := [] }, logNo := 0 }
    disp := { s.disp with shares := [], single := 0, pcal := 0, short := 0 }
    can := s.can.map fun x => { x with svc := [], wait := [] }
    duo := { s.duo with roleOut := false }
    field := { s.field with koLatch := 0, doLatch := 0, koPad := 0, doPad := 0, doLow := [] } }

/-! ### Requests that pass -/

/-- Whether an object is a DOMAIN, whose whole value comes as a transfer (R375). -/
def isDomain (key : Nat) : Bool := (findRow key).map (fun x => x.2.ty) == some .domain

/-- The operation that writes the whole value of an object. -/
def opOf (key : Nat) : Op := if isDomain key then .domainWrite 0 true else .write

/-- The value that the data of a request carry for an object (R361). -/
def valueOf (key : Nat) (r : Req) : Val :=
  match findRow key with
  | some (_, row) => row.ty.decode r.data
  | none => .int 0

/-- The state in which an object's own rules see a write: its session has been heard (R377), a whole DOMAIN has ended the
session's transfer (R375). -/
def heard (s : State) (r : Req) (key : Nat) : State :=
  if isDomain key then closeTransfer r.src key (s.touchSession r) else s.touchSession r

/-- Whether an operation on an object passes the checks before its value: its frame is no duplicate (R382), its session is open, its TAG is none of those
kept, rows 1 to 7 of Table 15.4 hold (R365). -/
def asked (s : State) (r : Req) (op : Op) (idx sub : Nat) : Bool :=
  match s.session? r.src with
  | some ses => (s.netIn r).1 && !(ses.kept.any fun k => k.tag == r.tag) && ((s.touchSession r).checkAccess r ses op idx sub).isNone
  | none => false

/-- Whether a write of an object passes every check of Table 15.4 (R365): its frame is no duplicate (R382), its session is open, its TAG is none of those
kept, rows 1 to 12 hold. -/
def admitted (s : State) (r : Req) (key : Nat) : Bool :=
  match s.session? r.src, findRow key with
  | some ses, some (g, row) =>
    (s.netIn r).1 && !(ses.kept.any fun k => k.tag == r.tag) &&
    ((s.touchSession r).checkAccess r ses (opOf key) (key / 65536) (key % 65536)).isNone &&
    ((s.touchSession r).checkValue r g row (key / 65536) (key % 65536) r.data).isNone
  | _, _ => false

/-- The state `t`, to which an object's own rules led, with the write answered (R371, R374); the active module of a pair
sends a shared write to its partner (R435). -/
def granted (s : State) (r : Req) (key : Nat) (t : State) : State :=
  let u := s.touchSession r
  let shared := match findRow key with
    | some (_, row) => row.shared (key / 65536)
    | none => false
  (if u.n Obj.PAIR_ROLE = 1 ∧ u.b Obj.PAIR_LINK_UP ∧ shared then t.emit (.pair (.config (key / 65536) (key % 65536) r.data))
    else t).answer r (opOf key) (key / 65536) (key % 65536) 0 false []

/-- The next step names no resource that the part lacks. -/
def faultFree (s : State) : Prop := ∀ f, step s ≠ .fault f

end Sys2Proof.Safety
end

