-- ==== Sys2Proof/Certificates/Slice0/Obligations.lean ====
section
/-!
DEFINITION. The statements for the provers. In every completion statement `began s` is the state in which a command's
effect begins and `finish s t` what follows at once from the effect `t`; what either leaves is stated on its own.
-/

section

open Sys2Proof Sys2Proof.Machine Sys2Proof.Safety

/-- Every command on the three bases completes in its own effect: PTP_SYNC, PTP_ANNOUNCE and the receipt timeout with PTP
active (R36, R38, R41), an accepted write of P_SET with the step armed (R35), an accepted ANG edge and a PCS angle
message (R44, R45), their timeouts and the end of holdover (R47), the crystal's compensation (R55) and a due mark pulse
(R53). -/
def Obligations.ClockCommandsComplete : Prop :=
  (∀ (s : State) (port profile domain master : Nat) (x : PtpSync), let u := began s
    let f := forwardPtp port x.seq u
    u.coreOn = true → f.ptpActive = true → takesSync port x.seq f = true → f.n Obj.PTP_MASTER_ID = master →
    f.n Obj.PTP_PROFILE = profile → f.n Obj.PTP_DOMAIN = domain →
    let t : State := { f.putN Obj.PTP_PORT port with time := { f.time with syncSeq := some x.seq } }
    let offset : Int := (t.pNow : Int) - x.masterNs
    t.time.armed = false →
    exec (.ptpSyncMessage port profile domain master x) s = .next (finish s (servoP offset (t.putI Obj.PTP_OFFSET offset)))) ∧
  (∀ (s : State) (port profile domain master : Nat) (x : PtpSync), let u := began s
    let f := forwardPtp port x.seq u
    u.coreOn = true → f.ptpActive = true → takesSync port x.seq f = true → f.n Obj.PTP_MASTER_ID = master →
    f.n Obj.PTP_PROFILE = profile → f.n Obj.PTP_DOMAIN = domain →
    let t : State := { f.putN Obj.PTP_PORT port with time := { f.time with syncSeq := some x.seq } }
    let offset : Int := (t.pNow : Int) - x.masterNs
    t.time.armed = true →
    let offs := (offset :: t.time.offsets).take 4
    let v : State := { t.putI Obj.PTP_OFFSET offset with time := { t.time with offsets := offs } }
    exec (.ptpSyncMessage port profile domain master x) s =
      .next (finish s (if offsetsAgree offs then v.stepP (-offset) pAcquiring else v))) ∧
  (∀ (s : State) (a : Announce), let u := began s
    u.coreOn = true → u.ptpActive = true → u.n Obj.PTP_PROFILE = a.profile → u.n Obj.PTP_DOMAIN = a.domain →
    (a.port = 1 ∨ a.port = 2) → (u.time.masters.all fun x => x.id != a.master || x.port != a.port) = true →
    exec (.ptpAnnounceMessage a) s = .next (finish s (selectMaster
      { u with time := { u.time with masters := u.time.masters ++ [{ port := a.port, id := a.master, rank := a.rank }] } }))) ∧
  (∀ (s : State) (port : Nat), let u := began s
    u.coreOn = true → u.ptpActive = true → u.n Obj.PTP_PORT ≠ port →
    exec (.announceReceiptTimeout port) s =
      .next (finish s { u with time := { u.time with masters := u.time.masters.filter fun x => x.port != port } })) ∧
  (∀ (s : State) (port : Nat), let u := began s
    u.coreOn = true → u.ptpActive = true → u.n Obj.PTP_PORT = port → port ≠ 0 →
    let ms := u.time.masters.filter fun x => x.port != port
    (ms.any fun x => x.id == u.n Obj.PTP_MASTER_ID) = true →
    exec (.announceReceiptTimeout port) s =
      .next (finish s (State.putN { u with time := { u.time with masters := ms } } Obj.PTP_PORT (3 - port)))) ∧
  (∀ (s : State) (port : Nat), let u := began s
    u.coreOn = true → u.ptpActive = true → u.n Obj.PTP_PORT = port → port ≠ 0 →
    let ms := u.time.masters.filter fun x => x.port != port
    (ms.any fun x => x.id == u.n Obj.PTP_MASTER_ID) = false →
    let t : State := { u with time := { u.time with masters := ms } }
    let w := if t.pUnsetFlag then t else t.putN Obj.P_STATE pHoldover
    exec (.announceReceiptTimeout port) s =
      .next (finish s (selectMaster { w with time := { w.time with lockRun := 0, offsets := [] } }))) ∧
  (∀ (s : State) (r : Req), let u := began s
    u.coreOn = true → admitted u r Obj.P_SET = true → u.time.armed = true →
    let t := heard u r Obj.P_SET
    exec (.pSet r) s =
      .next (finish s (granted u r Obj.P_SET (t.stepP ((valueOf Obj.P_SET r).toInt - t.pNow) pHoldover)))) ∧
  (∀ (s : State), let u := began s
    u.coreOn = true → u.angleActive = true → u.usesAng = true →
    (∀ a, u.time.angAccepted = some a → (1000000000 / u.q Obj.M_NOMINAL_FREQ / 2 : Rat) ≤ ((u.lNow - a : Nat) : Rat)) →
    (∀ e, u.time.angEdge = some e → 40 ≤ (1000000000 / ((u.lNow - e : Nat) : Rat) : Rat) ∧ (1000000000 / ((u.lNow - e : Nat) : Rat) : Rat) ≤ 70) →
    let t : State := { u with time := { u.time with angEdge := some u.lNow, angAccepted := some u.lNow, onPcs := false } }
    exec .angEdge s = .next (finish s (reference (signedAngle ((t.angle : Int) - t.i Obj.ANG_OFFSET))
      ((u.time.angEdge.map fun e => freqWord (1000000000 / ((u.lNow - e : Nat) : Rat))).getD t.ownWord) t))) ∧
  (∀ (s : State) (f : CanFrame) (sofL : Nat), let u := began s
    hasChannel f.channel = true → u.coreOn = true → u.canHears f.channel = true → u.canMode f.channel ≠ cmDetect →
    (f.fd = true → u.b (Obj.FD_ENABLE f.channel) = true) →
    u.angleActive = true → u.n Obj.ANGLE_SOURCE = 1 → frameOn f (u.n Obj.ANG_MSG_CHANNEL) (u.n Obj.ANG_MSG_ID) = true →
    8 ≤ f.data.length →
    let t : State := { u with time := { u.time with pcsLast := some u.lNow, onPcs := true } }
    let freq := fieldU f.data 4 4
    exec (.pcsAngleMessage f sofL) s = .next (finish s (reference (signedAngle ((t.angleAt sofL : Int) - fieldU f.data 0 4))
      (if freq = 0 then t.ownWord else freqWord ((freq : Rat) / 1000000)) t))) ∧
  (∀ (s : State), let u := began s
    u.coreOn = true → u.angleActive = true → u.usesAng = true → u.time.angAccepted.isSome = true → u.time.onPcs = false →
    exec .angEdgeTimeout s = .next (finish s (loseReference
      { u with time := { u.time with angAccepted := none, onPcs := u.n Obj.ANGLE_SOURCE == 2 } }))) ∧
  (∀ (s : State), let u := began s
    u.coreOn = true → u.angleActive = true → u.n Obj.ANGLE_SOURCE = 1 → u.time.pcsLast.isSome = true →
    exec .angMsgTimeout s = .next (finish s (loseReference { u with time := { u.time with pcsLast := none } }))) ∧
  (∀ (s : State), let u := began s
    u.coreOn = true → u.angleActive = true → u.n Obj.M_STATE = mHoldover →
    exec .mHoldoverMaxExpiry s =
      .next (finish s ((u.putN Obj.M_STATE mFree).setWord (freqWord (u.q Obj.M_NOMINAL_FREQ))))) ∧
  (∀ (s : State), let u := began s
    u.carrierOn = true → u.degraded = false →
    let x := u.time.xtal + rclamp (-50) 50 (interp u.xtalPoints u.time.die0 - u.time.xtal)
    exec .xtalCompUpdate s =
      .next (finish s (knownRate (rround x - rround u.time.xtal)
        { u.putI Obj.XTAL_COMP (rround x) with time := { u.time with xtal := x } }))) ∧
  (∀ (s : State) (n : Fin 4) (t : Nat), let u := began s
    u.coreOn = true → u.degraded = false → u.n Obj.PAIR_ROLE ≠ 2 → u.running (Obj.MK_STATE n) = true → (nth u.time.marks n {}).next = some t →
    let w := u.emit (.markPulse n (u.n (Obj.MK_WIDTH n)))
    exec (.markPulse n) s = .next (finish s
      (if u.n (Obj.MK_MODE n) = 0 then (w.setMark n { next := none, last := some t }).putN (Obj.MK_STATE n) 0
       else w.setMark n { next := some (t + w.markPeriod n), last := some t })))

/-- Every command of a sweep on the module's own side completes in its own effect: the mark (R25, R100), SYNC (R101), the
latch of the window values (R104), the start of the read (R100), the tail (R26, R27), the current inputs (R103). -/
def Obligations.SweepCommandsComplete : Prop :=
  (∀ (s : State), let u := began s
    u.coreOn = true → u.running Obj.SWEEP_STATE = true → u.time.nextMark.isSome = true → u.degraded = false →
    let a := (sweepTail ⟨[], []⟩ false u).each (sweepTail ⟨[], []⟩ false u).asBuilt.strings latchCharge
    let b := (adoptResuming a).incW 64 Obj.SWEEP_COUNT
    let c : State := { b with
      time := { b.time with prevMarkL := b.time.markL, markL := b.lNow, markP := b.pNow, markUnset := b.pUnsetFlag, unlocked := false }
      sweep := { b.sweep with
        resuming := [], blocks := [], fresh := [], deadline := false, latched := false, tailDone := false, unlockedK := b.time.unlocked } }
    let d := scheduleNext (clockAtMark c)
    let e := gainAtMark (temperatureAtMark (dealsAtMark (chainAtMark d)))
    exec .sweepMark s = .next (finish s (watchWindow (updateAtMark (swapAtMark (refreshReadLimit (restoreAtMark e))))))) ∧
  (∀ (s : State), let u := began s
    u.coreOn = true → u.running Obj.SWEEP_STATE = true →
    exec .syncSend s = .next (finish s (syncSend (updateAtSync u.syncSweep u)))) ∧
  (∀ (s : State) (ws : List StringWindow), let u := began s
    (∀ w ∈ ws, w.string < s.asBuilt.strings) → u.coreOn = true → u.running Obj.SWEEP_STATE = true → u.sweep.latched = false →
    exec (.windowLatch ws) s = .next (finish s (startAll (sendSweep (pilotStrings (windowLatch ws u)))))) ∧
  (∀ (s : State), let u := began s
    u.coreOn = true → u.running Obj.SWEEP_STATE = true → u.running Obj.CHAIN_STATE = true → u.leads = true →
    exec .readStart s = .next (finish s (endReads (u.forAll (u.headsIn roleReading) fun h t =>
      if chainTime (t.n (Obj.HEAD_DEVICES h)) ≤ t.readBoundNow then sendRead h t else t)))) ∧
  (∀ (s : State) (run : TailRun) (finished : Bool), let u := began s
    u.coreOn = true → u.running Obj.SWEEP_STATE = true → u.sweep.tailDone = false →
    exec (.sweepTail run finished) s = .next (finish s (
      let a := pilotStale (abacusDeadline u)
      let armed := (List.range 16).map fun n => (a.track n).armed == some 1
      let b := stepPattern (countDeals (knownAnswers run.rods (cellsTail (readChecked (a.mappedCells.map (·.1)) run.words (bookBleed a)))))
      let c := if b.sweeping Obj.EST_STATE && !b.standby then b.each b.asBuilt.strings anchorTail else b
      let anchored := fun n => nth armed n false && (c.stringCells n).any fun i => c.abacus.updated.contains i && c.estFlag i efAnchored
      let d := c.each c.asBuilt.strings stringOutputs
      let e := d.each d.asBuilt.strings calibrationWanted
      let f := powersTail (protectionTail (keepSensors (temperatureTail e)))
      let g := if f.standby then f else
        let f' := if finished then balanceTail f else f
        dispatchTail finished anchored (loopsTail (calTail f'))
      let h := recorderTail (updateTail (custodyTail (mirrorTail g)))
      let t : State := { h with sweep := { h.sweep with tailDone := true } }
      if finished then t else t.logN 0x0101 0x2200 noSubject (t.n Obj.SWEEP_COUNT % 2 ^ 32) 0))) ∧
  (∀ (s : State) (n : Nat), let u := began s
    n < s.asBuilt.strings → u.coreOn = true →
    exec (.ciFault n) s = .next (finish s ((u.putB (Obj.CI_FAULT n) true).modStr n fun x =>
      { x with faultSeen := x.faultSeen || u.windowOpen }))) ∧
  (∀ (s : State) (n : Nat), let u := began s
    n < s.asBuilt.strings → u.coreOn = true →
    exec (.ciFaultClear n) s = .next (finish s (u.putB (Obj.CI_FAULT n) false))) ∧
  (∀ (s : State) (d : List (Nat × Rat)), let u := began s
    (∀ x ∈ d, x.1 < s.asBuilt.strings) → u.coreOn = true →
    exec (.ciMainPathSample d) s = .next (finish s (proofWatch (u.forAll d fun x t =>
      if x.1 < t.asBuilt.strings then overcurrentPath x.1 (mainPathSample x.1 x.2 t) else t))))

/-- Every command of the chains completes in its own effect: blocks of a head and of the partner's segment (R109, R115),
trains (R70), the wait for a train (R72), the order to read the other segment (R114), the checks of a listening head and
of a segment head (R112, R116), heartbeats (R90), echoes (R76), addressing beyond a cut (R87), the acceptance of a device
(R86). -/
def Obligations.ChainCommandsComplete : Prop :=
  (∀ (s : State) (h expected : Nat) (raw : Bytes), let u := began s
    h < s.asBuilt.heads → u.coreOn = true → u.standby = false →
    exec (.blockReceived h expected raw) s =
      .next (finish s (blockArrives (u.n (Obj.HEAD_ROLE h) == roleSegment) h expected raw u))) ∧
  (∀ (s : State) (h expected : Nat) (raw : Bytes), let u := began s
    h < s.asBuilt.heads → u.coreOn = true →
    exec (.segmentReceived h expected raw) s = .next (finish s (blockArrives true h expected raw u))) ∧
  (∀ (s : State) (h : Nat) (t : Train) (a : Await), let u := began s
    h < s.asBuilt.heads → u.coreOn = true → (u.head h).awaiting = some a → trainOk t = true → trainAnswers a t = true →
    let w := (trainHeader h a t u).modHead h fun x => { x with awaiting := none }
    a.kind = kRead → w.running Obj.SWEEP_STATE = true →
    exec (.trainReceived h t) s = .next (finish s (drainIdle h (readTrain h a t w)))) ∧
  (∀ (s : State) (h : Nat) (t : Train) (a : Await) (b : Bytes), let u := began s
    h < s.asBuilt.heads → u.coreOn = true → (u.head h).awaiting = some a → trainOk t = true → trainAnswers a t = true →
    answerBlock a t = some b →
    let w := (trainHeader h a t u).modHead h fun x => { x with awaiting := none }
    (a.kind = kBalance → exec (.trainReceived h t) s = .next (finish s (drainIdle h (balanceAck h a b w)))) ∧
    (a.kind = kConfigWrite → exec (.trainReceived h t) s = .next (finish s (drainIdle h (configAck h a b w)))) ∧
    (a.kind = kImageCheck → exec (.trainReceived h t) s = .next (finish s (drainIdle h (imageChecked h b w))))) ∧
  (∀ (s : State) (h : Nat) (begun : Bool) (a : Await), let u := began s
    h < s.asBuilt.heads → u.coreOn = true → (u.head h).awaiting = some a → a.kind ≠ kRead →
    exec (.trainWaitTimeout h begun) s =
      .next (finish s (drainIdle h ((u.inc (Obj.HEAD_TIMEOUTS h)).modHead h fun x => { x with awaiting := none })))) ∧
  (∀ (s : State) (h : Nat) (a : Await), let u := began s
    h < s.asBuilt.heads → u.coreOn = true → (u.head h).awaiting = some a → a.kind = kRead →
    let t := (u.inc (Obj.HEAD_TIMEOUTS h)).modHead h fun x => { x with awaiting := none }
    t.n (Obj.HEAD_ROLE h) = roleReading →
    let v := (t.modHead h fun x => { x with readTurn := none }).modHead h fun x => { x with normal := false }
    exec (.trainWaitTimeout h false) s = .next (finish s (drainIdle h (orderSegment h 0 (locate h 0 v)))) ∧
    exec (.trainWaitTimeout h true) s = .next (finish s (drainIdle h v))) ∧
  (∀ (s : State) (h d m : Nat), let u := began s
    h < s.asBuilt.heads → u.coreOn = true →
    (if u.n (Obj.HEAD_SHAPE h) = shapeBridge ∧ u.standby = true then m = d else (u.head h).ordered = some m) →
    let t := u.modHead h fun x => { x with ordered := none }
    (t.head h).delaysB = true → (t.head h).silent = false → t.running Obj.CHAIN_STATE = true →
    (t.n (Obj.HEAD_ROLE h) = roleListening ∨ t.n (Obj.HEAD_ROLE h) = roleSegment) →
    let since := if u.n (Obj.HEAD_SHAPE h) = shapeBridge ∧ u.standby = true then t.time.markL else (t.head (t.readingHeadOf h)).readL
    ((t.lNow - since : Nat) : Rat) / 1000000000 + chainTime m ≤ t.readBoundNow →
    exec (.segmentReadOrder h d) s =
      .next (finish s (sendRead h ((t.putN (Obj.HEAD_ROLE h) roleSegment).inc Obj.SEGMENT_READS)))) ∧
  (∀ (s : State) (h kind : Nat), let u := began s
    h < s.asBuilt.heads → u.coreOn = true → u.running Obj.CHAIN_STATE = true → u.n (Obj.HEAD_ROLE h) = roleListening →
    exec (.carrierCheck h kind true) s = .next (finish s
      (((u.modHead h fun x => { x with misses := 0 }).putB (Obj.HEAD_CONTINUITY h) true).putN (Obj.BREAK_HOP h) 0xFF))) ∧
  (∀ (s : State) (h : Nat), let u := began s
    h < s.asBuilt.heads → u.coreOn = true → u.n (Obj.HEAD_ROLE h) = roleSegment →
    exec (.continuityRestored h) s = .next (finish s
      (((u.putB (Obj.HEAD_CONTINUITY h) true).putN (Obj.BREAK_HOP h) 0xFF).modHead h fun x => { x with silent := true, misses := 0 }))) ∧
  (∀ (s : State) (h : Nat), let u := began s
    h < s.asBuilt.heads → u.coreOn = true → u.headSends h = true → (u.head h).awaiting = none →
    exec (.heartbeatDue h) s = .next (finish s
      (transmit h kHeartbeat 0 (leBytes 4 ((u.lNow + airTime 4) % 2 ^ 32)) u))) ∧
  (∀ (s : State) (h : Nat) (fromB : Bool) (l : List EchoDev), let u := began s
    h < s.asBuilt.heads → u.coreOn = true → u.running Obj.CHAIN_STATE = true → (u.head h).idle = true →
    (if fromB then measuresFar u h = true else u.n (Obj.HEAD_ROLE h) = roleReading) →
    let done := (l.foldl (echoOne h fromB) ([], u)).1
    let t := (l.foldl (echoOne h fromB) ([], u)).2
    let whole := (List.range (t.n (Obj.HEAD_DEVICES (t.readingHeadOf h)))).all fun i => done.contains (i + 1)
    exec (.echoDue h fromB l) s = .next (finish s
      (if fromB && whole then t.modHead h fun x => { x with delaysB := true } else t))) ∧
  (∀ (s : State) (h turn : Nat), let u := began s
    h < s.asBuilt.heads → u.coreOn = true → u.headSends h = true → (u.head h).idle = true → (u.head h).readdressed = false →
    (u.head h).readTurn = some (turn, 2) → u.n (Obj.HEAD_ROLE h) ≠ roleSegment → turn < u.n (Obj.HEAD_DEVICES h) →
    exec (.readdress h []) s = .next (finish s
      (((transmit h kEnum 255 (leBytes 1 (turn + 1) ++ leBytes 1 (u.readingHeadOf h) ++ leBytes 2 0) u).inc (Obj.HEAD_TIMEOUTS h)).modHead h
        fun y => { y with readdressed := true }))) ∧
  (∀ (s : State) (r : Req), let u := began s
    u.coreOn = true → admitted u r Obj.ACCEPT_DEVICE = true →
    let v := valueOf Obj.ACCEPT_DEVICE r
    ∀ t, ownAcceptDevice v (heard u r Obj.ACCEPT_DEVICE) = .ok t →
    exec (.acceptDevice r) s = .next (finish s (granted u r Obj.ACCEPT_DEVICE
      (refreshLeadNeeded (returnFrontEnd v.toNat (setLead v.toNat 0 0 t))))))

/-- Every command of the cell model and of the estimator's custody completes in its own effect: the deadline (R182), a
finished update and an overrun one (R156, R177), a scrubbed word (R196), duties and lead calibration (R125, R133), the
anchor timers (R164), the ends of the wait (R204), checkpoints and their transfer (R209, R211, R378). -/
def Obligations.CellCommandsComplete : Prop :=
  (∀ (s : State), let u := began s
    u.coreOn = true → u.running Obj.SWEEP_STATE = true → u.sweep.deadline = false →
    exec .abacusDeadline s = .next (finish s (
      let a := markStale u
      let late := if a.estimating then a.abacus.stored.filter fun n => !a.abacus.started.contains n else []
      let b := a.forAll late defer
      { b with sweep := { b.sweep with deadline := true } }))) ∧
  (∀ (s : State) (rod n : Nat) (errs : List WordErr) (mirror : Option (CpRec × Rat)), let u := began s
    rod < 16 → n < s.asBuilt.cells → u.coreOn = true → ((u.rod rod).slots.any fun x => x.cell == n) = true →
    exec (.cellUpdateDone rod n errs mirror) s =
      .next (finish s (mirrorUpdated n (cellUpdateDone rod n (mirrorRecord n mirror u) errs u)))) ∧
  (∀ (s : State) (rod n : Nat), let u := began s
    rod < 16 → n < s.asBuilt.cells → u.coreOn = true →
    ∀ f, ((u.rod rod).slots.find? fun x => x.cell == n) = some f →
    exec (.kernelOverrun rod n) s = .next (finish s (
      let a := u.modRod rod fun x => { x with slots := x.slots.filter fun y => y.cell != n, used := x.used + f.worst }
      startAll ((defer n (a.setDealFlag n dfOverrun true)).inc Obj.KERNEL_OVERRUNS)))) ∧
  (∀ (s : State) (w : WordErr), let u := began s
    u.coreOn = true →
    let a := scrubTarget u
    let busy := ((wordCell a).map u.inFlight).getD false
    let b := u.modAbacus fun x =>
      let later := x.scrubLater.filter (· != a)
      { x with scrubLater := if busy && Nat.blt a 524288 then later ++ [a] else later
               scrubNext := if a = x.scrubNext then min 524288 (a + 1) else x.scrubNext }
    let t := if busy || Nat.ble 524288 a then b else readWord { w with word := a } b
    let ms := (t.lNow - t.abacus.scrubStart) / 1000000
    let v := ((t.modAbacus fun x => { x with scrubNext := 0, scrubStart := t.lNow }).inc Obj.CSM_SCRUB_PASSES).putN
      Obj.CSM_SCRUB_PASS_TIME (min ms 65535)
    exec (.scrubWord w) s = .next (finish s (startAll
      (if t.abacus.scrubNext < 524288 || !t.abacus.scrubLater.isEmpty then t
       else if 10000 < ms then v.logN 0x0302 0x2400 noSubject ms 0 else v)))) ∧
  (∀ (s : State) (periodic : Bool), let u := began s
    u.coreOn = true → u.running Obj.CHAIN_STATE = true → u.leads = true →
    exec (.balanceSend periodic) s = .next (finish s
      (u.forAll (u.entries.filter fun x => !(u.fe x.1).testing && (periodic || (u.fe x.1).due)) balanceOne))) ∧
  (∀ (s : State) (r : Req), let u := began s
    u.coreOn = true → admitted u r Obj.LEAD_CAL_START = true →
    let t := heard u r Obj.LEAD_CAL_START
    t.n Obj.LEAD_CAL_STATE ≠ 1 → t.n Obj.BAL_STATE = 0 → t.running Obj.SWEEP_STATE = true →
    exec (.leadCalStart r) s = .next (finish s (granted u r Obj.LEAD_CAL_START (
      let f := (valueOf Obj.LEAD_CAL_START r).toNat
      let chosen := t.entries.filter fun x => (f == 0xFFFF || x.1 == f) && t.n (Obj.FE_STATUS x.1) == feMatch
      let a := t.forAll chosen fun x s => s.modFe x.1 fun y => { y with cal := some {} }
      let b : State := { a.putN Obj.LEAD_CAL_STATE 1 with
        est := { a.est with calStart := a.syncSweep, calLost := f == 0xFFFF && chosen.length != a.entries.length || chosen.isEmpty } }
      if chosen.isEmpty then calEnd false b else b)))) ∧
  (∀ (s : State), let u := began s
    u.coreOn = true → u.n Obj.LEAD_CAL_STATE = 1 → u.est.calStart + 30 * u.n Obj.LEAD_CAL_REPEATS ≤ u.n Obj.SWEEP_COUNT →
    exec .leadCalTimeout s = .next (finish s
      (calEnd (!u.est.calLost && u.underCal.all fun x => ((u.fe x.1).cal.map fun c => c.done).getD false) u))) ∧
  (∀ (s : State) (n : Nat), let u := began s
    n < s.asBuilt.strings → u.coreOn = true →
    let t := (u.track n).timers
    let top := decide ((u.n Obj.TAPER_TIME : Rat) ≤ nth t 0 0)
    let bot := decide ((u.n Obj.KNEE_TIME : Rat) ≤ nth t 1 0)
    let rest := decide ((u.n Obj.REST_TIME : Rat) ≤ nth t 2 0)
    (top || bot || rest) = true →
    exec (.anchorArm n) s = .next (finish s (showAnchors n (u.modTrack n fun x =>
      { x with timers := [if top then 0 else nth t 0 0, if bot then 0 else nth t 1 0, if rest then 0 else nth t 2 0],
               armed := some (if top then 1 else if bot then 2 else 3) })))) ∧
  (∀ (s : State) (n : Nat), let u := began s
    n < s.asBuilt.strings → u.coreOn = true → 2 ≤ (u.track n).unjudged →
    exec (.anchorTimerExpiry n) s =
      .next (finish s (showAnchors n (u.modTrack n fun x => { x with timers := [0, 0, 0], unjudged := 0 })))) ∧
  (∀ (s : State), let u := began s
    u.coreOn = true → u.waiting = true → u.standby = false → u.custody.partner = none → u.custody.host.isSome = true →
    exec .partnerPreferenceExpiry s = .next (finish s (u.modCustody fun c => { c with armed := some 2 }))) ∧
  (∀ (s : State), let u := began s
    u.coreOn = true → u.waiting = true → u.custody.armed = none →
    exec .restoreTimeoutExpiry s = .next (finish s (
      let a := if u.standby then u else u.forAll u.mappedCells fun x t => makeCold x.1 t
      waitEnded (((clearDeals a).putN Obj.CUSTODY_STATE cuCold).modCustody fun c => { c with host := none, partner := none })))) ∧
  (∀ (s : State) (r : Req), let u := began s
    u.coreOn = true → admitted u r Obj.CHECKPOINT = true →
    let t := heard u r Obj.CHECKPOINT
    (t.n Obj.CUSTODY_STATE = cuWait ∨ t.n Obj.EST_STATE = 0) → ∀ x, parseCheckpoint (valueOf Obj.CHECKPOINT r).toBytes t = .ok x →
    exec (.checkpoint r) s = .next (finish s (granted u r Obj.CHECKPOINT
      (armHost false ((t.putN Obj.RESTORE_REFUSAL 0).modCustody fun c => { c with host := some x }))))) ∧
  (∀ (s : State), let u := began s
    u.coreOn = true → u.b Obj.BROWNOUT = false → u.custody.gen = none →
    exec .checkpointPeriodExpiry s = .next (finish s (startGeneration 0 true u))) ∧
  (∀ (s : State), let u := began s
    u.coreOn = true → u.b Obj.BROWNOUT = false → u.custody.gen.isSome = true →
    exec .checkpointPeriodExpiry s = .next (finish s (u.modCustody fun c => { c with due := some 0 }))) ∧
  (∀ (s : State) (r : Req), let u := began s
    u.coreOn = true → admitted u r Obj.CHECKPOINT_DEMAND = true →
    let t := readChecked ((heard u r Obj.CHECKPOINT_DEMAND).mappedCells.map (·.1)) r.words (heard u r Obj.CHECKPOINT_DEMAND)
    exec (.checkpointDemand r) s = .next (finish s (granted u r Obj.CHECKPOINT_DEMAND
      (if t.custody.gen.isSome then sendRest (t.modCustody fun c => { c with gen := c.gen.map fun g => { g with paced := false } })
       else generationDue 1 t)))) ∧
  (∀ (s : State) (peer offset : Nat), let u := began s
    peer < 16 → u.coreOn = true → u.n Obj.CHECKPOINT_PEER = peer →
    ∀ p, (u.custody.pieces.find? fun q => q.offset == offset) = some p → p.last = false →
    exec (.pushConfirm peer offset 0) s =
      .next (finish s (u.modCustody fun c => { c with pieces := c.pieces.filter fun q => q.offset != offset }))) ∧
  (∀ (s : State) (peer offset : Nat), let u := began s
    peer < 16 → u.coreOn = true → u.n Obj.CHECKPOINT_PEER = peer →
    ∀ p, (u.custody.pieces.find? fun q => q.offset == offset) = some p → p.last = true →
    let t := u.modCustody fun c => { c with pieces := c.pieces.filter fun q => q.offset != offset }
    exec (.pushConfirm peer offset 0) s =
      .next (finish s (endGeneration (t.putN Obj.LAST_GEN_SEALED ((t.custody.gen.map Generation.number).getD 0))))) ∧
  (∀ (s : State) (x : PushRef) (p : PushPiece), let u := began s
    x.peer < 16 → u.coreOn = true → u.n Obj.CHECKPOINT_PEER = x.peer →
    (u.custody.pieces.find? fun q => q.offset == x.offset) = some p → p.attempts < 5 →
    let t := u.modCustody fun c =>
      { c with pieces := c.pieces.map fun q => if q.offset = x.offset then { q with attempts := q.attempts + 1 } else q }
    exec (.pushRetry x) s = .next (finish s (t.emit (.push
      { addr := t.n (Obj.PEER_ADDR x.peer), port := t.n (Obj.PEER_PUSH_PORT x.peer), tag := p.tag, key := Obj.CHECKPOINT,
        offset := p.offset, last := p.last, data := p.data })))) ∧
  (∀ (s : State) (x : PushRef) (p : PushPiece), let u := began s
    x.peer < 16 → u.coreOn = true → u.n Obj.CHECKPOINT_PEER = x.peer →
    (u.custody.pieces.find? fun q => q.offset == x.offset) = some p → 5 ≤ p.attempts →
    exec (.pushRetry x) s = .next (finish s (endGeneration (abandonGeneration u))))

/-- Every command of the temperature function and of the thermal loops completes in its own effect: a failed sensor and
its return (R226), dwells (R229), the die sensors (R234), the tick of the loops (R246), a hand-over ended by force
(R254), loop faults (R243, R255), frames out and in (R250, R242), the writes of a running loop (R253). -/
def Obligations.HeatCommandsComplete : Prop :=
  (∀ (s : State) (n cause : Nat), let u := began s
    n < s.asBuilt.sensors → u.coreOn = true → u.running Obj.TEMP_STATE = true → u.fitted n = true →
    (cause = fcCross → u.n (Obj.SENSOR_STATUS n) = snSuspect) → (cause ≠ fcCross → u.sensorMeasures n = true) →
    exec (.sensorFailed n cause) s = .next (finish s (countSensors (substitute n (neighbourRef u n) (failSensor n cause u))))) ∧
  (∀ (s : State) (r : Req), let u := began s
    u.coreOn = true → admitted u r Obj.SENSOR_RESET = true →
    exec (.sensorReset r) s = .next (finish s (granted u r Obj.SENSOR_RESET
      (returnSensor (valueOf Obj.SENSOR_RESET r).toNat (heard u r Obj.SENSOR_RESET))))) ∧
  (∀ (s : State) (n el : Nat), let u := began s
    n < 16 → u.coreOn = true →
    exec (.thresholdDwell 0 n el) s = .next (finish s (stringRaised (u.setLt n (fireElement (u.lt n) el))))) ∧
  (∀ (s : State) (n el : Nat), let u := began s
    n < 8 → u.coreOn = true →
    exec (.thresholdDwell 1 n el) s = .next (finish s (stringRaised (u.setRt n (fireElement (u.rt n) el))))) ∧
  (∀ (s : State) (n el : Nat), let u := began s
    n < 16 → u.coreOn = true → u.protecting = true →
    exec (.thresholdDwell 2 n el) s = .next (finish s (ruleChecks n (u.setRule n (fireElement (u.rule n) el))))) ∧
  (∀ (s : State) (temps : List Rat), let u := began s
    u.carrierOn = true →
    let t : State := { u with time := { u.time with die0 := nth temps 0 u.time.die0 } }
    exec (.moduleDieRead temps) s = .next (finish s (if t.coreOn then recordDie (moduleDieRead temps t) else t))) ∧
  (∀ (s : State), let u := began s
    u.coreOn = true → u.standby = false → u.duo.handing = false → exec .loopTick s = .next (finish s (loopTick u))) ∧
  (∀ (s : State) (n : Nat), let u := began s
    n < 16 → u.coreOn = true → u.standby = false → u.n (Obj.LOOP_STATE n) = 1 → (u.loop n).handover.isSome = true →
    exec (.handoverForced n) s = .next (finish s (showLoop n (driveLaw n (forceHandover n u))))) ∧
  (∀ (s : State) (n : Nat), let u := began s
    n < 16 → u.coreOn = true → u.standby = false → u.loopActs n = true →
    exec (.senseLost n) s = .next (finish s (showLoop n (faultLoop n 1 u)))) ∧
  (∀ (s : State) (n : Nat), let u := began s
    n < 16 → u.coreOn = true → u.standby = false → u.loopActs n = true → (u.loop n).plausL.isSome = true →
    exec (.plausibilityFault n) s = .next (finish s (showLoop n (faultLoop n 2 u)))) ∧
  (∀ (s : State) (n : Nat), let u := began s
    n < 16 → u.coreOn = true → u.standby = false → u.loopActs n = true → u.n (Obj.OUT_A n) = 0xFE →
    exec (.loopFrameSend n) s = .next (finish s (
      let x := u.loop n
      let fl := b2n x.outA + 2 * b2n (u.n (Obj.LOOP_STATE n) == 2) + 4 * b2n x.manual + 8 * b2n x.handover.isSome +
        16 * b2n (x.law == lawCarry)
      let c := u.i (Obj.PULSE_COUNT n)
      let data := leBytes 1 n ++ leBytes 1 fl ++ leBytes 4 (twos 32 c) ++ leBytes 2 x.seq
      let t := u.modLoop n fun y => { y with frameFlags := fl, frameCount := c, seq := (y.seq + 1) % 65536 }
      sendService (serviceFrame (t.n (Obj.OUT_CAN_CHANNEL n)) (t.n (Obj.OUT_CAN_ID n)) false data) false t))) ∧
  (∀ (s : State) (f : CanFrame), let u := began s
    f.channel < 2 → u.coreOn = true → u.canHears f.channel = true → u.canMode f.channel ≠ cmDetect →
    (f.fd = true → u.b (Obj.FD_ENABLE f.channel) = true) →
    exec (.senseCanFrame f) s = .next (finish s (u.each 16 fun n t =>
      if !t.loopActs n || t.n (Obj.SENSE_SOURCE n) != 1 || !frameOn f (t.n (Obj.SENSE_CAN_CHANNEL n)) (t.n (Obj.SENSE_CAN_ID n)) then t
      else
        let o := t.n (Obj.SENSE_CAN_OFFSET n)
        senseUpdate n (if o + 2 ≤ f.data.length then some ((fieldI f.data o 2 : Rat) / 100) else none) t))) ∧
  (∀ (s : State) (n : Nat) (r : Req), let u := began s
    n < 16 → u.coreOn = true → admitted u r (Obj.LAW_REQ n) = true →
    exec (.lawReq n r) s = .next (finish s (granted u r (Obj.LAW_REQ n)
      ((heard u r (Obj.LAW_REQ n)).put (Obj.LAW_REQ n) (valueOf (Obj.LAW_REQ n) r))))) ∧
  (∀ (s : State) (n : Nat) (r : Req), let u := began s
    n < 16 → u.coreOn = true → admitted u r (Obj.MANUAL n) = true →
    exec (.manual n r) s = .next (finish s (granted u r (Obj.MANUAL n)
      ((heard u r (Obj.MANUAL n)).put (Obj.MANUAL n) (valueOf (Obj.MANUAL n) r))))) ∧
  (∀ (s : State) (n : Nat) (r : Req), let u := began s
    n < 16 → u.coreOn = true → admitted u r (Obj.MANUAL_OUT n) = true →
    let v := valueOf (Obj.MANUAL_OUT n) r
    let t := (heard u r (Obj.MANUAL_OUT n)).put (Obj.MANUAL_OUT n) v
    exec (.manualOut n r) s = .next (finish s (granted u r (Obj.MANUAL_OUT n)
      (if t.b (Obj.MANUAL n) then t.modLoop n fun x => { x with manuals := x.manuals ++ [v.toInt] } else t))))

/-- Every command of protection completes in its own effect: overcurrent (R267), the insulation monitor and its loss
(R268, R265), bus voltage and its loss (R275, R265), a lost current input (R265), the close and open sequences with each
of their times (R276 to R279), weld verdicts (R283, R284), the resets of the latches (R264). -/
def Obligations.ProtectionCommandsComplete : Prop :=
  (∀ (s : State) (n : Nat), let u := began s
    n < s.asBuilt.strings → u.coreOn = true → u.b (Obj.CI_FAULT n) = false →
    exec (.overcurrent n) s = .next (finish s (koOff n
      (if u.protecting && u.hasCells n then setCheck n ckOvercurrent true (abortProof n u) else abortProof n u)))) ∧
  (∀ (s : State) (f : CanFrame), let u := began s
    f.channel < 2 → u.coreOn = true → u.canHears f.channel = true → u.canMode f.channel ≠ cmDetect → u.protecting = true →
    frameOn f (u.n Obj.ISO_MSG_CHANNEL) (u.n Obj.ISO_MSG_ID) = true → f.fd = false → 8 ≤ f.data.length →
    bitOf (fieldU f.data 4 1) 0 = true → bitOf (fieldU f.data 4 1) 1 = false →
    exec (.isoMessage f) s = .next (finish s (
      let a := setCheckAll ckIsoLost false u
      let r := fieldU f.data 0 4
      let low := if r < a.n Obj.ISO_TRIP then a.prot.isoLow + 1 else 0
      let warn := if r < a.n Obj.ISO_WARN then a.prot.isoWarnLow + 1 else 0
      let b : State := { a.putN Obj.ISO_RESISTANCE r with prot := { a.prot with isoLow := low, isoWarnLow := warn } }
      isoThreshold ckIsoWarn (b.n Obj.ISO_WARN) r warn (isoThreshold ckInsulation (b.n Obj.ISO_TRIP) r low b)))) ∧
  (∀ (s : State), let u := began s
    u.coreOn = true → u.protecting = true → exec .isoLost s = .next (finish s (setCheckAll ckIsoLost true u))) ∧
  (∀ (s : State) (f : CanFrame), let u := began s
    f.channel < 2 → u.coreOn = true → u.canHears f.channel = true → u.canMode f.channel ≠ cmDetect → u.protecting = true →
    f.fd = false → 8 ≤ f.data.length → bitOf (fieldU f.data 4 1) 0 = true →
    let l := (List.range u.asBuilt.strings).filter fun n =>
      frameOn f (u.n Obj.BUS_MSG_CHANNEL) (if u.perString then u.n Obj.BUS_MSG_ID + n else u.n Obj.BUS_MSG_ID)
    exec (.busVoltageFrame f) s = .next (finish s (u.forAll l fun n t =>
      let v := t.putQ (Obj.BUS_VOLTAGE n) ((fieldU f.data 0 4 : Rat) / 1000)
      voltageEvents n (setCheck n ckBusLost false (v.modPs n fun x => { x with busL := some v.lNow }))))) ∧
  (∀ (s : State) (n : Nat), let u := began s
    n < s.asBuilt.strings → u.coreOn = true → u.protecting = true → u.hasCells n = true → u.seq n ≠ sqOpen →
    exec (.busLost n) s = .next (finish s (setCheck n ckBusLost true (u.modPs n fun x => { x with busL := none })))) ∧
  (∀ (s : State) (n : Nat), let u := began s
    n < s.asBuilt.strings → u.coreOn = true → u.protecting = true → u.hasCells n = true → u.b (Obj.CI_FAULT n) = true →
    exec (.currentInputTimeout n) s = .next (finish s (setCheck n ckCurrentInput true u))) ∧
  (∀ (s : State) (n : Nat) (r : Req), let u := began s
    n < s.asBuilt.strings → u.coreOn = true → admitted u (writing r [1]) (Obj.STRING_COMMAND n) = true →
    let t := heard u (writing r [1]) (Obj.STRING_COMMAND n)
    t.protecting = true → closeRefusal t n = none →
    exec (.stringCommandClose n r) s =
      .next (finish s (granted u (writing r [1]) (Obj.STRING_COMMAND n) (beginClose n t)))) ∧
  (∀ (s : State) (n : Nat) (r : Req), let u := began s
    n < s.asBuilt.strings → u.coreOn = true → admitted u (writing r [2]) (Obj.STRING_COMMAND n) = true →
    exec (.stringCommandOpen n r) s = .next (finish s (granted u (writing r [2]) (Obj.STRING_COMMAND n)
      (openString n false (heard u (writing r [2]) (Obj.STRING_COMMAND n)))))) ∧
  (∀ (s : State) (n : Nat), let u := began s
    n < s.asBuilt.strings → u.coreOn = true → u.standby = false → (u.ps n).phase = phNeg → confirmed u (koNeg n) = true →
    exec (.contactTimeExpiry n) s = .next (finish s
      (let a := (setKo (koPre n) true u).putN (Obj.STRING_SEQ_STATE n) sqPrecharging
       a.modPs n fun x => { x with stepL := a.lNow, phase := phPre, touched := withBit x.touched 2 true }))) ∧
  (∀ (s : State) (n : Nat), let u := began s
    n < s.asBuilt.strings → u.coreOn = true → u.standby = false → (u.ps n).phase = phPos → confirmed u (koPos n) = true →
    exec (.contactTimeExpiry n) s = .next (finish s (u.modPs n fun x => { x with stepL := u.lNow, phase := phOverlap }))) ∧
  (∀ (s : State) (n : Nat), let u := began s
    n < s.asBuilt.strings → u.coreOn = true → u.standby = false → (u.ps n).phase = phContact →
    exec (.contactTimeExpiry n) s = .next (finish s (openChecks n u))) ∧
  (∀ (s : State) (n : Nat), let u := began s
    n < s.asBuilt.strings → u.coreOn = true → u.standby = false → (u.ps n).phase = phPre →
    exec (.prechargeTimeout n) s = .next (finish s (
      let a := u.logEx 0x0603 0x2600 n (.real (u.voltageGap n)) (.int 0) (.int 0)
      let f := (a.ps n).fails + 1
      let b := emergencyOff n (a.modPs n fun x => { x with cooldown := true, fails := f })
      if b.n Obj.PRECHARGE_ATTEMPTS ≤ f then setCheck n ckPrecharge true b else b))) ∧
  (∀ (s : State) (n : Nat), let u := began s
    n < s.asBuilt.strings → u.coreOn = true → u.standby = false → (u.ps n).phase = phOverlap →
    exec (.prechargeOverlapExpiry n) s = .next (finish s (
      let a := ((setKo (koPre n) false u).putN (Obj.STRING_SEQ_STATE n) sqClosed).inc (Obj.OPERATIONS n)
      a.modPs n fun x => { x with stepL := a.lNow, phase := if a.auxMapped (koPre n) then phPreOpen else phNone, fails := 0 }))) ∧
  (∀ (s : State) (n : Nat), let u := began s
    n < s.asBuilt.strings → u.coreOn = true → u.standby = false →
    exec (.prechargeCooldownEnd n) s = .next (finish s (u.modPs n fun x => { x with cooldown := false }))) ∧
  (∀ (s : State) (n : Nat), let u := began s
    n < s.asBuilt.strings → u.coreOn = true → u.standby = false → (u.ps n).phase = phBreak →
    exec (.breakWaitEnd n) s = .next (finish s (
      let i := u.magnitude n
      let a := if i ≤ u.q Obj.BREAK_CURRENT then u else
        ((u.inc (Obj.BREAKS_UNDER_LOAD n)).putQ (Obj.LAST_BREAK_CURRENT n) i).logEx 0x0604 0x2600 n (.real i) (.int 0) (.int 0)
      let b := (setKo (koPos n) false (setKo (koPre n) false a)).putN (Obj.STRING_SEQ_STATE n) sqOpening
      b.modPs n fun x => { x with stepL := b.lNow, phase := phNegDelay, breakMs := none }))) ∧
  (∀ (s : State) (n : Nat), let u := began s
    n < s.asBuilt.strings → u.coreOn = true → u.standby = false → (u.ps n).phase = phNegDelay →
    exec (.negOpenDelayExpiry n) s =
      .next (finish s ((setKo (koNeg n) false u).modPs n fun x => { x with stepL := u.lNow, phase := phContact }))) ∧
  (∀ (s : State) (n : Nat), let u := began s
    n < s.asBuilt.strings → u.coreOn = true → u.standby = false → (u.ps n).phase = phVoltage →
    exec (.weldCheckTimeExpiry n) s = .next (finish s
      (endChecks n (if (u.ps n).weldEval then setCheck n ckWeldSuspect true u else setContactor n 13 true u)))) ∧
  (∀ (s : State) (r : Req), let u := began s
    u.coreOn = true → admitted u r Obj.PROT_RESET = true →
    let t := heard u r Obj.PROT_RESET
    let v := (valueOf Obj.PROT_RESET r).toNat
    let l := if v = 0xFF then List.range t.asBuilt.strings else [v]
    (∀ n ∈ l, blocksReset t n = false ∧ (t.ps n).lockout = false) →
    let w := t.forAll l fun n a => a.modPs n fun x =>
      { x with openLatch := false, raised := withBit (withBit x.raised ckNotIsolated false) ckPrecharge false }
    let z := if v = 0xFF then w.putB Obj.CONTAINER_TRIPPED false else w
    exec (.protReset r) s = .next (finish s (granted u r Obj.PROT_RESET (z.each z.asBuilt.strings showProt)))) ∧
  (∀ (s : State) (r : Req), let u := began s
    u.coreOn = true → admitted u r Obj.WELD_CLEAR = true →
    let t := heard u r Obj.WELD_CLEAR
    let n := (valueOf Obj.WELD_CLEAR r).toNat
    (∀ m ∈ [koPos n, koNeg n, koPre n], (t.auxMapped m && t.auxClosed m) = false) →
    let a := (t.each 3 fun i w => setContactor n (weldBit i) false w).modPs n fun x => { x with lockout := false }
    let b : State := { a with safety := { a.safety with strs := a.safety.strs.set n { nth a.safety.strs n {} with weld := false } } }
    exec (.weldClear r) s = .next (finish s (granted u r Obj.WELD_CLEAR
      (if b.seq n = sqLockedOut then b.putN (Obj.STRING_SEQ_STATE n) sqOpen else b))))

/-- Every command of the safety controllers completes in its own effect: the 1 ms cycle (R290), an input change (R293),
the test pulses (R295), discrepancy (R296), STOP 1 (R300), a weld seen (R304), the proof test (R305, R306), QSF frames
and their watchdog (R309, R310), the safety session, its password and its lock-out (R311 to R313), restart and reset
(R292, R299). -/
def Obligations.SafetyCommandsComplete : Prop :=
  (∀ (s : State) (x : SafetySample), let u := began s
    u.carrierOn = true →
    let t := safetyCycle x u
    exec (.safetyCycle x) s = .next (finish s (inputWake u (if t.coreOn then qsfChanges (pairCycle t) else t)))) ∧
  (∀ (s : State) (controller channel : Nat) (level : Bool), let u := began s
    controller < 3 → channel < 16 → u.carrierOn = true →
    exec (.siChangeAccepted controller channel level) s = .next (finish s (u.modSafety fun z =>
      { z with x := if controller = 2 then z.x else { z.x with si := withBit z.x.si channel level },
               y := if controller = 1 then z.y else { z.y with si := withBit z.y.si channel level } }))) ∧
  (∀ (s : State) (failed : List Nat), let u := began s
    u.carrierOn = true →
    exec (.testPulseFrame failed) s = .next (finish s (inputWake u (showPairs u.safety.x.pairs (u.each 16 fun ch t =>
      let p := ch / 2
      if t.n (Obj.PAIR_USE p) = 0 ∨ tpSource t ch = 0xFF ∨ !bitOf t.safety.x.si ch then t
      else if !failed.contains ch then t.modSafety fun z => { z with tpRun := z.tpRun.set ch 0 }
      else
        let run := nth t.safety.tpRun ch 0 + 1
        let v := (t.inc (Obj.TP_ERRORS p)).modSafety fun z => { z with tpRun := z.tpRun.set ch run }
        if 2 ≤ run then faultPair p 2 v else v))))) ∧
  (∀ (s : State) (p : Nat), let u := began s
    p < 8 → u.carrierOn = true → (nth u.safety.x.pairs p {}).st = prReleasing →
    exec (.discrepancyFault p) s = .next (finish s (inputWake u (showPairs u.safety.x.pairs (faultPair p 1 u))))) ∧
  (∀ (s : State) (source : Nat), let u := began s
    source < 16 → u.carrierOn = true → u.safetyRuns = true →
    exec (.stop1DelayExpiry source) s = .next (finish s (driveEnables (u.each u.asBuilt.strings fun n t =>
      if (actingSources t t.safety.x n).any fun x => x.1 == source && !x.2 then t.modSs n fun z => { z with stop1 := true } else t)))) ∧
  (∀ (s : State) (m : Nat), let u := began s
    m < s.asBuilt.contactors → u.carrierOn = true → m ∈ u.safety.weldTests → u.auxClosed m = true →
    exec (.safeWeld m) s = .next (finish s (driveEnables ((u.modSs (m / 3) fun z => { z with weld := true }).modSafety fun z =>
      { z with weldTests := z.weldTests.filter (· != m) })))) ∧
  (∀ (s : State) (n : Nat), let u := began s
    n < s.asBuilt.strings → u.carrierOn = true → u.safetyRuns = true →
    (u.n (Obj.PROOF_STATE n) = 0 ∨ u.n (Obj.PROOF_STATE n) = 6) →
    exec (.proofDue n) s = .next (finish s (u.putN (Obj.PROOF_STATE n) 1))) ∧
  (∀ (s : State) (n : Nat), let u := began s
    n < s.asBuilt.strings → u.carrierOn = true → u.safetyRuns = true → u.n (Obj.PROOF_STATE n) ≠ 0 →
    let t := u.modSs n fun z => { z with overdue := true }
    exec (.proofOverdue n) s =
      .next (finish s (if u.n (Obj.PROOF_STATE n) = 2 then t else driveEnables (t.putN (Obj.PROOF_STATE n) 5)))) ∧
  (∀ (s : State) (r : Req), let u := began s
    u.coreOn = true → admitted u r Obj.PROOF_START = true →
    let t := heard u r Obj.PROOF_START
    let n := (valueOf Obj.PROOF_START r).toNat
    proofAllowed t n = true →
    exec (.proofStart r) s = .next (finish s (granted u r Obj.PROOF_START (startProof n t)))) ∧
  (∀ (s : State) (n i : Nat), let u := began s
    n < s.asBuilt.strings → u.coreOn = true → (u.ss n).proof = some (i, 1) → u.seq n = sqOpen →
    exec (.proofTestStep n) s = .next (finish s (recloseAfter (proofAt n 0 2 (setKo (proofOutput n 0) true u))))) ∧
  (∀ (s : State) (n i step : Nat), let u := began s
    n < s.asBuilt.strings → u.coreOn = true → (u.ss n).proof = some (i, step) → 1 < step → step < 7 →
    proofPasses u (proofOutput n i) step = true →
    exec (.proofTestStep n) s = .next (finish s (recloseAfter (proofAt n i (step + 1) u)))) ∧
  (∀ (s : State) (n i : Nat), let u := began s
    n < s.asBuilt.strings → u.coreOn = true → (u.ss n).proof = some (i, 7) → proofPasses u (proofOutput n i) 7 = true →
    let t := setKo (proofOutput n i) false u
    exec (.proofTestStep n) s = .next (finish s (recloseAfter
      (if i < 2 then proofAt n (i + 1) 2 (setKo (proofOutput n (i + 1)) true t) else proofPassed n t)))) ∧
  (∀ (s : State) (c : Nat) (data : Bytes) (v : NetFrame), let u := began s
    let t := (netPass v u).2
    c < 8 → u.coreOn = true → (netPass v u).1 = true → t.n (Obj.QSF_TRANSPORT c) = 2 → v.udp = 48821 →
    v.addr = t.n (Obj.QSF_PEER_ADDR c) →
    exec (.qsfFrameReceived c data v) s = .next (finish s (qsfReceive c data t))) ∧
  (∀ (s : State) (c : Nat) (data : Bytes) (v : NetFrame), let u := began s
    let t := (netPass v u).2
    c < 8 → u.coreOn = true →
    (netPass v u).1 = false ∨ t.n (Obj.QSF_TRANSPORT c) ≠ 2 ∨ v.udp ≠ 48821 ∨ v.addr ≠ t.n (Obj.QSF_PEER_ADDR c) →
    exec (.qsfFrameReceived c data v) s = .next (finish s t)) ∧
  (∀ (s : State) (c : Nat), let u := began s
    c < 8 → u.carrierOn = true → u.n (Obj.QSF_ROLE c) = 2 → u.n Obj.SAFETY_STATE ≠ 0 →
    exec (.qsfWatchdogExpiry c) s = .next (finish s
      (((u.putN (Obj.QSF_STATE c) 2).putN (Obj.QSF_RX_BITS c) 0).modQsf c fun x => { x with synced := false, faultL := u.lNow }))) ∧
  (∀ (s : State) (c : Nat), let u := began s
    c < 8 → u.coreOn = true → u.n (Obj.QSF_ROLE c) = 1 → u.n Obj.SAFETY_STATE ≠ 0 → u.standby = false →
    let b := qsfFrame u c
    let t := u.modQsf c fun x => { x with seq := (x.seq + 1) % 65536, sent := x.sent + 1, bits := producerBits u }
    exec (.qsfSend c) s = .next (finish s
      (if t.n (Obj.QSF_TRANSPORT c) = 2 then t.emit (.udp 48821 (t.n (Obj.QSF_PEER_ADDR c)) b)
       else sendService (serviceFrame (t.n (Obj.QSF_TRANSPORT c)) (t.n (Obj.QSF_CAN_ID c)) true b) false t))) ∧
  (∀ (s : State) (r : Req), let u := began s
    u.coreOn = true → admitted u r Obj.SAFETY_LOGIN = true →
    let t := heard u r Obj.SAFETY_LOGIN
    let b := (valueOf Obj.SAFETY_LOGIN r).toBytes
    b ≠ [] → t.safety.lockMs = 0 → t.safety.pwHash = some (Config.passwordHash b) →
    exec (.safetyLogin r) s = .next (finish s (granted u r Obj.SAFETY_LOGIN (logChange Obj.SAFETY_LOGIN 2 0
      (((t.modSafety fun z => { z with session := some r.src }).putB Obj.SAFETY_SESSION true).putN Obj.LOGIN_FAILURES 0))))) ∧
  (∀ (s : State) (r : Req), let u := began s
    u.coreOn = true → admitted u (writing r []) Obj.SAFETY_LOGIN = true →
    let t := heard u (writing r []) Obj.SAFETY_LOGIN
    exec (.safetyLogout r) s = .next (finish s (granted u (writing r []) Obj.SAFETY_LOGIN
      (if t.safety.session = some r.src then endSafetySession t else t)))) ∧
  (∀ (s : State), let u := began s
    u.coreOn = true → u.safety.session.isSome = true → exec .safetySessionTimeout s = .next (finish s (endSafetySession u))) ∧
  (∀ (s : State), let u := began s
    u.carrierOn = true → u.safety.lockMs ≠ 0 →
    exec .lockoutEnd s = .next (finish s
      (((u.modSafety fun z => { z with lockMs := 0 }).putN Obj.LOCKOUT_REMAINING 0).putN Obj.LOGIN_FAILURES 0))) ∧
  (∀ (s : State) (r : Req), let u := began s
    u.coreOn = true → admitted u r Obj.SAFETY_PASSWORD_NEW = true →
    exec (.safetyPasswordNew r) s = .next (finish s (granted u r Obj.SAFETY_PASSWORD_NEW (logChange Obj.SAFETY_PASSWORD_NEW 8 0
      ((heard u r Obj.SAFETY_PASSWORD_NEW).modSafety fun z =>
        { z with pwHash := some (Config.passwordHash (valueOf Obj.SAFETY_PASSWORD_NEW r).toBytes) }))))) ∧
  (∀ (s : State) (r : Req), let u := began s
    u.coreOn = true → admitted u (writing r [1]) Obj.SAFETY_RESTART = true →
    let a := (heard u (writing r [1]) Obj.SAFETY_RESTART).putN Obj.SAFETY_FAULT_CAUSE 0
    let c := (a.each 16 fun n t => t.modSs n fun z => { z with stuck := false }).modSafety fun z => { z with selfTest := some 0 }
    exec (.safetyRestart r) s = .next (finish s (granted u (writing r [1]) Obj.SAFETY_RESTART
      (logChange Obj.SAFETY_RESTART 7 0 (driveEnables c))))) ∧
  (∀ (s : State) (r : Req), let u := began s
    u.coreOn = true → admitted u (writing r [1]) Obj.SAFE_RESET = true →
    let t := heard u (writing r [1]) Obj.SAFE_RESET
    t.b Obj.SAFE_RESET_REMOTE = true → t.safetyRuns = true →
    exec (.safeReset r) s = .next (finish s (granted u (writing r [1]) Obj.SAFE_RESET (t.modSafety fun z => { z with remote := true }))))

/-- Every command of dispatch and of the plant table completes in its own effect: a command by write and by frame and its
loss (R328), the set-point frame (R326), the table's cycle, offers and deals (R329 to R333), the ends of the hold and of a
calibration charge (R333, R335). -/
def Obligations.DispatchCommandsComplete : Prop :=
  (∀ (s : State) (r : Req), let u := began s
    u.coreOn = true → admitted u r Obj.DISPATCH_COMMAND = true →
    let v := valueOf Obj.DISPATCH_COMMAND r
    let t := (heard u r Obj.DISPATCH_COMMAND).put Obj.DISPATCH_COMMAND v
    exec (.dispatchCommand r) s = .next (finish s (granted u r Obj.DISPATCH_COMMAND
      (if t.n Obj.CMD_SOURCE = 0 then freshCommand v t else t)))) ∧
  (∀ (s : State) (f : CanFrame), let u := began s
    f.channel < 2 → u.coreOn = true → u.canHears f.channel = true → u.canMode f.channel ≠ cmDetect →
    u.running Obj.DISPATCH_STATE = true → u.n Obj.CMD_SOURCE = 1 → f.fd = false →
    frameOn f (u.n Obj.CMD_CAN_CHANNEL) (u.n Obj.CMD_CAN_ID) = true → 8 ≤ f.data.length →
    bitOf (fieldU f.data 4 1) 0 = true → u.disp.lastSeq ≠ some (fieldU f.data 6 2) → fieldF32 f.data 0 ≠ .nan →
    exec (.cmdCanFrame f) s = .next (finish s
      (freshCommand (fieldF32 f.data 0) (u.modDisp fun d => { d with lastSeq := some (fieldU f.data 6 2) })))) ∧
  (∀ (s : State), let u := began s
    u.coreOn = true → u.standby = false → u.running Obj.DISPATCH_STATE = true → u.b Obj.CMD_LOST = false →
    let t := (u.putB Obj.CMD_LOST true).logN 0x0801 0x2700 noSubject (u.n Obj.CMD_SOURCE) 0
    let v := if t.n Obj.CMD_FALLBACK = 1 then t.disp.fresh else .int 0
    exec .cmdLost s = .next (finish s (if t.b Obj.TABLE_ENABLE then t.modDisp fun d => { d with plant := v } else setCommand v t))) ∧
  (∀ (s : State) (n : Nat), let u := began s
    n < s.asBuilt.strings → u.coreOn = true → u.running Obj.DISPATCH_STATE = true → u.standby = false → n ∈ u.converters →
    exec (.setpointFrameSend n) s = .next (finish s (
      let per := u.perString
      let sp := if per then u.q (Obj.STRING_SETPOINT n) else singleSetpoint u
      let chg := if per then u.q (Obj.STRING_LIMIT_CHG n) else u.q Obj.CONTAINER_LIMIT_CHG
      let dis := if per then u.q (Obj.STRING_LIMIT_DIS n) else u.q Obj.CONTAINER_LIMIT_DIS
      let on := u.pilotOn
      let h := u.n Obj.PILOT_HARMONIC
      let q := nth u.disp.seqs n 0
      let data := leBytes 4 (twos 32 (watts sp)) ++ leBytes 4 (twos 32 (watts chg)) ++ leBytes 4 (twos 32 (watts dis)) ++
        leBytes 2 (if on && h != 0 then u.n Obj.PILOT_AMPLITUDE else 0) ++ leBytes 1 (if on then h else 0) ++ leBytes 1 0 ++
        leBytes 2 q ++ leBytes 1 (b2n on + 2 * b2n (per && u.calString? == some n)) ++ leBytes 1 0
      let t := u.modDisp fun d => { d with seqs := d.seqs.set n ((q + 1) % 65536) }
      let id := t.n Obj.SETPOINT_MSG_ID
      sendService (serviceFrame (t.n Obj.SETPOINT_CHANNEL) (if per then id + n else id) true data) false t))) ∧
  (∀ (s : State), let u := began s
    u.coreOn = true → u.standby = false → u.atTable = true →
    exec .tableCycleStart s = .next (finish s (
      let d := u.putB Obj.SEAT_DROPPED false
      let n := d.tableCycle
      let o := ownOffer d n
      let wants := (List.range d.asBuilt.strings).any fun i => d.b (Obj.CALIBRATION_WANTED i)
      let t := recordOffer o d
      sendTable (tableHeader t 1 n ++ f32Bytes (.real o.chg) ++ f32Bytes (.real o.dis) ++ f32Bytes (.real o.soe) ++
        f32Bytes (.real o.room) ++ leBytes 1 (b2n o.eligible + 2 * b2n wants + 4 * b2n (t.b Obj.CONTAINER_TRIPPED)) ++
        leBytes 3 0) t))) ∧
  (∀ (s : State) (b : Bytes) (via : NetFrame), let u := began s
    u.coreOn = true → (netPass via u).1 = true → (tableMessage 1 b (netPass via u).2).1 = true → b.length = 52 →
    exec (.offerReceived b via) s = .next (finish s (recordOffer
      { seat := fieldU b 4 1, prio := fieldU b 5 1, cycle := fieldU b 8 8, chg := (fieldF32 b 16).toRat,
        dis := (fieldF32 b 20).toRat, soe := (fieldF32 b 24).toRat, room := (fieldF32 b 28).toRat,
        eligible := bitOf (fieldU b 32 1) 0 } (tableMessage 1 b (netPass via u).2).2))) ∧
  (∀ (s : State), let u := began s
    u.coreOn = true → u.standby = false → u.atTable = true → u.n Obj.DEALER_SEAT = u.n Obj.SEAT_NUMBER → u.disp.quiet = false →
    u.n Obj.TABLE_SEATS_EXPECTED < 2 * u.n Obj.SEATS_HEARD →
    exec .dealSend s = .next (finish s (
      let n := u.tableCycle
      let me := u.n Obj.SEAT_NUMBER
      let l := u.disp.offers.filter fun o => o.cycle == n
      let c := commandRat u.disp.plant ((l.map fun o => o.chg + o.dis).sum)
      let g := u.q Obj.EQUALISE_EXPONENT
      let units := l.map fun o =>
        if 0 ≤ c then (⟨o.seat, o.chg, weightPow o.room g⟩ : DealUnit) else ⟨o.seat, o.dis, weightPow o.soe g⟩
      let d := dealUnits c units
      let entries := l.flatMap fun o => leBytes 1 o.seat ++ leBytes 3 0 ++ f32Bytes (.real (shareOf c d.1 o.seat))
      let t := sendTable (tableHeader u 2 n ++ f32Bytes u.disp.plant ++ leBytes 1 l.length ++ leBytes 3 0 ++ entries) u
      takeShare n (t.n Obj.SEAT_PRIORITY) me (if l.any fun o => o.seat == me then some (shareOf c d.1 me) else none)
        (t.modDisp fun z => { z with seatShort := d.2 })))) ∧
  (∀ (s : State) (b : Bytes) (via : NetFrame), let u := began s
    u.coreOn = true → (netPass via u).1 = true →
    let m := tableMessage 2 b (netPass via u).2
    m.1 = true → b.length = 40 + 8 * fieldU b 20 1 → m.2.n Obj.DEALER_SEAT = fieldU b 4 1 → m.2.disp.accepted = none →
    exec (.dealReceived b via) s =
      .next (finish s (takeShare (fieldU b 8 8) (fieldU b 5 1) (fieldU b 4 1) (dealEntry b (m.2.n Obj.SEAT_NUMBER)) m.2))) ∧
  (∀ (s : State), let u := began s
    u.coreOn = true → u.standby = false → u.atTable = true → (∀ x, u.disp.accepted = some x → x.1 ≠ u.tableCycle) →
    u.disp.acceptedBefore ≠ some u.tableCycle →
    exec .tableCycleCheck s = .next (finish s (
      let cand := u.disp.offers.filter fun o => o.cycle == u.tableCycle && o.eligible
      let held := u.n Obj.DEALER_SEAT
      let above := cand.filter fun o => betterSeat (o.prio, o.seat) (u.disp.dealerPrio, held)
      let runs := above.map fun o => (o.seat, amGetD u.disp.better o.seat 0 + 1)
      let missed := u.disp.missed + 1
      let t := u.modDisp fun d => { d with missed, better := runs }
      if 2 ≤ missed then takeDealer (bestOffer cand) t
      else takeDealer (bestOffer (above.filter fun o => Nat.ble 10 (amGetD runs o.seat 0))) t))) ∧
  (∀ (s : State), let u := began s
    u.coreOn = true → u.standby = false → u.atTable = true →
    exec .dealHoldMaxExpiry s =
      .next (finish s (setCommand (.int 0) ((u.putB Obj.TABLE_LOST true).putQ Obj.SEAT_SHARE 0)))) ∧
  (∀ (s : State) (n : Nat), let u := began s
    u.coreOn = true → u.standby = false → u.calString? = some n →
    exec .calMaxTimeExpiry s = .next (finish s (redeal (calFinish cpAborted (u.logN 0x0802 0x2700 n 1 0))))) ∧
  (∀ (s : State) (n : Nat), let u := began s
    u.coreOn = true → u.standby = false → u.calString? = some n → 0 < u.disp.short →
    exec .calShortfallTimeout s = .next (finish s (redeal (calFinish cpAborted (u.logN 0x0802 0x2700 n 2 0)))))

/-- Every command of the CAN channels completes in its own effect: a frame received and delivered or not (R347), a
protocol exception (R340), the end of an attempt (R352), bus-off and recovery (R344), requests and cancellations (R351,
R353), pops of the FIFOs and of the event queue (R350, R355), rate detection (R346), wake (R356), receive errors (R344,
R346). -/
def Obligations.CanCommandsComplete : Prop :=
  (∀ (s : State) (f : CanFrame) (esi : Bool) (sofL : Nat), let u := began s
    f.channel < 2 → u.coreOn = true → u.canHears f.channel = true →
    exec (.canFrameReceived f esi sofL) s = .next (finish s (
      let v := canReceive f sofL u
      if !v.2 then v.1
      else routeFrame f esi sofL
        (idpFromCan f (qsfFromCan f (cmdCanFrame f (senseCan f (busVoltageFrame f (isoMessage f (pcsAngle f sofL v.1)))))))))) ∧
  (∀ (s : State) (c : Nat), let u := began s
    c < 2 → u.coreOn = true → u.canHears c = true →
    exec (.protocolException c) s =
      .next (finish s ((u.inc (Obj.PROTOCOL_EXCEPTIONS c)).modCan c fun x => { x with waitIdle := some u.lNow }))) ∧
  (∀ (s : State) (c b : Nat) (outcome : TxOutcome) (sofL : Nat), let u := began s
    c < 2 → u.coreOn = true → u.canUp c = true → u.canMode c = cmNormal → u.n (Obj.CAN_ERROR_STATE c) ≠ 2 →
    u.idleBy c sofL = true →
    nextBuffer u c = some b →
    exec (.canTxDone c none outcome sofL) s = .next (finish s (txEnd c b outcome sofL u))) ∧
  (∀ (s : State) (c b : Nat) (outcome : TxOutcome) (sofL : Nat), let u := began s
    c < 2 → u.coreOn = true → u.canUp c = true → u.canMode c = cmNormal → u.n (Obj.CAN_ERROR_STATE c) ≠ 2 →
    u.idleBy c sofL = true →
    b < 32 → u.n (Obj.TX_STATE c b) = txPending →
    exec (.canTxDone c (some b) outcome sofL) s = .next (finish s (txEnd c b outcome sofL u))) ∧
  (∀ (s : State) (c : Nat), let u := began s
    c < 2 → u.coreOn = true → u.canUp c = true → exec (.canBusOff c) s = .next (finish s (enterBusOff c u))) ∧
  (∀ (s : State) (c : Nat), let u := began s
    c < 2 → u.coreOn = true → u.canUp c = true → u.n (Obj.CAN_ERROR_STATE c) = 2 → (u.canCh c).recovering = true →
    exec (.busoffRecovery c) s = .next (finish s (((u.putN (Obj.CAN_ERROR_STATE c) 0).putN (Obj.CAN_ERROR_COUNTERS c) 0).modCan c
      fun x => { x with recovering := false }))) ∧
  (∀ (s : State) (c : Nat) (r : Req), let u := began s
    c < 2 → u.coreOn = true → admitted u r (Obj.TX_REQUEST c) = true →
    let t := heard u r (Obj.TX_REQUEST c)
    let m := (valueOf (Obj.TX_REQUEST c) r).toNat
    m % 256 = 0 → t.canMode c = cmNormal → (∀ b ∈ maskBuffers m, bufferOk t c b = true) →
    exec (.txRequest c r) s = .next (finish s (granted u r (Obj.TX_REQUEST c)
      (t.forAll (maskBuffers m) fun b w => w.putN (Obj.TX_STATE c b) txPending)))) ∧
  (∀ (s : State) (c begun : Nat) (r : Req), let u := began s
    c < 2 → u.coreOn = true → admitted u r (Obj.TX_CANCEL c) = true →
    let m := (valueOf (Obj.TX_CANCEL c) r).toNat
    m % 256 = 0 →
    exec (.txCancel c begun r) s = .next (finish s (granted u r (Obj.TX_CANCEL c)
      ((heard u r (Obj.TX_CANCEL c)).forAll (maskBuffers m) fun b w =>
        if w.n (Obj.TX_STATE c b) ≠ txPending then w
        else if bitOf begun b then w.modCan c fun x => { x with late := b :: x.late.filter (· != b) }
        else w.putN (Obj.TX_STATE c b) txCancelled)))) ∧
  (∀ (s : State) (c fifo offset length : Nat) (r : Req), let u := began s
    c < 2 → fifo < 2 → u.coreOn = true →
    let key := if fifo = 0 then Obj.RX_FIFO0_POP c else Obj.RX_FIFO1_POP c
    let op := Op.domainRead offset length
    asked u r op (key / 65536) (key % 65536) = true →
    let p := popRead r.src key c fifo offset (u.touchSession r)
    let n := min length (dataLimit r.src)
    exec (.rxFifoPop c fifo offset length r) s = .next (finish s
      (p.2.answer r op (key / 65536) (key % 65536) 0 (decide (p.1.length ≤ offset + n)) (slice p.1 offset n)))) ∧
  (∀ (s : State) (c offset length : Nat) (r : Req), let u := began s
    c < 2 → u.coreOn = true →
    let key := Obj.TX_EVENT_POP c
    let op := Op.domainRead offset length
    asked u r op (key / 65536) (key % 65536) = true →
    let p := popRead r.src key c 2 offset (u.touchSession r)
    let n := min length (dataLimit r.src)
    exec (.txEventPop c offset length r) s = .next (finish s
      (p.2.answer r op (key / 65536) (key % 65536) 0 (decide (p.1.length ≤ offset + n)) (slice p.1 offset n)))) ∧
  (∀ (s : State) (c : Nat), let u := began s
    c < 2 → u.coreOn = true → u.detecting c = true → exec (.detectDwellExpiry c) s = .next (finish s (nextCandidate c u))) ∧
  (∀ (s : State) (c : Nat), let u := began s
    c < 2 → u.coreOn = true → u.canUp c = true → u.canMode c = cmDetect →
    exec (.detectTimeout c) s = .next (finish s ((u.putN (Obj.CAN_STATE c) 2).putB (Obj.DETECT_FAILED c) true))) ∧
  (∀ (s : State) (c : Nat), let u := began s
    c < 2 → u.b (Obj.CAN_WAKE_ENABLE c) = true → u.sleeps = true → bitOf (u.n Obj.WAKE_SOURCES) 2 = true →
    let slept : Rat := ((u.lNow - u.pow.entryL : Nat) : Rat) / 1000000000
    let a := (u.putN Obj.WAKE_CAUSE (2 ^ 2)).putN Obj.WAKE_TIME u.lNow
    let b := setTone false (a.forAll (a.pow.watchHeads.map (·.1) ++ a.pow.toneHeads) fun h t => t.emit (.wakeSymbol h false))
    let w := (beginStart false (false, false) b).modPow fun p => { p with wakeOut := true }
    let d := countPage 1 (addTime (1 + u.pow.phase) slept w)
    exec (.canWakePattern c) s = .next (finish s (if storedPair u && u.asBuilt.plug != 0 then d.emit (.pair .wake) else d))) ∧
  (∀ (s : State) (c : Nat) (e : RxError), let u := began s
    c < 2 → u.coreOn = true → u.canHears c = true → u.idleBy c u.lNow = true →
    let w := u.n (Obj.CAN_ERROR_COUNTERS c)
    let t := setCounters c (tecOf w) (min (recOf w + (if e.exempt then 0 else 1) + 8 * e.eights) 65535) u
    t.detecting c = false → t.n (Obj.CAN_MODE c) ≠ cmDetect →
    exec (.canReceiveError c e) s = .next (finish s t)) ∧
  (∀ (s : State) (c : Nat) (e : RxError), let u := began s
    c < 2 → u.coreOn = true → u.canHears c = true → u.idleBy c u.lNow = true →
    let w := u.n (Obj.CAN_ERROR_COUNTERS c)
    let t := setCounters c (tecOf w) (min (recOf w + (if e.exempt then 0 else 1) + 8 * e.eights) 65535) u
    t.detecting c = true →
    exec (.canReceiveError c e) s = .next (finish s (nextCandidate c t))) ∧
  (∀ (s : State) (c : Nat) (e : RxError), let u := began s
    c < 2 → u.coreOn = true → u.canHears c = true → u.idleBy c u.lNow = true → e.dataPhase = true →
    let w := u.n (Obj.CAN_ERROR_COUNTERS c)
    let t := setCounters c (tecOf w) (min (recOf w + (if e.exempt then 0 else 1) + 8 * e.eights) 65535) u
    t.n (Obj.CAN_MODE c) = cmDetect → (t.canCh c).chosen = true → t.b (Obj.DATA_CONFIRMED c) = false →
    exec (.canReceiveError c e) s =
      .next (finish s (nextCandidate c ((t.putN (Obj.CAN_DETECTED c) 0xFF).modCan c fun x => { x with chosen := false }))))

/-- Every operation on the object dictionary completes in its own effect (Table 15.9): READ, WRITE, READ_RANGE, DOMAIN_READ,
a piece and the last piece of a DOMAIN_WRITE (R373, R375), KEEPALIVE (R377), a lapse (R375), RUN and STOP of a function
(R369), CONFIG_SAVE (R370). A PUSH to the module is answered with TRANSPORT. -/
def Obligations.DictionaryCommandsComplete : Prop :=
  (∀ (s : State) (index sub : Nat) (r : Req), let u := began s
    index < 65536 → sub < 65536 → u.coreOn = true → asked u r .read index sub = true → typeOf index sub ≠ .domain →
    let p := readObject (objKey index sub) (typeOf index sub) (readChecked (recordsRead index sub 1) r.words (u.touchSession r))
    p.1.length ≤ dataLimit r.src →
    exec (.read index sub r) s = .next (finish s (p.2.answer r .read index sub 0 false p.1))) ∧
  (∀ (s : State) (index sub : Nat) (r : Req), let u := began s
    index < 65536 → sub < 65536 → u.coreOn = true →
    let key := objKey index sub
    isDomain key = false → admitted u r key = true →
    ∀ t, ownWrite r.src key (valueOf key r) (heard u r key) = .ok t →
    exec (.write index sub r) s = .next (finish s (granted u r key t))) ∧
  (∀ (s : State) (index sub count : Nat) (r : Req), let u := began s
    index < 65536 → sub < 65536 → u.coreOn = true → asked u r (.readRange count) index sub = true →
    let ty := typeOf index sub
    ty.isScalar = true → count * ty.size.getD 1 ≤ dataLimit r.src →
    let v := readChecked (recordsRead index sub count) r.words (u.touchSession r)
    (∀ i < count, rangeElement v index (sub + i) ty = none) →
    let p := readElements index ty count sub v
    exec (.readRange index sub count r) s = .next (finish s (p.2.answer r (.readRange count) index sub 0 false p.1))) ∧
  (∀ (s : State) (index sub offset length : Nat) (r : Req), let u := began s
    index < 65536 → sub < 65536 → u.coreOn = true → asked u r (.domainRead offset length) index sub = true →
    let key := objKey index sub
    typeOf index sub = .domain → key ≠ Obj.EXCEPTION_LOG → popQueue? key = none →
    let n := min length (dataLimit r.src)
    let p := readObject key .domain (u.touchSession r)
    exec (.domainRead index sub offset length r) s = .next (finish s (p.2.answer r (.domainRead offset length) index sub 0
      (decide (p.1.length ≤ offset + n)) (slice p.1 offset n)))) ∧
  (∀ (s : State) (index sub : Nat) (r : Req), let u := began s
    index < 65536 → sub < 65536 → u.coreOn = true → asked u r (.domainWrite 0 false) index sub = true →
    let key := objKey index sub
    typeOf index sub = .domain → r.data.length ≤ dataLimit r.src → (∀ t ∈ u.idp.transfers, t.key = key → t.src = r.src) →
    let t := closeTransfer r.src key (u.touchSession r)
    exec (.domainWrite index sub 0 false r) s = .next (finish s
      (({ t with idp := { t.idp with transfers := { src := r.src, key, data := r.data } :: t.idp.transfers } } : State).answer r
        (.domainWrite 0 false) index sub 0 false []))) ∧
  (∀ (s : State) (index sub : Nat) (r : Req), let u := began s
    index < 65536 → sub < 65536 → u.coreOn = true →
    let key := objKey index sub
    isDomain key = true → r.data.length ≤ dataLimit r.src → (∀ t ∈ u.idp.transfers, t.key = key → t.src = r.src) →
    admitted u r key = true →
    ∀ t, ownWrite r.src key (valueOf key r) (heard u r key) = .ok t →
    exec (.domainWrite index sub 0 true r) s = .next (finish s (granted u r key t))) ∧
  (∀ (s : State) (x : HeadReq) (ses : Session) (a : Abort), let u := began s
    let r := x.req
    u.coreOn = true → (u.netIn r).1 = true → u.session? r.src = some ses → (ses.kept.any fun k => k.tag == r.tag) = false →
    (u.touchSession r).checkAccess r ses .push x.index x.sub = some a →
    exec (.push x) s = .next (finish s ((u.touchSession r).answerAbort r .push x.index x.sub a))) ∧
  (∀ (s : State) (x : HeadReq), let u := began s
    u.coreOn = true → asked u x.req .keepalive x.index x.sub = true →
    exec (.keepalive x) s = .next (finish s ((u.touchSession x.req).answer x.req .keepalive x.index x.sub 0 false []))) ∧
  (∀ (s : State) (index sub : Nat), let u := began s
    index < 65536 → sub < 65536 → u.coreOn = true →
    exec (.transferLapse index sub) s = .next (finish s
      { u with idp := { u.idp with transfers := u.idp.transfers.filter fun t => t.key != objKey index sub } })) ∧
  (∀ (s : State) (index sub : Nat) (r : Req) (found : List EnumHead), let u := began s
    let key := objKey index sub
    isFnKey key = true → u.coreOn = true → admitted u (writing r [1]) key = true →
    let t := heard u (writing r [1]) key
    let w := adoptStaged key t
    t.n key ≠ 1 → fnRunCheck key w = none →
    let v := resumeAtMark key true (fnRunEffect found key ((if key = Obj.FIELD_STATE then t else w).putN key 1))
    exec (.functionRun index sub r found) s = .next (finish s (granted u (writing r [1]) key (storeFn key
      (if sweepFns.contains key && t.running Obj.SWEEP_STATE then withholdSettings key t v else v))))) ∧
  (∀ (s : State) (index sub : Nat) (r : Req), let u := began s
    let key := objKey index sub
    isFnKey key = true → u.coreOn = true → admitted u (writing r [0]) key = true →
    let t := heard u (writing r [0]) key
    t.n key ≠ 0 → fnStopCheck key t = none →
    exec (.functionStop index sub r) s =
      .next (finish s (granted u (writing r [0]) key (storeFn key (resumeAtMark key false (fnStopEffect key (t.putN key 0))))))) ∧
  (∀ (s : State) (r : Req), let u := began s
    u.coreOn = true → admitted u (writing r [1]) Obj.CONFIG_SAVE = true →
    let t := heard u (writing r [1]) Obj.CONFIG_SAVE
    let l := (t.store.filter fun kv =>
      match findRow kv.1 with
      | some (g, row) => row.access == .rw && !row.isFn g (kv.1 / 65536) (kv.1 % 65536) && kv.1 / 65536 != 0x2A10 && kv.1 / 65536 != 0x2A11
      | none => false) ++ savedVariables t
    exec (.configSave r) s =
      .next (finish s (granted u (writing r [1]) Obj.CONFIG_SAVE (stampStore (t.modIdp fun x => { x with flashRw := l })))))

/-- Every command of the network ports completes in its own effect: a handshake and the end of a session (R377), settings
that no session confirms (R384), redundancy (R382), discovery (R385), a shared write at the standby (R435), a link
(R387). -/
def Obligations.NetworkCommandsComplete : Prop :=
  (∀ (s : State) (fp : Bytes) (via : NetFrame) (p : Nat), let u := began s
    let v := (netPass via u).2
    u.coreOn = true → (netPass via u).1 = true → peerFor v fp via.addr = some p → v.idp.sessions.length < 8 →
    let t := v.modIdp fun x =>
      { x with sessions := x.sessions ++ [{ peer := p, role := v.n (Obj.PEER_ROLE p), seen := v.lNow, addr := via.addr }], ethBefore := none }
    exec (.sessionHandshake fp via) s =
      .next (finish s (countSessions ((t.putB (Obj.PEER_SESSION p) true).putN (Obj.PEER_LAST_SEEN p) t.pNow)))) ∧
  (∀ (s : State) (p : Nat), let u := began s
    p < 16 → u.coreOn = true → (u.session? (.udp p)).isSome = true → u.safety.session ≠ some (.udp p) →
    let t := u.modIdp fun x =>
      { x with sessions := x.sessions.filter fun y => y.peer != p, transfers := x.transfers.filter fun t => t.src != .udp p }
    exec (.idpIdleTimeout p) s = .next (finish s (countSessions (t.putB (Obj.PEER_SESSION p) false)))) ∧
  (∀ (s : State) (old : List (Nat × Val)), let u := began s
    u.coreOn = true → u.idp.ethBefore = some old →
    exec .netConfirmTimeout s = .next (finish s
      ((loadSettings Obj.ETH_STATE old (u.modIdp fun x => { x with ethInForce := old, ethBefore := none })).logN 0x0A02 0x2900 noSubject 0 0))) ∧
  (∀ (s : State), let u := began s
    u.coreOn = true → u.ethN Obj.NET_MODE ≠ 0 →
    exec .supervisionFrameSend s = .next (finish s (u.emit (.supervision (u.ethN Obj.NET_MODE))))) ∧
  (∀ (s : State) (via : NetFrame) (b : Bytes), let u := began s
    u.coreOn = true → (netPass via u).1 = true → (netPass via u).2.ethN Obj.DISCOVERY_ENABLE = 1 →
    b.length = 80 → b.take 4 = asciiBytes "IBDN" → fieldU b 4 1 = 1 → fieldU b 5 1 = 2 → (∀ c ∈ b.drop 8, c = 0) →
    exec (.solicit b via) s = .next (finish s ((netPass via u).2.modIdp fun x => { x with solicited := true }))) ∧
  (∀ (s : State), let u := began s
    u.coreOn = true → u.ethN Obj.DISCOVERY_ENABLE ≠ 0 →
    exec .announce s = .next (finish s
      ((u.modIdp fun x => { x with solicited := false }).emit (.udp 48820 (u.ethN Obj.DISCOVERY_GROUP) (announceBytes u))))) ∧
  (∀ (s : State) (index sub : Nat) (data : Bytes) (g : ObjGroup) (row : ObjRow), let u := began s
    index < 65536 → sub < 65536 → u.coreOn = true → u.standby = true → findRow (objKey index sub) = some (g, row) →
    row.shared index = true → (row.access ≠ .rws ∨ u.shown (objKey index sub) ≠ row.ty.decode data) →
    let r : Req := { src := .program, tag := 0, data }
    let w := restForConfig g row index u
    ({ w with idp := { w.idp with transfers := [] } }.putN Obj.PAIR_ROLE 0).checkValue r g row index sub data = none →
    ∀ t, ownWrite .program (objKey index sub) (row.ty.decode data) w = .ok t →
    exec (.configReceived index sub data) s = .next (finish s t)) ∧
  (∀ (s : State) (port : Nat) (up : Bool), let u := began s
    port < 3 → u.coreOn = true →
    exec (.ethernetLinkChange port up) s = .next (finish s
      (if port < 2 then u.putN Obj.LINK_STATE (withBit (u.n Obj.LINK_STATE) port up) else u)))

/-- Every command of the control program completes in its own effect: a scan and one that does not end (R393, R394),
values written online and forces (R397, R400), debug mode and its steps (R399), a staged image (R403), an exchange, its
end by time and its snapshot (R404). -/
def Obligations.ProgramCommandsComplete : Prop :=
  (∀ (s : State) (micros : Nat) (x : ScanRun), let u := began s
    u.coreOn = true → u.running Obj.PROG_STATE = true → u.standby = false → u.prog.waits = false →
    (u.b Obj.PROG_HELD = false ∨ u.prog.stepDue = true) →
    exec (.programScan micros x) s =
      .next (finish s (releaseAfterScan (handOver (programMessages
        (programScan progRead progWrite micros x.trap (readChecked (bindingRecords u.image) x.words u))))))) ∧
  (∀ (s : State), let u := began s
    u.coreOn = true → u.running Obj.PROG_STATE = true → u.standby = false → u.prog.waits = false →
    (u.b Obj.PROG_HELD = false ∨ u.prog.stepDue = true) →
    exec .progWatchdog s = .next (finish s (progFault 1 (scanBroken (scanClock (scanInputs progRead u)))))) ∧
  (∀ (s : State) (n : Nat) (r : Req), let u := began s
    n < 65536 → u.coreOn = true → admitted u r (Obj.VAR_VALUE n) = true →
    let t := heard u r (Obj.VAR_VALUE n)
    let b := (valueOf (Obj.VAR_VALUE n) r).toBytes
    let x := imSymbol t.image n
    t.prog.frozen = false → t.running Obj.PROG_STATE = true → (x.kind = 0 ∨ x.kind = 1) → x.elementary = true → b.length = x.size →
    (t.forces.any fun f => f.2.1 == n) = false →
    exec (.varValue n r) s = .next (finish s (granted u r (Obj.VAR_VALUE n)
      (t.modProg fun p => { p with online := amSet p.online n b })))) ∧
  (∀ (s : State) (e : Nat) (r : Req), let u := began s
    e < 65536 → u.coreOn = true → admitted u r (Obj.FORCE_ENTRY e) = true →
    let t := heard u r (Obj.FORCE_ENTRY e)
    let d := (valueOf (Obj.FORCE_ENTRY e) r).toBytes
    t.prog.frozen = false → d ≠ [] → t.running Obj.PROG_STATE = true → t.b Obj.PROG_DEBUG = true → t.n Obj.DEBUG_MODEL = 1 →
    forceFits t.image d = true → (t.forces.any fun x => x.1 != e && x.2.1 == fieldU d 0 2) = false →
    exec (.forceEntry e r) s = .next (finish s (granted u r (Obj.FORCE_ENTRY e) (setForce e d t)))) ∧
  (∀ (s : State) (e : Nat) (r : Req), let u := began s
    e < 65536 → u.coreOn = true → admitted u r (Obj.FORCE_ENTRY e) = true →
    let t := heard u r (Obj.FORCE_ENTRY e)
    t.prog.frozen = false → (valueOf (Obj.FORCE_ENTRY e) r).toBytes = [] →
    exec (.forceEntry e r) s = .next (finish s (granted u r (Obj.FORCE_ENTRY e) (removeForce e t)))) ∧
  (∀ (s : State) (r : Req), let u := began s
    u.coreOn = true → admitted u (writing r [1]) Obj.PROG_DEBUG = true →
    let t := heard u (writing r [1]) Obj.PROG_DEBUG
    exec (.progDebugEnter r) s = .next (finish s (granted u (writing r [1]) Obj.PROG_DEBUG
      (if t.running Obj.PROG_STATE then (if t.b Obj.PROG_DEBUG then t else holdClock t).putB Obj.PROG_DEBUG true else t)))) ∧
  (∀ (s : State) (r : Req), let u := began s
    u.coreOn = true → admitted u (writing r [0]) Obj.PROG_DEBUG = true →
    let t := heard u (writing r [0]) Obj.PROG_DEBUG
    t.n Obj.FORCE_COUNT = 0 →
    exec (.progDebugLeave r) s = .next (finish s (granted u (writing r [0]) Obj.PROG_DEBUG ((resumeClock t).putB Obj.PROG_DEBUG false)))) ∧
  (∀ (s : State) (r : Req), let u := began s
    u.coreOn = true → admitted u (writing r [1]) Obj.PROG_STEP = true →
    let t := heard u (writing r [1]) Obj.PROG_STEP
    exec (.progStep r) s = .next (finish s (granted u (writing r [1]) Obj.PROG_STEP
      (if t.b Obj.PROG_HELD then t.modProg fun p => { p with stepDue := true } else t)))) ∧
  (∀ (s : State) (r : Req), let u := began s
    u.coreOn = true → admitted u r Obj.PROGRAM_STAGED = true →
    let t := heard u r Obj.PROGRAM_STAGED
    let b := (valueOf Obj.PROGRAM_STAGED r).toBytes
    t.standby = true → b ≠ [] → imageOk t b = true →
    exec (.programStaged r) s = .next (finish s (granted u r Obj.PROGRAM_STAGED
      ((t.putBytes Obj.PROGRAM_STAGED b).putN Obj.STAGED_CRC (fieldU b 4 4))))) ∧
  (∀ (s : State) (r : Req) (staged : Bytes), let u := began s
    u.coreOn = true → admitted u (writing r [1]) Obj.EXCHANGE_REQUEST = true →
    let t := heard u (writing r [1]) Obj.EXCHANGE_REQUEST
    t.pairActive = true → t.n Obj.PAIR_SYNC = 2 → imageOk t staged = true → t.b Obj.PROG_HELD = false → t.forces = [] →
    loopConflict t (imDos staged) = none →
    exec (.exchangeRequest r staged) s = .next (finish s (granted u (writing r [1]) Obj.EXCHANGE_REQUEST
      (makeDue 3 ((t.putN Obj.EXCHANGE_STATE 1).modProg fun p => { p with armedL := t.lNow }))))) ∧
  (∀ (s : State), let u := began s
    u.coreOn = true → u.n Obj.EXCHANGE_STATE = 1 → u.duo.moved = false →
    exec .exchangeTimeout s = .next (finish s (((u.putN Obj.EXCHANGE_STATE 4).logN 0x0B02 0x2A00 noSubject 4 0).modDuo fun d =>
      { d with due := none, swapMark := none }))) ∧
  (∀ (s : State) (x : Snapshot), let u := began s
    u.coreOn = true → u.paired = true → (u.pairActive = true ∨ u.standby = true) → u.running Obj.PROG_STATE = true →
    u.n Obj.LAST_CHANGE_KIND ≠ 3 →
    let t :=
      let new := u.image
      let pairs := (List.range (imSymbols new)).filterMap fun n =>
        let y := imSymbol new n
        (matchSymbol x.image fun z => z.path == y.path && z.typeHash == y.typeHash).map fun m => (n, m)
      let data := pairs.foldl (fun d p => varSet new p.1 (varGet x.image x.data p.2) d) (imInitial new)
      let blocks := (List.range (imSymbols new)).foldl (fun (m : List (Nat × BlockSt)) n =>
        match pairs.find? fun p => p.1 == n with
        | some p => (match amGet? x.blocks p.2 with
          | some b => amSet m n b
          | none => m)
        | none => if bitOf (imSymbol new n).attr 1 then amSet m n { initBlock new n with noEdge := true } else m) []
      let a := u.each 64 fun e t => removeForce e t
      let b := a.forAll x.forces.zipIdx fun f t =>
        if f.1.isEmpty then t else
        let y := imSymbol x.image (fieldU f.1 0 2)
        match matchSymbol new fun z => z.path == y.path && z.ty == y.ty with
        | some n => setForce f.2 (leBytes 2 n ++ f.1.drop 2) t
        | none => t
      let c := ((b.putN Obj.PROG_CLOCK x.clock).putN Obj.EXCHANGE_MATCHED pairs.length).putB Obj.PROG_DEBUG x.debug
      let k := c.progBoundaries
      c.modProg fun p => { p with
        data, blocks, dos := x.dos, mask := imDos new, written := writtenOf new x, boundary := k - x.passed, frozen := true, waits := false }
    exec (.snapshotReceived x) s = .next (finish s (if t.n Obj.PROG_STATE ≠ 1 ∨ !t.pairActive then t else snapshotObjects x t)))

/-- Every command of the field side completes in its own effect: a cycle, a restart and a loss of supply (R408), a reset
of the die (R410), the release (R411), inputs (R414, R420, R421), the measurements of groups and clamps (R415, R416), an
overload (R418), a tripped path (R504). -/
def Obligations.FieldCommandsComplete : Prop :=
  (∀ (s : State) (x : FieldSample), let u := began s
    u.carrierOn = true → u.field.powered = true →
    exec (.fieldCycle x) s = .next (finish s (
      let a := fieldInputs x u
      let b := if a.coreOn then aiCommand (a.each a.asBuilt.strings fun n t => outputCheck n (fastChecks n t)) else a
      inputWake u (if b.field.release && b.b Obj.FIELD_LATCHED && b.coreOn then releasePads b else b)))) ∧
  (∀ (s : State) (x : FieldSample), let u := began s
    u.carrierOn = true →
    exec (.fieldRestart x) s = .next (finish s (
      let first := x.di.head?.getD 0
      let o := adoptIf (fun k => k / 65536 == Obj.DI_FILTER 0 / 65536) (fieldApply u)
      let a := (o.putB Obj.FIELD_LATCHED true).putB Obj.FIELD_SUPPLY_FAULT false
      let b := (a.putN Obj.DI_STATE (first % 2 ^ 32)).putN Obj.DO_OVERLOAD 0
      let c := b.modField fun y => { y with
        powered := true, koLatch := 0, doLatch := 0, doLow := [], tripped := [], kgSum := [], kgCount := 0, aiMs := [0, 0, 0, 0], aiF := [none, none, none, none] }
      let d := c.modField fun y => { y with
        counters := (List.range 32).map fun n => if bitOf first n then c.n (Obj.DI_FILTER n) else 0
        release := (c.pow.phase == 0 || c.pow.phase == 5 && c.pow.step == 7) && c.b Obj.FIELD_RELEASE_AUTO && !c.pow.releaseWait }
      let e := d.each 4 fun n t =>
        let v := aiRaw (nth x.ai n [])
        let (lo, hi) := aiRange (t.n (Obj.AI_MODE n))
        ((t.putQ (Obj.AI_RAW n) v).putQ (Obj.AI_VALUE n) 0).putN (Obj.AI_STATUS n) (if v < lo then 1 else if hi < v then 2 else 3)
      let f := e.each 2 fun n t => t.putN (Obj.PI_STATUS n) (if t.degraded then 3 else 1)
      newGates (groupCycle x.kg (readbackCycle x 0 f))))) ∧
  (∀ (s : State), let u := began s
    u.carrierOn = true →
    exec .fieldSupplyFault s = .next (finish s
      (((u.putB Obj.FIELD_SUPPLY_FAULT true).putB Obj.FIELD_LATCHED true).modField fun x =>
        { x with powered := false, koLatch := 0, doLatch := 0, release := false }))) ∧
  (∀ (s : State), let u := began s
    (u.pow.phase = 0 ∨ u.pow.phase = 5) →
    exec .dieReset s = .next (finish s (beginStart u.degraded (false, false) (resetPads (coreLost u))))) ∧
  (∀ (s : State) (r : Req), let u := began s
    u.coreOn = true → admitted u (writing r [1]) Obj.FIELD_RELEASE = true →
    let t := heard u (writing r [1]) Obj.FIELD_RELEASE
    exec (.fieldRelease r) s = .next (finish s (granted u (writing r [1]) Obj.FIELD_RELEASE
      (if t.b Obj.FIELD_LATCHED then t.modField fun x => { x with release := true } else t)))) ∧
  (∀ (s : State) (n : Nat) (level : Bool), let u := began s
    n < 32 → u.carrierOn = true →
    let lim := u.n (Obj.DI_FILTER n)
    exec (.diChange n level) s = .next (finish s (inputWake u
      (setDi n level (u.modField fun x => { x with counters := x.counters.set n (if level then lim else 0) }))))) ∧
  (∀ (s : State) (n : Nat), let u := began s
    n < 4 → u.carrierOn = true → u.coreOn = true → u.n (Obj.AI_STATUS n) = 3 →
    let t := aiPublish n (u.q (Obj.AI_RAW n)) (u.putN (Obj.AI_STATUS n) 0)
    exec (.aiSettled n) s = .next (finish s (if t.coreOn then aiCommand t else t))) ∧
  (∀ (s : State) (n first last : Nat) (mid rises falls : List Nat), let u := began s
    n < 2 → u.carrierOn = true → u.degraded = false → u.coreOn = true →
    (u.pi n).rises ++ rises.filter (fun t => Nat.ble (u.pi n).gateL t) = first :: mid ++ [last] → first < last →
    let span : Rat := (last : Rat) - first
    let hz : Rat := (((first :: mid ++ [last]).length : Rat) - 1) * 1000000000 / span
    let high : Rat := piHigh ((u.pi n).falls ++ falls.filter fun t => Nat.ble (u.pi n).gateL t) (first :: mid ++ [last])
    let g := u.setPi n { gateL := u.lNow }
    hz ≤ 110000 →
    exec (.piGateEnd n rises falls) s = .next (finish s
      (piCommand n (((g.putN (Obj.PI_STATUS n) 0).putQ (Obj.PI_FREQ n) hz).putQ (Obj.PI_DUTY n) (100 * high / span))))) ∧
  (∀ (s : State) (n : Nat), let u := began s
    n < 2 → u.carrierOn = true →
    exec (.piTimeout n) s = .next (finish s ((u.setPi n { gateL := u.lNow }).putN (Obj.PI_STATUS n) (if u.degraded then 3 else 1)))) ∧
  (∀ (s : State) (last : List Rat), let u := began s
    u.carrierOn = true →
    let means := (List.range 6).map fun g => (nth u.field.kgSum g 0 + nth last g 0) / ((u.field.kgCount : Rat) + 1)
    exec (.kgWindowEnd last) s = .next (finish s (
      let z := u.modField fun x => { x with kgSum := [], kgCount := 0 }
      let t := z.putBytes Obj.KG_CURRENT ((List.range 6).flatMap fun g => f32Bytes (.real (if g < u.asBuilt.contactors / 8 then nth means g 0 else 0)))
      t.each (t.asBuilt.contactors / 8) fun g w =>
        let i := nth means g 0
        if 10 < i then (w.inc Obj.KG_OVERLOADS).logEx 0x0C01 0x2B00 g (.real i) (.int 0) (.int 0) else w))) ∧
  (∀ (s : State) (m : Nat) (current time : Rat), let u := began s
    m < s.asBuilt.contactors → u.carrierOn = true →
    exec (.koClampMeasured m current time) s = .next (finish s (
      let e := 48 * current * time / 2
      let past := (amGetD u.field.clamps m []).filter fun x => Nat.ble (u.lNow - x.1) 60000000000
      let all := (u.lNow, e) :: past
      let t := (u.putQ (Obj.KO_CLAMP_ENERGY m) e).modField fun x => { x with clamps := amSet x.clamps m all }
      if 12 / 10 < e ∨ 6 / 10 * 60 < (all.map (·.2)).sum then
        (t.inc Obj.KO_CLAMP_EXCESS).logEx 0x0C02 0x2B00 m (.real e) (.int 0) (.int 0)
      else t))) ∧
  (∀ (s : State) (n : Nat), let u := began s
    n < 16 → u.carrierOn = true → bitOf u.field.doPad n = true →
    exec (.doOvertemp n) s = .next (finish s
      ((u.putN Obj.DO_OVERLOAD (withBit (u.n Obj.DO_OVERLOAD) n true)).modField fun x => { x with doLow := amErase x.doLow n }))) ∧
  (∀ (s : State) (g : Nat), let u := began s
    g < s.asBuilt.contactors / 8 → u.carrierOn = true →
    exec (.kgPathTrip g) s = .next (finish s
      ((u.modField fun x => { x with tripped := amSet x.tripped g 0 }).putN Obj.KG_SUPPLY_OK (withBit (u.n Obj.KG_SUPPLY_OK) g false))))

/-- Every message that the partners of a pair exchange completes in its own effect: heartbeats and their misses (R430,
R431; in FAILED_START, R455), CONTROL and SWEEP at the standby (R430), mirror entries (R439), the program's mirror (R405), a restore offered to
a waiting module (R205). -/
def Obligations.PairMessagesComplete : Prop :=
  (∀ (s : State), let u := began s
    u.coreOn = true → u.paired = true →
    let t := u.modDuo fun d => { d with alive := true }
    let w := t.emit (.pair (.heartbeat (ownHeartbeat t)))
    exec .pairHeartbeatSend s = .next (finish s (if w.pairActive then w.emit (.pair (.control (ownControl w))) else w))) ∧
  (∀ (s : State), let u := began s
    u.pow.phase = 4 → storedPair u = true →
    exec .pairHeartbeatSend s = .next (finish s
      (u.emit (.pair (.heartbeat { ownHeartbeat u with position := u.asBuilt.plug, ready := false }))))) ∧
  (∀ (s : State) (h : Heartbeat), let u := began s
    u.coreOn = true → u.paired = true → h.role ≠ 1 → u.standby = false → partnerReturned h u = true →
    exec (.pairHeartbeatReceived h) s = .next (finish s (
      let t := (u.putB Obj.PAIR_LINK_UP true).putN Obj.PARTNER_SERIAL h.serial
      let w := t.modDuo fun d => { d with hb := some h, hbL := t.lNow, misses := 0, splitWait := false }
      let v := if h.swap.isSome && w.duo.due.isNone then makeDue 2 w else w
      let l := h.restored.filter fun i => v.n (Obj.HEAD_SHAPE i) == shapeBridge
      welcomePartner (armHost false (evaluateSync h (v.forAll l fun i x => x.modHead i fun y => { y with restored := true })))))) ∧
  (∀ (s : State) (h : Heartbeat), let u := began s
    u.coreOn = true → u.paired = true → h.role ≠ 1 → u.standby = true → u.b Obj.PAIR_LINK_UP = true → u.duo.misses = 0 →
    exec (.pairHeartbeatReceived h) s = .next (finish s (
      let t := (u.putB Obj.PAIR_LINK_UP true).putN Obj.PARTNER_SERIAL h.serial
      armHost false (evaluateSync h (t.modDuo fun d => { d with hb := some h, hbL := t.lNow, misses := 0, splitWait := false }))))) ∧
  (∀ (s : State), let u := began s
    u.coreOn = true → u.paired = true → u.duo.hb.isSome = true → u.duo.misses ≠ 2 →
    exec .heartbeatMiss s = .next (finish s
      ((u.inc Obj.HEARTBEATS_MISSED).modDuo fun d => { d with misses := d.misses + 1 }))) ∧
  (∀ (s : State) (c : Control), let u := began s
    u.coreOn = true → u.standby = true →
    exec (.controlReceived c) s = .next (finish s (
      let a := u.each u.asBuilt.strings fun n t => match c.strs[n]? with
        | some x => showProt n ((((t.putN (Obj.STRING_SEQ_STATE n) x.seq).putN (Obj.PROOF_STATE n) x.proof).carryTest n x).modPs n fun y =>
            { y with phase := x.phase, touched := x.touched, raised := x.raised, openLatch := x.openLatch, lockout := x.lockout,
                     zero := x.zero, czero := x.czero, cooldown := x.cooldown, fails := x.fails, stepL := t.lNow - x.timer })
        | none => t
      let b := ((a.putN Obj.KO_COMMAND c.ko).putB Obj.CONTAINER_TRIPPED c.tripped).putQ Obj.COMMAND_IN_FORCE c.command
      let d := ((b.putN Obj.DEALER_SEAT c.dealer).putQ Obj.SEAT_SHARE c.share).modDisp fun d =>
        { d with shares := c.shares, single := c.single, seqs := c.seqs, dealerPrio := c.dealerPrio, accepted := c.accepted }
      let e := d.each 16 fun n t => match c.loops[n]? with
        | some x =>
          let f := ((t.putB (Obj.BAND_OUT n) x.band).putN (Obj.ACCUMULATOR n) x.acc).putI (Obj.PENDING n) x.pending
          let g := ((f.putI (Obj.PULSE_COUNT n) x.pulses).putN (Obj.REGION n) x.region).putN (Obj.FAULT_CAUSE n) x.fault
          let h := if x.fault ≠ 0 ∧ g.n (Obj.LOOP_STATE n) = 1 then g.putN (Obj.LOOP_STATE n) 2 else g
          h.modLoop n fun y => { y with model := x.model, handover := if x.handover then some (y.handover.getD h.lNow) else none }
        | none => t
      e.modDuo fun d => { d with control := some c }))) ∧
  (∀ (s : State) (m : SweepMsg), let u := began s
    u.coreOn = true → u.standby = true →
    exec (.sweepMessageReceived m) s = .next (finish s (
      let a := u.putN Obj.SWEEP_COUNT m.sweep
      let b := a.each a.asBuilt.strings fun n t => match m.strs[n]? with
        | some x =>
          let e := ((t.putQ (Obj.STRING_I_MEAN n) x.mean).putQ (Obj.STRING_I_A_RE n) x.iA.1).putQ (Obj.STRING_I_A_IM n) x.iA.2
          let f := (e.putQ (Obj.STRING_I_B_RE n) x.iB.1).putQ (Obj.STRING_I_B_IM n) x.iB.2
          (f.modStr n fun y => { y with invalid := x.invalid }).modTrack n fun t => { t with charge := x.charge, drift := x.drift }
        | none => t
      let c : State := { b with
        time := { b.time with nextMark := m.nextMark, delta := m.delta }
        sweep := { b.sweep with syncs := [m.next, m.sync], latched := true } }
      let e := c.forAll (c.headsIn roleListening ++ c.headsIn roleSegment) fun i t =>
        if t.n (Obj.HEAD_SHAPE i) = shapeBridge then t.modHead i fun x => { x with normal := !m.cut.contains i } else t
      let d := makeDesc e
      ({ e with est := { e.est with descs := (d :: e.est.descs.filter fun x => x.sweep != d.sweep).take 2 } } : State)))) ∧
  (∀ (s : State) (l : List Bytes), let u := began s
    u.coreOn = true → u.standby = true →
    exec (.mirrorReceived l) s = .next (finish s (learnFromMirror (countMirror (u.forAll (l.filter fun b => b.length == 64) storeEntry))))) ∧
  (∀ (s : State) (p : ProgMsg), let u := began s
    u.coreOn = true → u.standby = true →
    exec (.programMessageReceived p) s = .next (finish s (u.modDuo fun d => { d with program := some (p, u.lNow) }))) ∧
  (∀ (s : State) (x : Restore), let u := began s
    u.coreOn = true → u.standby = true → exec (.restoreReceived x) s = .next (finish s (partnerOffer x (fillMirror x u)))) ∧
  (∀ (s : State) (x : Restore), let u := began s
    u.coreOn = true → u.standby = false → u.waiting = true → u.lNow < u.custody.waitL + u.n Obj.RESTORE_TIMEOUT * 1000000000 →
    exec (.restoreReceived x) s = .next (finish s (u.modCustody fun c => 
      { c with partner := some x, host := none, armed := some 1, base := (List.range u.asBuilt.strings).map u.chargeNow })))

/-- Every event that moves the roles of a pair completes in its own effect: ROLE_IN asserted (R429) and deasserted
(R440), a collision and a split (R433), the watchdog of ROLE_OUT (R429), the wait at start (R432), the drive of TP
(R428), swaps (R446, R447). -/
def Obligations.PairRolesComplete : Prop :=
  (∀ (s : State), let u := began s
    u.carrierOn = true →
    let t := u.putB Obj.ROLE_IN_STATE true
    t.paired = true → t.pairActive = false → t.duo.startWait = false → t.duo.roleOut = false →
    exec .roleInAsserted s = .next (finish s (setYield true t))) ∧
  (∀ (s : State), let u := began s
    u.carrierOn = true →
    let t := u.putB Obj.ROLE_IN_STATE true
    t.paired = false →
    exec .roleInAsserted s = .next (finish s (if t.heedsRole && !t.duo.roleOut then setYield true t else t))) ∧
  (∀ (s : State), let u := began s
    u.coreOn = true →
    let t := u.putB Obj.ROLE_IN_STATE false
    t.paired = true → t.standby = true → t.duo.splitWait = true →
    exec .roleInDeasserted s = .next (finish s (if t.duo.splitBlock = 0 then t.modDuo fun d => { d with takeover := some 1, splitWait := false }
      else (t.logN 0x0D02 0x2C00 noSubject t.duo.splitBlock 0).modDuo fun d => { d with splitWait := false }))) ∧
  (∀ (s : State), let u := began s
    u.coreOn = true →
    let t := u.putB Obj.ROLE_IN_STATE false
    t.paired = true → t.standby = true → t.duo.splitWait = false → t.n Obj.PAIR_SYNC ≠ 2 →
    exec .roleInDeasserted s = .next (finish s (t.logN 0x0D02 0x2C00 noSubject (t.n Obj.SYNC_BLOCK) 0))) ∧
  (∀ (s : State), let u := began s
    u.coreOn = true →
    let t := u.putB Obj.ROLE_IN_STATE false
    t.paired = true → t.standby = true → t.duo.splitWait = false → t.n Obj.PAIR_SYNC = 2 → t.duo.misses = 0 →
    exec .roleInDeasserted s = .next (finish s (takeoverDue t))) ∧
  (∀ (s : State), let u := began s
    u.coreOn = true → u.paired = true → u.pairActive = true → u.n Obj.PAIR_POSITION = 2 →
    exec .roleCollision s = .next (finish s (becomeStandby 5 (u.logN 0x0D01 0x2C00 noSubject 0 0)))) ∧
  (∀ (s : State), let u := began s
    u.coreOn = true → u.duo.splitWait = true → u.b Obj.ROLE_IN_STATE = true →
    exec .splitDetected s = .next (finish s
      ((((u.putB Obj.SPLIT_DETECTED true).putN Obj.PAIR_SYNC 0).putN Obj.SYNC_BLOCK 1).modDuo fun d => { d with splitWait := false }))) ∧
  (∀ (s : State), let u := began s
    u.carrierOn = true →
    exec .aliveLost s = .next (finish s (u.modDuo fun d => { d with alive := false, roleOut := false }))) ∧
  (∀ (s : State), let u := began s
    u.coreOn = true → u.duo.startWait = true →
    exec .pairStartWaitExpiry s = .next (finish s
      (bridgeHeads roleReading (setYield false ((u.putN Obj.PAIR_ROLE 1).modDuo fun d => { d with startWait := false }))))) ∧
  (∀ (s : State), let u := began s
    u.carrierOn = true → u.standby = true → u.b Obj.PAIR_LINK_UP = false →
    exec .tpDriveStop s = .next (finish s (u.modDuo fun d => { d with tpDriven := false }))) ∧
  (∀ (s : State), let u := began s
    u.coreOn = true → u.pairActive = true → u.n Obj.ROLE_SWAP_PERIOD ≠ 0 → u.pUnsetFlag = false → u.duo.due = none →
    exec .swapDue s = .next (finish s (u.modDuo fun d =>
      { d with due := some (2, u.lNow), swapMark := none, snapSent := false, waive := false }))) ∧
  (∀ (s : State) (r : Req), let u := began s
    u.coreOn = true → admitted u (writing r [1]) Obj.SWAP_REQUEST = true →
    let t := heard u (writing r [1]) Obj.SWAP_REQUEST
    t.pairActive = true → t.duo.due = none →
    exec (.swapRequest r) s = .next (finish s (granted u (writing r [1]) Obj.SWAP_REQUEST (t.modDuo fun d =>
      { d with due := some (2, t.lNow), swapMark := none, snapSent := false, waive := false })))) ∧
  (∀ (s : State) (r : Req), let u := began s
    u.coreOn = true → admitted u (writing r [1]) Obj.SWAP_REQUEST = true →
    let t := heard u (writing r [1]) Obj.SWAP_REQUEST
    t.standby = true →
    exec (.swapRequest r) s =
      .next (finish s (granted u (writing r [1]) Obj.SWAP_REQUEST (t.modDuo fun d => { d with due := some (2, t.lNow) })))) ∧
  (∀ (s : State), let u := began s
    u.coreOn = true → u.duo.due.isSome = true → u.duo.moved = false → u.standby = false →
    exec .swapSkip s =
      .next (finish s ((u.inc Obj.SWAPS_SKIPPED).modDuo fun d => { d with due := none, swapMark := none })))

/-- Every command of start-up, sleep and the power requests completes in its own effect: a cold start, each step of Table
19.2 and a retry (R454), the wake sources (R464), a watch scan (R462), the requests (R458), the answers, delays and time
limit of the handshake (R459), a standby that follows its partner (R460; the operand is the model's, log entry 111) and
wakes with it (R465), the release from TRANSPORT (R461). -/
def Obligations.PowerCommandsComplete : Prop :=
  (∀ (s : State), let u := began s
    u.pow.phase ≠ 3 → u.pow.phase ≠ 4 → u.pow.phase ≠ 6 →
    exec .coldStart s =
      .next (finish s (countPage 0 ((beginStart true (true, true) (powerLost u)).putN Obj.WAKE_CAUSE 0x80)))) ∧
  (∀ (s : State) (x : StartObs), let u := began s
    u.pow.phase = 5 → u.pow.step = 2 →
    exec (.startStepDone x) s = .next (finish s (u.modPow fun p => { p with step := p.step + 1 }))) ∧
  (∀ (s : State) (x : StartObs), let u := began s
    u.pow.phase = 5 → u.pow.step = 3 → u.pow.xtal = true →
    exec (.startStepDone x) s =
      .next (finish s ((if x.crystal then u.putN Obj.START_STATE 0 else degradeClock (u.putN Obj.START_STATE 1)).modPow fun p =>
        { p with step := p.step + 1 }))) ∧
  (∀ (s : State) (x : StartObs), let u := began s
    u.pow.phase = 5 → u.pow.step = 4 → ∀ t, bootChoice x.sets u = some t →
    exec (.startStepDone x) s = .next (finish s (t.modPow fun p => { p with step := p.step + 1 }))) ∧
  (∀ (s : State) (x : StartObs), let u := began s
    u.pow.phase = 5 → u.pow.step = 5 →
    exec (.startStepDone x) s =
      .next (finish s ((startSafetyStep x.selfTest u).modPow fun p => { p with step := p.step + 1 }))) ∧
  (∀ (s : State) (x : StartObs), let u := began s
    u.pow.phase = 5 → u.pow.step = 6 → u.duo.startWait = false →
    exec (.startStepDone x) s =
      .next (finish s ((startFunctions x.pages x.found u).modPow fun p => { p with step := p.step + 1 }))) ∧
  (∀ (s : State) (x : StartObs), let u := began s
    u.pow.phase = 5 → u.pow.step = 7 → exec (.startStepDone x) s = .next (finish s (startDone u))) ∧
  (∀ (s : State), let u := began s
    u.pow.phase = 5 → u.pow.step = 2 → u.n Obj.START_RETRIES < 3 →
    exec .regulatorRetry s = .next (finish s (u.putN Obj.START_RETRIES (u.n Obj.START_RETRIES + 1)))) ∧
  (∀ (s : State), let u := began s
    u.pow.phase = 5 → u.pow.step = 2 → 3 ≤ u.n Obj.START_RETRIES → exec .regulatorRetry s = .next (finish s (failStart 1 u))) ∧
  (∀ (s : State) (i : Instr) (bit : Nat) (u : State), (began s).sleeps = true →
    let silent := (began s).forAll (began s).pow.watchHeads fun x t => t.putB (Obj.HEAD_TONE x.1) false
    (i, bit, u) ∈ [(Instr.wellToneLoss, 0, silent), (Instr.chainActivity, 1, began s), (Instr.wakeOnLan, 3, began s)] →
    bitOf (u.n Obj.WAKE_SOURCES) bit = true →
    let slept : Rat := ((u.lNow - u.pow.entryL : Nat) : Rat) / 1000000000
    let a := (u.putN Obj.WAKE_CAUSE (2 ^ bit)).putN Obj.WAKE_TIME u.lNow
    let b := setTone false (a.forAll (a.pow.watchHeads.map (·.1) ++ a.pow.toneHeads) fun h t => t.emit (.wakeSymbol h false))
    let w := (beginStart false (false, false) b).modPow fun p => { p with wakeOut := true }
    let d := countPage 1 (addTime (1 + u.pow.phase) slept w)
    exec i s = .next (finish s (if storedPair u && u.asBuilt.plug != 0 then d.emit (.pair .wake) else d))) ∧
  (∀ (s : State), let u := began s
    u.n Obj.WAKE_TIMER ≠ 0 → u.sleeps = true → bitOf (u.n Obj.WAKE_SOURCES) 5 = true →
    let slept : Rat := ((u.lNow - u.pow.entryL : Nat) : Rat) / 1000000000
    let a := (u.putN Obj.WAKE_CAUSE (2 ^ 5)).putN Obj.WAKE_TIME u.lNow
    let b := setTone false (a.forAll (a.pow.watchHeads.map (·.1) ++ a.pow.toneHeads) fun h t => t.emit (.wakeSymbol h false))
    let w := (beginStart false (false, false) b).modPow fun p => { p with wakeOut := true }
    let d := countPage 1 (addTime (1 + u.pow.phase) slept w)
    exec .wakeTimerExpiry s = .next (finish s (if storedPair u && u.asBuilt.plug != 0 then d.emit (.pair .wake) else d))) ∧
  (∀ (s : State) (trains : List (Nat × Option Train)), let u := began s
    (∀ x ∈ trains, x.1 < s.asBuilt.heads) → u.pow.phase = 1 →
    let x := u.pow.watchHeads.foldl (scanChain trains) (false, u.inc Obj.WATCH_SCANS)
    x.1 = false → exec (.watchScan trains) s = .next (finish s x.2)) ∧
  (∀ (s : State) (c : Instr) (r : Req) (k : Nat) (data : Bytes) (energised : Bool), let u := began s
    (c, k, data) ∈ [(Instr.powerRequestWatch r, 1, [1]), (Instr.powerRequestDormant r, 2, [2]),
      (Instr.powerRequestTransport r energised, 3, [3])] →
    u.coreOn = true → admitted u (writing r data) Obj.POWER_REQUEST = true →
    let t := heard u (writing r data) Obj.POWER_REQUEST
    (k = 3 → energised = false) → t.b Obj.BROWNOUT = false → t.pow.request = none →
    let a := ((t.putN Obj.REQUEST_RESULT 1).putN Obj.REFUSING_BLOCK 0).putN Obj.REFUSAL_REASON 0
    let b := a.modPow fun p => { p with request := some (k, a.lNow), answers := [0, 0, 0, 0, 0, 0, 0], demand := none }
    exec c s = .next (finish s (granted u (writing r data) Obj.POWER_REQUEST
      (if b.paired && b.b Obj.PAIR_LINK_UP then b.emit (.pair (.request k)) else b)))) ∧
  (∀ (s : State) (block partner k since : Nat), let u := began s
    0 < block → block < 8 → block ≠ 2 → block ≠ 3 → u.coreOn = true → u.pow.request = some (k, since) →
    refusal block partner k u = 0 → (u.accepted block && delays block partner u) = false →
    let t := u.modPow fun p => { p with answers := p.answers.set (block - 1) (if delays block partner u then 2 else 1) }
    (t.pow.answers.all (· == 1)) = false →
    exec (.handshakeAnswer block partner) s = .next (finish s t)) ∧
  (∀ (s : State) (block partner k since : Nat), let u := began s
    0 < block → block < 8 → block ≠ 2 → block ≠ 3 → u.coreOn = true → u.pow.request = some (k, since) →
    refusal block partner k u ≠ 0 →
    exec (.handshakeAnswer block partner) s = .next (finish s
      (((endHandshake 2 u).putN Obj.REFUSING_BLOCK block).putN Obj.REFUSAL_REASON (refusal block partner k u)))) ∧
  (∀ (s : State) (block partner k since : Nat), let u := began s
    0 < block → block < 8 → block ≠ 2 → block ≠ 3 → u.coreOn = true → u.pow.request = some (k, since) →
    refusal block partner k u = 0 → delays block partner u = false →
    let t := u.modPow fun p => { p with answers := p.answers.set (block - 1) 1 }
    (t.pow.answers.all (· == 1)) = true → (∀ b < 7, withdrawal t (b + 1) 0 k = none) →
    exec (.handshakeAnswer block partner) s = .next (finish s (enterLower k t))) ∧
  (∀ (s : State) (k : Nat), let u := began s
    u.coreOn = true → u.pow.request = none → u.standby = true → u.b Obj.PAIR_LINK_UP = true → (k = 1 ∨ k = 2) →
    exec (.handshakeAnswer 7 (3 + k)) s = .next (finish s (enterSleep k u))) ∧
  (∀ (s : State), let u := began s
    u.coreOn = false → u.sleeps = true → storedPair u = true → u.asBuilt.plug ≠ 0 →
    let slept : Rat := ((u.lNow - u.pow.entryL : Nat) : Rat) / 1000000000
    let a := (u.putN Obj.WAKE_CAUSE (2 ^ 1)).putN Obj.WAKE_TIME u.lNow
    let b := setTone false (a.forAll (a.pow.watchHeads.map (·.1) ++ a.pow.toneHeads) fun h t => t.emit (.wakeSymbol h false))
    let w := (beginStart false (false, false) b).modPow fun p => { p with wakeOut := true }
    exec (.handshakeAnswer 7 6) s =
      .next (finish s ((countPage 1 (addTime (1 + u.pow.phase) slept w)).emit (.pair .wake)))) ∧
  (∀ (s : State) (block : Nat), let u := began s
    0 < block → block < 8 → u.coreOn = true → u.pow.request.isSome = true → nth u.pow.answers (block - 1) 0 = 2 →
    exec (.handshakeDelayExpiry block) s =
      .next (finish s (u.modPow fun p => { p with answers := p.answers.set (block - 1) 0 }))) ∧
  (∀ (s : State), let u := began s
    u.coreOn = true → u.pow.request.isSome = true → exec .handshakeTimeout s = .next (finish s (endHandshake 3 u))) ∧
  (∀ (s : State), let u := began s
    u.pow.phase = 3 → exec (.transportRelease true) s =
      .next (finish s (countPage 0 ((beginStart true (true, true) (powerLost u)).putN Obj.WAKE_CAUSE 0x80))))

/-- Every event of the supply, of the crystal and of the die completes in its own effect: brown-out, its end and the
hold-up (R466), the loss of the carrier (R467), a lost crystal, its test and the restart (R456, R457), throttling and the
critical die (R468). -/
def Obligations.SupplyCommandsComplete : Prop :=
  (∀ (s : State), let u := began s
    u.carrierOn = true → u.b Obj.BROWNOUT = false →
    let t := countPage 2 (((u.putB Obj.BROWNOUT true).inc Obj.BROWNOUTS).modPow fun p => { p with opened := false })
    t.coreOn = true → t.pow.request = none →
    exec .brownoutRaised s = .next (finish s (
      let w := custodyBrownout (bleedOff (calAbort t))
      if w.pairActive && w.n Obj.PAIR_SYNC == 2 && !((w.duo.hb.map Heartbeat.brownout).getD false) then makeDue 4 w else w))) ∧
  (∀ (s : State), let u := began s
    u.carrierOn = true → u.b Obj.BROWNOUT = false →
    let t := countPage 2 (((u.putB Obj.BROWNOUT true).inc Obj.BROWNOUTS).modPow fun p => { p with opened := false })
    t.coreOn = false →
    exec .brownoutRaised s = .next (finish s t)) ∧
  (∀ (s : State), let u := began s
    u.carrierOn = true → u.pow.phase ≠ 6 → exec .brownoutCleared s = .next (finish s (u.putB Obj.BROWNOUT false))) ∧
  (∀ (s : State) (energy load v1 v2 : Rat), let u := began s
    u.carrierOn = true → u.pow.phase ≠ 6 →
    let ms := if load ≤ 0 then 65535 else min 65535 (energy / load * 1000).floor.toNat
    let a := ((u.putN Obj.HOLDUP_REMAINING ms).putQ Obj.MODULE_POWER load).putBytes Obj.INPUT_VOLTAGE
      (f32Bytes (.real v1) ++ f32Bytes (.real v2))
    let t := if 72 ≤ energy then a.putB Obj.HOLDUP_READY true else a
    t.b Obj.BROWNOUT = false →
    exec (.holdupRecompute energy load v1 v2) s = .next (finish s t)) ∧
  (∀ (s : State) (energy load v1 v2 : Rat), let u := began s
    u.carrierOn = true → u.pow.phase ≠ 6 →
    let ms := if load ≤ 0 then 65535 else min 65535 (energy / load * 1000).floor.toNat
    let a := ((u.putN Obj.HOLDUP_REMAINING ms).putQ Obj.MODULE_POWER load).putBytes Obj.INPUT_VOLTAGE
      (f32Bytes (.real v1) ++ f32Bytes (.real v2))
    let t := if 72 ≤ energy then a.putB Obj.HOLDUP_READY true else a
    t.b Obj.BROWNOUT = true → ms ≤ 50 →
    exec (.holdupRecompute energy load v1 v2) s = .next (finish s (finalStop t))) ∧
  (∀ (s : State), let u := began s
    (u.pow.phase = 4 ∨ u.pow.phase = 6) → exec .carrierPowerLost s = .next (finish s (powerLost u))) ∧
  (∀ (s : State) (deviation : Nat), let u := began s
    u.coreOn = true → u.pow.phase = 0 → u.degraded = false →
    exec (.crystalLost deviation) s = .next (finish s (
      let a := ((degradeClock u).putN Obj.START_STATE 1).logN 0x0E03 0x2D00 noSubject deviation 0
      let b := a.forAll [Obj.SWEEP_STATE, Obj.CHAIN_STATE, Obj.BAL_STATE, Obj.EST_STATE, Obj.DISPATCH_STATE, Obj.TABLE_STATE,
        Obj.CAN_STATE 0, Obj.CAN_STATE 1] faultFunction
      let c := b.modPow fun p => { p with ready := false }
      if c.pairActive && u.n Obj.PAIR_SYNC == 2 then c.modDuo fun d => { d with roleOut := false, ceded := true }
      else if c.standby then c
      else c.each c.asBuilt.strings fun n t => openString n false t))) ∧
  (∀ (s : State), let u := began s
    u.coreOn = true → u.degraded = true → exec (.xtalTest true) s = .next (finish s (u.putB Obj.XTAL_RECOVERED true))) ∧
  (∀ (s : State) (r : Req), let u := began s
    u.coreOn = true → admitted u (writing r [1]) Obj.POWER_RESTART = true →
    let t := heard u (writing r [1]) Obj.POWER_RESTART
    (t.standby = true ∧ t.degraded = true ∨ t.firstNotOpen = none) →
    exec (.powerRestart r) s = .next (finish s (granted u (writing r [1]) Obj.POWER_RESTART
      (beginStart true (false, false) (resetPads (coreLost (commit t))))))) ∧
  (∀ (s : State), let u := began s
    u.coreOn = true → u.b Obj.THROTTLED = false → u.abacus.clockStep ≠ 1 →
    exec .throttleStart s = .next (finish s ((u.inc Obj.THROTTLE_EVENTS).modAbacus fun a => { a with clockStep := 1 }))) ∧
  (∀ (s : State), let u := began s
    u.coreOn = true → u.b Obj.THROTTLED = true →
    exec .throttleEnd s = .next (finish s (u.modAbacus fun a => { a with clockStep := 2 }))) ∧
  (∀ (s : State) (sensor : Nat) (temp : Rat), let u := began s
    sensor < 3 → u.coreOn = true → u.b Obj.DIE_CRITICAL = false →
    let t := (u.putB Obj.DIE_CRITICAL true).logEx 0x0E01 0x2D00 sensor (.real temp) (.int 0) (.int 0)
    exec (.dieCritical sensor temp) s = .next (finish s
      (if t.pairActive && t.n Obj.PAIR_SYNC == 2 then (makeDue 2 t).modDuo fun d => { d with waive := true } else t)))

/-- Every command of the firmware update completes in its own effect: a manifest (R475), pieces and the check of a component
(R476, R477), the load of front-ends (R478), activation and cancellation (R481), post-checks and reversion (R482, R483). -/
def Obligations.UpdateCommandsComplete : Prop :=
  (∀ (s : State) (r : Req), let u := began s
    u.coreOn = true → admitted u r Obj.UPDATE_MANIFEST = true →
    let t := heard u r Obj.UPDATE_MANIFEST
    let b := (valueOf Obj.UPDATE_MANIFEST r).toBytes
    manifestBlock t b = 0 → (t.hasManifest && fieldU t.manifest 4 8 == fieldU b 4 8) = false →
    exec (.updateManifest r) s = .next (finish s (granted u r Obj.UPDATE_MANIFEST (
      let a := ((t.putBytes Obj.UPDATE_MANIFEST b).putN Obj.UPDATE_BLOCK 0).modUpd fun u => { u with pieces := [], hashing := [], jobs := [], loaded := [] }
      let c := a.each 6 fun c w => w.putN (Obj.COMPONENT_STATUS c) (if componentSame w b c then 0 else 1)
      let d := (c.each c.asBuilt.frontEnds fun f w => w.putN (Obj.FE_IMAGE_STATUS f) 0).putN Obj.FE_VERIFIED 0
      refreshReady b ((d.each 6 (showPieces b)).putN Obj.UPDATE_STATE 1))))) ∧
  (∀ (s : State) (c p : Nat) (r : Req), let u := began s
    c < 6 → p < 65536 → u.coreOn = true → admitted u r (Obj.UPDATE_PIECE c p) = true →
    let t := heard u r (Obj.UPDATE_PIECE c p)
    let d := (valueOf (Obj.UPDATE_PIECE c p) r).toBytes
    let len := mfLength t.manifest c
    t.n Obj.UPDATE_STATE = 1 → t.hasManifest = true → componentSame t t.manifest c = false → 1024 * p < len →
    d.length = min 1024 (len - 1024 * p) → amGet? (t.pieces c) p = none →
    let a := (t.modUpd fun u => { u with pieces := amSet u.pieces c (amSet (t.pieces c) p d) }).putN (Obj.COMPONENT_STATUS c) 1
    let b := showPieces t.manifest c a
    exec (.updatePiece c p r) s = .next (finish s (granted u r (Obj.UPDATE_PIECE c p)
      (if b.n (Obj.PIECES_MISSING c) = 0 then b.modUpd fun u => { u with hashing := c :: u.hashing.filter (· != c) } else b)))) ∧
  (∀ (s : State) (c : Nat), let u := began s
    c < 6 → u.coreOn = true → u.upd.hashing.contains c = true →
    let t := u.modUpd fun x => { x with hashing := x.hashing.filter (· != c) }
    exec (.componentHashDone c) s = .next (finish s
      (if Config.sha256 (slotImage t c) = mfDigest u.manifest c then refreshReady u.manifest (t.putN (Obj.COMPONENT_STATUS c) 2)
       else
        let w := (t.modUpd fun x => { x with pieces := amErase x.pieces c }).putN (Obj.COMPONENT_STATUS c) 3
        (showPieces u.manifest c w).logN 0x0E02 0x2E00 c 0 0))) ∧
  (∀ (s : State) (h dest i : Nat) (j : LoadJob) (rest : List (Nat × Nat)), let u := began s
    h < s.asBuilt.heads → u.coreOn = true → u.running Obj.CHAIN_STATE = true → u.leads = true →
    u.n (Obj.HEAD_ROLE h) = roleReading → (u.head h).idle = true → amGet? u.upd.jobs h = some j → j.queue = (dest, i) :: rest →
    imageFits u = true →
    let frames := (j.image.length + 127) / 128
    i < frames →
    let w := sendFrame h kImage dest (leBytes 4 (128 * i) ++ fit 128 (slice j.image (128 * i) 128)) u
    let k := { j with queue := if i + 1 = frames then rest else (dest, i + 1) :: rest, endL := w.lNow + airTime 132 + 250 }
    exec (.imageLoadFrame h) s = .next (finish s (w.modUpd fun x => { x with jobs := amSet x.jobs h k }))) ∧
  (∀ (s : State) (r : Req) (kernel : Kernel) (intact : Bool), let u := began s
    u.coreOn = true → admitted u (writing r [2]) Obj.UPDATE_COMMAND = true →
    let t := heard u (writing r [2]) Obj.UPDATE_COMMAND
    activateBlock t kernel.reads intact = 0 →
    exec (.updateCommandActivate r kernel intact) s = .next (finish s (granted u (writing r [2]) Obj.UPDATE_COMMAND (
      let sw := switched t
      let n := t.n Obj.SWEEP_COUNT + t.n Obj.ACTIVATE_LEAD
      let a := ((t.putN Obj.ACTIVATE_SWEEP n).putN Obj.UPDATE_BLOCK 0).putN Obj.UPDATE_STATE 3
      let b := a.modUpd fun u => { u with committed := u.running, trial := trialSet a sw kernel, record := 1, boots := 0, demand := none }
      let c := if sw.contains 0 && b.single then
          let d := demandGeneration b
          d.modUpd fun u => { u with demand := some (demandedNumber d) } else b
      if sw.contains 5 then sendActivate (nth c.upd.trial.slots 5 0) n c else c)))) ∧
  (∀ (s : State) (r : Req), let u := began s
    u.coreOn = true → admitted u (writing r [3]) Obj.UPDATE_COMMAND = true →
    let t := heard u (writing r [3]) Obj.UPDATE_COMMAND
    t.activating = false →
    exec (.updateCommandCancel r) s = .next (finish s (granted u (writing r [3]) Obj.UPDATE_COMMAND (
      let a := ((t.putBytes Obj.UPDATE_MANIFEST []).putN Obj.UPDATE_STATE 0).modUpd fun u => { u with pieces := [], hashing := [], jobs := [], loaded := [] }
      let b := a.each 6 fun c w => (w.putN (Obj.COMPONENT_STATUS c) 0).putN (Obj.PIECES_MISSING c) 0
      (b.each b.asBuilt.frontEnds fun f w => w.putN (Obj.FE_IMAGE_STATUS f) 0).putN Obj.FE_VERIFIED 0)))) ∧
  (∀ (s : State) (answers : List (Nat × Option Train)), let x := checkFrontEnds answers (began s)
    let u := x.2
    (began s).coreOn = true → u.n Obj.UPDATE_STATE = 5 → postFailure x.1 u = 0 →
    exec (.postcheckComplete answers) s = .next (finish s (
      let a := if onTrial u 5 then u.modUpd fun x => { x with copy := slotImage u 5 } else u
      let b := (a.putN Obj.UPDATE_STATE 6).putN Obj.SECURITY_EPOCH (fieldU a.manifest 12 2)
      (b.inc Obj.UPDATES_COMMITTED).modUpd fun x => { x with committed := x.running, trial := x.committed, record := 0, boots := 0 }))) ∧
  (∀ (s : State) (answers : List (Nat × Option Train)), let x := checkFrontEnds answers (began s)
    (began s).coreOn = true → x.2.n Obj.UPDATE_STATE = 5 →
    exec (.postcheckTimeout answers) s =
      .next (finish s (revert (if postFailure x.1 x.2 = 0 then 7 else postFailure x.1 x.2) x.2)))

/-- Every command of the recorder completes in its own effect: a commit that falls due, in a sweep at its end, and a
commit by write (R487), and RECORDER_CLEAR for the cells and strings, the module, the log and all (R498). -/
def Obligations.RecorderCommandsComplete : Prop :=
  (∀ (s : State), let u := began s
    u.coreOn = true →
    exec .recorderCommit s = .next (finish s
      (if u.running Obj.SWEEP_STATE then u.modRecorder fun x => { x with due := true } else commit u))) ∧
  (∀ (s : State) (r : Req), let u := began s
    u.coreOn = true → admitted u (writing r [1]) Obj.RECORDER_COMMIT_NOW = true →
    let t := heard u (writing r [1]) Obj.RECORDER_COMMIT_NOW
    exec (.recorderCommitNow r) s = .next (finish s (granted u (writing r [1]) Obj.RECORDER_COMMIT_NOW
      (if t.running Obj.SWEEP_STATE then t.modRecorder fun x => { x with due := true } else commit t)))) ∧
  (∀ (s : State) (r : Req), let u := began s
    u.coreOn = true → admitted u r Obj.RECORDER_CLEAR = true →
    let t := heard u r Obj.RECORDER_CLEAR
    let c := (valueOf Obj.RECORDER_CLEAR r).toNat
    exec (.recorderClear r) s = .next (finish s (granted u r Obj.RECORDER_CLEAR (
      let a := if c = 1 then clearPages (fun k => Nat.blt k 8192) t
        else if c = 2 then clearPages (fun k => Nat.ble 8192 k && Nat.blt k 8208) t
        else if c = 3 then clearPages (fun k => k == pageModule) t
        else if c = 0xFF then adoptContainer ((clearPages (fun _ => true) t).putB Obj.RECORDER_FOREIGN false)
        else t
      let b := if c = 4 ∨ c = 0xFF then { (a.putN Obj.LOG_COUNT 0).putN Obj.LOG_NEWEST 0 with exLog := [], exSlot := 0 } else a
      b.logN 0x0F02 0x2F00 noSubject c 0))))

/-! ### The queue, a step, the form of a command -/

/-- A step takes the command at the front of the queue and carries it out on the state with the queue's rest. -/
def Obligations.StepRunsTheFrontCommand : Prop :=
  ∀ (s : State) (c : Instr) (rest : List Instr), s.pending = c :: rest → step s = exec c { s with pending := rest }

/-- On an empty queue a step is one tick of 10 ns (the model's choice, log entry 2; R32, R33): base L advances, what was put
out is gone, no object but M_CYCLE_COUNT changes; a carrier without power does not count. -/
def Obligations.EmptyQueueTicks : Prop :=
  (∀ (s : State), s.pending = [] → s.carrierOn = true →
    ∃ t, step s = .next t ∧ t.lNow = s.lNow + 10 ∧ t.out = [] ∧ t.pending = [] ∧ ∀ k, k ≠ Obj.M_CYCLE_COUNT → t.v k = s.v k) ∧
  (∀ (s : State), s.pending = [] → s.carrierOn = false → step s = .next s.cleared)

/-- What reset leaves: base L at 0 (R33), base P UNSET and reading as base L (R34), no function RUNNING until start-up gives it
its state (Table 19.2), every pad and latch off and as the rules on pads say (R21, R408), no command waiting. -/
def Obligations.ResetLeaves : Prop :=
  State.reset.lNow = 0 ∧ State.reset.pUnsetFlag = true ∧ State.reset.pNow = State.reset.lNow ∧
  (∀ k ∈ fnKeys, State.reset.n k = 0) ∧ padsFollow State.reset ∧ State.reset.field.koLatch = 0 ∧ State.reset.field.doLatch = 0 ∧
  (∀ m, bitOf State.reset.field.koPad m = false) ∧ (∀ d, bitOf State.reset.field.doPad d = false) ∧ State.reset.pending = []

/-- What the beginning of a command leaves: every object, the queue, the part, the power, the field side and the safety
controllers as they are; nothing is put out yet. -/
def Obligations.CommandBegins : Prop :=
  ∀ (s : State), (began s).out = [] ∧ (∀ k, (began s).v k = s.v k) ∧ (began s).pending = s.pending ∧ (began s).asBuilt = s.asBuilt ∧
    (began s).pow = s.pow ∧ (began s).field = s.field ∧ (began s).safety = s.safety

/-- What the end of a command leaves of the command's effect `t`: every object but those that settling writes, every message
put out, every field of the state but those that settling owns; the queue and the part are those from before. -/
def Obligations.CommandEnds : Prop :=
  ∀ (s t : State), unsettled (finish s t) = { unsettled t with pending := s.pending, asBuilt := s.asBuilt } ∧
    (finish s t).out = t.out ∧ (t.asBuilt = s.asBuilt → ∀ k, settledKey k = false → (finish s t).v k = t.v k)

/-- No command changes the queue of those that wait or what the module was built with. -/
def Obligations.CommandsKeepQueueAndPart : Prop :=
  ∀ (c : Instr) (s t : State), exec c s = .next t → t.pending = s.pending ∧ t.asBuilt = s.asBuilt

/-- No command is refused by the model, and one stops only because it names a resource that the part does not have. -/
def Obligations.CommandsStopOnlyAtAbsentResources : Prop :=
  ∀ (c : Instr) (s : State), (∀ r, exec c s ≠ .refused r) ∧ ∀ f, exec c s = .fault f → f = .absentResource

/-- A command on a chain head, a string, a contactor output, a cell, a sensor or a channel that the part does not have stops
(R1, R29). -/
def Obligations.AbsentResourcesStop : Prop :=
  (∀ (s : State) (h expected : Nat) (raw : Bytes), s.asBuilt.heads ≤ h →
    exec (.blockReceived h expected raw) s = .fault .absentResource) ∧
  (∀ (s : State) (n : Nat), s.asBuilt.strings ≤ n → exec (.ciFault n) s = .fault .absentResource) ∧
  (∀ (s : State) (m : Nat) (i t : Rat), s.asBuilt.contactors ≤ m → exec (.koClampMeasured m i t) s = .fault .absentResource) ∧
  (∀ (s : State) (rod n : Nat) (e : List WordErr) (m : Option (CpRec × Rat)), s.asBuilt.cells ≤ n →
    exec (.cellUpdateDone rod n e m) s = .fault .absentResource) ∧
  (∀ (s : State) (n cause : Nat), s.asBuilt.sensors ≤ n → exec (.sensorFailed n cause) s = .fault .absentResource) ∧
  (∀ (s : State) (c : Nat), 2 ≤ c → exec (.canBusOff c) s = .fault .absentResource)

/-! ### The pads -/

/-- Every step keeps the pads as the rules say: a contactor output conducts exactly while its latch is on, both safety
controllers grant its string, the field side is powered, the module is neither STANDBY nor yielding and its group path is
whole; a DO exactly while its latch is on, the field side is powered, the module is not held off and it is not overloaded
(R21, R408, R418, R427, R429, R504). -/
def Obligations.PadsFollowEveryStep : Prop := ∀ (s t : State), padsFollow s → step s = .next t → padsFollow t

/-- After every command, whatever came before, the pads are as the rules say, and those of a STANDBY module are all off
(R21, R427). -/
def Obligations.PadsFollowEveryCommand : Prop :=
  ∀ (c : Instr) (s t : State), exec c s = .next t →
    padsFollow t ∧ (t.standby = true → ∀ m, bitOf t.field.koPad m = false ∧ bitOf t.field.doPad m = false)

/-- R410: every latch holds the commanded level while FIELD_LATCHED is 0 (those of a module that holds its pads off, R427 and
R429, are off); after a restart of the field side the latches are off and FIELD_LATCHED is 1; after a reset of the controller
die every latch keeps its level and FIELD_LATCHED is 1. -/
def Obligations.LatchesHoldTheirLevels : Prop :=
  (∀ (c : Instr) (s t : State), exec c s = .next t → t.b Obj.FIELD_LATCHED = false →
    if t.padsHeld then t.field.koLatch = 0 ∧ t.field.doLatch = 0
    else t.field.koLatch = t.n Obj.KO_COMMAND ∧ t.field.doLatch = t.n Obj.DO_COMMAND) ∧
  (∀ (s : State) (x : FieldSample), s.carrierOn = true → ∃ t, exec (.fieldRestart x) s = .next t ∧
    t.field.koLatch = 0 ∧ t.field.doLatch = 0 ∧ t.b Obj.FIELD_LATCHED = true) ∧
  (∀ (s : State), (s.pow.phase = 0 ∨ s.pow.phase = 5) → ∃ t, exec .dieReset s = .next t ∧
    t.field.koLatch = s.field.koLatch ∧ t.field.doLatch = s.field.doLatch ∧ t.b Obj.FIELD_LATCHED = true)

/-! ### Power and requests -/

/-- What belongs to the core domain does nothing while that domain has no power (R452): each of these commands then leaves what
the beginning and the end of a command leave. -/
def Obligations.CoreOffNoEffect : Prop :=
  ∀ (s : State) (r : Req) (x : HeadReq) (index sub micros : Nat) (b : Bool) (x' : ScanRun), s.coreOn = false → index < 65536 → sub < 65536 →
    ∀ c ∈ [Instr.read index sub r, .write index sub r, .keepalive x, .configSave r, .sweepMark, .syncSend, .readStart, .abacusDeadline,
      .balanceSend b, .loopTick, .isoLost, .cmdLost, .tableCycleStart, .dealSend, .programScan micros x', .progWatchdog, .announce,
      .supervisionFrameSend, .heartbeatMiss, .swapDue, .throttleStart, .recorderCommit, .checkpointPeriodExpiry],
      exec c s = .next (finish s (began s))

/-- A WRITE that rows 1 to 7 of Table 15.4 refuse has no effect but its answer (R365, R371): the abort leaves with its code and
data, ABORT_LAST shows it; no object changes but ABORT_LAST, ABORTS_ISSUED, the session's PEER_LAST_SEEN, WRONG_LAN (R382) and
those that settling writes. -/
def Obligations.RefusedWriteHasNoEffect : Prop :=
  ∀ (s : State) (index sub : Nat) (r : Req) (ses : Session) (a : Abort), let u := began s
    index < 65536 → sub < 65536 → u.coreOn = true → (u.netIn r).1 = true → u.session? r.src = some ses →
    (ses.kept.any fun k => k.tag == r.tag) = false → (u.touchSession r).checkAccess r ses .write index sub = some a →
    ∃ t, exec (.write index sub r) s = .next t ∧ t.n Obj.ABORT_LAST = a.code ∧
      Output.response r.src { tag := r.tag, op := (r.op.map (· % 128)).getD 2, index, sub, abort := a.code, last := false, data := a.data } ∈ t.out ∧
      ∀ k, settledKey k = false → k ≠ Obj.ABORT_LAST → k ≠ Obj.ABORTS_ISSUED → k ≠ Obj.WRONG_LAN → (∀ p, r.src = .udp p → k ≠ Obj.PEER_LAST_SEEN p) →
        t.v k = s.v k

/-- A request whose TAG equals a kept one is answered from the kept response and is not carried out again (R374). -/
def Obligations.RepeatedTagAnsweredFromKept : Prop :=
  ∀ (s : State) (index sub : Nat) (r : Req) (ses : Session) (k : Response), let u := began s
    index < 65536 → sub < 65536 → u.coreOn = true → (u.netIn r).1 = true → u.session? r.src = some ses →
    (ses.kept.find? fun x => x.tag == r.tag) = some k →
    ∀ c ∈ [Instr.read index sub r, .write index sub r, .push ⟨index, sub, r⟩, .keepalive ⟨index, sub, r⟩],
      exec c s = .next (finish s ((u.touchSession r).emit (.response r.src k)))

/-- A request that belongs to no open session has no effect (R377), nor has a duplicate of a frame (R382): its arrival alone is
noted. -/
def Obligations.NoSessionNoEffect : Prop :=
  ∀ (s : State) (index sub : Nat) (r : Req), let u := began s
    index < 65536 → sub < 65536 → (u.session? r.src = none ∨ (u.netIn r).1 = false) →
    ∀ c ∈ [Instr.read index sub r, .write index sub r, .push ⟨index, sub, r⟩, .keepalive ⟨index, sub, r⟩, .configSave r],
      exec c s = .next (finish s (if u.coreOn then (u.netIn r).2 else u))

/-- R380: over CAN a PUSH, any access to SAFETY_LOGIN and a write that needs the engineer or safety role are refused with
TRANSPORT; a write of any other object that an operator may write passes the access checks as on any session. -/
def Obligations.CanRequestsLimited : Prop :=
  ∀ (s : State) (r : Req) (ses : Session), let u := began s
    u.coreOn = true → r.src = .can → pduKnown r = true → u.session? .can = some ses → (ses.kept.any fun k => k.tag == r.tag) = false →
    (∀ (index sub : Nat) (g : ObjGroup) (row : ObjRow), index < 65536 → sub < 65536 →
      findGroup index = some g → g.exists? s.asBuilt index sub = true → g.row? sub = some row →
      (index = 0x2A10 ∨ index = 0x2A12 → sub < u.symbolCount) →
      ∃ t, exec (.push ⟨index, sub, r⟩) s = .next t ∧ t.n Obj.ABORT_LAST = aTransport) ∧
    ∀ (index sub : Nat) (g : ObjGroup) (row : ObjRow), index < 65536 → sub < 65536 →
      findGroup index = some g → g.exists? s.asBuilt index sub = true → g.row? sub = some row →
      (index = 0x2A10 ∨ index = 0x2A12 → sub < u.symbolCount) →
      (objKey index sub = Obj.SAFETY_LOGIN → ∀ c ∈ [Instr.read index sub r, .write index sub r],
        ∃ t, exec c s = .next t ∧ t.n Obj.ABORT_LAST = aTransport) ∧
      (row.access ≠ .ro → writeNeeds r row g index sub ≠ 1 →
        ∃ t, exec (.write index sub r) s = .next t ∧ t.n Obj.ABORT_LAST = aTransport) ∧
      (objKey index sub ≠ Obj.SAFETY_LOGIN → row.access ≠ .ro → writeNeeds r row g index sub = 1 → roleAllows ses.role 1 = true →
        row.access ≠ .safe → (u.touchSession r).checkAccess r ses .write index sub = none)

/-! ### Rules of the chapters -/

/-- In DEGRADED_CLOCK a channel neither sends nor receives, and the integrator's buffers stay PENDING (R357). -/
def Obligations.DegradedCanSilent : Prop :=
  ∀ (s : State) (f : CanFrame) (esi : Bool) (stamp c : Nat) (outcome : TxOutcome) (early : Option Nat), let u := began s
    f.channel < 2 → c < 2 → u.degraded = true →
    ∀ i ∈ [Instr.canFrameReceived f esi stamp, .canTxDone c early outcome stamp, .canBusOff c, .busoffRecovery c, .protocolException c],
      ∃ t, exec i s = .next t ∧ t.out = [] ∧
        ∀ ch b, ch < 2 → 8 ≤ b → b < 32 → t.n (Obj.TX_STATE ch b) = s.n (Obj.TX_STATE ch b)

/-- R477: the last missing piece of a component makes the module hash its slot; a digest that matches makes it COMPLETE;
another clears its bitmap of pieces, makes it DIGEST_FAILED and enters the exception log. -/
def Obligations.ComponentHashDecides : Prop :=
  (∀ (s : State) (c p : Nat) (r : Req), let u := began s
    c < 6 → p < 65536 → u.coreOn = true → admitted u r (Obj.UPDATE_PIECE c p) = true →
    let t := heard u r (Obj.UPDATE_PIECE c p)
    let d := (valueOf (Obj.UPDATE_PIECE c p) r).toBytes
    let len := mfLength t.manifest c
    t.n Obj.UPDATE_STATE = 1 → t.hasManifest = true → componentSame t t.manifest c = false → 1024 * p < len →
    d.length = min 1024 (len - 1024 * p) → amGet? (t.pieces c) p = none → (t.pieces c).length + 1 = pieceCount t.manifest c →
    ∃ w, exec (.updatePiece c p r) s = .next w ∧ w.upd.hashing.contains c = true) ∧
  (∀ (s : State) (c : Nat), let u := began s
    c < 6 → u.coreOn = true → u.upd.hashing.contains c = true → Config.sha256 (slotImage u c) = mfDigest u.manifest c →
    ∃ w, exec (.componentHashDone c) s = .next w ∧ w.n (Obj.COMPONENT_STATUS c) = 2) ∧
  (∀ (s : State) (c : Nat), let u := began s
    c < 6 → u.coreOn = true → u.upd.hashing.contains c = true → Config.sha256 (slotImage u c) ≠ mfDigest u.manifest c →
    ∃ w : State, let t := finish s (w.logN 0x0E02 0x2E00 c 0 0)
      exec (.componentHashDone c) s = .next t ∧ t.n (Obj.COMPONENT_STATUS c) = 3 ∧ t.pieces c = [])

/-- R332: a dealer sends a DEAL only when SEATS_HEARD exceeds half of TABLE_SEATS_EXPECTED, otherwise none; of two modules
that expect as many seats and together hear at most these, at most one sends. -/
def Obligations.DealsNeedMajority : Prop :=
  (∀ (s t : State), exec .dealSend s = .next t → t.out ≠ [] → 2 * s.n Obj.SEATS_HEARD > s.n Obj.TABLE_SEATS_EXPECTED) ∧
  (∀ (s : State), 2 * s.n Obj.SEATS_HEARD ≤ s.n Obj.TABLE_SEATS_EXPECTED → ∃ t, exec .dealSend s = .next t ∧ t.out = []) ∧
  (∀ (s s' t t' : State), s.n Obj.TABLE_SEATS_EXPECTED = s'.n Obj.TABLE_SEATS_EXPECTED →
    s.n Obj.SEATS_HEARD + s'.n Obj.SEATS_HEARD ≤ s.n Obj.TABLE_SEATS_EXPECTED →
    exec .dealSend s = .next t → exec .dealSend s' = .next t' → ¬ (t.out ≠ [] ∧ t'.out ≠ []))

/-- R179: with every rod in service, in sweep k cell n is dealt to rod (n + 5 × k) mod 16; every cell visits all 16 rods in any
16 consecutive sweeps and any 16 consecutive cells feed every rod; an update that a rod starts is of a cell dealt to it. -/
def Obligations.ShuffleVisitsEveryRod : Prop :=
  ∀ (s : State), (∀ r < 16, bitOf (s.n Obj.ROD_FENCED) r = false) →
    (∀ n k, s.rodOf n k = (n + 5 * k) % 16) ∧
    (∀ n k r, r < 16 → ∃ j < 16, s.rodOf n (k + j) = r) ∧
    (∀ n k r, r < 16 → ∃ j < 16, s.rodOf (n + j) k = r) ∧
    (∀ r < 16, ∀ x ∈ ((startOne r s).rod r).slots, x ∉ (s.rod r).slots → (x.cell + 5 * s.n Obj.SWEEP_COUNT) % 16 = r)

/-- R24: after every command each string's set-point is its dealt share with the pilot added, clamped to the limits in force,
which a harmonic pilot narrows by its amplitude (R327), whatever the command: it does not wait for the next deal. So it lies
within the limits. A string that no deal serves has 0. -/
def Obligations.SetpointsWithinLimits : Prop :=
  ∀ (c : Instr) (s t : State), exec c s = .next t → t.coreOn = true → ∀ n < t.asBuilt.strings,
    let chg := t.q (Obj.STRING_LIMIT_CHG n)
    let dis := t.q (Obj.STRING_LIMIT_DIS n)
    let sp := t.q (Obj.STRING_SETPOINT n)
    0 ≤ chg → 0 ≤ dis → 2 * pilotMargin t ≤ chg + dis →
    -dis ≤ sp ∧ sp ≤ chg ∧
      sp = (if t.perString ∧ t.running Obj.DISPATCH_STATE then
        rclamp (-dis + pilotMargin t) (chg - pilotMargin t) (nth t.disp.shares n 0 + pilotValue t) else 0)

/-- The lock-out of the safety password (R313): a wrong password is counted, the fifth in a row starts ten minutes; while they
last every login is refused, a correct one too, and opens no session; a correct one before clears the count. -/
def Obligations.FiveFailuresLockTheLogin : Prop :=
  (∀ (s : State) (r : Req), let u := began s
    u.coreOn = true → admitted u r Obj.SAFETY_LOGIN = true →
    let t := heard u r Obj.SAFETY_LOGIN
    let b := (valueOf Obj.SAFETY_LOGIN r).toBytes
    b ≠ [] → t.safety.lockMs = 0 → t.safety.pwHash ≠ some (Config.passwordHash b) →
    ∃ w, exec (.safetyLogin r) s = .next w ∧ w.n Obj.LOGIN_FAILURES = s.n Obj.LOGIN_FAILURES + 1 ∧
      w.n Obj.ABORT_LAST = aPasswordWrong ∧ w.safety.session = s.safety.session ∧
      (5 ≤ s.n Obj.LOGIN_FAILURES + 1 → w.safety.lockMs = 600000 ∧ w.n Obj.LOCKOUT_REMAINING = 600) ∧
      (s.n Obj.LOGIN_FAILURES + 1 < 5 → w.safety.lockMs = 0)) ∧
  (∀ (s : State) (r : Req), let u := began s
    u.coreOn = true → admitted u r Obj.SAFETY_LOGIN = true →
    let t := heard u r Obj.SAFETY_LOGIN
    let b := (valueOf Obj.SAFETY_LOGIN r).toBytes
    b ≠ [] → t.safety.lockMs ≠ 0 →
    ∃ w, exec (.safetyLogin r) s = .next w ∧ w.n Obj.ABORT_LAST = aPasswordLocked ∧ w.safety.session = s.safety.session) ∧
  (∀ (s : State) (r : Req), let u := began s
    u.coreOn = true → s.safety.wrong = false → admitted u r Obj.SAFETY_LOGIN = true →
    let t := heard u r Obj.SAFETY_LOGIN
    let b := (valueOf Obj.SAFETY_LOGIN r).toBytes
    b ≠ [] → t.safety.lockMs = 0 → t.safety.pwHash = some (Config.passwordHash b) →
    ∃ w, exec (.safetyLogin r) s = .next w ∧ w.n Obj.LOGIN_FAILURES = 0 ∧ w.safety.session = some r.src)

/-- The expiry that makes a string OVERDUE (R306): while it is OPEN both enables are withheld; one that is closed stays closed,
its command as it was. -/
def Obligations.OverdueWithholdsEnables : Prop :=
  (∀ (s : State) (n : Nat), let u := began s
    n < s.asBuilt.strings → u.carrierOn = true → u.safetyRuns = true → u.n (Obj.PROOF_STATE n) ≠ 0 → u.n (Obj.PROOF_STATE n) ≠ 2 →
    (u.ss n).proof = none → u.seq n = sqOpen →
    ∃ t, exec (.proofOverdue n) s = .next t ∧ t.n (Obj.PROOF_STATE n) = 5 ∧
      bitOf t.safety.x.en n = false ∧ bitOf t.safety.y.en n = false) ∧
  (∀ (s t : State) (n : Nat), exec (.proofOverdue n) s = .next t →
    t.n Obj.KO_COMMAND = s.n Obj.KO_COMMAND ∧ ∀ m < s.asBuilt.strings, t.seq m = s.seq m)

/-- At the deadline every cell with a stored block that was neither updated nor started is DEFERRED, its record and its
measurements unchanged (R182). -/
def Obligations.DeadlineDefers : Prop :=
  ∀ (s : State), let u := began s
    u.coreOn = true → u.running Obj.SWEEP_STATE = true → u.sweep.deadline = false → u.estimating = true →
    ∃ t, exec .abacusDeadline s = .next t ∧
      (∀ n ∈ u.abacus.stored, n < 8192 → n ∉ u.abacus.started → t.dealFlag n dfDeferred = true) ∧ ∀ n, t.cell n = u.cell n

/-! ### Frames -/

/-- The frame of commands that change no object: after each, every object but those that settling writes reads as before, and
the update, custody and what the safety controllers grant are as they were. -/
def Obligations.CommandsThatChangeNoObject : Prop :=
  ∀ (s t : State) (index sub n : Nat) (p : ProgMsg),
    ∀ c ∈ [Instr.transferLapse index sub, .aliveLost, .tpDriveStop, .swapDue, .throttleEnd, .programMessageReceived p,
      .handshakeDelayExpiry n, .prechargeCooldownEnd n, .recorderCommit, .detectDwellExpiry n],
      exec c s = .next t → (c = .recorderCommit → s.running Obj.SWEEP_STATE = true) →
      (∀ k, settledKey k = false → t.v k = s.v k) ∧ t.upd = s.upd ∧ t.custody = s.custody ∧
        t.safety.x.en = s.safety.x.en ∧ t.safety.y.en = s.safety.y.en

/-- The frame of commands that change the objects named beside them and no other, but for those that settling writes. -/
def Obligations.CommandsThatChangeNamedObjects : Prop :=
  ∀ (s t : State) (n : Nat) (up : Bool),
    ∀ x ∈ [(Instr.ethernetLinkChange n up, [Obj.LINK_STATE]), (.piTimeout n, [Obj.PI_STATUS n]), (.ciFault n, [Obj.CI_FAULT n]),
      (.ciFaultClear n, [Obj.CI_FAULT n]), (.brownoutCleared, [Obj.BROWNOUT]), (.xtalTest up, [Obj.XTAL_RECOVERED]),
      (.proofDue n, [Obj.PROOF_STATE n]), (.protocolException n, [Obj.PROTOCOL_EXCEPTIONS n]),
      (.busoffRecovery n, [Obj.CAN_ERROR_STATE n, Obj.CAN_ERROR_COUNTERS n]), (.detectTimeout n, [Obj.CAN_STATE n, Obj.DETECT_FAILED n]),
      (.kgPathTrip n, [Obj.KG_SUPPLY_OK]), (.heartbeatMiss, [Obj.HEARTBEATS_MISSED, Obj.PAIR_LINK_UP, Obj.PAIR_SYNC, Obj.SYNC_BLOCK]),
      (.swapSkip, [Obj.SWAPS_SKIPPED]), (.throttleStart, [Obj.THROTTLE_EVENTS])],
      exec x.1 s = .next t → ∀ k, settledKey k = false → k ∉ x.2 → t.v k = s.v k

end
end

