-- ==== Sys2Proof/Laws/State.lean ====
section
/-!
SUPPORT. Each field of the state after each plain update: one lemma per field per update, true by unfolding, so that no
proof unfolds a record update.
-/

namespace Sys2Proof.Machine

/-! ### put -/

@[simp] theorem State.put_asBuilt (s : State) (k : Nat) (v : Val) : (s.put k v).asBuilt = s.asBuilt := rfl
@[simp] theorem State.put_store (s : State) (k : Nat) (v : Val) : (s.put k v).store = storePut s.asBuilt s.store k v := rfl
@[simp] theorem State.put_staged (s : State) (k : Nat) (v : Val) : (s.put k v).staged = s.staged := rfl
@[simp] theorem State.put_pending (s : State) (k : Nat) (v : Val) : (s.put k v).pending = s.pending := rfl
@[simp] theorem State.put_out (s : State) (k : Nat) (v : Val) : (s.put k v).out = s.out := rfl
@[simp] theorem State.put_netSeq (s : State) (k : Nat) (v : Val) : (s.put k v).netSeq = s.netSeq := rfl
@[simp] theorem State.put_free (s : State) (k : Nat) (v : Val) : (s.put k v).free = s.free := rfl
@[simp] theorem State.put_time (s : State) (k : Nat) (v : Val) : (s.put k v).time = s.time := rfl
@[simp] theorem State.put_exLog (s : State) (k : Nat) (v : Val) : (s.put k v).exLog = s.exLog := rfl
@[simp] theorem State.put_exSlot (s : State) (k : Nat) (v : Val) : (s.put k v).exSlot = s.exSlot := rfl
@[simp] theorem State.put_exNo (s : State) (k : Nat) (v : Val) : (s.put k v).exNo = s.exNo := rfl
@[simp] theorem State.put_idp (s : State) (k : Nat) (v : Val) : (s.put k v).idp = s.idp := rfl
@[simp] theorem State.put_safety (s : State) (k : Nat) (v : Val) : (s.put k v).safety = s.safety := rfl
@[simp] theorem State.put_chain (s : State) (k : Nat) (v : Val) : (s.put k v).chain = s.chain := rfl
@[simp] theorem State.put_sweep (s : State) (k : Nat) (v : Val) : (s.put k v).sweep = s.sweep := rfl
@[simp] theorem State.put_est (s : State) (k : Nat) (v : Val) : (s.put k v).est = s.est := rfl
@[simp] theorem State.put_custody (s : State) (k : Nat) (v : Val) : (s.put k v).custody = s.custody := rfl
@[simp] theorem State.put_temp (s : State) (k : Nat) (v : Val) : (s.put k v).temp = s.temp := rfl
@[simp] theorem State.put_can (s : State) (k : Nat) (v : Val) : (s.put k v).can = s.can := rfl
@[simp] theorem State.put_field (s : State) (k : Nat) (v : Val) : (s.put k v).field = s.field := rfl
@[simp] theorem State.put_loops (s : State) (k : Nat) (v : Val) : (s.put k v).loops = s.loops := rfl
@[simp] theorem State.put_prot (s : State) (k : Nat) (v : Val) : (s.put k v).prot = s.prot := rfl
@[simp] theorem State.put_disp (s : State) (k : Nat) (v : Val) : (s.put k v).disp = s.disp := rfl
@[simp] theorem State.put_prog (s : State) (k : Nat) (v : Val) : (s.put k v).prog = s.prog := rfl
@[simp] theorem State.put_duo (s : State) (k : Nat) (v : Val) : (s.put k v).duo = s.duo := rfl
@[simp] theorem State.put_upd (s : State) (k : Nat) (v : Val) : (s.put k v).upd = s.upd := rfl
@[simp] theorem State.put_pow (s : State) (k : Nat) (v : Val) : (s.put k v).pow = s.pow := rfl
@[simp] theorem State.put_recorder (s : State) (k : Nat) (v : Val) : (s.put k v).recorder = s.recorder := rfl

/-! ### putN -/

@[simp] theorem State.putN_asBuilt (s : State) (k n : Nat) : (s.putN k n).asBuilt = s.asBuilt := rfl
@[simp] theorem State.putN_store (s : State) (k n : Nat) : (s.putN k n).store = storePut s.asBuilt s.store k (.int n) := rfl
@[simp] theorem State.putN_staged (s : State) (k n : Nat) : (s.putN k n).staged = s.staged := rfl
@[simp] theorem State.putN_pending (s : State) (k n : Nat) : (s.putN k n).pending = s.pending := rfl
@[simp] theorem State.putN_out (s : State) (k n : Nat) : (s.putN k n).out = s.out := rfl
@[simp] theorem State.putN_netSeq (s : State) (k n : Nat) : (s.putN k n).netSeq = s.netSeq := rfl
@[simp] theorem State.putN_free (s : State) (k n : Nat) : (s.putN k n).free = s.free := rfl
@[simp] theorem State.putN_time (s : State) (k n : Nat) : (s.putN k n).time = s.time := rfl
@[simp] theorem State.putN_exLog (s : State) (k n : Nat) : (s.putN k n).exLog = s.exLog := rfl
@[simp] theorem State.putN_exSlot (s : State) (k n : Nat) : (s.putN k n).exSlot = s.exSlot := rfl
@[simp] theorem State.putN_exNo (s : State) (k n : Nat) : (s.putN k n).exNo = s.exNo := rfl
@[simp] theorem State.putN_idp (s : State) (k n : Nat) : (s.putN k n).idp = s.idp := rfl
@[simp] theorem State.putN_safety (s : State) (k n : Nat) : (s.putN k n).safety = s.safety := rfl
@[simp] theorem State.putN_chain (s : State) (k n : Nat) : (s.putN k n).chain = s.chain := rfl
@[simp] theorem State.putN_sweep (s : State) (k n : Nat) : (s.putN k n).sweep = s.sweep := rfl
@[simp] theorem State.putN_est (s : State) (k n : Nat) : (s.putN k n).est = s.est := rfl
@[simp] theorem State.putN_custody (s : State) (k n : Nat) : (s.putN k n).custody = s.custody := rfl
@[simp] theorem State.putN_temp (s : State) (k n : Nat) : (s.putN k n).temp = s.temp := rfl
@[simp] theorem State.putN_can (s : State) (k n : Nat) : (s.putN k n).can = s.can := rfl
@[simp] theorem State.putN_field (s : State) (k n : Nat) : (s.putN k n).field = s.field := rfl
@[simp] theorem State.putN_loops (s : State) (k n : Nat) : (s.putN k n).loops = s.loops := rfl
@[simp] theorem State.putN_prot (s : State) (k n : Nat) : (s.putN k n).prot = s.prot := rfl
@[simp] theorem State.putN_disp (s : State) (k n : Nat) : (s.putN k n).disp = s.disp := rfl
@[simp] theorem State.putN_prog (s : State) (k n : Nat) : (s.putN k n).prog = s.prog := rfl
@[simp] theorem State.putN_duo (s : State) (k n : Nat) : (s.putN k n).duo = s.duo := rfl
@[simp] theorem State.putN_upd (s : State) (k n : Nat) : (s.putN k n).upd = s.upd := rfl
@[simp] theorem State.putN_pow (s : State) (k n : Nat) : (s.putN k n).pow = s.pow := rfl
@[simp] theorem State.putN_recorder (s : State) (k n : Nat) : (s.putN k n).recorder = s.recorder := rfl

/-! ### putI -/

@[simp] theorem State.putI_asBuilt (s : State) (k : Nat) (i : Int) : (s.putI k i).asBuilt = s.asBuilt := rfl
@[simp] theorem State.putI_store (s : State) (k : Nat) (i : Int) : (s.putI k i).store = storePut s.asBuilt s.store k (.int i) := rfl
@[simp] theorem State.putI_staged (s : State) (k : Nat) (i : Int) : (s.putI k i).staged = s.staged := rfl
@[simp] theorem State.putI_pending (s : State) (k : Nat) (i : Int) : (s.putI k i).pending = s.pending := rfl
@[simp] theorem State.putI_out (s : State) (k : Nat) (i : Int) : (s.putI k i).out = s.out := rfl
@[simp] theorem State.putI_netSeq (s : State) (k : Nat) (i : Int) : (s.putI k i).netSeq = s.netSeq := rfl
@[simp] theorem State.putI_free (s : State) (k : Nat) (i : Int) : (s.putI k i).free = s.free := rfl
@[simp] theorem State.putI_time (s : State) (k : Nat) (i : Int) : (s.putI k i).time = s.time := rfl
@[simp] theorem State.putI_exLog (s : State) (k : Nat) (i : Int) : (s.putI k i).exLog = s.exLog := rfl
@[simp] theorem State.putI_exSlot (s : State) (k : Nat) (i : Int) : (s.putI k i).exSlot = s.exSlot := rfl
@[simp] theorem State.putI_exNo (s : State) (k : Nat) (i : Int) : (s.putI k i).exNo = s.exNo := rfl
@[simp] theorem State.putI_idp (s : State) (k : Nat) (i : Int) : (s.putI k i).idp = s.idp := rfl
@[simp] theorem State.putI_safety (s : State) (k : Nat) (i : Int) : (s.putI k i).safety = s.safety := rfl
@[simp] theorem State.putI_chain (s : State) (k : Nat) (i : Int) : (s.putI k i).chain = s.chain := rfl
@[simp] theorem State.putI_sweep (s : State) (k : Nat) (i : Int) : (s.putI k i).sweep = s.sweep := rfl
@[simp] theorem State.putI_est (s : State) (k : Nat) (i : Int) : (s.putI k i).est = s.est := rfl
@[simp] theorem State.putI_custody (s : State) (k : Nat) (i : Int) : (s.putI k i).custody = s.custody := rfl
@[simp] theorem State.putI_temp (s : State) (k : Nat) (i : Int) : (s.putI k i).temp = s.temp := rfl
@[simp] theorem State.putI_can (s : State) (k : Nat) (i : Int) : (s.putI k i).can = s.can := rfl
@[simp] theorem State.putI_field (s : State) (k : Nat) (i : Int) : (s.putI k i).field = s.field := rfl
@[simp] theorem State.putI_loops (s : State) (k : Nat) (i : Int) : (s.putI k i).loops = s.loops := rfl
@[simp] theorem State.putI_prot (s : State) (k : Nat) (i : Int) : (s.putI k i).prot = s.prot := rfl
@[simp] theorem State.putI_disp (s : State) (k : Nat) (i : Int) : (s.putI k i).disp = s.disp := rfl
@[simp] theorem State.putI_prog (s : State) (k : Nat) (i : Int) : (s.putI k i).prog = s.prog := rfl
@[simp] theorem State.putI_duo (s : State) (k : Nat) (i : Int) : (s.putI k i).duo = s.duo := rfl
@[simp] theorem State.putI_upd (s : State) (k : Nat) (i : Int) : (s.putI k i).upd = s.upd := rfl
@[simp] theorem State.putI_pow (s : State) (k : Nat) (i : Int) : (s.putI k i).pow = s.pow := rfl
@[simp] theorem State.putI_recorder (s : State) (k : Nat) (i : Int) : (s.putI k i).recorder = s.recorder := rfl

/-! ### putQ -/

@[simp] theorem State.putQ_asBuilt (s : State) (k : Nat) (q : Rat) : (s.putQ k q).asBuilt = s.asBuilt := rfl
@[simp] theorem State.putQ_store (s : State) (k : Nat) (q : Rat) : (s.putQ k q).store = storePut s.asBuilt s.store k (.real q) := rfl
@[simp] theorem State.putQ_staged (s : State) (k : Nat) (q : Rat) : (s.putQ k q).staged = s.staged := rfl
@[simp] theorem State.putQ_pending (s : State) (k : Nat) (q : Rat) : (s.putQ k q).pending = s.pending := rfl
@[simp] theorem State.putQ_out (s : State) (k : Nat) (q : Rat) : (s.putQ k q).out = s.out := rfl
@[simp] theorem State.putQ_netSeq (s : State) (k : Nat) (q : Rat) : (s.putQ k q).netSeq = s.netSeq := rfl
@[simp] theorem State.putQ_free (s : State) (k : Nat) (q : Rat) : (s.putQ k q).free = s.free := rfl
@[simp] theorem State.putQ_time (s : State) (k : Nat) (q : Rat) : (s.putQ k q).time = s.time := rfl
@[simp] theorem State.putQ_exLog (s : State) (k : Nat) (q : Rat) : (s.putQ k q).exLog = s.exLog := rfl
@[simp] theorem State.putQ_exSlot (s : State) (k : Nat) (q : Rat) : (s.putQ k q).exSlot = s.exSlot := rfl
@[simp] theorem State.putQ_exNo (s : State) (k : Nat) (q : Rat) : (s.putQ k q).exNo = s.exNo := rfl
@[simp] theorem State.putQ_idp (s : State) (k : Nat) (q : Rat) : (s.putQ k q).idp = s.idp := rfl
@[simp] theorem State.putQ_safety (s : State) (k : Nat) (q : Rat) : (s.putQ k q).safety = s.safety := rfl
@[simp] theorem State.putQ_chain (s : State) (k : Nat) (q : Rat) : (s.putQ k q).chain = s.chain := rfl
@[simp] theorem State.putQ_sweep (s : State) (k : Nat) (q : Rat) : (s.putQ k q).sweep = s.sweep := rfl
@[simp] theorem State.putQ_est (s : State) (k : Nat) (q : Rat) : (s.putQ k q).est = s.est := rfl
@[simp] theorem State.putQ_custody (s : State) (k : Nat) (q : Rat) : (s.putQ k q).custody = s.custody := rfl
@[simp] theorem State.putQ_temp (s : State) (k : Nat) (q : Rat) : (s.putQ k q).temp = s.temp := rfl
@[simp] theorem State.putQ_can (s : State) (k : Nat) (q : Rat) : (s.putQ k q).can = s.can := rfl
@[simp] theorem State.putQ_field (s : State) (k : Nat) (q : Rat) : (s.putQ k q).field = s.field := rfl
@[simp] theorem State.putQ_loops (s : State) (k : Nat) (q : Rat) : (s.putQ k q).loops = s.loops := rfl
@[simp] theorem State.putQ_prot (s : State) (k : Nat) (q : Rat) : (s.putQ k q).prot = s.prot := rfl
@[simp] theorem State.putQ_disp (s : State) (k : Nat) (q : Rat) : (s.putQ k q).disp = s.disp := rfl
@[simp] theorem State.putQ_prog (s : State) (k : Nat) (q : Rat) : (s.putQ k q).prog = s.prog := rfl
@[simp] theorem State.putQ_duo (s : State) (k : Nat) (q : Rat) : (s.putQ k q).duo = s.duo := rfl
@[simp] theorem State.putQ_upd (s : State) (k : Nat) (q : Rat) : (s.putQ k q).upd = s.upd := rfl
@[simp] theorem State.putQ_pow (s : State) (k : Nat) (q : Rat) : (s.putQ k q).pow = s.pow := rfl
@[simp] theorem State.putQ_recorder (s : State) (k : Nat) (q : Rat) : (s.putQ k q).recorder = s.recorder := rfl

/-! ### putB -/

@[simp] theorem State.putB_asBuilt (s : State) (k : Nat) (b : Bool) : (s.putB k b).asBuilt = s.asBuilt := rfl
@[simp] theorem State.putB_store (s : State) (k : Nat) (b : Bool) : (s.putB k b).store = storePut s.asBuilt s.store k (.int (b2n b : Nat)) := rfl
@[simp] theorem State.putB_staged (s : State) (k : Nat) (b : Bool) : (s.putB k b).staged = s.staged := rfl
@[simp] theorem State.putB_pending (s : State) (k : Nat) (b : Bool) : (s.putB k b).pending = s.pending := rfl
@[simp] theorem State.putB_out (s : State) (k : Nat) (b : Bool) : (s.putB k b).out = s.out := rfl
@[simp] theorem State.putB_netSeq (s : State) (k : Nat) (b : Bool) : (s.putB k b).netSeq = s.netSeq := rfl
@[simp] theorem State.putB_free (s : State) (k : Nat) (b : Bool) : (s.putB k b).free = s.free := rfl
@[simp] theorem State.putB_time (s : State) (k : Nat) (b : Bool) : (s.putB k b).time = s.time := rfl
@[simp] theorem State.putB_exLog (s : State) (k : Nat) (b : Bool) : (s.putB k b).exLog = s.exLog := rfl
@[simp] theorem State.putB_exSlot (s : State) (k : Nat) (b : Bool) : (s.putB k b).exSlot = s.exSlot := rfl
@[simp] theorem State.putB_exNo (s : State) (k : Nat) (b : Bool) : (s.putB k b).exNo = s.exNo := rfl
@[simp] theorem State.putB_idp (s : State) (k : Nat) (b : Bool) : (s.putB k b).idp = s.idp := rfl
@[simp] theorem State.putB_safety (s : State) (k : Nat) (b : Bool) : (s.putB k b).safety = s.safety := rfl
@[simp] theorem State.putB_chain (s : State) (k : Nat) (b : Bool) : (s.putB k b).chain = s.chain := rfl
@[simp] theorem State.putB_sweep (s : State) (k : Nat) (b : Bool) : (s.putB k b).sweep = s.sweep := rfl
@[simp] theorem State.putB_est (s : State) (k : Nat) (b : Bool) : (s.putB k b).est = s.est := rfl
@[simp] theorem State.putB_custody (s : State) (k : Nat) (b : Bool) : (s.putB k b).custody = s.custody := rfl
@[simp] theorem State.putB_temp (s : State) (k : Nat) (b : Bool) : (s.putB k b).temp = s.temp := rfl
@[simp] theorem State.putB_can (s : State) (k : Nat) (b : Bool) : (s.putB k b).can = s.can := rfl
@[simp] theorem State.putB_field (s : State) (k : Nat) (b : Bool) : (s.putB k b).field = s.field := rfl
@[simp] theorem State.putB_loops (s : State) (k : Nat) (b : Bool) : (s.putB k b).loops = s.loops := rfl
@[simp] theorem State.putB_prot (s : State) (k : Nat) (b : Bool) : (s.putB k b).prot = s.prot := rfl
@[simp] theorem State.putB_disp (s : State) (k : Nat) (b : Bool) : (s.putB k b).disp = s.disp := rfl
@[simp] theorem State.putB_prog (s : State) (k : Nat) (b : Bool) : (s.putB k b).prog = s.prog := rfl
@[simp] theorem State.putB_duo (s : State) (k : Nat) (b : Bool) : (s.putB k b).duo = s.duo := rfl
@[simp] theorem State.putB_upd (s : State) (k : Nat) (b : Bool) : (s.putB k b).upd = s.upd := rfl
@[simp] theorem State.putB_pow (s : State) (k : Nat) (b : Bool) : (s.putB k b).pow = s.pow := rfl
@[simp] theorem State.putB_recorder (s : State) (k : Nat) (b : Bool) : (s.putB k b).recorder = s.recorder := rfl

/-! ### putBytes -/

@[simp] theorem State.putBytes_asBuilt (s : State) (k : Nat) (b : Bytes) : (s.putBytes k b).asBuilt = s.asBuilt := rfl
@[simp] theorem State.putBytes_store (s : State) (k : Nat) (b : Bytes) : (s.putBytes k b).store = storePut s.asBuilt s.store k (.bytes b) := rfl
@[simp] theorem State.putBytes_staged (s : State) (k : Nat) (b : Bytes) : (s.putBytes k b).staged = s.staged := rfl
@[simp] theorem State.putBytes_pending (s : State) (k : Nat) (b : Bytes) : (s.putBytes k b).pending = s.pending := rfl
@[simp] theorem State.putBytes_out (s : State) (k : Nat) (b : Bytes) : (s.putBytes k b).out = s.out := rfl
@[simp] theorem State.putBytes_netSeq (s : State) (k : Nat) (b : Bytes) : (s.putBytes k b).netSeq = s.netSeq := rfl
@[simp] theorem State.putBytes_free (s : State) (k : Nat) (b : Bytes) : (s.putBytes k b).free = s.free := rfl
@[simp] theorem State.putBytes_time (s : State) (k : Nat) (b : Bytes) : (s.putBytes k b).time = s.time := rfl
@[simp] theorem State.putBytes_exLog (s : State) (k : Nat) (b : Bytes) : (s.putBytes k b).exLog = s.exLog := rfl
@[simp] theorem State.putBytes_exSlot (s : State) (k : Nat) (b : Bytes) : (s.putBytes k b).exSlot = s.exSlot := rfl
@[simp] theorem State.putBytes_exNo (s : State) (k : Nat) (b : Bytes) : (s.putBytes k b).exNo = s.exNo := rfl
@[simp] theorem State.putBytes_idp (s : State) (k : Nat) (b : Bytes) : (s.putBytes k b).idp = s.idp := rfl
@[simp] theorem State.putBytes_safety (s : State) (k : Nat) (b : Bytes) : (s.putBytes k b).safety = s.safety := rfl
@[simp] theorem State.putBytes_chain (s : State) (k : Nat) (b : Bytes) : (s.putBytes k b).chain = s.chain := rfl
@[simp] theorem State.putBytes_sweep (s : State) (k : Nat) (b : Bytes) : (s.putBytes k b).sweep = s.sweep := rfl
@[simp] theorem State.putBytes_est (s : State) (k : Nat) (b : Bytes) : (s.putBytes k b).est = s.est := rfl
@[simp] theorem State.putBytes_custody (s : State) (k : Nat) (b : Bytes) : (s.putBytes k b).custody = s.custody := rfl
@[simp] theorem State.putBytes_temp (s : State) (k : Nat) (b : Bytes) : (s.putBytes k b).temp = s.temp := rfl
@[simp] theorem State.putBytes_can (s : State) (k : Nat) (b : Bytes) : (s.putBytes k b).can = s.can := rfl
@[simp] theorem State.putBytes_field (s : State) (k : Nat) (b : Bytes) : (s.putBytes k b).field = s.field := rfl
@[simp] theorem State.putBytes_loops (s : State) (k : Nat) (b : Bytes) : (s.putBytes k b).loops = s.loops := rfl
@[simp] theorem State.putBytes_prot (s : State) (k : Nat) (b : Bytes) : (s.putBytes k b).prot = s.prot := rfl
@[simp] theorem State.putBytes_disp (s : State) (k : Nat) (b : Bytes) : (s.putBytes k b).disp = s.disp := rfl
@[simp] theorem State.putBytes_prog (s : State) (k : Nat) (b : Bytes) : (s.putBytes k b).prog = s.prog := rfl
@[simp] theorem State.putBytes_duo (s : State) (k : Nat) (b : Bytes) : (s.putBytes k b).duo = s.duo := rfl
@[simp] theorem State.putBytes_upd (s : State) (k : Nat) (b : Bytes) : (s.putBytes k b).upd = s.upd := rfl
@[simp] theorem State.putBytes_pow (s : State) (k : Nat) (b : Bytes) : (s.putBytes k b).pow = s.pow := rfl
@[simp] theorem State.putBytes_recorder (s : State) (k : Nat) (b : Bytes) : (s.putBytes k b).recorder = s.recorder := rfl

/-! ### emit -/

@[simp] theorem State.emit_asBuilt (s : State) (o : Output) : (s.emit o).asBuilt = s.asBuilt := rfl
@[simp] theorem State.emit_store (s : State) (o : Output) : (s.emit o).store = s.store := rfl
@[simp] theorem State.emit_staged (s : State) (o : Output) : (s.emit o).staged = s.staged := rfl
@[simp] theorem State.emit_pending (s : State) (o : Output) : (s.emit o).pending = s.pending := rfl
@[simp] theorem State.emit_out (s : State) (o : Output) : (s.emit o).out = s.out ++ [o] := rfl
@[simp] theorem State.emit_netSeq (s : State) (o : Output) : (s.emit o).netSeq = s.netSeq := rfl
@[simp] theorem State.emit_free (s : State) (o : Output) : (s.emit o).free = s.free := rfl
@[simp] theorem State.emit_time (s : State) (o : Output) : (s.emit o).time = s.time := rfl
@[simp] theorem State.emit_exLog (s : State) (o : Output) : (s.emit o).exLog = s.exLog := rfl
@[simp] theorem State.emit_exSlot (s : State) (o : Output) : (s.emit o).exSlot = s.exSlot := rfl
@[simp] theorem State.emit_exNo (s : State) (o : Output) : (s.emit o).exNo = s.exNo := rfl
@[simp] theorem State.emit_idp (s : State) (o : Output) : (s.emit o).idp = s.idp := rfl
@[simp] theorem State.emit_safety (s : State) (o : Output) : (s.emit o).safety = s.safety := rfl
@[simp] theorem State.emit_chain (s : State) (o : Output) : (s.emit o).chain = s.chain := rfl
@[simp] theorem State.emit_sweep (s : State) (o : Output) : (s.emit o).sweep = s.sweep := rfl
@[simp] theorem State.emit_est (s : State) (o : Output) : (s.emit o).est = s.est := rfl
@[simp] theorem State.emit_custody (s : State) (o : Output) : (s.emit o).custody = s.custody := rfl
@[simp] theorem State.emit_temp (s : State) (o : Output) : (s.emit o).temp = s.temp := rfl
@[simp] theorem State.emit_can (s : State) (o : Output) : (s.emit o).can = s.can := rfl
@[simp] theorem State.emit_field (s : State) (o : Output) : (s.emit o).field = s.field := rfl
@[simp] theorem State.emit_loops (s : State) (o : Output) : (s.emit o).loops = s.loops := rfl
@[simp] theorem State.emit_prot (s : State) (o : Output) : (s.emit o).prot = s.prot := rfl
@[simp] theorem State.emit_disp (s : State) (o : Output) : (s.emit o).disp = s.disp := rfl
@[simp] theorem State.emit_prog (s : State) (o : Output) : (s.emit o).prog = s.prog := rfl
@[simp] theorem State.emit_duo (s : State) (o : Output) : (s.emit o).duo = s.duo := rfl
@[simp] theorem State.emit_upd (s : State) (o : Output) : (s.emit o).upd = s.upd := rfl
@[simp] theorem State.emit_pow (s : State) (o : Output) : (s.emit o).pow = s.pow := rfl
@[simp] theorem State.emit_recorder (s : State) (o : Output) : (s.emit o).recorder = s.recorder := rfl
@[simp] theorem State.emit_v (s : State) (o : Output) (key : Nat) : (s.emit o).v key = s.v key := rfl
@[simp] theorem State.emit_n (s : State) (o : Output) (key : Nat) : (s.emit o).n key = s.n key := rfl
@[simp] theorem State.emit_i (s : State) (o : Output) (key : Nat) : (s.emit o).i key = s.i key := rfl
@[simp] theorem State.emit_q (s : State) (o : Output) (key : Nat) : (s.emit o).q key = s.q key := rfl
@[simp] theorem State.emit_b (s : State) (o : Output) (key : Nat) : (s.emit o).b key = s.b key := rfl
@[simp] theorem State.emit_bytes (s : State) (o : Output) (key : Nat) : (s.emit o).bytes key = s.bytes key := rfl
@[simp] theorem State.emit_running (s : State) (o : Output) (key : Nat) : (s.emit o).running key = s.running key := rfl
@[simp] theorem State.emit_standby (s : State) (o : Output) : (s.emit o).standby = s.standby := rfl

/-! ### setMark -/

@[simp] theorem State.setMark_asBuilt (s : State) (n : Nat) (m : MarkSt) : (s.setMark n m).asBuilt = s.asBuilt := rfl
@[simp] theorem State.setMark_store (s : State) (n : Nat) (m : MarkSt) : (s.setMark n m).store = s.store := rfl
@[simp] theorem State.setMark_staged (s : State) (n : Nat) (m : MarkSt) : (s.setMark n m).staged = s.staged := rfl
@[simp] theorem State.setMark_pending (s : State) (n : Nat) (m : MarkSt) : (s.setMark n m).pending = s.pending := rfl
@[simp] theorem State.setMark_out (s : State) (n : Nat) (m : MarkSt) : (s.setMark n m).out = s.out := rfl
@[simp] theorem State.setMark_netSeq (s : State) (n : Nat) (m : MarkSt) : (s.setMark n m).netSeq = s.netSeq := rfl
@[simp] theorem State.setMark_free (s : State) (n : Nat) (m : MarkSt) : (s.setMark n m).free = s.free := rfl
@[simp] theorem State.setMark_time (s : State) (n : Nat) (m : MarkSt) : (s.setMark n m).time = { s.time with marks := s.time.marks.set n m } := rfl
@[simp] theorem State.setMark_exLog (s : State) (n : Nat) (m : MarkSt) : (s.setMark n m).exLog = s.exLog := rfl
@[simp] theorem State.setMark_exSlot (s : State) (n : Nat) (m : MarkSt) : (s.setMark n m).exSlot = s.exSlot := rfl
@[simp] theorem State.setMark_exNo (s : State) (n : Nat) (m : MarkSt) : (s.setMark n m).exNo = s.exNo := rfl
@[simp] theorem State.setMark_idp (s : State) (n : Nat) (m : MarkSt) : (s.setMark n m).idp = s.idp := rfl
@[simp] theorem State.setMark_safety (s : State) (n : Nat) (m : MarkSt) : (s.setMark n m).safety = s.safety := rfl
@[simp] theorem State.setMark_chain (s : State) (n : Nat) (m : MarkSt) : (s.setMark n m).chain = s.chain := rfl
@[simp] theorem State.setMark_sweep (s : State) (n : Nat) (m : MarkSt) : (s.setMark n m).sweep = s.sweep := rfl
@[simp] theorem State.setMark_est (s : State) (n : Nat) (m : MarkSt) : (s.setMark n m).est = s.est := rfl
@[simp] theorem State.setMark_custody (s : State) (n : Nat) (m : MarkSt) : (s.setMark n m).custody = s.custody := rfl
@[simp] theorem State.setMark_temp (s : State) (n : Nat) (m : MarkSt) : (s.setMark n m).temp = s.temp := rfl
@[simp] theorem State.setMark_can (s : State) (n : Nat) (m : MarkSt) : (s.setMark n m).can = s.can := rfl
@[simp] theorem State.setMark_field (s : State) (n : Nat) (m : MarkSt) : (s.setMark n m).field = s.field := rfl
@[simp] theorem State.setMark_loops (s : State) (n : Nat) (m : MarkSt) : (s.setMark n m).loops = s.loops := rfl
@[simp] theorem State.setMark_prot (s : State) (n : Nat) (m : MarkSt) : (s.setMark n m).prot = s.prot := rfl
@[simp] theorem State.setMark_disp (s : State) (n : Nat) (m : MarkSt) : (s.setMark n m).disp = s.disp := rfl
@[simp] theorem State.setMark_prog (s : State) (n : Nat) (m : MarkSt) : (s.setMark n m).prog = s.prog := rfl
@[simp] theorem State.setMark_duo (s : State) (n : Nat) (m : MarkSt) : (s.setMark n m).duo = s.duo := rfl
@[simp] theorem State.setMark_upd (s : State) (n : Nat) (m : MarkSt) : (s.setMark n m).upd = s.upd := rfl
@[simp] theorem State.setMark_pow (s : State) (n : Nat) (m : MarkSt) : (s.setMark n m).pow = s.pow := rfl
@[simp] theorem State.setMark_recorder (s : State) (n : Nat) (m : MarkSt) : (s.setMark n m).recorder = s.recorder := rfl
@[simp] theorem State.setMark_v (s : State) (n : Nat) (m : MarkSt) (key : Nat) : (s.setMark n m).v key = s.v key := rfl
@[simp] theorem State.setMark_n (s : State) (n : Nat) (m : MarkSt) (key : Nat) : (s.setMark n m).n key = s.n key := rfl
@[simp] theorem State.setMark_i (s : State) (n : Nat) (m : MarkSt) (key : Nat) : (s.setMark n m).i key = s.i key := rfl
@[simp] theorem State.setMark_q (s : State) (n : Nat) (m : MarkSt) (key : Nat) : (s.setMark n m).q key = s.q key := rfl
@[simp] theorem State.setMark_b (s : State) (n : Nat) (m : MarkSt) (key : Nat) : (s.setMark n m).b key = s.b key := rfl
@[simp] theorem State.setMark_bytes (s : State) (n : Nat) (m : MarkSt) (key : Nat) : (s.setMark n m).bytes key = s.bytes key := rfl
@[simp] theorem State.setMark_running (s : State) (n : Nat) (m : MarkSt) (key : Nat) : (s.setMark n m).running key = s.running key := rfl
@[simp] theorem State.setMark_standby (s : State) (n : Nat) (m : MarkSt) : (s.setMark n m).standby = s.standby := rfl

/-! ### setHead -/

@[simp] theorem State.setHead_asBuilt (s : State) (h : Nat) (x : HeadSt) : (s.setHead h x).asBuilt = s.asBuilt := rfl
@[simp] theorem State.setHead_store (s : State) (h : Nat) (x : HeadSt) : (s.setHead h x).store = s.store := rfl
@[simp] theorem State.setHead_staged (s : State) (h : Nat) (x : HeadSt) : (s.setHead h x).staged = s.staged := rfl
@[simp] theorem State.setHead_pending (s : State) (h : Nat) (x : HeadSt) : (s.setHead h x).pending = s.pending := rfl
@[simp] theorem State.setHead_out (s : State) (h : Nat) (x : HeadSt) : (s.setHead h x).out = s.out := rfl
@[simp] theorem State.setHead_netSeq (s : State) (h : Nat) (x : HeadSt) : (s.setHead h x).netSeq = s.netSeq := rfl
@[simp] theorem State.setHead_free (s : State) (h : Nat) (x : HeadSt) : (s.setHead h x).free = s.free := rfl
@[simp] theorem State.setHead_time (s : State) (h : Nat) (x : HeadSt) : (s.setHead h x).time = s.time := rfl
@[simp] theorem State.setHead_exLog (s : State) (h : Nat) (x : HeadSt) : (s.setHead h x).exLog = s.exLog := rfl
@[simp] theorem State.setHead_exSlot (s : State) (h : Nat) (x : HeadSt) : (s.setHead h x).exSlot = s.exSlot := rfl
@[simp] theorem State.setHead_exNo (s : State) (h : Nat) (x : HeadSt) : (s.setHead h x).exNo = s.exNo := rfl
@[simp] theorem State.setHead_idp (s : State) (h : Nat) (x : HeadSt) : (s.setHead h x).idp = s.idp := rfl
@[simp] theorem State.setHead_safety (s : State) (h : Nat) (x : HeadSt) : (s.setHead h x).safety = s.safety := rfl
@[simp] theorem State.setHead_chain (s : State) (h : Nat) (x : HeadSt) : (s.setHead h x).chain = { s.chain with heads := s.chain.heads.set h x } := rfl
@[simp] theorem State.setHead_sweep (s : State) (h : Nat) (x : HeadSt) : (s.setHead h x).sweep = s.sweep := rfl
@[simp] theorem State.setHead_est (s : State) (h : Nat) (x : HeadSt) : (s.setHead h x).est = s.est := rfl
@[simp] theorem State.setHead_custody (s : State) (h : Nat) (x : HeadSt) : (s.setHead h x).custody = s.custody := rfl
@[simp] theorem State.setHead_temp (s : State) (h : Nat) (x : HeadSt) : (s.setHead h x).temp = s.temp := rfl
@[simp] theorem State.setHead_can (s : State) (h : Nat) (x : HeadSt) : (s.setHead h x).can = s.can := rfl
@[simp] theorem State.setHead_field (s : State) (h : Nat) (x : HeadSt) : (s.setHead h x).field = s.field := rfl
@[simp] theorem State.setHead_loops (s : State) (h : Nat) (x : HeadSt) : (s.setHead h x).loops = s.loops := rfl
@[simp] theorem State.setHead_prot (s : State) (h : Nat) (x : HeadSt) : (s.setHead h x).prot = s.prot := rfl
@[simp] theorem State.setHead_disp (s : State) (h : Nat) (x : HeadSt) : (s.setHead h x).disp = s.disp := rfl
@[simp] theorem State.setHead_prog (s : State) (h : Nat) (x : HeadSt) : (s.setHead h x).prog = s.prog := rfl
@[simp] theorem State.setHead_duo (s : State) (h : Nat) (x : HeadSt) : (s.setHead h x).duo = s.duo := rfl
@[simp] theorem State.setHead_upd (s : State) (h : Nat) (x : HeadSt) : (s.setHead h x).upd = s.upd := rfl
@[simp] theorem State.setHead_pow (s : State) (h : Nat) (x : HeadSt) : (s.setHead h x).pow = s.pow := rfl
@[simp] theorem State.setHead_recorder (s : State) (h : Nat) (x : HeadSt) : (s.setHead h x).recorder = s.recorder := rfl
@[simp] theorem State.setHead_v (s : State) (h : Nat) (x : HeadSt) (key : Nat) : (s.setHead h x).v key = s.v key := rfl
@[simp] theorem State.setHead_n (s : State) (h : Nat) (x : HeadSt) (key : Nat) : (s.setHead h x).n key = s.n key := rfl
@[simp] theorem State.setHead_i (s : State) (h : Nat) (x : HeadSt) (key : Nat) : (s.setHead h x).i key = s.i key := rfl
@[simp] theorem State.setHead_q (s : State) (h : Nat) (x : HeadSt) (key : Nat) : (s.setHead h x).q key = s.q key := rfl
@[simp] theorem State.setHead_b (s : State) (h : Nat) (x : HeadSt) (key : Nat) : (s.setHead h x).b key = s.b key := rfl
@[simp] theorem State.setHead_bytes (s : State) (h : Nat) (x : HeadSt) (key : Nat) : (s.setHead h x).bytes key = s.bytes key := rfl
@[simp] theorem State.setHead_running (s : State) (h : Nat) (x : HeadSt) (key : Nat) : (s.setHead h x).running key = s.running key := rfl
@[simp] theorem State.setHead_standby (s : State) (h : Nat) (x : HeadSt) : (s.setHead h x).standby = s.standby := rfl

/-! ### modHead -/

@[simp] theorem State.modHead_asBuilt (s : State) (h : Nat) (f : HeadSt → HeadSt) : (s.modHead h f).asBuilt = s.asBuilt := rfl
@[simp] theorem State.modHead_store (s : State) (h : Nat) (f : HeadSt → HeadSt) : (s.modHead h f).store = s.store := rfl
@[simp] theorem State.modHead_staged (s : State) (h : Nat) (f : HeadSt → HeadSt) : (s.modHead h f).staged = s.staged := rfl
@[simp] theorem State.modHead_pending (s : State) (h : Nat) (f : HeadSt → HeadSt) : (s.modHead h f).pending = s.pending := rfl
@[simp] theorem State.modHead_out (s : State) (h : Nat) (f : HeadSt → HeadSt) : (s.modHead h f).out = s.out := rfl
@[simp] theorem State.modHead_netSeq (s : State) (h : Nat) (f : HeadSt → HeadSt) : (s.modHead h f).netSeq = s.netSeq := rfl
@[simp] theorem State.modHead_free (s : State) (h : Nat) (f : HeadSt → HeadSt) : (s.modHead h f).free = s.free := rfl
@[simp] theorem State.modHead_time (s : State) (h : Nat) (f : HeadSt → HeadSt) : (s.modHead h f).time = s.time := rfl
@[simp] theorem State.modHead_exLog (s : State) (h : Nat) (f : HeadSt → HeadSt) : (s.modHead h f).exLog = s.exLog := rfl
@[simp] theorem State.modHead_exSlot (s : State) (h : Nat) (f : HeadSt → HeadSt) : (s.modHead h f).exSlot = s.exSlot := rfl
@[simp] theorem State.modHead_exNo (s : State) (h : Nat) (f : HeadSt → HeadSt) : (s.modHead h f).exNo = s.exNo := rfl
@[simp] theorem State.modHead_idp (s : State) (h : Nat) (f : HeadSt → HeadSt) : (s.modHead h f).idp = s.idp := rfl
@[simp] theorem State.modHead_safety (s : State) (h : Nat) (f : HeadSt → HeadSt) : (s.modHead h f).safety = s.safety := rfl
@[simp] theorem State.modHead_chain (s : State) (h : Nat) (f : HeadSt → HeadSt) : (s.modHead h f).chain = { s.chain with heads := s.chain.heads.set h (f (s.head h)) } := rfl
@[simp] theorem State.modHead_sweep (s : State) (h : Nat) (f : HeadSt → HeadSt) : (s.modHead h f).sweep = s.sweep := rfl
@[simp] theorem State.modHead_est (s : State) (h : Nat) (f : HeadSt → HeadSt) : (s.modHead h f).est = s.est := rfl
@[simp] theorem State.modHead_custody (s : State) (h : Nat) (f : HeadSt → HeadSt) : (s.modHead h f).custody = s.custody := rfl
@[simp] theorem State.modHead_temp (s : State) (h : Nat) (f : HeadSt → HeadSt) : (s.modHead h f).temp = s.temp := rfl
@[simp] theorem State.modHead_can (s : State) (h : Nat) (f : HeadSt → HeadSt) : (s.modHead h f).can = s.can := rfl
@[simp] theorem State.modHead_field (s : State) (h : Nat) (f : HeadSt → HeadSt) : (s.modHead h f).field = s.field := rfl
@[simp] theorem State.modHead_loops (s : State) (h : Nat) (f : HeadSt → HeadSt) : (s.modHead h f).loops = s.loops := rfl
@[simp] theorem State.modHead_prot (s : State) (h : Nat) (f : HeadSt → HeadSt) : (s.modHead h f).prot = s.prot := rfl
@[simp] theorem State.modHead_disp (s : State) (h : Nat) (f : HeadSt → HeadSt) : (s.modHead h f).disp = s.disp := rfl
@[simp] theorem State.modHead_prog (s : State) (h : Nat) (f : HeadSt → HeadSt) : (s.modHead h f).prog = s.prog := rfl
@[simp] theorem State.modHead_duo (s : State) (h : Nat) (f : HeadSt → HeadSt) : (s.modHead h f).duo = s.duo := rfl
@[simp] theorem State.modHead_upd (s : State) (h : Nat) (f : HeadSt → HeadSt) : (s.modHead h f).upd = s.upd := rfl
@[simp] theorem State.modHead_pow (s : State) (h : Nat) (f : HeadSt → HeadSt) : (s.modHead h f).pow = s.pow := rfl
@[simp] theorem State.modHead_recorder (s : State) (h : Nat) (f : HeadSt → HeadSt) : (s.modHead h f).recorder = s.recorder := rfl
@[simp] theorem State.modHead_v (s : State) (h : Nat) (f : HeadSt → HeadSt) (key : Nat) : (s.modHead h f).v key = s.v key := rfl
@[simp] theorem State.modHead_n (s : State) (h : Nat) (f : HeadSt → HeadSt) (key : Nat) : (s.modHead h f).n key = s.n key := rfl
@[simp] theorem State.modHead_i (s : State) (h : Nat) (f : HeadSt → HeadSt) (key : Nat) : (s.modHead h f).i key = s.i key := rfl
@[simp] theorem State.modHead_q (s : State) (h : Nat) (f : HeadSt → HeadSt) (key : Nat) : (s.modHead h f).q key = s.q key := rfl
@[simp] theorem State.modHead_b (s : State) (h : Nat) (f : HeadSt → HeadSt) (key : Nat) : (s.modHead h f).b key = s.b key := rfl
@[simp] theorem State.modHead_bytes (s : State) (h : Nat) (f : HeadSt → HeadSt) (key : Nat) : (s.modHead h f).bytes key = s.bytes key := rfl
@[simp] theorem State.modHead_running (s : State) (h : Nat) (f : HeadSt → HeadSt) (key : Nat) : (s.modHead h f).running key = s.running key := rfl
@[simp] theorem State.modHead_standby (s : State) (h : Nat) (f : HeadSt → HeadSt) : (s.modHead h f).standby = s.standby := rfl

/-! ### modRegs -/

@[simp] theorem State.modRegs_asBuilt (s : State) (h : Nat) (f : FeRegs → FeRegs) : (s.modRegs h f).asBuilt = s.asBuilt := rfl
@[simp] theorem State.modRegs_store (s : State) (h : Nat) (f : FeRegs → FeRegs) : (s.modRegs h f).store = s.store := rfl
@[simp] theorem State.modRegs_staged (s : State) (h : Nat) (f : FeRegs → FeRegs) : (s.modRegs h f).staged = s.staged := rfl
@[simp] theorem State.modRegs_pending (s : State) (h : Nat) (f : FeRegs → FeRegs) : (s.modRegs h f).pending = s.pending := rfl
@[simp] theorem State.modRegs_out (s : State) (h : Nat) (f : FeRegs → FeRegs) : (s.modRegs h f).out = s.out := rfl
@[simp] theorem State.modRegs_netSeq (s : State) (h : Nat) (f : FeRegs → FeRegs) : (s.modRegs h f).netSeq = s.netSeq := rfl
@[simp] theorem State.modRegs_free (s : State) (h : Nat) (f : FeRegs → FeRegs) : (s.modRegs h f).free = s.free := rfl
@[simp] theorem State.modRegs_time (s : State) (h : Nat) (f : FeRegs → FeRegs) : (s.modRegs h f).time = s.time := rfl
@[simp] theorem State.modRegs_exLog (s : State) (h : Nat) (f : FeRegs → FeRegs) : (s.modRegs h f).exLog = s.exLog := rfl
@[simp] theorem State.modRegs_exSlot (s : State) (h : Nat) (f : FeRegs → FeRegs) : (s.modRegs h f).exSlot = s.exSlot := rfl
@[simp] theorem State.modRegs_exNo (s : State) (h : Nat) (f : FeRegs → FeRegs) : (s.modRegs h f).exNo = s.exNo := rfl
@[simp] theorem State.modRegs_idp (s : State) (h : Nat) (f : FeRegs → FeRegs) : (s.modRegs h f).idp = s.idp := rfl
@[simp] theorem State.modRegs_safety (s : State) (h : Nat) (f : FeRegs → FeRegs) : (s.modRegs h f).safety = s.safety := rfl
@[simp] theorem State.modRegs_chain (s : State) (h : Nat) (f : FeRegs → FeRegs) : (s.modRegs h f).chain = { s.chain with regs := amSet s.chain.regs h (f (s.regs h)) } := rfl
@[simp] theorem State.modRegs_sweep (s : State) (h : Nat) (f : FeRegs → FeRegs) : (s.modRegs h f).sweep = s.sweep := rfl
@[simp] theorem State.modRegs_est (s : State) (h : Nat) (f : FeRegs → FeRegs) : (s.modRegs h f).est = s.est := rfl
@[simp] theorem State.modRegs_custody (s : State) (h : Nat) (f : FeRegs → FeRegs) : (s.modRegs h f).custody = s.custody := rfl
@[simp] theorem State.modRegs_temp (s : State) (h : Nat) (f : FeRegs → FeRegs) : (s.modRegs h f).temp = s.temp := rfl
@[simp] theorem State.modRegs_can (s : State) (h : Nat) (f : FeRegs → FeRegs) : (s.modRegs h f).can = s.can := rfl
@[simp] theorem State.modRegs_field (s : State) (h : Nat) (f : FeRegs → FeRegs) : (s.modRegs h f).field = s.field := rfl
@[simp] theorem State.modRegs_loops (s : State) (h : Nat) (f : FeRegs → FeRegs) : (s.modRegs h f).loops = s.loops := rfl
@[simp] theorem State.modRegs_prot (s : State) (h : Nat) (f : FeRegs → FeRegs) : (s.modRegs h f).prot = s.prot := rfl
@[simp] theorem State.modRegs_disp (s : State) (h : Nat) (f : FeRegs → FeRegs) : (s.modRegs h f).disp = s.disp := rfl
@[simp] theorem State.modRegs_prog (s : State) (h : Nat) (f : FeRegs → FeRegs) : (s.modRegs h f).prog = s.prog := rfl
@[simp] theorem State.modRegs_duo (s : State) (h : Nat) (f : FeRegs → FeRegs) : (s.modRegs h f).duo = s.duo := rfl
@[simp] theorem State.modRegs_upd (s : State) (h : Nat) (f : FeRegs → FeRegs) : (s.modRegs h f).upd = s.upd := rfl
@[simp] theorem State.modRegs_pow (s : State) (h : Nat) (f : FeRegs → FeRegs) : (s.modRegs h f).pow = s.pow := rfl
@[simp] theorem State.modRegs_recorder (s : State) (h : Nat) (f : FeRegs → FeRegs) : (s.modRegs h f).recorder = s.recorder := rfl
@[simp] theorem State.modRegs_v (s : State) (h : Nat) (f : FeRegs → FeRegs) (key : Nat) : (s.modRegs h f).v key = s.v key := rfl
@[simp] theorem State.modRegs_n (s : State) (h : Nat) (f : FeRegs → FeRegs) (key : Nat) : (s.modRegs h f).n key = s.n key := rfl
@[simp] theorem State.modRegs_i (s : State) (h : Nat) (f : FeRegs → FeRegs) (key : Nat) : (s.modRegs h f).i key = s.i key := rfl
@[simp] theorem State.modRegs_q (s : State) (h : Nat) (f : FeRegs → FeRegs) (key : Nat) : (s.modRegs h f).q key = s.q key := rfl
@[simp] theorem State.modRegs_b (s : State) (h : Nat) (f : FeRegs → FeRegs) (key : Nat) : (s.modRegs h f).b key = s.b key := rfl
@[simp] theorem State.modRegs_bytes (s : State) (h : Nat) (f : FeRegs → FeRegs) (key : Nat) : (s.modRegs h f).bytes key = s.bytes key := rfl
@[simp] theorem State.modRegs_running (s : State) (h : Nat) (f : FeRegs → FeRegs) (key : Nat) : (s.modRegs h f).running key = s.running key := rfl
@[simp] theorem State.modRegs_standby (s : State) (h : Nat) (f : FeRegs → FeRegs) : (s.modRegs h f).standby = s.standby := rfl

/-! ### modStr -/

@[simp] theorem State.modStr_asBuilt (s : State) (n : Nat) (f : StrSweep → StrSweep) : (s.modStr n f).asBuilt = s.asBuilt := rfl
@[simp] theorem State.modStr_store (s : State) (n : Nat) (f : StrSweep → StrSweep) : (s.modStr n f).store = s.store := rfl
@[simp] theorem State.modStr_staged (s : State) (n : Nat) (f : StrSweep → StrSweep) : (s.modStr n f).staged = s.staged := rfl
@[simp] theorem State.modStr_pending (s : State) (n : Nat) (f : StrSweep → StrSweep) : (s.modStr n f).pending = s.pending := rfl
@[simp] theorem State.modStr_out (s : State) (n : Nat) (f : StrSweep → StrSweep) : (s.modStr n f).out = s.out := rfl
@[simp] theorem State.modStr_netSeq (s : State) (n : Nat) (f : StrSweep → StrSweep) : (s.modStr n f).netSeq = s.netSeq := rfl
@[simp] theorem State.modStr_free (s : State) (n : Nat) (f : StrSweep → StrSweep) : (s.modStr n f).free = s.free := rfl
@[simp] theorem State.modStr_time (s : State) (n : Nat) (f : StrSweep → StrSweep) : (s.modStr n f).time = s.time := rfl
@[simp] theorem State.modStr_exLog (s : State) (n : Nat) (f : StrSweep → StrSweep) : (s.modStr n f).exLog = s.exLog := rfl
@[simp] theorem State.modStr_exSlot (s : State) (n : Nat) (f : StrSweep → StrSweep) : (s.modStr n f).exSlot = s.exSlot := rfl
@[simp] theorem State.modStr_exNo (s : State) (n : Nat) (f : StrSweep → StrSweep) : (s.modStr n f).exNo = s.exNo := rfl
@[simp] theorem State.modStr_idp (s : State) (n : Nat) (f : StrSweep → StrSweep) : (s.modStr n f).idp = s.idp := rfl
@[simp] theorem State.modStr_safety (s : State) (n : Nat) (f : StrSweep → StrSweep) : (s.modStr n f).safety = s.safety := rfl
@[simp] theorem State.modStr_chain (s : State) (n : Nat) (f : StrSweep → StrSweep) : (s.modStr n f).chain = s.chain := rfl
@[simp] theorem State.modStr_sweep (s : State) (n : Nat) (f : StrSweep → StrSweep) : (s.modStr n f).sweep = { s.sweep with strs := s.sweep.strs.set n (f (s.str n)) } := rfl
@[simp] theorem State.modStr_est (s : State) (n : Nat) (f : StrSweep → StrSweep) : (s.modStr n f).est = s.est := rfl
@[simp] theorem State.modStr_custody (s : State) (n : Nat) (f : StrSweep → StrSweep) : (s.modStr n f).custody = s.custody := rfl
@[simp] theorem State.modStr_temp (s : State) (n : Nat) (f : StrSweep → StrSweep) : (s.modStr n f).temp = s.temp := rfl
@[simp] theorem State.modStr_can (s : State) (n : Nat) (f : StrSweep → StrSweep) : (s.modStr n f).can = s.can := rfl
@[simp] theorem State.modStr_field (s : State) (n : Nat) (f : StrSweep → StrSweep) : (s.modStr n f).field = s.field := rfl
@[simp] theorem State.modStr_loops (s : State) (n : Nat) (f : StrSweep → StrSweep) : (s.modStr n f).loops = s.loops := rfl
@[simp] theorem State.modStr_prot (s : State) (n : Nat) (f : StrSweep → StrSweep) : (s.modStr n f).prot = s.prot := rfl
@[simp] theorem State.modStr_disp (s : State) (n : Nat) (f : StrSweep → StrSweep) : (s.modStr n f).disp = s.disp := rfl
@[simp] theorem State.modStr_prog (s : State) (n : Nat) (f : StrSweep → StrSweep) : (s.modStr n f).prog = s.prog := rfl
@[simp] theorem State.modStr_duo (s : State) (n : Nat) (f : StrSweep → StrSweep) : (s.modStr n f).duo = s.duo := rfl
@[simp] theorem State.modStr_upd (s : State) (n : Nat) (f : StrSweep → StrSweep) : (s.modStr n f).upd = s.upd := rfl
@[simp] theorem State.modStr_pow (s : State) (n : Nat) (f : StrSweep → StrSweep) : (s.modStr n f).pow = s.pow := rfl
@[simp] theorem State.modStr_recorder (s : State) (n : Nat) (f : StrSweep → StrSweep) : (s.modStr n f).recorder = s.recorder := rfl
@[simp] theorem State.modStr_v (s : State) (n : Nat) (f : StrSweep → StrSweep) (key : Nat) : (s.modStr n f).v key = s.v key := rfl
@[simp] theorem State.modStr_n (s : State) (n : Nat) (f : StrSweep → StrSweep) (key : Nat) : (s.modStr n f).n key = s.n key := rfl
@[simp] theorem State.modStr_i (s : State) (n : Nat) (f : StrSweep → StrSweep) (key : Nat) : (s.modStr n f).i key = s.i key := rfl
@[simp] theorem State.modStr_q (s : State) (n : Nat) (f : StrSweep → StrSweep) (key : Nat) : (s.modStr n f).q key = s.q key := rfl
@[simp] theorem State.modStr_b (s : State) (n : Nat) (f : StrSweep → StrSweep) (key : Nat) : (s.modStr n f).b key = s.b key := rfl
@[simp] theorem State.modStr_bytes (s : State) (n : Nat) (f : StrSweep → StrSweep) (key : Nat) : (s.modStr n f).bytes key = s.bytes key := rfl
@[simp] theorem State.modStr_running (s : State) (n : Nat) (f : StrSweep → StrSweep) (key : Nat) : (s.modStr n f).running key = s.running key := rfl
@[simp] theorem State.modStr_standby (s : State) (n : Nat) (f : StrSweep → StrSweep) : (s.modStr n f).standby = s.standby := rfl

/-! ### modTrack -/

@[simp] theorem State.modTrack_asBuilt (s : State) (n : Nat) (f : StrTrack → StrTrack) : (s.modTrack n f).asBuilt = s.asBuilt := rfl
@[simp] theorem State.modTrack_store (s : State) (n : Nat) (f : StrTrack → StrTrack) : (s.modTrack n f).store = s.store := rfl
@[simp] theorem State.modTrack_staged (s : State) (n : Nat) (f : StrTrack → StrTrack) : (s.modTrack n f).staged = s.staged := rfl
@[simp] theorem State.modTrack_pending (s : State) (n : Nat) (f : StrTrack → StrTrack) : (s.modTrack n f).pending = s.pending := rfl
@[simp] theorem State.modTrack_out (s : State) (n : Nat) (f : StrTrack → StrTrack) : (s.modTrack n f).out = s.out := rfl
@[simp] theorem State.modTrack_netSeq (s : State) (n : Nat) (f : StrTrack → StrTrack) : (s.modTrack n f).netSeq = s.netSeq := rfl
@[simp] theorem State.modTrack_free (s : State) (n : Nat) (f : StrTrack → StrTrack) : (s.modTrack n f).free = s.free := rfl
@[simp] theorem State.modTrack_time (s : State) (n : Nat) (f : StrTrack → StrTrack) : (s.modTrack n f).time = s.time := rfl
@[simp] theorem State.modTrack_exLog (s : State) (n : Nat) (f : StrTrack → StrTrack) : (s.modTrack n f).exLog = s.exLog := rfl
@[simp] theorem State.modTrack_exSlot (s : State) (n : Nat) (f : StrTrack → StrTrack) : (s.modTrack n f).exSlot = s.exSlot := rfl
@[simp] theorem State.modTrack_exNo (s : State) (n : Nat) (f : StrTrack → StrTrack) : (s.modTrack n f).exNo = s.exNo := rfl
@[simp] theorem State.modTrack_idp (s : State) (n : Nat) (f : StrTrack → StrTrack) : (s.modTrack n f).idp = s.idp := rfl
@[simp] theorem State.modTrack_safety (s : State) (n : Nat) (f : StrTrack → StrTrack) : (s.modTrack n f).safety = s.safety := rfl
@[simp] theorem State.modTrack_chain (s : State) (n : Nat) (f : StrTrack → StrTrack) : (s.modTrack n f).chain = s.chain := rfl
@[simp] theorem State.modTrack_sweep (s : State) (n : Nat) (f : StrTrack → StrTrack) : (s.modTrack n f).sweep = s.sweep := rfl
@[simp] theorem State.modTrack_est (s : State) (n : Nat) (f : StrTrack → StrTrack) : (s.modTrack n f).est = { s.est with strs := s.est.strs.set n (f (s.track n)) } := rfl
@[simp] theorem State.modTrack_custody (s : State) (n : Nat) (f : StrTrack → StrTrack) : (s.modTrack n f).custody = s.custody := rfl
@[simp] theorem State.modTrack_temp (s : State) (n : Nat) (f : StrTrack → StrTrack) : (s.modTrack n f).temp = s.temp := rfl
@[simp] theorem State.modTrack_can (s : State) (n : Nat) (f : StrTrack → StrTrack) : (s.modTrack n f).can = s.can := rfl
@[simp] theorem State.modTrack_field (s : State) (n : Nat) (f : StrTrack → StrTrack) : (s.modTrack n f).field = s.field := rfl
@[simp] theorem State.modTrack_loops (s : State) (n : Nat) (f : StrTrack → StrTrack) : (s.modTrack n f).loops = s.loops := rfl
@[simp] theorem State.modTrack_prot (s : State) (n : Nat) (f : StrTrack → StrTrack) : (s.modTrack n f).prot = s.prot := rfl
@[simp] theorem State.modTrack_disp (s : State) (n : Nat) (f : StrTrack → StrTrack) : (s.modTrack n f).disp = s.disp := rfl
@[simp] theorem State.modTrack_prog (s : State) (n : Nat) (f : StrTrack → StrTrack) : (s.modTrack n f).prog = s.prog := rfl
@[simp] theorem State.modTrack_duo (s : State) (n : Nat) (f : StrTrack → StrTrack) : (s.modTrack n f).duo = s.duo := rfl
@[simp] theorem State.modTrack_upd (s : State) (n : Nat) (f : StrTrack → StrTrack) : (s.modTrack n f).upd = s.upd := rfl
@[simp] theorem State.modTrack_pow (s : State) (n : Nat) (f : StrTrack → StrTrack) : (s.modTrack n f).pow = s.pow := rfl
@[simp] theorem State.modTrack_recorder (s : State) (n : Nat) (f : StrTrack → StrTrack) : (s.modTrack n f).recorder = s.recorder := rfl
@[simp] theorem State.modTrack_v (s : State) (n : Nat) (f : StrTrack → StrTrack) (key : Nat) : (s.modTrack n f).v key = s.v key := rfl
@[simp] theorem State.modTrack_n (s : State) (n : Nat) (f : StrTrack → StrTrack) (key : Nat) : (s.modTrack n f).n key = s.n key := rfl
@[simp] theorem State.modTrack_i (s : State) (n : Nat) (f : StrTrack → StrTrack) (key : Nat) : (s.modTrack n f).i key = s.i key := rfl
@[simp] theorem State.modTrack_q (s : State) (n : Nat) (f : StrTrack → StrTrack) (key : Nat) : (s.modTrack n f).q key = s.q key := rfl
@[simp] theorem State.modTrack_b (s : State) (n : Nat) (f : StrTrack → StrTrack) (key : Nat) : (s.modTrack n f).b key = s.b key := rfl
@[simp] theorem State.modTrack_bytes (s : State) (n : Nat) (f : StrTrack → StrTrack) (key : Nat) : (s.modTrack n f).bytes key = s.bytes key := rfl
@[simp] theorem State.modTrack_running (s : State) (n : Nat) (f : StrTrack → StrTrack) (key : Nat) : (s.modTrack n f).running key = s.running key := rfl
@[simp] theorem State.modTrack_standby (s : State) (n : Nat) (f : StrTrack → StrTrack) : (s.modTrack n f).standby = s.standby := rfl

/-! ### modCell -/

@[simp] theorem State.modCell_asBuilt (s : State) (n : Nat) (f : CellSt → CellSt) : (s.modCell n f).asBuilt = s.asBuilt := rfl
@[simp] theorem State.modCell_store (s : State) (n : Nat) (f : CellSt → CellSt) : (s.modCell n f).store = s.store := rfl
@[simp] theorem State.modCell_staged (s : State) (n : Nat) (f : CellSt → CellSt) : (s.modCell n f).staged = s.staged := rfl
@[simp] theorem State.modCell_pending (s : State) (n : Nat) (f : CellSt → CellSt) : (s.modCell n f).pending = s.pending := rfl
@[simp] theorem State.modCell_out (s : State) (n : Nat) (f : CellSt → CellSt) : (s.modCell n f).out = s.out := rfl
@[simp] theorem State.modCell_netSeq (s : State) (n : Nat) (f : CellSt → CellSt) : (s.modCell n f).netSeq = s.netSeq := rfl
@[simp] theorem State.modCell_free (s : State) (n : Nat) (f : CellSt → CellSt) : (s.modCell n f).free = s.free := rfl
@[simp] theorem State.modCell_time (s : State) (n : Nat) (f : CellSt → CellSt) : (s.modCell n f).time = s.time := rfl
@[simp] theorem State.modCell_exLog (s : State) (n : Nat) (f : CellSt → CellSt) : (s.modCell n f).exLog = s.exLog := rfl
@[simp] theorem State.modCell_exSlot (s : State) (n : Nat) (f : CellSt → CellSt) : (s.modCell n f).exSlot = s.exSlot := rfl
@[simp] theorem State.modCell_exNo (s : State) (n : Nat) (f : CellSt → CellSt) : (s.modCell n f).exNo = s.exNo := rfl
@[simp] theorem State.modCell_idp (s : State) (n : Nat) (f : CellSt → CellSt) : (s.modCell n f).idp = s.idp := rfl
@[simp] theorem State.modCell_safety (s : State) (n : Nat) (f : CellSt → CellSt) : (s.modCell n f).safety = s.safety := rfl
@[simp] theorem State.modCell_chain (s : State) (n : Nat) (f : CellSt → CellSt) : (s.modCell n f).chain = s.chain := rfl
@[simp] theorem State.modCell_sweep (s : State) (n : Nat) (f : CellSt → CellSt) : (s.modCell n f).sweep = s.sweep := rfl
@[simp] theorem State.modCell_est (s : State) (n : Nat) (f : CellSt → CellSt) : (s.modCell n f).est = { s.est with cells := amSet s.est.cells n (f (s.cell n)) } := rfl
@[simp] theorem State.modCell_custody (s : State) (n : Nat) (f : CellSt → CellSt) : (s.modCell n f).custody = s.custody := rfl
@[simp] theorem State.modCell_temp (s : State) (n : Nat) (f : CellSt → CellSt) : (s.modCell n f).temp = s.temp := rfl
@[simp] theorem State.modCell_can (s : State) (n : Nat) (f : CellSt → CellSt) : (s.modCell n f).can = s.can := rfl
@[simp] theorem State.modCell_field (s : State) (n : Nat) (f : CellSt → CellSt) : (s.modCell n f).field = s.field := rfl
@[simp] theorem State.modCell_loops (s : State) (n : Nat) (f : CellSt → CellSt) : (s.modCell n f).loops = s.loops := rfl
@[simp] theorem State.modCell_prot (s : State) (n : Nat) (f : CellSt → CellSt) : (s.modCell n f).prot = s.prot := rfl
@[simp] theorem State.modCell_disp (s : State) (n : Nat) (f : CellSt → CellSt) : (s.modCell n f).disp = s.disp := rfl
@[simp] theorem State.modCell_prog (s : State) (n : Nat) (f : CellSt → CellSt) : (s.modCell n f).prog = s.prog := rfl
@[simp] theorem State.modCell_duo (s : State) (n : Nat) (f : CellSt → CellSt) : (s.modCell n f).duo = s.duo := rfl
@[simp] theorem State.modCell_upd (s : State) (n : Nat) (f : CellSt → CellSt) : (s.modCell n f).upd = s.upd := rfl
@[simp] theorem State.modCell_pow (s : State) (n : Nat) (f : CellSt → CellSt) : (s.modCell n f).pow = s.pow := rfl
@[simp] theorem State.modCell_recorder (s : State) (n : Nat) (f : CellSt → CellSt) : (s.modCell n f).recorder = s.recorder := rfl
@[simp] theorem State.modCell_v (s : State) (n : Nat) (f : CellSt → CellSt) (key : Nat) : (s.modCell n f).v key = s.v key := rfl
@[simp] theorem State.modCell_n (s : State) (n : Nat) (f : CellSt → CellSt) (key : Nat) : (s.modCell n f).n key = s.n key := rfl
@[simp] theorem State.modCell_i (s : State) (n : Nat) (f : CellSt → CellSt) (key : Nat) : (s.modCell n f).i key = s.i key := rfl
@[simp] theorem State.modCell_q (s : State) (n : Nat) (f : CellSt → CellSt) (key : Nat) : (s.modCell n f).q key = s.q key := rfl
@[simp] theorem State.modCell_b (s : State) (n : Nat) (f : CellSt → CellSt) (key : Nat) : (s.modCell n f).b key = s.b key := rfl
@[simp] theorem State.modCell_bytes (s : State) (n : Nat) (f : CellSt → CellSt) (key : Nat) : (s.modCell n f).bytes key = s.bytes key := rfl
@[simp] theorem State.modCell_running (s : State) (n : Nat) (f : CellSt → CellSt) (key : Nat) : (s.modCell n f).running key = s.running key := rfl
@[simp] theorem State.modCell_standby (s : State) (n : Nat) (f : CellSt → CellSt) : (s.modCell n f).standby = s.standby := rfl

/-! ### modFe -/

@[simp] theorem State.modFe_asBuilt (s : State) (n : Nat) (f : FeSt → FeSt) : (s.modFe n f).asBuilt = s.asBuilt := rfl
@[simp] theorem State.modFe_store (s : State) (n : Nat) (f : FeSt → FeSt) : (s.modFe n f).store = s.store := rfl
@[simp] theorem State.modFe_staged (s : State) (n : Nat) (f : FeSt → FeSt) : (s.modFe n f).staged = s.staged := rfl
@[simp] theorem State.modFe_pending (s : State) (n : Nat) (f : FeSt → FeSt) : (s.modFe n f).pending = s.pending := rfl
@[simp] theorem State.modFe_out (s : State) (n : Nat) (f : FeSt → FeSt) : (s.modFe n f).out = s.out := rfl
@[simp] theorem State.modFe_netSeq (s : State) (n : Nat) (f : FeSt → FeSt) : (s.modFe n f).netSeq = s.netSeq := rfl
@[simp] theorem State.modFe_free (s : State) (n : Nat) (f : FeSt → FeSt) : (s.modFe n f).free = s.free := rfl
@[simp] theorem State.modFe_time (s : State) (n : Nat) (f : FeSt → FeSt) : (s.modFe n f).time = s.time := rfl
@[simp] theorem State.modFe_exLog (s : State) (n : Nat) (f : FeSt → FeSt) : (s.modFe n f).exLog = s.exLog := rfl
@[simp] theorem State.modFe_exSlot (s : State) (n : Nat) (f : FeSt → FeSt) : (s.modFe n f).exSlot = s.exSlot := rfl
@[simp] theorem State.modFe_exNo (s : State) (n : Nat) (f : FeSt → FeSt) : (s.modFe n f).exNo = s.exNo := rfl
@[simp] theorem State.modFe_idp (s : State) (n : Nat) (f : FeSt → FeSt) : (s.modFe n f).idp = s.idp := rfl
@[simp] theorem State.modFe_safety (s : State) (n : Nat) (f : FeSt → FeSt) : (s.modFe n f).safety = s.safety := rfl
@[simp] theorem State.modFe_chain (s : State) (n : Nat) (f : FeSt → FeSt) : (s.modFe n f).chain = s.chain := rfl
@[simp] theorem State.modFe_sweep (s : State) (n : Nat) (f : FeSt → FeSt) : (s.modFe n f).sweep = s.sweep := rfl
@[simp] theorem State.modFe_est (s : State) (n : Nat) (f : FeSt → FeSt) : (s.modFe n f).est = { s.est with fes := amSet s.est.fes n (f (s.fe n)) } := rfl
@[simp] theorem State.modFe_custody (s : State) (n : Nat) (f : FeSt → FeSt) : (s.modFe n f).custody = s.custody := rfl
@[simp] theorem State.modFe_temp (s : State) (n : Nat) (f : FeSt → FeSt) : (s.modFe n f).temp = s.temp := rfl
@[simp] theorem State.modFe_can (s : State) (n : Nat) (f : FeSt → FeSt) : (s.modFe n f).can = s.can := rfl
@[simp] theorem State.modFe_field (s : State) (n : Nat) (f : FeSt → FeSt) : (s.modFe n f).field = s.field := rfl
@[simp] theorem State.modFe_loops (s : State) (n : Nat) (f : FeSt → FeSt) : (s.modFe n f).loops = s.loops := rfl
@[simp] theorem State.modFe_prot (s : State) (n : Nat) (f : FeSt → FeSt) : (s.modFe n f).prot = s.prot := rfl
@[simp] theorem State.modFe_disp (s : State) (n : Nat) (f : FeSt → FeSt) : (s.modFe n f).disp = s.disp := rfl
@[simp] theorem State.modFe_prog (s : State) (n : Nat) (f : FeSt → FeSt) : (s.modFe n f).prog = s.prog := rfl
@[simp] theorem State.modFe_duo (s : State) (n : Nat) (f : FeSt → FeSt) : (s.modFe n f).duo = s.duo := rfl
@[simp] theorem State.modFe_upd (s : State) (n : Nat) (f : FeSt → FeSt) : (s.modFe n f).upd = s.upd := rfl
@[simp] theorem State.modFe_pow (s : State) (n : Nat) (f : FeSt → FeSt) : (s.modFe n f).pow = s.pow := rfl
@[simp] theorem State.modFe_recorder (s : State) (n : Nat) (f : FeSt → FeSt) : (s.modFe n f).recorder = s.recorder := rfl
@[simp] theorem State.modFe_v (s : State) (n : Nat) (f : FeSt → FeSt) (key : Nat) : (s.modFe n f).v key = s.v key := rfl
@[simp] theorem State.modFe_n (s : State) (n : Nat) (f : FeSt → FeSt) (key : Nat) : (s.modFe n f).n key = s.n key := rfl
@[simp] theorem State.modFe_i (s : State) (n : Nat) (f : FeSt → FeSt) (key : Nat) : (s.modFe n f).i key = s.i key := rfl
@[simp] theorem State.modFe_q (s : State) (n : Nat) (f : FeSt → FeSt) (key : Nat) : (s.modFe n f).q key = s.q key := rfl
@[simp] theorem State.modFe_b (s : State) (n : Nat) (f : FeSt → FeSt) (key : Nat) : (s.modFe n f).b key = s.b key := rfl
@[simp] theorem State.modFe_bytes (s : State) (n : Nat) (f : FeSt → FeSt) (key : Nat) : (s.modFe n f).bytes key = s.bytes key := rfl
@[simp] theorem State.modFe_running (s : State) (n : Nat) (f : FeSt → FeSt) (key : Nat) : (s.modFe n f).running key = s.running key := rfl
@[simp] theorem State.modFe_standby (s : State) (n : Nat) (f : FeSt → FeSt) : (s.modFe n f).standby = s.standby := rfl

/-! ### modSensor -/

@[simp] theorem State.modSensor_asBuilt (s : State) (n : Nat) (f : SensorSt → SensorSt) : (s.modSensor n f).asBuilt = s.asBuilt := rfl
@[simp] theorem State.modSensor_store (s : State) (n : Nat) (f : SensorSt → SensorSt) : (s.modSensor n f).store = s.store := rfl
@[simp] theorem State.modSensor_staged (s : State) (n : Nat) (f : SensorSt → SensorSt) : (s.modSensor n f).staged = s.staged := rfl
@[simp] theorem State.modSensor_pending (s : State) (n : Nat) (f : SensorSt → SensorSt) : (s.modSensor n f).pending = s.pending := rfl
@[simp] theorem State.modSensor_out (s : State) (n : Nat) (f : SensorSt → SensorSt) : (s.modSensor n f).out = s.out := rfl
@[simp] theorem State.modSensor_netSeq (s : State) (n : Nat) (f : SensorSt → SensorSt) : (s.modSensor n f).netSeq = s.netSeq := rfl
@[simp] theorem State.modSensor_free (s : State) (n : Nat) (f : SensorSt → SensorSt) : (s.modSensor n f).free = s.free := rfl
@[simp] theorem State.modSensor_time (s : State) (n : Nat) (f : SensorSt → SensorSt) : (s.modSensor n f).time = s.time := rfl
@[simp] theorem State.modSensor_exLog (s : State) (n : Nat) (f : SensorSt → SensorSt) : (s.modSensor n f).exLog = s.exLog := rfl
@[simp] theorem State.modSensor_exSlot (s : State) (n : Nat) (f : SensorSt → SensorSt) : (s.modSensor n f).exSlot = s.exSlot := rfl
@[simp] theorem State.modSensor_exNo (s : State) (n : Nat) (f : SensorSt → SensorSt) : (s.modSensor n f).exNo = s.exNo := rfl
@[simp] theorem State.modSensor_idp (s : State) (n : Nat) (f : SensorSt → SensorSt) : (s.modSensor n f).idp = s.idp := rfl
@[simp] theorem State.modSensor_safety (s : State) (n : Nat) (f : SensorSt → SensorSt) : (s.modSensor n f).safety = s.safety := rfl
@[simp] theorem State.modSensor_chain (s : State) (n : Nat) (f : SensorSt → SensorSt) : (s.modSensor n f).chain = s.chain := rfl
@[simp] theorem State.modSensor_sweep (s : State) (n : Nat) (f : SensorSt → SensorSt) : (s.modSensor n f).sweep = s.sweep := rfl
@[simp] theorem State.modSensor_est (s : State) (n : Nat) (f : SensorSt → SensorSt) : (s.modSensor n f).est = { s.est with sensors := amSet s.est.sensors n (f (s.sensor n)) } := rfl
@[simp] theorem State.modSensor_custody (s : State) (n : Nat) (f : SensorSt → SensorSt) : (s.modSensor n f).custody = s.custody := rfl
@[simp] theorem State.modSensor_temp (s : State) (n : Nat) (f : SensorSt → SensorSt) : (s.modSensor n f).temp = s.temp := rfl
@[simp] theorem State.modSensor_can (s : State) (n : Nat) (f : SensorSt → SensorSt) : (s.modSensor n f).can = s.can := rfl
@[simp] theorem State.modSensor_field (s : State) (n : Nat) (f : SensorSt → SensorSt) : (s.modSensor n f).field = s.field := rfl
@[simp] theorem State.modSensor_loops (s : State) (n : Nat) (f : SensorSt → SensorSt) : (s.modSensor n f).loops = s.loops := rfl
@[simp] theorem State.modSensor_prot (s : State) (n : Nat) (f : SensorSt → SensorSt) : (s.modSensor n f).prot = s.prot := rfl
@[simp] theorem State.modSensor_disp (s : State) (n : Nat) (f : SensorSt → SensorSt) : (s.modSensor n f).disp = s.disp := rfl
@[simp] theorem State.modSensor_prog (s : State) (n : Nat) (f : SensorSt → SensorSt) : (s.modSensor n f).prog = s.prog := rfl
@[simp] theorem State.modSensor_duo (s : State) (n : Nat) (f : SensorSt → SensorSt) : (s.modSensor n f).duo = s.duo := rfl
@[simp] theorem State.modSensor_upd (s : State) (n : Nat) (f : SensorSt → SensorSt) : (s.modSensor n f).upd = s.upd := rfl
@[simp] theorem State.modSensor_pow (s : State) (n : Nat) (f : SensorSt → SensorSt) : (s.modSensor n f).pow = s.pow := rfl
@[simp] theorem State.modSensor_recorder (s : State) (n : Nat) (f : SensorSt → SensorSt) : (s.modSensor n f).recorder = s.recorder := rfl
@[simp] theorem State.modSensor_v (s : State) (n : Nat) (f : SensorSt → SensorSt) (key : Nat) : (s.modSensor n f).v key = s.v key := rfl
@[simp] theorem State.modSensor_n (s : State) (n : Nat) (f : SensorSt → SensorSt) (key : Nat) : (s.modSensor n f).n key = s.n key := rfl
@[simp] theorem State.modSensor_i (s : State) (n : Nat) (f : SensorSt → SensorSt) (key : Nat) : (s.modSensor n f).i key = s.i key := rfl
@[simp] theorem State.modSensor_q (s : State) (n : Nat) (f : SensorSt → SensorSt) (key : Nat) : (s.modSensor n f).q key = s.q key := rfl
@[simp] theorem State.modSensor_b (s : State) (n : Nat) (f : SensorSt → SensorSt) (key : Nat) : (s.modSensor n f).b key = s.b key := rfl
@[simp] theorem State.modSensor_bytes (s : State) (n : Nat) (f : SensorSt → SensorSt) (key : Nat) : (s.modSensor n f).bytes key = s.bytes key := rfl
@[simp] theorem State.modSensor_running (s : State) (n : Nat) (f : SensorSt → SensorSt) (key : Nat) : (s.modSensor n f).running key = s.running key := rfl
@[simp] theorem State.modSensor_standby (s : State) (n : Nat) (f : SensorSt → SensorSt) : (s.modSensor n f).standby = s.standby := rfl

/-! ### modAbacus -/

@[simp] theorem State.modAbacus_asBuilt (s : State) (f : AbacusSt → AbacusSt) : (s.modAbacus f).asBuilt = s.asBuilt := rfl
@[simp] theorem State.modAbacus_store (s : State) (f : AbacusSt → AbacusSt) : (s.modAbacus f).store = s.store := rfl
@[simp] theorem State.modAbacus_staged (s : State) (f : AbacusSt → AbacusSt) : (s.modAbacus f).staged = s.staged := rfl
@[simp] theorem State.modAbacus_pending (s : State) (f : AbacusSt → AbacusSt) : (s.modAbacus f).pending = s.pending := rfl
@[simp] theorem State.modAbacus_out (s : State) (f : AbacusSt → AbacusSt) : (s.modAbacus f).out = s.out := rfl
@[simp] theorem State.modAbacus_netSeq (s : State) (f : AbacusSt → AbacusSt) : (s.modAbacus f).netSeq = s.netSeq := rfl
@[simp] theorem State.modAbacus_free (s : State) (f : AbacusSt → AbacusSt) : (s.modAbacus f).free = s.free := rfl
@[simp] theorem State.modAbacus_time (s : State) (f : AbacusSt → AbacusSt) : (s.modAbacus f).time = s.time := rfl
@[simp] theorem State.modAbacus_exLog (s : State) (f : AbacusSt → AbacusSt) : (s.modAbacus f).exLog = s.exLog := rfl
@[simp] theorem State.modAbacus_exSlot (s : State) (f : AbacusSt → AbacusSt) : (s.modAbacus f).exSlot = s.exSlot := rfl
@[simp] theorem State.modAbacus_exNo (s : State) (f : AbacusSt → AbacusSt) : (s.modAbacus f).exNo = s.exNo := rfl
@[simp] theorem State.modAbacus_idp (s : State) (f : AbacusSt → AbacusSt) : (s.modAbacus f).idp = s.idp := rfl
@[simp] theorem State.modAbacus_safety (s : State) (f : AbacusSt → AbacusSt) : (s.modAbacus f).safety = s.safety := rfl
@[simp] theorem State.modAbacus_chain (s : State) (f : AbacusSt → AbacusSt) : (s.modAbacus f).chain = s.chain := rfl
@[simp] theorem State.modAbacus_sweep (s : State) (f : AbacusSt → AbacusSt) : (s.modAbacus f).sweep = s.sweep := rfl
@[simp] theorem State.modAbacus_est (s : State) (f : AbacusSt → AbacusSt) : (s.modAbacus f).est = { s.est with abacus := f s.est.abacus } := rfl
@[simp] theorem State.modAbacus_custody (s : State) (f : AbacusSt → AbacusSt) : (s.modAbacus f).custody = s.custody := rfl
@[simp] theorem State.modAbacus_temp (s : State) (f : AbacusSt → AbacusSt) : (s.modAbacus f).temp = s.temp := rfl
@[simp] theorem State.modAbacus_can (s : State) (f : AbacusSt → AbacusSt) : (s.modAbacus f).can = s.can := rfl
@[simp] theorem State.modAbacus_field (s : State) (f : AbacusSt → AbacusSt) : (s.modAbacus f).field = s.field := rfl
@[simp] theorem State.modAbacus_loops (s : State) (f : AbacusSt → AbacusSt) : (s.modAbacus f).loops = s.loops := rfl
@[simp] theorem State.modAbacus_prot (s : State) (f : AbacusSt → AbacusSt) : (s.modAbacus f).prot = s.prot := rfl
@[simp] theorem State.modAbacus_disp (s : State) (f : AbacusSt → AbacusSt) : (s.modAbacus f).disp = s.disp := rfl
@[simp] theorem State.modAbacus_prog (s : State) (f : AbacusSt → AbacusSt) : (s.modAbacus f).prog = s.prog := rfl
@[simp] theorem State.modAbacus_duo (s : State) (f : AbacusSt → AbacusSt) : (s.modAbacus f).duo = s.duo := rfl
@[simp] theorem State.modAbacus_upd (s : State) (f : AbacusSt → AbacusSt) : (s.modAbacus f).upd = s.upd := rfl
@[simp] theorem State.modAbacus_pow (s : State) (f : AbacusSt → AbacusSt) : (s.modAbacus f).pow = s.pow := rfl
@[simp] theorem State.modAbacus_recorder (s : State) (f : AbacusSt → AbacusSt) : (s.modAbacus f).recorder = s.recorder := rfl
@[simp] theorem State.modAbacus_v (s : State) (f : AbacusSt → AbacusSt) (key : Nat) : (s.modAbacus f).v key = s.v key := rfl
@[simp] theorem State.modAbacus_n (s : State) (f : AbacusSt → AbacusSt) (key : Nat) : (s.modAbacus f).n key = s.n key := rfl
@[simp] theorem State.modAbacus_i (s : State) (f : AbacusSt → AbacusSt) (key : Nat) : (s.modAbacus f).i key = s.i key := rfl
@[simp] theorem State.modAbacus_q (s : State) (f : AbacusSt → AbacusSt) (key : Nat) : (s.modAbacus f).q key = s.q key := rfl
@[simp] theorem State.modAbacus_b (s : State) (f : AbacusSt → AbacusSt) (key : Nat) : (s.modAbacus f).b key = s.b key := rfl
@[simp] theorem State.modAbacus_bytes (s : State) (f : AbacusSt → AbacusSt) (key : Nat) : (s.modAbacus f).bytes key = s.bytes key := rfl
@[simp] theorem State.modAbacus_running (s : State) (f : AbacusSt → AbacusSt) (key : Nat) : (s.modAbacus f).running key = s.running key := rfl
@[simp] theorem State.modAbacus_standby (s : State) (f : AbacusSt → AbacusSt) : (s.modAbacus f).standby = s.standby := rfl

/-! ### modRod -/

@[simp] theorem State.modRod_asBuilt (s : State) (r : Nat) (f : RodSt → RodSt) : (s.modRod r f).asBuilt = s.asBuilt := rfl
@[simp] theorem State.modRod_store (s : State) (r : Nat) (f : RodSt → RodSt) : (s.modRod r f).store = s.store := rfl
@[simp] theorem State.modRod_staged (s : State) (r : Nat) (f : RodSt → RodSt) : (s.modRod r f).staged = s.staged := rfl
@[simp] theorem State.modRod_pending (s : State) (r : Nat) (f : RodSt → RodSt) : (s.modRod r f).pending = s.pending := rfl
@[simp] theorem State.modRod_out (s : State) (r : Nat) (f : RodSt → RodSt) : (s.modRod r f).out = s.out := rfl
@[simp] theorem State.modRod_netSeq (s : State) (r : Nat) (f : RodSt → RodSt) : (s.modRod r f).netSeq = s.netSeq := rfl
@[simp] theorem State.modRod_free (s : State) (r : Nat) (f : RodSt → RodSt) : (s.modRod r f).free = s.free := rfl
@[simp] theorem State.modRod_time (s : State) (r : Nat) (f : RodSt → RodSt) : (s.modRod r f).time = s.time := rfl
@[simp] theorem State.modRod_exLog (s : State) (r : Nat) (f : RodSt → RodSt) : (s.modRod r f).exLog = s.exLog := rfl
@[simp] theorem State.modRod_exSlot (s : State) (r : Nat) (f : RodSt → RodSt) : (s.modRod r f).exSlot = s.exSlot := rfl
@[simp] theorem State.modRod_exNo (s : State) (r : Nat) (f : RodSt → RodSt) : (s.modRod r f).exNo = s.exNo := rfl
@[simp] theorem State.modRod_idp (s : State) (r : Nat) (f : RodSt → RodSt) : (s.modRod r f).idp = s.idp := rfl
@[simp] theorem State.modRod_safety (s : State) (r : Nat) (f : RodSt → RodSt) : (s.modRod r f).safety = s.safety := rfl
@[simp] theorem State.modRod_chain (s : State) (r : Nat) (f : RodSt → RodSt) : (s.modRod r f).chain = s.chain := rfl
@[simp] theorem State.modRod_sweep (s : State) (r : Nat) (f : RodSt → RodSt) : (s.modRod r f).sweep = s.sweep := rfl
@[simp] theorem State.modRod_est (s : State) (r : Nat) (f : RodSt → RodSt) : (s.modRod r f).est = { s.est with abacus := { s.est.abacus with rods := s.est.abacus.rods.set r (f (nth s.est.abacus.rods r {})) } } := rfl
@[simp] theorem State.modRod_custody (s : State) (r : Nat) (f : RodSt → RodSt) : (s.modRod r f).custody = s.custody := rfl
@[simp] theorem State.modRod_temp (s : State) (r : Nat) (f : RodSt → RodSt) : (s.modRod r f).temp = s.temp := rfl
@[simp] theorem State.modRod_can (s : State) (r : Nat) (f : RodSt → RodSt) : (s.modRod r f).can = s.can := rfl
@[simp] theorem State.modRod_field (s : State) (r : Nat) (f : RodSt → RodSt) : (s.modRod r f).field = s.field := rfl
@[simp] theorem State.modRod_loops (s : State) (r : Nat) (f : RodSt → RodSt) : (s.modRod r f).loops = s.loops := rfl
@[simp] theorem State.modRod_prot (s : State) (r : Nat) (f : RodSt → RodSt) : (s.modRod r f).prot = s.prot := rfl
@[simp] theorem State.modRod_disp (s : State) (r : Nat) (f : RodSt → RodSt) : (s.modRod r f).disp = s.disp := rfl
@[simp] theorem State.modRod_prog (s : State) (r : Nat) (f : RodSt → RodSt) : (s.modRod r f).prog = s.prog := rfl
@[simp] theorem State.modRod_duo (s : State) (r : Nat) (f : RodSt → RodSt) : (s.modRod r f).duo = s.duo := rfl
@[simp] theorem State.modRod_upd (s : State) (r : Nat) (f : RodSt → RodSt) : (s.modRod r f).upd = s.upd := rfl
@[simp] theorem State.modRod_pow (s : State) (r : Nat) (f : RodSt → RodSt) : (s.modRod r f).pow = s.pow := rfl
@[simp] theorem State.modRod_recorder (s : State) (r : Nat) (f : RodSt → RodSt) : (s.modRod r f).recorder = s.recorder := rfl
@[simp] theorem State.modRod_v (s : State) (r : Nat) (f : RodSt → RodSt) (key : Nat) : (s.modRod r f).v key = s.v key := rfl
@[simp] theorem State.modRod_n (s : State) (r : Nat) (f : RodSt → RodSt) (key : Nat) : (s.modRod r f).n key = s.n key := rfl
@[simp] theorem State.modRod_i (s : State) (r : Nat) (f : RodSt → RodSt) (key : Nat) : (s.modRod r f).i key = s.i key := rfl
@[simp] theorem State.modRod_q (s : State) (r : Nat) (f : RodSt → RodSt) (key : Nat) : (s.modRod r f).q key = s.q key := rfl
@[simp] theorem State.modRod_b (s : State) (r : Nat) (f : RodSt → RodSt) (key : Nat) : (s.modRod r f).b key = s.b key := rfl
@[simp] theorem State.modRod_bytes (s : State) (r : Nat) (f : RodSt → RodSt) (key : Nat) : (s.modRod r f).bytes key = s.bytes key := rfl
@[simp] theorem State.modRod_running (s : State) (r : Nat) (f : RodSt → RodSt) (key : Nat) : (s.modRod r f).running key = s.running key := rfl
@[simp] theorem State.modRod_standby (s : State) (r : Nat) (f : RodSt → RodSt) : (s.modRod r f).standby = s.standby := rfl

/-! ### modCustody -/

@[simp] theorem State.modCustody_asBuilt (s : State) (f : CustodySt → CustodySt) : (s.modCustody f).asBuilt = s.asBuilt := rfl
@[simp] theorem State.modCustody_store (s : State) (f : CustodySt → CustodySt) : (s.modCustody f).store = s.store := rfl
@[simp] theorem State.modCustody_staged (s : State) (f : CustodySt → CustodySt) : (s.modCustody f).staged = s.staged := rfl
@[simp] theorem State.modCustody_pending (s : State) (f : CustodySt → CustodySt) : (s.modCustody f).pending = s.pending := rfl
@[simp] theorem State.modCustody_out (s : State) (f : CustodySt → CustodySt) : (s.modCustody f).out = s.out := rfl
@[simp] theorem State.modCustody_netSeq (s : State) (f : CustodySt → CustodySt) : (s.modCustody f).netSeq = s.netSeq := rfl
@[simp] theorem State.modCustody_free (s : State) (f : CustodySt → CustodySt) : (s.modCustody f).free = s.free := rfl
@[simp] theorem State.modCustody_time (s : State) (f : CustodySt → CustodySt) : (s.modCustody f).time = s.time := rfl
@[simp] theorem State.modCustody_exLog (s : State) (f : CustodySt → CustodySt) : (s.modCustody f).exLog = s.exLog := rfl
@[simp] theorem State.modCustody_exSlot (s : State) (f : CustodySt → CustodySt) : (s.modCustody f).exSlot = s.exSlot := rfl
@[simp] theorem State.modCustody_exNo (s : State) (f : CustodySt → CustodySt) : (s.modCustody f).exNo = s.exNo := rfl
@[simp] theorem State.modCustody_idp (s : State) (f : CustodySt → CustodySt) : (s.modCustody f).idp = s.idp := rfl
@[simp] theorem State.modCustody_safety (s : State) (f : CustodySt → CustodySt) : (s.modCustody f).safety = s.safety := rfl
@[simp] theorem State.modCustody_chain (s : State) (f : CustodySt → CustodySt) : (s.modCustody f).chain = s.chain := rfl
@[simp] theorem State.modCustody_sweep (s : State) (f : CustodySt → CustodySt) : (s.modCustody f).sweep = s.sweep := rfl
@[simp] theorem State.modCustody_est (s : State) (f : CustodySt → CustodySt) : (s.modCustody f).est = s.est := rfl
@[simp] theorem State.modCustody_custody (s : State) (f : CustodySt → CustodySt) : (s.modCustody f).custody = f s.custody := rfl
@[simp] theorem State.modCustody_temp (s : State) (f : CustodySt → CustodySt) : (s.modCustody f).temp = s.temp := rfl
@[simp] theorem State.modCustody_can (s : State) (f : CustodySt → CustodySt) : (s.modCustody f).can = s.can := rfl
@[simp] theorem State.modCustody_field (s : State) (f : CustodySt → CustodySt) : (s.modCustody f).field = s.field := rfl
@[simp] theorem State.modCustody_loops (s : State) (f : CustodySt → CustodySt) : (s.modCustody f).loops = s.loops := rfl
@[simp] theorem State.modCustody_prot (s : State) (f : CustodySt → CustodySt) : (s.modCustody f).prot = s.prot := rfl
@[simp] theorem State.modCustody_disp (s : State) (f : CustodySt → CustodySt) : (s.modCustody f).disp = s.disp := rfl
@[simp] theorem State.modCustody_prog (s : State) (f : CustodySt → CustodySt) : (s.modCustody f).prog = s.prog := rfl
@[simp] theorem State.modCustody_duo (s : State) (f : CustodySt → CustodySt) : (s.modCustody f).duo = s.duo := rfl
@[simp] theorem State.modCustody_upd (s : State) (f : CustodySt → CustodySt) : (s.modCustody f).upd = s.upd := rfl
@[simp] theorem State.modCustody_pow (s : State) (f : CustodySt → CustodySt) : (s.modCustody f).pow = s.pow := rfl
@[simp] theorem State.modCustody_recorder (s : State) (f : CustodySt → CustodySt) : (s.modCustody f).recorder = s.recorder := rfl
@[simp] theorem State.modCustody_v (s : State) (f : CustodySt → CustodySt) (key : Nat) : (s.modCustody f).v key = s.v key := rfl
@[simp] theorem State.modCustody_n (s : State) (f : CustodySt → CustodySt) (key : Nat) : (s.modCustody f).n key = s.n key := rfl
@[simp] theorem State.modCustody_i (s : State) (f : CustodySt → CustodySt) (key : Nat) : (s.modCustody f).i key = s.i key := rfl
@[simp] theorem State.modCustody_q (s : State) (f : CustodySt → CustodySt) (key : Nat) : (s.modCustody f).q key = s.q key := rfl
@[simp] theorem State.modCustody_b (s : State) (f : CustodySt → CustodySt) (key : Nat) : (s.modCustody f).b key = s.b key := rfl
@[simp] theorem State.modCustody_bytes (s : State) (f : CustodySt → CustodySt) (key : Nat) : (s.modCustody f).bytes key = s.bytes key := rfl
@[simp] theorem State.modCustody_running (s : State) (f : CustodySt → CustodySt) (key : Nat) : (s.modCustody f).running key = s.running key := rfl
@[simp] theorem State.modCustody_standby (s : State) (f : CustodySt → CustodySt) : (s.modCustody f).standby = s.standby := rfl

/-! ### modCan -/

@[simp] theorem State.modCan_asBuilt (s : State) (c : Nat) (f : CanSt → CanSt) : (s.modCan c f).asBuilt = s.asBuilt := rfl
@[simp] theorem State.modCan_store (s : State) (c : Nat) (f : CanSt → CanSt) : (s.modCan c f).store = s.store := rfl
@[simp] theorem State.modCan_staged (s : State) (c : Nat) (f : CanSt → CanSt) : (s.modCan c f).staged = s.staged := rfl
@[simp] theorem State.modCan_pending (s : State) (c : Nat) (f : CanSt → CanSt) : (s.modCan c f).pending = s.pending := rfl
@[simp] theorem State.modCan_out (s : State) (c : Nat) (f : CanSt → CanSt) : (s.modCan c f).out = s.out := rfl
@[simp] theorem State.modCan_netSeq (s : State) (c : Nat) (f : CanSt → CanSt) : (s.modCan c f).netSeq = s.netSeq := rfl
@[simp] theorem State.modCan_free (s : State) (c : Nat) (f : CanSt → CanSt) : (s.modCan c f).free = s.free := rfl
@[simp] theorem State.modCan_time (s : State) (c : Nat) (f : CanSt → CanSt) : (s.modCan c f).time = s.time := rfl
@[simp] theorem State.modCan_exLog (s : State) (c : Nat) (f : CanSt → CanSt) : (s.modCan c f).exLog = s.exLog := rfl
@[simp] theorem State.modCan_exSlot (s : State) (c : Nat) (f : CanSt → CanSt) : (s.modCan c f).exSlot = s.exSlot := rfl
@[simp] theorem State.modCan_exNo (s : State) (c : Nat) (f : CanSt → CanSt) : (s.modCan c f).exNo = s.exNo := rfl
@[simp] theorem State.modCan_idp (s : State) (c : Nat) (f : CanSt → CanSt) : (s.modCan c f).idp = s.idp := rfl
@[simp] theorem State.modCan_safety (s : State) (c : Nat) (f : CanSt → CanSt) : (s.modCan c f).safety = s.safety := rfl
@[simp] theorem State.modCan_chain (s : State) (c : Nat) (f : CanSt → CanSt) : (s.modCan c f).chain = s.chain := rfl
@[simp] theorem State.modCan_sweep (s : State) (c : Nat) (f : CanSt → CanSt) : (s.modCan c f).sweep = s.sweep := rfl
@[simp] theorem State.modCan_est (s : State) (c : Nat) (f : CanSt → CanSt) : (s.modCan c f).est = s.est := rfl
@[simp] theorem State.modCan_custody (s : State) (c : Nat) (f : CanSt → CanSt) : (s.modCan c f).custody = s.custody := rfl
@[simp] theorem State.modCan_temp (s : State) (c : Nat) (f : CanSt → CanSt) : (s.modCan c f).temp = s.temp := rfl
@[simp] theorem State.modCan_can (s : State) (c : Nat) (f : CanSt → CanSt) : (s.modCan c f).can = s.can.set c (f (s.canCh c)) := rfl
@[simp] theorem State.modCan_field (s : State) (c : Nat) (f : CanSt → CanSt) : (s.modCan c f).field = s.field := rfl
@[simp] theorem State.modCan_loops (s : State) (c : Nat) (f : CanSt → CanSt) : (s.modCan c f).loops = s.loops := rfl
@[simp] theorem State.modCan_prot (s : State) (c : Nat) (f : CanSt → CanSt) : (s.modCan c f).prot = s.prot := rfl
@[simp] theorem State.modCan_disp (s : State) (c : Nat) (f : CanSt → CanSt) : (s.modCan c f).disp = s.disp := rfl
@[simp] theorem State.modCan_prog (s : State) (c : Nat) (f : CanSt → CanSt) : (s.modCan c f).prog = s.prog := rfl
@[simp] theorem State.modCan_duo (s : State) (c : Nat) (f : CanSt → CanSt) : (s.modCan c f).duo = s.duo := rfl
@[simp] theorem State.modCan_upd (s : State) (c : Nat) (f : CanSt → CanSt) : (s.modCan c f).upd = s.upd := rfl
@[simp] theorem State.modCan_pow (s : State) (c : Nat) (f : CanSt → CanSt) : (s.modCan c f).pow = s.pow := rfl
@[simp] theorem State.modCan_recorder (s : State) (c : Nat) (f : CanSt → CanSt) : (s.modCan c f).recorder = s.recorder := rfl
@[simp] theorem State.modCan_v (s : State) (c : Nat) (f : CanSt → CanSt) (key : Nat) : (s.modCan c f).v key = s.v key := rfl
@[simp] theorem State.modCan_n (s : State) (c : Nat) (f : CanSt → CanSt) (key : Nat) : (s.modCan c f).n key = s.n key := rfl
@[simp] theorem State.modCan_i (s : State) (c : Nat) (f : CanSt → CanSt) (key : Nat) : (s.modCan c f).i key = s.i key := rfl
@[simp] theorem State.modCan_q (s : State) (c : Nat) (f : CanSt → CanSt) (key : Nat) : (s.modCan c f).q key = s.q key := rfl
@[simp] theorem State.modCan_b (s : State) (c : Nat) (f : CanSt → CanSt) (key : Nat) : (s.modCan c f).b key = s.b key := rfl
@[simp] theorem State.modCan_bytes (s : State) (c : Nat) (f : CanSt → CanSt) (key : Nat) : (s.modCan c f).bytes key = s.bytes key := rfl
@[simp] theorem State.modCan_running (s : State) (c : Nat) (f : CanSt → CanSt) (key : Nat) : (s.modCan c f).running key = s.running key := rfl
@[simp] theorem State.modCan_standby (s : State) (c : Nat) (f : CanSt → CanSt) : (s.modCan c f).standby = s.standby := rfl

/-! ### modField -/

@[simp] theorem State.modField_asBuilt (s : State) (f : FieldSt → FieldSt) : (s.modField f).asBuilt = s.asBuilt := rfl
@[simp] theorem State.modField_store (s : State) (f : FieldSt → FieldSt) : (s.modField f).store = s.store := rfl
@[simp] theorem State.modField_staged (s : State) (f : FieldSt → FieldSt) : (s.modField f).staged = s.staged := rfl
@[simp] theorem State.modField_pending (s : State) (f : FieldSt → FieldSt) : (s.modField f).pending = s.pending := rfl
@[simp] theorem State.modField_out (s : State) (f : FieldSt → FieldSt) : (s.modField f).out = s.out := rfl
@[simp] theorem State.modField_netSeq (s : State) (f : FieldSt → FieldSt) : (s.modField f).netSeq = s.netSeq := rfl
@[simp] theorem State.modField_free (s : State) (f : FieldSt → FieldSt) : (s.modField f).free = s.free := rfl
@[simp] theorem State.modField_time (s : State) (f : FieldSt → FieldSt) : (s.modField f).time = s.time := rfl
@[simp] theorem State.modField_exLog (s : State) (f : FieldSt → FieldSt) : (s.modField f).exLog = s.exLog := rfl
@[simp] theorem State.modField_exSlot (s : State) (f : FieldSt → FieldSt) : (s.modField f).exSlot = s.exSlot := rfl
@[simp] theorem State.modField_exNo (s : State) (f : FieldSt → FieldSt) : (s.modField f).exNo = s.exNo := rfl
@[simp] theorem State.modField_idp (s : State) (f : FieldSt → FieldSt) : (s.modField f).idp = s.idp := rfl
@[simp] theorem State.modField_safety (s : State) (f : FieldSt → FieldSt) : (s.modField f).safety = s.safety := rfl
@[simp] theorem State.modField_chain (s : State) (f : FieldSt → FieldSt) : (s.modField f).chain = s.chain := rfl
@[simp] theorem State.modField_sweep (s : State) (f : FieldSt → FieldSt) : (s.modField f).sweep = s.sweep := rfl
@[simp] theorem State.modField_est (s : State) (f : FieldSt → FieldSt) : (s.modField f).est = s.est := rfl
@[simp] theorem State.modField_custody (s : State) (f : FieldSt → FieldSt) : (s.modField f).custody = s.custody := rfl
@[simp] theorem State.modField_temp (s : State) (f : FieldSt → FieldSt) : (s.modField f).temp = s.temp := rfl
@[simp] theorem State.modField_can (s : State) (f : FieldSt → FieldSt) : (s.modField f).can = s.can := rfl
@[simp] theorem State.modField_field (s : State) (f : FieldSt → FieldSt) : (s.modField f).field = f s.field := rfl
@[simp] theorem State.modField_loops (s : State) (f : FieldSt → FieldSt) : (s.modField f).loops = s.loops := rfl
@[simp] theorem State.modField_prot (s : State) (f : FieldSt → FieldSt) : (s.modField f).prot = s.prot := rfl
@[simp] theorem State.modField_disp (s : State) (f : FieldSt → FieldSt) : (s.modField f).disp = s.disp := rfl
@[simp] theorem State.modField_prog (s : State) (f : FieldSt → FieldSt) : (s.modField f).prog = s.prog := rfl
@[simp] theorem State.modField_duo (s : State) (f : FieldSt → FieldSt) : (s.modField f).duo = s.duo := rfl
@[simp] theorem State.modField_upd (s : State) (f : FieldSt → FieldSt) : (s.modField f).upd = s.upd := rfl
@[simp] theorem State.modField_pow (s : State) (f : FieldSt → FieldSt) : (s.modField f).pow = s.pow := rfl
@[simp] theorem State.modField_recorder (s : State) (f : FieldSt → FieldSt) : (s.modField f).recorder = s.recorder := rfl
@[simp] theorem State.modField_v (s : State) (f : FieldSt → FieldSt) (key : Nat) : (s.modField f).v key = s.v key := rfl
@[simp] theorem State.modField_n (s : State) (f : FieldSt → FieldSt) (key : Nat) : (s.modField f).n key = s.n key := rfl
@[simp] theorem State.modField_i (s : State) (f : FieldSt → FieldSt) (key : Nat) : (s.modField f).i key = s.i key := rfl
@[simp] theorem State.modField_q (s : State) (f : FieldSt → FieldSt) (key : Nat) : (s.modField f).q key = s.q key := rfl
@[simp] theorem State.modField_b (s : State) (f : FieldSt → FieldSt) (key : Nat) : (s.modField f).b key = s.b key := rfl
@[simp] theorem State.modField_bytes (s : State) (f : FieldSt → FieldSt) (key : Nat) : (s.modField f).bytes key = s.bytes key := rfl
@[simp] theorem State.modField_running (s : State) (f : FieldSt → FieldSt) (key : Nat) : (s.modField f).running key = s.running key := rfl
@[simp] theorem State.modField_standby (s : State) (f : FieldSt → FieldSt) : (s.modField f).standby = s.standby := rfl

/-! ### modLoop -/

@[simp] theorem State.modLoop_asBuilt (s : State) (n : Nat) (f : LoopSt → LoopSt) : (s.modLoop n f).asBuilt = s.asBuilt := rfl
@[simp] theorem State.modLoop_store (s : State) (n : Nat) (f : LoopSt → LoopSt) : (s.modLoop n f).store = s.store := rfl
@[simp] theorem State.modLoop_staged (s : State) (n : Nat) (f : LoopSt → LoopSt) : (s.modLoop n f).staged = s.staged := rfl
@[simp] theorem State.modLoop_pending (s : State) (n : Nat) (f : LoopSt → LoopSt) : (s.modLoop n f).pending = s.pending := rfl
@[simp] theorem State.modLoop_out (s : State) (n : Nat) (f : LoopSt → LoopSt) : (s.modLoop n f).out = s.out := rfl
@[simp] theorem State.modLoop_netSeq (s : State) (n : Nat) (f : LoopSt → LoopSt) : (s.modLoop n f).netSeq = s.netSeq := rfl
@[simp] theorem State.modLoop_free (s : State) (n : Nat) (f : LoopSt → LoopSt) : (s.modLoop n f).free = s.free := rfl
@[simp] theorem State.modLoop_time (s : State) (n : Nat) (f : LoopSt → LoopSt) : (s.modLoop n f).time = s.time := rfl
@[simp] theorem State.modLoop_exLog (s : State) (n : Nat) (f : LoopSt → LoopSt) : (s.modLoop n f).exLog = s.exLog := rfl
@[simp] theorem State.modLoop_exSlot (s : State) (n : Nat) (f : LoopSt → LoopSt) : (s.modLoop n f).exSlot = s.exSlot := rfl
@[simp] theorem State.modLoop_exNo (s : State) (n : Nat) (f : LoopSt → LoopSt) : (s.modLoop n f).exNo = s.exNo := rfl
@[simp] theorem State.modLoop_idp (s : State) (n : Nat) (f : LoopSt → LoopSt) : (s.modLoop n f).idp = s.idp := rfl
@[simp] theorem State.modLoop_safety (s : State) (n : Nat) (f : LoopSt → LoopSt) : (s.modLoop n f).safety = s.safety := rfl
@[simp] theorem State.modLoop_chain (s : State) (n : Nat) (f : LoopSt → LoopSt) : (s.modLoop n f).chain = s.chain := rfl
@[simp] theorem State.modLoop_sweep (s : State) (n : Nat) (f : LoopSt → LoopSt) : (s.modLoop n f).sweep = s.sweep := rfl
@[simp] theorem State.modLoop_est (s : State) (n : Nat) (f : LoopSt → LoopSt) : (s.modLoop n f).est = s.est := rfl
@[simp] theorem State.modLoop_custody (s : State) (n : Nat) (f : LoopSt → LoopSt) : (s.modLoop n f).custody = s.custody := rfl
@[simp] theorem State.modLoop_temp (s : State) (n : Nat) (f : LoopSt → LoopSt) : (s.modLoop n f).temp = s.temp := rfl
@[simp] theorem State.modLoop_can (s : State) (n : Nat) (f : LoopSt → LoopSt) : (s.modLoop n f).can = s.can := rfl
@[simp] theorem State.modLoop_field (s : State) (n : Nat) (f : LoopSt → LoopSt) : (s.modLoop n f).field = s.field := rfl
@[simp] theorem State.modLoop_loops (s : State) (n : Nat) (f : LoopSt → LoopSt) : (s.modLoop n f).loops = s.loops.set n (f (s.loop n)) := rfl
@[simp] theorem State.modLoop_prot (s : State) (n : Nat) (f : LoopSt → LoopSt) : (s.modLoop n f).prot = s.prot := rfl
@[simp] theorem State.modLoop_disp (s : State) (n : Nat) (f : LoopSt → LoopSt) : (s.modLoop n f).disp = s.disp := rfl
@[simp] theorem State.modLoop_prog (s : State) (n : Nat) (f : LoopSt → LoopSt) : (s.modLoop n f).prog = s.prog := rfl
@[simp] theorem State.modLoop_duo (s : State) (n : Nat) (f : LoopSt → LoopSt) : (s.modLoop n f).duo = s.duo := rfl
@[simp] theorem State.modLoop_upd (s : State) (n : Nat) (f : LoopSt → LoopSt) : (s.modLoop n f).upd = s.upd := rfl
@[simp] theorem State.modLoop_pow (s : State) (n : Nat) (f : LoopSt → LoopSt) : (s.modLoop n f).pow = s.pow := rfl
@[simp] theorem State.modLoop_recorder (s : State) (n : Nat) (f : LoopSt → LoopSt) : (s.modLoop n f).recorder = s.recorder := rfl
@[simp] theorem State.modLoop_v (s : State) (n : Nat) (f : LoopSt → LoopSt) (key : Nat) : (s.modLoop n f).v key = s.v key := rfl
@[simp] theorem State.modLoop_n (s : State) (n : Nat) (f : LoopSt → LoopSt) (key : Nat) : (s.modLoop n f).n key = s.n key := rfl
@[simp] theorem State.modLoop_i (s : State) (n : Nat) (f : LoopSt → LoopSt) (key : Nat) : (s.modLoop n f).i key = s.i key := rfl
@[simp] theorem State.modLoop_q (s : State) (n : Nat) (f : LoopSt → LoopSt) (key : Nat) : (s.modLoop n f).q key = s.q key := rfl
@[simp] theorem State.modLoop_b (s : State) (n : Nat) (f : LoopSt → LoopSt) (key : Nat) : (s.modLoop n f).b key = s.b key := rfl
@[simp] theorem State.modLoop_bytes (s : State) (n : Nat) (f : LoopSt → LoopSt) (key : Nat) : (s.modLoop n f).bytes key = s.bytes key := rfl
@[simp] theorem State.modLoop_running (s : State) (n : Nat) (f : LoopSt → LoopSt) (key : Nat) : (s.modLoop n f).running key = s.running key := rfl
@[simp] theorem State.modLoop_standby (s : State) (n : Nat) (f : LoopSt → LoopSt) : (s.modLoop n f).standby = s.standby := rfl

/-! ### modPs -/

@[simp] theorem State.modPs_asBuilt (s : State) (n : Nat) (f : ProtStr → ProtStr) : (s.modPs n f).asBuilt = s.asBuilt := rfl
@[simp] theorem State.modPs_store (s : State) (n : Nat) (f : ProtStr → ProtStr) : (s.modPs n f).store = s.store := rfl
@[simp] theorem State.modPs_staged (s : State) (n : Nat) (f : ProtStr → ProtStr) : (s.modPs n f).staged = s.staged := rfl
@[simp] theorem State.modPs_pending (s : State) (n : Nat) (f : ProtStr → ProtStr) : (s.modPs n f).pending = s.pending := rfl
@[simp] theorem State.modPs_out (s : State) (n : Nat) (f : ProtStr → ProtStr) : (s.modPs n f).out = s.out := rfl
@[simp] theorem State.modPs_netSeq (s : State) (n : Nat) (f : ProtStr → ProtStr) : (s.modPs n f).netSeq = s.netSeq := rfl
@[simp] theorem State.modPs_free (s : State) (n : Nat) (f : ProtStr → ProtStr) : (s.modPs n f).free = s.free := rfl
@[simp] theorem State.modPs_time (s : State) (n : Nat) (f : ProtStr → ProtStr) : (s.modPs n f).time = s.time := rfl
@[simp] theorem State.modPs_exLog (s : State) (n : Nat) (f : ProtStr → ProtStr) : (s.modPs n f).exLog = s.exLog := rfl
@[simp] theorem State.modPs_exSlot (s : State) (n : Nat) (f : ProtStr → ProtStr) : (s.modPs n f).exSlot = s.exSlot := rfl
@[simp] theorem State.modPs_exNo (s : State) (n : Nat) (f : ProtStr → ProtStr) : (s.modPs n f).exNo = s.exNo := rfl
@[simp] theorem State.modPs_idp (s : State) (n : Nat) (f : ProtStr → ProtStr) : (s.modPs n f).idp = s.idp := rfl
@[simp] theorem State.modPs_safety (s : State) (n : Nat) (f : ProtStr → ProtStr) : (s.modPs n f).safety = s.safety := rfl
@[simp] theorem State.modPs_chain (s : State) (n : Nat) (f : ProtStr → ProtStr) : (s.modPs n f).chain = s.chain := rfl
@[simp] theorem State.modPs_sweep (s : State) (n : Nat) (f : ProtStr → ProtStr) : (s.modPs n f).sweep = s.sweep := rfl
@[simp] theorem State.modPs_est (s : State) (n : Nat) (f : ProtStr → ProtStr) : (s.modPs n f).est = s.est := rfl
@[simp] theorem State.modPs_custody (s : State) (n : Nat) (f : ProtStr → ProtStr) : (s.modPs n f).custody = s.custody := rfl
@[simp] theorem State.modPs_temp (s : State) (n : Nat) (f : ProtStr → ProtStr) : (s.modPs n f).temp = s.temp := rfl
@[simp] theorem State.modPs_can (s : State) (n : Nat) (f : ProtStr → ProtStr) : (s.modPs n f).can = s.can := rfl
@[simp] theorem State.modPs_field (s : State) (n : Nat) (f : ProtStr → ProtStr) : (s.modPs n f).field = s.field := rfl
@[simp] theorem State.modPs_loops (s : State) (n : Nat) (f : ProtStr → ProtStr) : (s.modPs n f).loops = s.loops := rfl
@[simp] theorem State.modPs_prot (s : State) (n : Nat) (f : ProtStr → ProtStr) : (s.modPs n f).prot = { s.prot with strs := s.prot.strs.set n (f (s.ps n)) } := rfl
@[simp] theorem State.modPs_disp (s : State) (n : Nat) (f : ProtStr → ProtStr) : (s.modPs n f).disp = s.disp := rfl
@[simp] theorem State.modPs_prog (s : State) (n : Nat) (f : ProtStr → ProtStr) : (s.modPs n f).prog = s.prog := rfl
@[simp] theorem State.modPs_duo (s : State) (n : Nat) (f : ProtStr → ProtStr) : (s.modPs n f).duo = s.duo := rfl
@[simp] theorem State.modPs_upd (s : State) (n : Nat) (f : ProtStr → ProtStr) : (s.modPs n f).upd = s.upd := rfl
@[simp] theorem State.modPs_pow (s : State) (n : Nat) (f : ProtStr → ProtStr) : (s.modPs n f).pow = s.pow := rfl
@[simp] theorem State.modPs_recorder (s : State) (n : Nat) (f : ProtStr → ProtStr) : (s.modPs n f).recorder = s.recorder := rfl
@[simp] theorem State.modPs_v (s : State) (n : Nat) (f : ProtStr → ProtStr) (key : Nat) : (s.modPs n f).v key = s.v key := rfl
@[simp] theorem State.modPs_n (s : State) (n : Nat) (f : ProtStr → ProtStr) (key : Nat) : (s.modPs n f).n key = s.n key := rfl
@[simp] theorem State.modPs_i (s : State) (n : Nat) (f : ProtStr → ProtStr) (key : Nat) : (s.modPs n f).i key = s.i key := rfl
@[simp] theorem State.modPs_q (s : State) (n : Nat) (f : ProtStr → ProtStr) (key : Nat) : (s.modPs n f).q key = s.q key := rfl
@[simp] theorem State.modPs_b (s : State) (n : Nat) (f : ProtStr → ProtStr) (key : Nat) : (s.modPs n f).b key = s.b key := rfl
@[simp] theorem State.modPs_bytes (s : State) (n : Nat) (f : ProtStr → ProtStr) (key : Nat) : (s.modPs n f).bytes key = s.bytes key := rfl
@[simp] theorem State.modPs_running (s : State) (n : Nat) (f : ProtStr → ProtStr) (key : Nat) : (s.modPs n f).running key = s.running key := rfl
@[simp] theorem State.modPs_standby (s : State) (n : Nat) (f : ProtStr → ProtStr) : (s.modPs n f).standby = s.standby := rfl

/-! ### modSafety -/

@[simp] theorem State.modSafety_asBuilt (s : State) (f : SafetySt → SafetySt) : (s.modSafety f).asBuilt = s.asBuilt := rfl
@[simp] theorem State.modSafety_store (s : State) (f : SafetySt → SafetySt) : (s.modSafety f).store = s.store := rfl
@[simp] theorem State.modSafety_staged (s : State) (f : SafetySt → SafetySt) : (s.modSafety f).staged = s.staged := rfl
@[simp] theorem State.modSafety_pending (s : State) (f : SafetySt → SafetySt) : (s.modSafety f).pending = s.pending := rfl
@[simp] theorem State.modSafety_out (s : State) (f : SafetySt → SafetySt) : (s.modSafety f).out = s.out := rfl
@[simp] theorem State.modSafety_netSeq (s : State) (f : SafetySt → SafetySt) : (s.modSafety f).netSeq = s.netSeq := rfl
@[simp] theorem State.modSafety_free (s : State) (f : SafetySt → SafetySt) : (s.modSafety f).free = s.free := rfl
@[simp] theorem State.modSafety_time (s : State) (f : SafetySt → SafetySt) : (s.modSafety f).time = s.time := rfl
@[simp] theorem State.modSafety_exLog (s : State) (f : SafetySt → SafetySt) : (s.modSafety f).exLog = s.exLog := rfl
@[simp] theorem State.modSafety_exSlot (s : State) (f : SafetySt → SafetySt) : (s.modSafety f).exSlot = s.exSlot := rfl
@[simp] theorem State.modSafety_exNo (s : State) (f : SafetySt → SafetySt) : (s.modSafety f).exNo = s.exNo := rfl
@[simp] theorem State.modSafety_idp (s : State) (f : SafetySt → SafetySt) : (s.modSafety f).idp = s.idp := rfl
@[simp] theorem State.modSafety_safety (s : State) (f : SafetySt → SafetySt) : (s.modSafety f).safety = f s.safety := rfl
@[simp] theorem State.modSafety_chain (s : State) (f : SafetySt → SafetySt) : (s.modSafety f).chain = s.chain := rfl
@[simp] theorem State.modSafety_sweep (s : State) (f : SafetySt → SafetySt) : (s.modSafety f).sweep = s.sweep := rfl
@[simp] theorem State.modSafety_est (s : State) (f : SafetySt → SafetySt) : (s.modSafety f).est = s.est := rfl
@[simp] theorem State.modSafety_custody (s : State) (f : SafetySt → SafetySt) : (s.modSafety f).custody = s.custody := rfl
@[simp] theorem State.modSafety_temp (s : State) (f : SafetySt → SafetySt) : (s.modSafety f).temp = s.temp := rfl
@[simp] theorem State.modSafety_can (s : State) (f : SafetySt → SafetySt) : (s.modSafety f).can = s.can := rfl
@[simp] theorem State.modSafety_field (s : State) (f : SafetySt → SafetySt) : (s.modSafety f).field = s.field := rfl
@[simp] theorem State.modSafety_loops (s : State) (f : SafetySt → SafetySt) : (s.modSafety f).loops = s.loops := rfl
@[simp] theorem State.modSafety_prot (s : State) (f : SafetySt → SafetySt) : (s.modSafety f).prot = s.prot := rfl
@[simp] theorem State.modSafety_disp (s : State) (f : SafetySt → SafetySt) : (s.modSafety f).disp = s.disp := rfl
@[simp] theorem State.modSafety_prog (s : State) (f : SafetySt → SafetySt) : (s.modSafety f).prog = s.prog := rfl
@[simp] theorem State.modSafety_duo (s : State) (f : SafetySt → SafetySt) : (s.modSafety f).duo = s.duo := rfl
@[simp] theorem State.modSafety_upd (s : State) (f : SafetySt → SafetySt) : (s.modSafety f).upd = s.upd := rfl
@[simp] theorem State.modSafety_pow (s : State) (f : SafetySt → SafetySt) : (s.modSafety f).pow = s.pow := rfl
@[simp] theorem State.modSafety_recorder (s : State) (f : SafetySt → SafetySt) : (s.modSafety f).recorder = s.recorder := rfl
@[simp] theorem State.modSafety_v (s : State) (f : SafetySt → SafetySt) (key : Nat) : (s.modSafety f).v key = s.v key := rfl
@[simp] theorem State.modSafety_n (s : State) (f : SafetySt → SafetySt) (key : Nat) : (s.modSafety f).n key = s.n key := rfl
@[simp] theorem State.modSafety_i (s : State) (f : SafetySt → SafetySt) (key : Nat) : (s.modSafety f).i key = s.i key := rfl
@[simp] theorem State.modSafety_q (s : State) (f : SafetySt → SafetySt) (key : Nat) : (s.modSafety f).q key = s.q key := rfl
@[simp] theorem State.modSafety_b (s : State) (f : SafetySt → SafetySt) (key : Nat) : (s.modSafety f).b key = s.b key := rfl
@[simp] theorem State.modSafety_bytes (s : State) (f : SafetySt → SafetySt) (key : Nat) : (s.modSafety f).bytes key = s.bytes key := rfl
@[simp] theorem State.modSafety_running (s : State) (f : SafetySt → SafetySt) (key : Nat) : (s.modSafety f).running key = s.running key := rfl
@[simp] theorem State.modSafety_standby (s : State) (f : SafetySt → SafetySt) : (s.modSafety f).standby = s.standby := rfl

/-! ### modSs -/

@[simp] theorem State.modSs_asBuilt (s : State) (n : Nat) (f : SafeStr → SafeStr) : (s.modSs n f).asBuilt = s.asBuilt := rfl
@[simp] theorem State.modSs_store (s : State) (n : Nat) (f : SafeStr → SafeStr) : (s.modSs n f).store = s.store := rfl
@[simp] theorem State.modSs_staged (s : State) (n : Nat) (f : SafeStr → SafeStr) : (s.modSs n f).staged = s.staged := rfl
@[simp] theorem State.modSs_pending (s : State) (n : Nat) (f : SafeStr → SafeStr) : (s.modSs n f).pending = s.pending := rfl
@[simp] theorem State.modSs_out (s : State) (n : Nat) (f : SafeStr → SafeStr) : (s.modSs n f).out = s.out := rfl
@[simp] theorem State.modSs_netSeq (s : State) (n : Nat) (f : SafeStr → SafeStr) : (s.modSs n f).netSeq = s.netSeq := rfl
@[simp] theorem State.modSs_free (s : State) (n : Nat) (f : SafeStr → SafeStr) : (s.modSs n f).free = s.free := rfl
@[simp] theorem State.modSs_time (s : State) (n : Nat) (f : SafeStr → SafeStr) : (s.modSs n f).time = s.time := rfl
@[simp] theorem State.modSs_exLog (s : State) (n : Nat) (f : SafeStr → SafeStr) : (s.modSs n f).exLog = s.exLog := rfl
@[simp] theorem State.modSs_exSlot (s : State) (n : Nat) (f : SafeStr → SafeStr) : (s.modSs n f).exSlot = s.exSlot := rfl
@[simp] theorem State.modSs_exNo (s : State) (n : Nat) (f : SafeStr → SafeStr) : (s.modSs n f).exNo = s.exNo := rfl
@[simp] theorem State.modSs_idp (s : State) (n : Nat) (f : SafeStr → SafeStr) : (s.modSs n f).idp = s.idp := rfl
@[simp] theorem State.modSs_safety (s : State) (n : Nat) (f : SafeStr → SafeStr) : (s.modSs n f).safety = { s.safety with strs := s.safety.strs.set n (f (s.ss n)) } := rfl
@[simp] theorem State.modSs_chain (s : State) (n : Nat) (f : SafeStr → SafeStr) : (s.modSs n f).chain = s.chain := rfl
@[simp] theorem State.modSs_sweep (s : State) (n : Nat) (f : SafeStr → SafeStr) : (s.modSs n f).sweep = s.sweep := rfl
@[simp] theorem State.modSs_est (s : State) (n : Nat) (f : SafeStr → SafeStr) : (s.modSs n f).est = s.est := rfl
@[simp] theorem State.modSs_custody (s : State) (n : Nat) (f : SafeStr → SafeStr) : (s.modSs n f).custody = s.custody := rfl
@[simp] theorem State.modSs_temp (s : State) (n : Nat) (f : SafeStr → SafeStr) : (s.modSs n f).temp = s.temp := rfl
@[simp] theorem State.modSs_can (s : State) (n : Nat) (f : SafeStr → SafeStr) : (s.modSs n f).can = s.can := rfl
@[simp] theorem State.modSs_field (s : State) (n : Nat) (f : SafeStr → SafeStr) : (s.modSs n f).field = s.field := rfl
@[simp] theorem State.modSs_loops (s : State) (n : Nat) (f : SafeStr → SafeStr) : (s.modSs n f).loops = s.loops := rfl
@[simp] theorem State.modSs_prot (s : State) (n : Nat) (f : SafeStr → SafeStr) : (s.modSs n f).prot = s.prot := rfl
@[simp] theorem State.modSs_disp (s : State) (n : Nat) (f : SafeStr → SafeStr) : (s.modSs n f).disp = s.disp := rfl
@[simp] theorem State.modSs_prog (s : State) (n : Nat) (f : SafeStr → SafeStr) : (s.modSs n f).prog = s.prog := rfl
@[simp] theorem State.modSs_duo (s : State) (n : Nat) (f : SafeStr → SafeStr) : (s.modSs n f).duo = s.duo := rfl
@[simp] theorem State.modSs_upd (s : State) (n : Nat) (f : SafeStr → SafeStr) : (s.modSs n f).upd = s.upd := rfl
@[simp] theorem State.modSs_pow (s : State) (n : Nat) (f : SafeStr → SafeStr) : (s.modSs n f).pow = s.pow := rfl
@[simp] theorem State.modSs_recorder (s : State) (n : Nat) (f : SafeStr → SafeStr) : (s.modSs n f).recorder = s.recorder := rfl
@[simp] theorem State.modSs_v (s : State) (n : Nat) (f : SafeStr → SafeStr) (key : Nat) : (s.modSs n f).v key = s.v key := rfl
@[simp] theorem State.modSs_n (s : State) (n : Nat) (f : SafeStr → SafeStr) (key : Nat) : (s.modSs n f).n key = s.n key := rfl
@[simp] theorem State.modSs_i (s : State) (n : Nat) (f : SafeStr → SafeStr) (key : Nat) : (s.modSs n f).i key = s.i key := rfl
@[simp] theorem State.modSs_q (s : State) (n : Nat) (f : SafeStr → SafeStr) (key : Nat) : (s.modSs n f).q key = s.q key := rfl
@[simp] theorem State.modSs_b (s : State) (n : Nat) (f : SafeStr → SafeStr) (key : Nat) : (s.modSs n f).b key = s.b key := rfl
@[simp] theorem State.modSs_bytes (s : State) (n : Nat) (f : SafeStr → SafeStr) (key : Nat) : (s.modSs n f).bytes key = s.bytes key := rfl
@[simp] theorem State.modSs_running (s : State) (n : Nat) (f : SafeStr → SafeStr) (key : Nat) : (s.modSs n f).running key = s.running key := rfl
@[simp] theorem State.modSs_standby (s : State) (n : Nat) (f : SafeStr → SafeStr) : (s.modSs n f).standby = s.standby := rfl

/-! ### modQsf -/

@[simp] theorem State.modQsf_asBuilt (s : State) (n : Nat) (f : QsfSt → QsfSt) : (s.modQsf n f).asBuilt = s.asBuilt := rfl
@[simp] theorem State.modQsf_store (s : State) (n : Nat) (f : QsfSt → QsfSt) : (s.modQsf n f).store = s.store := rfl
@[simp] theorem State.modQsf_staged (s : State) (n : Nat) (f : QsfSt → QsfSt) : (s.modQsf n f).staged = s.staged := rfl
@[simp] theorem State.modQsf_pending (s : State) (n : Nat) (f : QsfSt → QsfSt) : (s.modQsf n f).pending = s.pending := rfl
@[simp] theorem State.modQsf_out (s : State) (n : Nat) (f : QsfSt → QsfSt) : (s.modQsf n f).out = s.out := rfl
@[simp] theorem State.modQsf_netSeq (s : State) (n : Nat) (f : QsfSt → QsfSt) : (s.modQsf n f).netSeq = s.netSeq := rfl
@[simp] theorem State.modQsf_free (s : State) (n : Nat) (f : QsfSt → QsfSt) : (s.modQsf n f).free = s.free := rfl
@[simp] theorem State.modQsf_time (s : State) (n : Nat) (f : QsfSt → QsfSt) : (s.modQsf n f).time = s.time := rfl
@[simp] theorem State.modQsf_exLog (s : State) (n : Nat) (f : QsfSt → QsfSt) : (s.modQsf n f).exLog = s.exLog := rfl
@[simp] theorem State.modQsf_exSlot (s : State) (n : Nat) (f : QsfSt → QsfSt) : (s.modQsf n f).exSlot = s.exSlot := rfl
@[simp] theorem State.modQsf_exNo (s : State) (n : Nat) (f : QsfSt → QsfSt) : (s.modQsf n f).exNo = s.exNo := rfl
@[simp] theorem State.modQsf_idp (s : State) (n : Nat) (f : QsfSt → QsfSt) : (s.modQsf n f).idp = s.idp := rfl
@[simp] theorem State.modQsf_safety (s : State) (n : Nat) (f : QsfSt → QsfSt) : (s.modQsf n f).safety = { s.safety with qsf := s.safety.qsf.set n (f (s.qsf n)) } := rfl
@[simp] theorem State.modQsf_chain (s : State) (n : Nat) (f : QsfSt → QsfSt) : (s.modQsf n f).chain = s.chain := rfl
@[simp] theorem State.modQsf_sweep (s : State) (n : Nat) (f : QsfSt → QsfSt) : (s.modQsf n f).sweep = s.sweep := rfl
@[simp] theorem State.modQsf_est (s : State) (n : Nat) (f : QsfSt → QsfSt) : (s.modQsf n f).est = s.est := rfl
@[simp] theorem State.modQsf_custody (s : State) (n : Nat) (f : QsfSt → QsfSt) : (s.modQsf n f).custody = s.custody := rfl
@[simp] theorem State.modQsf_temp (s : State) (n : Nat) (f : QsfSt → QsfSt) : (s.modQsf n f).temp = s.temp := rfl
@[simp] theorem State.modQsf_can (s : State) (n : Nat) (f : QsfSt → QsfSt) : (s.modQsf n f).can = s.can := rfl
@[simp] theorem State.modQsf_field (s : State) (n : Nat) (f : QsfSt → QsfSt) : (s.modQsf n f).field = s.field := rfl
@[simp] theorem State.modQsf_loops (s : State) (n : Nat) (f : QsfSt → QsfSt) : (s.modQsf n f).loops = s.loops := rfl
@[simp] theorem State.modQsf_prot (s : State) (n : Nat) (f : QsfSt → QsfSt) : (s.modQsf n f).prot = s.prot := rfl
@[simp] theorem State.modQsf_disp (s : State) (n : Nat) (f : QsfSt → QsfSt) : (s.modQsf n f).disp = s.disp := rfl
@[simp] theorem State.modQsf_prog (s : State) (n : Nat) (f : QsfSt → QsfSt) : (s.modQsf n f).prog = s.prog := rfl
@[simp] theorem State.modQsf_duo (s : State) (n : Nat) (f : QsfSt → QsfSt) : (s.modQsf n f).duo = s.duo := rfl
@[simp] theorem State.modQsf_upd (s : State) (n : Nat) (f : QsfSt → QsfSt) : (s.modQsf n f).upd = s.upd := rfl
@[simp] theorem State.modQsf_pow (s : State) (n : Nat) (f : QsfSt → QsfSt) : (s.modQsf n f).pow = s.pow := rfl
@[simp] theorem State.modQsf_recorder (s : State) (n : Nat) (f : QsfSt → QsfSt) : (s.modQsf n f).recorder = s.recorder := rfl
@[simp] theorem State.modQsf_v (s : State) (n : Nat) (f : QsfSt → QsfSt) (key : Nat) : (s.modQsf n f).v key = s.v key := rfl
@[simp] theorem State.modQsf_n (s : State) (n : Nat) (f : QsfSt → QsfSt) (key : Nat) : (s.modQsf n f).n key = s.n key := rfl
@[simp] theorem State.modQsf_i (s : State) (n : Nat) (f : QsfSt → QsfSt) (key : Nat) : (s.modQsf n f).i key = s.i key := rfl
@[simp] theorem State.modQsf_q (s : State) (n : Nat) (f : QsfSt → QsfSt) (key : Nat) : (s.modQsf n f).q key = s.q key := rfl
@[simp] theorem State.modQsf_b (s : State) (n : Nat) (f : QsfSt → QsfSt) (key : Nat) : (s.modQsf n f).b key = s.b key := rfl
@[simp] theorem State.modQsf_bytes (s : State) (n : Nat) (f : QsfSt → QsfSt) (key : Nat) : (s.modQsf n f).bytes key = s.bytes key := rfl
@[simp] theorem State.modQsf_running (s : State) (n : Nat) (f : QsfSt → QsfSt) (key : Nat) : (s.modQsf n f).running key = s.running key := rfl
@[simp] theorem State.modQsf_standby (s : State) (n : Nat) (f : QsfSt → QsfSt) : (s.modQsf n f).standby = s.standby := rfl

/-! ### modDisp -/

@[simp] theorem State.modDisp_asBuilt (s : State) (f : DispSt → DispSt) : (s.modDisp f).asBuilt = s.asBuilt := rfl
@[simp] theorem State.modDisp_store (s : State) (f : DispSt → DispSt) : (s.modDisp f).store = s.store := rfl
@[simp] theorem State.modDisp_staged (s : State) (f : DispSt → DispSt) : (s.modDisp f).staged = s.staged := rfl
@[simp] theorem State.modDisp_pending (s : State) (f : DispSt → DispSt) : (s.modDisp f).pending = s.pending := rfl
@[simp] theorem State.modDisp_out (s : State) (f : DispSt → DispSt) : (s.modDisp f).out = s.out := rfl
@[simp] theorem State.modDisp_netSeq (s : State) (f : DispSt → DispSt) : (s.modDisp f).netSeq = s.netSeq := rfl
@[simp] theorem State.modDisp_free (s : State) (f : DispSt → DispSt) : (s.modDisp f).free = s.free := rfl
@[simp] theorem State.modDisp_time (s : State) (f : DispSt → DispSt) : (s.modDisp f).time = s.time := rfl
@[simp] theorem State.modDisp_exLog (s : State) (f : DispSt → DispSt) : (s.modDisp f).exLog = s.exLog := rfl
@[simp] theorem State.modDisp_exSlot (s : State) (f : DispSt → DispSt) : (s.modDisp f).exSlot = s.exSlot := rfl
@[simp] theorem State.modDisp_exNo (s : State) (f : DispSt → DispSt) : (s.modDisp f).exNo = s.exNo := rfl
@[simp] theorem State.modDisp_idp (s : State) (f : DispSt → DispSt) : (s.modDisp f).idp = s.idp := rfl
@[simp] theorem State.modDisp_safety (s : State) (f : DispSt → DispSt) : (s.modDisp f).safety = s.safety := rfl
@[simp] theorem State.modDisp_chain (s : State) (f : DispSt → DispSt) : (s.modDisp f).chain = s.chain := rfl
@[simp] theorem State.modDisp_sweep (s : State) (f : DispSt → DispSt) : (s.modDisp f).sweep = s.sweep := rfl
@[simp] theorem State.modDisp_est (s : State) (f : DispSt → DispSt) : (s.modDisp f).est = s.est := rfl
@[simp] theorem State.modDisp_custody (s : State) (f : DispSt → DispSt) : (s.modDisp f).custody = s.custody := rfl
@[simp] theorem State.modDisp_temp (s : State) (f : DispSt → DispSt) : (s.modDisp f).temp = s.temp := rfl
@[simp] theorem State.modDisp_can (s : State) (f : DispSt → DispSt) : (s.modDisp f).can = s.can := rfl
@[simp] theorem State.modDisp_field (s : State) (f : DispSt → DispSt) : (s.modDisp f).field = s.field := rfl
@[simp] theorem State.modDisp_loops (s : State) (f : DispSt → DispSt) : (s.modDisp f).loops = s.loops := rfl
@[simp] theorem State.modDisp_prot (s : State) (f : DispSt → DispSt) : (s.modDisp f).prot = s.prot := rfl
@[simp] theorem State.modDisp_disp (s : State) (f : DispSt → DispSt) : (s.modDisp f).disp = f s.disp := rfl
@[simp] theorem State.modDisp_prog (s : State) (f : DispSt → DispSt) : (s.modDisp f).prog = s.prog := rfl
@[simp] theorem State.modDisp_duo (s : State) (f : DispSt → DispSt) : (s.modDisp f).duo = s.duo := rfl
@[simp] theorem State.modDisp_upd (s : State) (f : DispSt → DispSt) : (s.modDisp f).upd = s.upd := rfl
@[simp] theorem State.modDisp_pow (s : State) (f : DispSt → DispSt) : (s.modDisp f).pow = s.pow := rfl
@[simp] theorem State.modDisp_recorder (s : State) (f : DispSt → DispSt) : (s.modDisp f).recorder = s.recorder := rfl
@[simp] theorem State.modDisp_v (s : State) (f : DispSt → DispSt) (key : Nat) : (s.modDisp f).v key = s.v key := rfl
@[simp] theorem State.modDisp_n (s : State) (f : DispSt → DispSt) (key : Nat) : (s.modDisp f).n key = s.n key := rfl
@[simp] theorem State.modDisp_i (s : State) (f : DispSt → DispSt) (key : Nat) : (s.modDisp f).i key = s.i key := rfl
@[simp] theorem State.modDisp_q (s : State) (f : DispSt → DispSt) (key : Nat) : (s.modDisp f).q key = s.q key := rfl
@[simp] theorem State.modDisp_b (s : State) (f : DispSt → DispSt) (key : Nat) : (s.modDisp f).b key = s.b key := rfl
@[simp] theorem State.modDisp_bytes (s : State) (f : DispSt → DispSt) (key : Nat) : (s.modDisp f).bytes key = s.bytes key := rfl
@[simp] theorem State.modDisp_running (s : State) (f : DispSt → DispSt) (key : Nat) : (s.modDisp f).running key = s.running key := rfl
@[simp] theorem State.modDisp_standby (s : State) (f : DispSt → DispSt) : (s.modDisp f).standby = s.standby := rfl

/-! ### modProg -/

@[simp] theorem State.modProg_asBuilt (s : State) (f : ProgSt → ProgSt) : (s.modProg f).asBuilt = s.asBuilt := rfl
@[simp] theorem State.modProg_store (s : State) (f : ProgSt → ProgSt) : (s.modProg f).store = s.store := rfl
@[simp] theorem State.modProg_staged (s : State) (f : ProgSt → ProgSt) : (s.modProg f).staged = s.staged := rfl
@[simp] theorem State.modProg_pending (s : State) (f : ProgSt → ProgSt) : (s.modProg f).pending = s.pending := rfl
@[simp] theorem State.modProg_out (s : State) (f : ProgSt → ProgSt) : (s.modProg f).out = s.out := rfl
@[simp] theorem State.modProg_netSeq (s : State) (f : ProgSt → ProgSt) : (s.modProg f).netSeq = s.netSeq := rfl
@[simp] theorem State.modProg_free (s : State) (f : ProgSt → ProgSt) : (s.modProg f).free = s.free := rfl
@[simp] theorem State.modProg_time (s : State) (f : ProgSt → ProgSt) : (s.modProg f).time = s.time := rfl
@[simp] theorem State.modProg_exLog (s : State) (f : ProgSt → ProgSt) : (s.modProg f).exLog = s.exLog := rfl
@[simp] theorem State.modProg_exSlot (s : State) (f : ProgSt → ProgSt) : (s.modProg f).exSlot = s.exSlot := rfl
@[simp] theorem State.modProg_exNo (s : State) (f : ProgSt → ProgSt) : (s.modProg f).exNo = s.exNo := rfl
@[simp] theorem State.modProg_idp (s : State) (f : ProgSt → ProgSt) : (s.modProg f).idp = s.idp := rfl
@[simp] theorem State.modProg_safety (s : State) (f : ProgSt → ProgSt) : (s.modProg f).safety = s.safety := rfl
@[simp] theorem State.modProg_chain (s : State) (f : ProgSt → ProgSt) : (s.modProg f).chain = s.chain := rfl
@[simp] theorem State.modProg_sweep (s : State) (f : ProgSt → ProgSt) : (s.modProg f).sweep = s.sweep := rfl
@[simp] theorem State.modProg_est (s : State) (f : ProgSt → ProgSt) : (s.modProg f).est = s.est := rfl
@[simp] theorem State.modProg_custody (s : State) (f : ProgSt → ProgSt) : (s.modProg f).custody = s.custody := rfl
@[simp] theorem State.modProg_temp (s : State) (f : ProgSt → ProgSt) : (s.modProg f).temp = s.temp := rfl
@[simp] theorem State.modProg_can (s : State) (f : ProgSt → ProgSt) : (s.modProg f).can = s.can := rfl
@[simp] theorem State.modProg_field (s : State) (f : ProgSt → ProgSt) : (s.modProg f).field = s.field := rfl
@[simp] theorem State.modProg_loops (s : State) (f : ProgSt → ProgSt) : (s.modProg f).loops = s.loops := rfl
@[simp] theorem State.modProg_prot (s : State) (f : ProgSt → ProgSt) : (s.modProg f).prot = s.prot := rfl
@[simp] theorem State.modProg_disp (s : State) (f : ProgSt → ProgSt) : (s.modProg f).disp = s.disp := rfl
@[simp] theorem State.modProg_prog (s : State) (f : ProgSt → ProgSt) : (s.modProg f).prog = f s.prog := rfl
@[simp] theorem State.modProg_duo (s : State) (f : ProgSt → ProgSt) : (s.modProg f).duo = s.duo := rfl
@[simp] theorem State.modProg_upd (s : State) (f : ProgSt → ProgSt) : (s.modProg f).upd = s.upd := rfl
@[simp] theorem State.modProg_pow (s : State) (f : ProgSt → ProgSt) : (s.modProg f).pow = s.pow := rfl
@[simp] theorem State.modProg_recorder (s : State) (f : ProgSt → ProgSt) : (s.modProg f).recorder = s.recorder := rfl
@[simp] theorem State.modProg_v (s : State) (f : ProgSt → ProgSt) (key : Nat) : (s.modProg f).v key = s.v key := rfl
@[simp] theorem State.modProg_n (s : State) (f : ProgSt → ProgSt) (key : Nat) : (s.modProg f).n key = s.n key := rfl
@[simp] theorem State.modProg_i (s : State) (f : ProgSt → ProgSt) (key : Nat) : (s.modProg f).i key = s.i key := rfl
@[simp] theorem State.modProg_q (s : State) (f : ProgSt → ProgSt) (key : Nat) : (s.modProg f).q key = s.q key := rfl
@[simp] theorem State.modProg_b (s : State) (f : ProgSt → ProgSt) (key : Nat) : (s.modProg f).b key = s.b key := rfl
@[simp] theorem State.modProg_bytes (s : State) (f : ProgSt → ProgSt) (key : Nat) : (s.modProg f).bytes key = s.bytes key := rfl
@[simp] theorem State.modProg_running (s : State) (f : ProgSt → ProgSt) (key : Nat) : (s.modProg f).running key = s.running key := rfl
@[simp] theorem State.modProg_standby (s : State) (f : ProgSt → ProgSt) : (s.modProg f).standby = s.standby := rfl

/-! ### modDuo -/

@[simp] theorem State.modDuo_asBuilt (s : State) (f : DuoSt → DuoSt) : (s.modDuo f).asBuilt = s.asBuilt := rfl
@[simp] theorem State.modDuo_store (s : State) (f : DuoSt → DuoSt) : (s.modDuo f).store = s.store := rfl
@[simp] theorem State.modDuo_staged (s : State) (f : DuoSt → DuoSt) : (s.modDuo f).staged = s.staged := rfl
@[simp] theorem State.modDuo_pending (s : State) (f : DuoSt → DuoSt) : (s.modDuo f).pending = s.pending := rfl
@[simp] theorem State.modDuo_out (s : State) (f : DuoSt → DuoSt) : (s.modDuo f).out = s.out := rfl
@[simp] theorem State.modDuo_netSeq (s : State) (f : DuoSt → DuoSt) : (s.modDuo f).netSeq = s.netSeq := rfl
@[simp] theorem State.modDuo_free (s : State) (f : DuoSt → DuoSt) : (s.modDuo f).free = s.free := rfl
@[simp] theorem State.modDuo_time (s : State) (f : DuoSt → DuoSt) : (s.modDuo f).time = s.time := rfl
@[simp] theorem State.modDuo_exLog (s : State) (f : DuoSt → DuoSt) : (s.modDuo f).exLog = s.exLog := rfl
@[simp] theorem State.modDuo_exSlot (s : State) (f : DuoSt → DuoSt) : (s.modDuo f).exSlot = s.exSlot := rfl
@[simp] theorem State.modDuo_exNo (s : State) (f : DuoSt → DuoSt) : (s.modDuo f).exNo = s.exNo := rfl
@[simp] theorem State.modDuo_idp (s : State) (f : DuoSt → DuoSt) : (s.modDuo f).idp = s.idp := rfl
@[simp] theorem State.modDuo_safety (s : State) (f : DuoSt → DuoSt) : (s.modDuo f).safety = s.safety := rfl
@[simp] theorem State.modDuo_chain (s : State) (f : DuoSt → DuoSt) : (s.modDuo f).chain = s.chain := rfl
@[simp] theorem State.modDuo_sweep (s : State) (f : DuoSt → DuoSt) : (s.modDuo f).sweep = s.sweep := rfl
@[simp] theorem State.modDuo_est (s : State) (f : DuoSt → DuoSt) : (s.modDuo f).est = s.est := rfl
@[simp] theorem State.modDuo_custody (s : State) (f : DuoSt → DuoSt) : (s.modDuo f).custody = s.custody := rfl
@[simp] theorem State.modDuo_temp (s : State) (f : DuoSt → DuoSt) : (s.modDuo f).temp = s.temp := rfl
@[simp] theorem State.modDuo_can (s : State) (f : DuoSt → DuoSt) : (s.modDuo f).can = s.can := rfl
@[simp] theorem State.modDuo_field (s : State) (f : DuoSt → DuoSt) : (s.modDuo f).field = s.field := rfl
@[simp] theorem State.modDuo_loops (s : State) (f : DuoSt → DuoSt) : (s.modDuo f).loops = s.loops := rfl
@[simp] theorem State.modDuo_prot (s : State) (f : DuoSt → DuoSt) : (s.modDuo f).prot = s.prot := rfl
@[simp] theorem State.modDuo_disp (s : State) (f : DuoSt → DuoSt) : (s.modDuo f).disp = s.disp := rfl
@[simp] theorem State.modDuo_prog (s : State) (f : DuoSt → DuoSt) : (s.modDuo f).prog = s.prog := rfl
@[simp] theorem State.modDuo_duo (s : State) (f : DuoSt → DuoSt) : (s.modDuo f).duo = f s.duo := rfl
@[simp] theorem State.modDuo_upd (s : State) (f : DuoSt → DuoSt) : (s.modDuo f).upd = s.upd := rfl
@[simp] theorem State.modDuo_pow (s : State) (f : DuoSt → DuoSt) : (s.modDuo f).pow = s.pow := rfl
@[simp] theorem State.modDuo_recorder (s : State) (f : DuoSt → DuoSt) : (s.modDuo f).recorder = s.recorder := rfl
@[simp] theorem State.modDuo_v (s : State) (f : DuoSt → DuoSt) (key : Nat) : (s.modDuo f).v key = s.v key := rfl
@[simp] theorem State.modDuo_n (s : State) (f : DuoSt → DuoSt) (key : Nat) : (s.modDuo f).n key = s.n key := rfl
@[simp] theorem State.modDuo_i (s : State) (f : DuoSt → DuoSt) (key : Nat) : (s.modDuo f).i key = s.i key := rfl
@[simp] theorem State.modDuo_q (s : State) (f : DuoSt → DuoSt) (key : Nat) : (s.modDuo f).q key = s.q key := rfl
@[simp] theorem State.modDuo_b (s : State) (f : DuoSt → DuoSt) (key : Nat) : (s.modDuo f).b key = s.b key := rfl
@[simp] theorem State.modDuo_bytes (s : State) (f : DuoSt → DuoSt) (key : Nat) : (s.modDuo f).bytes key = s.bytes key := rfl
@[simp] theorem State.modDuo_running (s : State) (f : DuoSt → DuoSt) (key : Nat) : (s.modDuo f).running key = s.running key := rfl
@[simp] theorem State.modDuo_standby (s : State) (f : DuoSt → DuoSt) : (s.modDuo f).standby = s.standby := rfl

/-! ### modIdp -/

@[simp] theorem State.modIdp_asBuilt (s : State) (f : IdpSt → IdpSt) : (s.modIdp f).asBuilt = s.asBuilt := rfl
@[simp] theorem State.modIdp_store (s : State) (f : IdpSt → IdpSt) : (s.modIdp f).store = s.store := rfl
@[simp] theorem State.modIdp_staged (s : State) (f : IdpSt → IdpSt) : (s.modIdp f).staged = s.staged := rfl
@[simp] theorem State.modIdp_pending (s : State) (f : IdpSt → IdpSt) : (s.modIdp f).pending = s.pending := rfl
@[simp] theorem State.modIdp_out (s : State) (f : IdpSt → IdpSt) : (s.modIdp f).out = s.out := rfl
@[simp] theorem State.modIdp_netSeq (s : State) (f : IdpSt → IdpSt) : (s.modIdp f).netSeq = s.netSeq := rfl
@[simp] theorem State.modIdp_free (s : State) (f : IdpSt → IdpSt) : (s.modIdp f).free = s.free := rfl
@[simp] theorem State.modIdp_time (s : State) (f : IdpSt → IdpSt) : (s.modIdp f).time = s.time := rfl
@[simp] theorem State.modIdp_exLog (s : State) (f : IdpSt → IdpSt) : (s.modIdp f).exLog = s.exLog := rfl
@[simp] theorem State.modIdp_exSlot (s : State) (f : IdpSt → IdpSt) : (s.modIdp f).exSlot = s.exSlot := rfl
@[simp] theorem State.modIdp_exNo (s : State) (f : IdpSt → IdpSt) : (s.modIdp f).exNo = s.exNo := rfl
@[simp] theorem State.modIdp_idp (s : State) (f : IdpSt → IdpSt) : (s.modIdp f).idp = f s.idp := rfl
@[simp] theorem State.modIdp_safety (s : State) (f : IdpSt → IdpSt) : (s.modIdp f).safety = s.safety := rfl
@[simp] theorem State.modIdp_chain (s : State) (f : IdpSt → IdpSt) : (s.modIdp f).chain = s.chain := rfl
@[simp] theorem State.modIdp_sweep (s : State) (f : IdpSt → IdpSt) : (s.modIdp f).sweep = s.sweep := rfl
@[simp] theorem State.modIdp_est (s : State) (f : IdpSt → IdpSt) : (s.modIdp f).est = s.est := rfl
@[simp] theorem State.modIdp_custody (s : State) (f : IdpSt → IdpSt) : (s.modIdp f).custody = s.custody := rfl
@[simp] theorem State.modIdp_temp (s : State) (f : IdpSt → IdpSt) : (s.modIdp f).temp = s.temp := rfl
@[simp] theorem State.modIdp_can (s : State) (f : IdpSt → IdpSt) : (s.modIdp f).can = s.can := rfl
@[simp] theorem State.modIdp_field (s : State) (f : IdpSt → IdpSt) : (s.modIdp f).field = s.field := rfl
@[simp] theorem State.modIdp_loops (s : State) (f : IdpSt → IdpSt) : (s.modIdp f).loops = s.loops := rfl
@[simp] theorem State.modIdp_prot (s : State) (f : IdpSt → IdpSt) : (s.modIdp f).prot = s.prot := rfl
@[simp] theorem State.modIdp_disp (s : State) (f : IdpSt → IdpSt) : (s.modIdp f).disp = s.disp := rfl
@[simp] theorem State.modIdp_prog (s : State) (f : IdpSt → IdpSt) : (s.modIdp f).prog = s.prog := rfl
@[simp] theorem State.modIdp_duo (s : State) (f : IdpSt → IdpSt) : (s.modIdp f).duo = s.duo := rfl
@[simp] theorem State.modIdp_upd (s : State) (f : IdpSt → IdpSt) : (s.modIdp f).upd = s.upd := rfl
@[simp] theorem State.modIdp_pow (s : State) (f : IdpSt → IdpSt) : (s.modIdp f).pow = s.pow := rfl
@[simp] theorem State.modIdp_recorder (s : State) (f : IdpSt → IdpSt) : (s.modIdp f).recorder = s.recorder := rfl
@[simp] theorem State.modIdp_v (s : State) (f : IdpSt → IdpSt) (key : Nat) : (s.modIdp f).v key = s.v key := rfl
@[simp] theorem State.modIdp_n (s : State) (f : IdpSt → IdpSt) (key : Nat) : (s.modIdp f).n key = s.n key := rfl
@[simp] theorem State.modIdp_i (s : State) (f : IdpSt → IdpSt) (key : Nat) : (s.modIdp f).i key = s.i key := rfl
@[simp] theorem State.modIdp_q (s : State) (f : IdpSt → IdpSt) (key : Nat) : (s.modIdp f).q key = s.q key := rfl
@[simp] theorem State.modIdp_b (s : State) (f : IdpSt → IdpSt) (key : Nat) : (s.modIdp f).b key = s.b key := rfl
@[simp] theorem State.modIdp_bytes (s : State) (f : IdpSt → IdpSt) (key : Nat) : (s.modIdp f).bytes key = s.bytes key := rfl
@[simp] theorem State.modIdp_running (s : State) (f : IdpSt → IdpSt) (key : Nat) : (s.modIdp f).running key = s.running key := rfl
@[simp] theorem State.modIdp_standby (s : State) (f : IdpSt → IdpSt) : (s.modIdp f).standby = s.standby := rfl

/-! ### modPow -/

@[simp] theorem State.modPow_asBuilt (s : State) (f : PowSt → PowSt) : (s.modPow f).asBuilt = s.asBuilt := rfl
@[simp] theorem State.modPow_store (s : State) (f : PowSt → PowSt) : (s.modPow f).store = s.store := rfl
@[simp] theorem State.modPow_staged (s : State) (f : PowSt → PowSt) : (s.modPow f).staged = s.staged := rfl
@[simp] theorem State.modPow_pending (s : State) (f : PowSt → PowSt) : (s.modPow f).pending = s.pending := rfl
@[simp] theorem State.modPow_out (s : State) (f : PowSt → PowSt) : (s.modPow f).out = s.out := rfl
@[simp] theorem State.modPow_netSeq (s : State) (f : PowSt → PowSt) : (s.modPow f).netSeq = s.netSeq := rfl
@[simp] theorem State.modPow_free (s : State) (f : PowSt → PowSt) : (s.modPow f).free = s.free := rfl
@[simp] theorem State.modPow_time (s : State) (f : PowSt → PowSt) : (s.modPow f).time = s.time := rfl
@[simp] theorem State.modPow_exLog (s : State) (f : PowSt → PowSt) : (s.modPow f).exLog = s.exLog := rfl
@[simp] theorem State.modPow_exSlot (s : State) (f : PowSt → PowSt) : (s.modPow f).exSlot = s.exSlot := rfl
@[simp] theorem State.modPow_exNo (s : State) (f : PowSt → PowSt) : (s.modPow f).exNo = s.exNo := rfl
@[simp] theorem State.modPow_idp (s : State) (f : PowSt → PowSt) : (s.modPow f).idp = s.idp := rfl
@[simp] theorem State.modPow_safety (s : State) (f : PowSt → PowSt) : (s.modPow f).safety = s.safety := rfl
@[simp] theorem State.modPow_chain (s : State) (f : PowSt → PowSt) : (s.modPow f).chain = s.chain := rfl
@[simp] theorem State.modPow_sweep (s : State) (f : PowSt → PowSt) : (s.modPow f).sweep = s.sweep := rfl
@[simp] theorem State.modPow_est (s : State) (f : PowSt → PowSt) : (s.modPow f).est = s.est := rfl
@[simp] theorem State.modPow_custody (s : State) (f : PowSt → PowSt) : (s.modPow f).custody = s.custody := rfl
@[simp] theorem State.modPow_temp (s : State) (f : PowSt → PowSt) : (s.modPow f).temp = s.temp := rfl
@[simp] theorem State.modPow_can (s : State) (f : PowSt → PowSt) : (s.modPow f).can = s.can := rfl
@[simp] theorem State.modPow_field (s : State) (f : PowSt → PowSt) : (s.modPow f).field = s.field := rfl
@[simp] theorem State.modPow_loops (s : State) (f : PowSt → PowSt) : (s.modPow f).loops = s.loops := rfl
@[simp] theorem State.modPow_prot (s : State) (f : PowSt → PowSt) : (s.modPow f).prot = s.prot := rfl
@[simp] theorem State.modPow_disp (s : State) (f : PowSt → PowSt) : (s.modPow f).disp = s.disp := rfl
@[simp] theorem State.modPow_prog (s : State) (f : PowSt → PowSt) : (s.modPow f).prog = s.prog := rfl
@[simp] theorem State.modPow_duo (s : State) (f : PowSt → PowSt) : (s.modPow f).duo = s.duo := rfl
@[simp] theorem State.modPow_upd (s : State) (f : PowSt → PowSt) : (s.modPow f).upd = s.upd := rfl
@[simp] theorem State.modPow_pow (s : State) (f : PowSt → PowSt) : (s.modPow f).pow = f s.pow := rfl
@[simp] theorem State.modPow_recorder (s : State) (f : PowSt → PowSt) : (s.modPow f).recorder = s.recorder := rfl
@[simp] theorem State.modPow_v (s : State) (f : PowSt → PowSt) (key : Nat) : (s.modPow f).v key = s.v key := rfl
@[simp] theorem State.modPow_n (s : State) (f : PowSt → PowSt) (key : Nat) : (s.modPow f).n key = s.n key := rfl
@[simp] theorem State.modPow_i (s : State) (f : PowSt → PowSt) (key : Nat) : (s.modPow f).i key = s.i key := rfl
@[simp] theorem State.modPow_q (s : State) (f : PowSt → PowSt) (key : Nat) : (s.modPow f).q key = s.q key := rfl
@[simp] theorem State.modPow_b (s : State) (f : PowSt → PowSt) (key : Nat) : (s.modPow f).b key = s.b key := rfl
@[simp] theorem State.modPow_bytes (s : State) (f : PowSt → PowSt) (key : Nat) : (s.modPow f).bytes key = s.bytes key := rfl
@[simp] theorem State.modPow_running (s : State) (f : PowSt → PowSt) (key : Nat) : (s.modPow f).running key = s.running key := rfl
@[simp] theorem State.modPow_standby (s : State) (f : PowSt → PowSt) : (s.modPow f).standby = s.standby := rfl

/-! ### modUpd -/

@[simp] theorem State.modUpd_asBuilt (s : State) (f : UpdSt → UpdSt) : (s.modUpd f).asBuilt = s.asBuilt := rfl
@[simp] theorem State.modUpd_store (s : State) (f : UpdSt → UpdSt) : (s.modUpd f).store = s.store := rfl
@[simp] theorem State.modUpd_staged (s : State) (f : UpdSt → UpdSt) : (s.modUpd f).staged = s.staged := rfl
@[simp] theorem State.modUpd_pending (s : State) (f : UpdSt → UpdSt) : (s.modUpd f).pending = s.pending := rfl
@[simp] theorem State.modUpd_out (s : State) (f : UpdSt → UpdSt) : (s.modUpd f).out = s.out := rfl
@[simp] theorem State.modUpd_netSeq (s : State) (f : UpdSt → UpdSt) : (s.modUpd f).netSeq = s.netSeq := rfl
@[simp] theorem State.modUpd_free (s : State) (f : UpdSt → UpdSt) : (s.modUpd f).free = s.free := rfl
@[simp] theorem State.modUpd_time (s : State) (f : UpdSt → UpdSt) : (s.modUpd f).time = s.time := rfl
@[simp] theorem State.modUpd_exLog (s : State) (f : UpdSt → UpdSt) : (s.modUpd f).exLog = s.exLog := rfl
@[simp] theorem State.modUpd_exSlot (s : State) (f : UpdSt → UpdSt) : (s.modUpd f).exSlot = s.exSlot := rfl
@[simp] theorem State.modUpd_exNo (s : State) (f : UpdSt → UpdSt) : (s.modUpd f).exNo = s.exNo := rfl
@[simp] theorem State.modUpd_idp (s : State) (f : UpdSt → UpdSt) : (s.modUpd f).idp = s.idp := rfl
@[simp] theorem State.modUpd_safety (s : State) (f : UpdSt → UpdSt) : (s.modUpd f).safety = s.safety := rfl
@[simp] theorem State.modUpd_chain (s : State) (f : UpdSt → UpdSt) : (s.modUpd f).chain = s.chain := rfl
@[simp] theorem State.modUpd_sweep (s : State) (f : UpdSt → UpdSt) : (s.modUpd f).sweep = s.sweep := rfl
@[simp] theorem State.modUpd_est (s : State) (f : UpdSt → UpdSt) : (s.modUpd f).est = s.est := rfl
@[simp] theorem State.modUpd_custody (s : State) (f : UpdSt → UpdSt) : (s.modUpd f).custody = s.custody := rfl
@[simp] theorem State.modUpd_temp (s : State) (f : UpdSt → UpdSt) : (s.modUpd f).temp = s.temp := rfl
@[simp] theorem State.modUpd_can (s : State) (f : UpdSt → UpdSt) : (s.modUpd f).can = s.can := rfl
@[simp] theorem State.modUpd_field (s : State) (f : UpdSt → UpdSt) : (s.modUpd f).field = s.field := rfl
@[simp] theorem State.modUpd_loops (s : State) (f : UpdSt → UpdSt) : (s.modUpd f).loops = s.loops := rfl
@[simp] theorem State.modUpd_prot (s : State) (f : UpdSt → UpdSt) : (s.modUpd f).prot = s.prot := rfl
@[simp] theorem State.modUpd_disp (s : State) (f : UpdSt → UpdSt) : (s.modUpd f).disp = s.disp := rfl
@[simp] theorem State.modUpd_prog (s : State) (f : UpdSt → UpdSt) : (s.modUpd f).prog = s.prog := rfl
@[simp] theorem State.modUpd_duo (s : State) (f : UpdSt → UpdSt) : (s.modUpd f).duo = s.duo := rfl
@[simp] theorem State.modUpd_upd (s : State) (f : UpdSt → UpdSt) : (s.modUpd f).upd = f s.upd := rfl
@[simp] theorem State.modUpd_pow (s : State) (f : UpdSt → UpdSt) : (s.modUpd f).pow = s.pow := rfl
@[simp] theorem State.modUpd_recorder (s : State) (f : UpdSt → UpdSt) : (s.modUpd f).recorder = s.recorder := rfl
@[simp] theorem State.modUpd_v (s : State) (f : UpdSt → UpdSt) (key : Nat) : (s.modUpd f).v key = s.v key := rfl
@[simp] theorem State.modUpd_n (s : State) (f : UpdSt → UpdSt) (key : Nat) : (s.modUpd f).n key = s.n key := rfl
@[simp] theorem State.modUpd_i (s : State) (f : UpdSt → UpdSt) (key : Nat) : (s.modUpd f).i key = s.i key := rfl
@[simp] theorem State.modUpd_q (s : State) (f : UpdSt → UpdSt) (key : Nat) : (s.modUpd f).q key = s.q key := rfl
@[simp] theorem State.modUpd_b (s : State) (f : UpdSt → UpdSt) (key : Nat) : (s.modUpd f).b key = s.b key := rfl
@[simp] theorem State.modUpd_bytes (s : State) (f : UpdSt → UpdSt) (key : Nat) : (s.modUpd f).bytes key = s.bytes key := rfl
@[simp] theorem State.modUpd_running (s : State) (f : UpdSt → UpdSt) (key : Nat) : (s.modUpd f).running key = s.running key := rfl
@[simp] theorem State.modUpd_standby (s : State) (f : UpdSt → UpdSt) : (s.modUpd f).standby = s.standby := rfl

/-! ### modRecorder -/

@[simp] theorem State.modRecorder_asBuilt (s : State) (f : RecSt → RecSt) : (s.modRecorder f).asBuilt = s.asBuilt := rfl
@[simp] theorem State.modRecorder_store (s : State) (f : RecSt → RecSt) : (s.modRecorder f).store = s.store := rfl
@[simp] theorem State.modRecorder_staged (s : State) (f : RecSt → RecSt) : (s.modRecorder f).staged = s.staged := rfl
@[simp] theorem State.modRecorder_pending (s : State) (f : RecSt → RecSt) : (s.modRecorder f).pending = s.pending := rfl
@[simp] theorem State.modRecorder_out (s : State) (f : RecSt → RecSt) : (s.modRecorder f).out = s.out := rfl
@[simp] theorem State.modRecorder_netSeq (s : State) (f : RecSt → RecSt) : (s.modRecorder f).netSeq = s.netSeq := rfl
@[simp] theorem State.modRecorder_free (s : State) (f : RecSt → RecSt) : (s.modRecorder f).free = s.free := rfl
@[simp] theorem State.modRecorder_time (s : State) (f : RecSt → RecSt) : (s.modRecorder f).time = s.time := rfl
@[simp] theorem State.modRecorder_exLog (s : State) (f : RecSt → RecSt) : (s.modRecorder f).exLog = s.exLog := rfl
@[simp] theorem State.modRecorder_exSlot (s : State) (f : RecSt → RecSt) : (s.modRecorder f).exSlot = s.exSlot := rfl
@[simp] theorem State.modRecorder_exNo (s : State) (f : RecSt → RecSt) : (s.modRecorder f).exNo = s.exNo := rfl
@[simp] theorem State.modRecorder_idp (s : State) (f : RecSt → RecSt) : (s.modRecorder f).idp = s.idp := rfl
@[simp] theorem State.modRecorder_safety (s : State) (f : RecSt → RecSt) : (s.modRecorder f).safety = s.safety := rfl
@[simp] theorem State.modRecorder_chain (s : State) (f : RecSt → RecSt) : (s.modRecorder f).chain = s.chain := rfl
@[simp] theorem State.modRecorder_sweep (s : State) (f : RecSt → RecSt) : (s.modRecorder f).sweep = s.sweep := rfl
@[simp] theorem State.modRecorder_est (s : State) (f : RecSt → RecSt) : (s.modRecorder f).est = s.est := rfl
@[simp] theorem State.modRecorder_custody (s : State) (f : RecSt → RecSt) : (s.modRecorder f).custody = s.custody := rfl
@[simp] theorem State.modRecorder_temp (s : State) (f : RecSt → RecSt) : (s.modRecorder f).temp = s.temp := rfl
@[simp] theorem State.modRecorder_can (s : State) (f : RecSt → RecSt) : (s.modRecorder f).can = s.can := rfl
@[simp] theorem State.modRecorder_field (s : State) (f : RecSt → RecSt) : (s.modRecorder f).field = s.field := rfl
@[simp] theorem State.modRecorder_loops (s : State) (f : RecSt → RecSt) : (s.modRecorder f).loops = s.loops := rfl
@[simp] theorem State.modRecorder_prot (s : State) (f : RecSt → RecSt) : (s.modRecorder f).prot = s.prot := rfl
@[simp] theorem State.modRecorder_disp (s : State) (f : RecSt → RecSt) : (s.modRecorder f).disp = s.disp := rfl
@[simp] theorem State.modRecorder_prog (s : State) (f : RecSt → RecSt) : (s.modRecorder f).prog = s.prog := rfl
@[simp] theorem State.modRecorder_duo (s : State) (f : RecSt → RecSt) : (s.modRecorder f).duo = s.duo := rfl
@[simp] theorem State.modRecorder_upd (s : State) (f : RecSt → RecSt) : (s.modRecorder f).upd = s.upd := rfl
@[simp] theorem State.modRecorder_pow (s : State) (f : RecSt → RecSt) : (s.modRecorder f).pow = s.pow := rfl
@[simp] theorem State.modRecorder_recorder (s : State) (f : RecSt → RecSt) : (s.modRecorder f).recorder = f s.recorder := rfl
@[simp] theorem State.modRecorder_v (s : State) (f : RecSt → RecSt) (key : Nat) : (s.modRecorder f).v key = s.v key := rfl
@[simp] theorem State.modRecorder_n (s : State) (f : RecSt → RecSt) (key : Nat) : (s.modRecorder f).n key = s.n key := rfl
@[simp] theorem State.modRecorder_i (s : State) (f : RecSt → RecSt) (key : Nat) : (s.modRecorder f).i key = s.i key := rfl
@[simp] theorem State.modRecorder_q (s : State) (f : RecSt → RecSt) (key : Nat) : (s.modRecorder f).q key = s.q key := rfl
@[simp] theorem State.modRecorder_b (s : State) (f : RecSt → RecSt) (key : Nat) : (s.modRecorder f).b key = s.b key := rfl
@[simp] theorem State.modRecorder_bytes (s : State) (f : RecSt → RecSt) (key : Nat) : (s.modRecorder f).bytes key = s.bytes key := rfl
@[simp] theorem State.modRecorder_running (s : State) (f : RecSt → RecSt) (key : Nat) : (s.modRecorder f).running key = s.running key := rfl
@[simp] theorem State.modRecorder_standby (s : State) (f : RecSt → RecSt) : (s.modRecorder f).standby = s.standby := rfl

end Sys2Proof.Machine
end

