-- ==== Sys2Proof/Laws/Store.lean ====
section
/-!
SUPPORT. The object store: reading after writing, and the canonical form that every write keeps.
-/

namespace Sys2Proof.Machine

/-! ### Association lists -/

variable {α : Type}

theorem amGet_amErase (m : List (Nat × α)) (k k' : Nat) :
    amGet? (amErase m k) k' = if k' = k then none else amGet? m k' := by
  induction m with
  | nil => simp [amErase, amGet?]
  | cons x r ih =>
    obtain ⟨a, v⟩ := x
    by_cases ha : a = k
    · subst ha
      by_cases hk : k' = a
      · simpa [amErase, hk] using ih
      · have : ¬ a = k' := fun h => hk h.symm
        simp [amErase, ih, hk, amGet?, this]
    · by_cases hk : k' = k
      · subst hk
        simp [amErase, amGet?, ha, ih]
      · simp [amErase, amGet?, ha, ih, hk]

theorem amGet_amSet (m : List (Nat × α)) (k k' : Nat) (w : α) :
    amGet? (amSet m k w) k' = if k' = k then some w else amGet? m k' := by
  induction m with
  | nil =>
    by_cases hk : k' = k
    · simp [amSet, amGet?, hk]
    · have : ¬ k = k' := fun h => hk h.symm
      simp [amSet, amGet?, hk, this]
  | cons x r ih =>
    obtain ⟨a, v⟩ := x
    by_cases ha : a = k
    · subst ha
      by_cases hk : k' = a
      · simp [amSet, amGet?, hk]
      · have : ¬ a = k' := fun h => hk h.symm
        simp [amSet, amGet?, hk, this]
    · by_cases hlt : k < a
      · by_cases hk : k' = k
        · simp [amSet, ha, hlt, amGet?, hk]
        · have : ¬ k = k' := fun h => hk h.symm
          simp [amSet, ha, hlt, amGet?, hk, this]
      · by_cases hk : k' = k
        · subst hk
          simp [amSet, ha, hlt, amGet?, ih]
        · simp [amSet, ha, hlt, amGet?, ih, hk]

/-- Sorted above a bound is sorted above any lower one. -/
theorem amSorted_mono {m : List (Nat × α)} {a b : Nat} (h : amSorted (some b) m = true) (hab : a ≤ b) :
    amSorted (some a) m = true := by
  cases m with
  | nil => rfl
  | cons x r =>
    obtain ⟨k, v⟩ := x
    simp only [amSorted, Bool.and_eq_true, decide_eq_true_eq] at h ⊢
    exact ⟨by omega, h.2⟩

theorem amSorted_none {m : List (Nat × α)} {a : Nat} (h : amSorted (some a) m = true) : amSorted none m = true := by
  cases m with
  | nil => rfl
  | cons x r =>
    obtain ⟨k, v⟩ := x
    simp only [amSorted, Bool.and_eq_true, decide_eq_true_eq] at h ⊢
    exact ⟨trivial, h.2⟩

theorem amSorted_amErase_some (m : List (Nat × α)) (k a : Nat) (h : amSorted (some a) m = true) :
    amSorted (some a) (amErase m k) = true := by
  induction m generalizing a with
  | nil => rfl
  | cons x r ih =>
    obtain ⟨b, v⟩ := x
    simp only [amSorted, Bool.and_eq_true, decide_eq_true_eq] at h
    by_cases hb : b = k
    · simp only [amErase, hb, if_true]
      exact ih a (amSorted_mono h.2 (by omega))
    · simp only [amErase, hb, if_false, amSorted, Bool.and_eq_true, decide_eq_true_eq]
      exact ⟨h.1, ih b h.2⟩

theorem amSorted_amErase (m : List (Nat × α)) (k : Nat) (h : amSorted none m = true) :
    amSorted none (amErase m k) = true := by
  cases m with
  | nil => rfl
  | cons x r =>
    obtain ⟨b, v⟩ := x
    simp only [amSorted, Bool.and_eq_true] at h
    by_cases hb : b = k
    · simp only [amErase, hb, if_true]
      exact amSorted_none (amSorted_amErase_some r k k (hb ▸ h.2))
    · simp only [amErase, hb, if_false, amSorted, Bool.and_eq_true]
      exact ⟨trivial, amSorted_amErase_some r k b h.2⟩

theorem amSorted_amSet_some (m : List (Nat × α)) (k a : Nat) (w : α) (h : amSorted (some a) m = true) (hk : a < k) :
    amSorted (some a) (amSet m k w) = true := by
  induction m generalizing a with
  | nil => simp [amSet, amSorted, hk]
  | cons x r ih =>
    obtain ⟨b, v⟩ := x
    simp only [amSorted, Bool.and_eq_true, decide_eq_true_eq] at h
    by_cases hb : b = k
    · subst hb
      simp [amSet, amSorted, hk, h.2]
    · by_cases hlt : k < b
      · simp [amSet, hb, hlt, amSorted, hk, h.2]
      · simp only [amSet, hb, hlt, if_false, amSorted, Bool.and_eq_true, decide_eq_true_eq]
        exact ⟨h.1, ih b h.2 (by omega)⟩

theorem amSorted_amSet (m : List (Nat × α)) (k : Nat) (w : α) (h : amSorted none m = true) :
    amSorted none (amSet m k w) = true := by
  cases m with
  | nil => simp [amSet, amSorted]
  | cons x r =>
    obtain ⟨b, v⟩ := x
    simp only [amSorted, Bool.and_eq_true] at h
    by_cases hb : b = k
    · subst hb
      simp [amSet, amSorted, h.2]
    · by_cases hlt : k < b
      · simp [amSet, hb, hlt, amSorted, h.2]
      · simp only [amSet, hb, hlt, if_false, amSorted, Bool.and_eq_true]
        exact ⟨trivial, amSorted_amSet_some r k b w h.2 (by omega)⟩

theorem mem_amErase {m : List (Nat × α)} {k : Nat} {x : Nat × α} (h : x ∈ amErase m k) : x ∈ m := by
  induction m with
  | nil => simp [amErase] at h
  | cons y r ih =>
    obtain ⟨b, v⟩ := y
    by_cases hb : b = k
    · simp only [amErase, hb, if_true] at h
      exact List.mem_cons_of_mem _ (ih h)
    · simp only [amErase, hb, if_false, List.mem_cons] at h
      rcases h with h | h
      · simp [h]
      · exact List.mem_cons_of_mem _ (ih h)

theorem mem_amSet {m : List (Nat × α)} {k : Nat} {w : α} {x : Nat × α} (h : x ∈ amSet m k w) :
    x = (k, w) ∨ x ∈ m := by
  induction m with
  | nil => simp [amSet] at h; exact .inl h
  | cons y r ih =>
    obtain ⟨b, v⟩ := y
    by_cases hb : b = k
    · simp only [amSet, hb, if_true, List.mem_cons] at h
      rcases h with h | h
      · exact .inl h
      · exact .inr (List.mem_cons_of_mem _ h)
    · by_cases hlt : k < b
      · simp only [amSet, hb, hlt, if_false, if_true, List.mem_cons] at h
        rcases h with h | h
        · exact .inl h
        · exact .inr (by simpa using h)
      · simp only [amSet, hb, hlt, if_false, List.mem_cons] at h
        rcases h with h | h
        · exact .inr (by simp [h])
        · rcases ih h with h | h
          · exact .inl h
          · exact .inr (List.mem_cons_of_mem _ h)

/-! ### Objects: reading after writing -/

theorem State.v_put (s : State) (k k' : Nat) (v : Val) : (s.put k v).v k' = if k' = k then v else s.v k' := by
  unfold State.v State.put storePut
  by_cases hd : v = objDefault s.asBuilt k
  · by_cases hk : k' = k
    · simp [hd, amGet_amErase, hk]
    · simp [hd, amGet_amErase, hk]
  · by_cases hk : k' = k
    · simp [hd, amGet_amSet, hk]
    · simp [hd, amGet_amSet, hk]

@[simp] theorem State.v_put_self (s : State) (k : Nat) (v : Val) : (s.put k v).v k = v := by simp [State.v_put]

theorem State.v_put_of_ne {s : State} {k k' : Nat} {v : Val} (h : k' ≠ k) : (s.put k v).v k' = s.v k' := by
  simp [State.v_put, h]

theorem State.v_putN (s : State) (k n k' : Nat) : (s.putN k n).v k' = if k' = k then .int n else s.v k' := State.v_put s k k' _
theorem State.v_putI (s : State) (k : Nat) (i : Int) (k' : Nat) : (s.putI k i).v k' = if k' = k then .int i else s.v k' :=
  State.v_put s k k' _
theorem State.v_putQ (s : State) (k : Nat) (q : Rat) (k' : Nat) : (s.putQ k q).v k' = if k' = k then .real q else s.v k' :=
  State.v_put s k k' _
theorem State.v_putB (s : State) (k : Nat) (b : Bool) (k' : Nat) : (s.putB k b).v k' = if k' = k then .int (b2n b) else s.v k' :=
  State.v_put s k k' _
theorem State.v_putBytes (s : State) (k : Nat) (b : Bytes) (k' : Nat) :
    (s.putBytes k b).v k' = if k' = k then .bytes b else s.v k' := State.v_put s k k' _

theorem State.n_putN (s : State) (k n k' : Nat) : (s.putN k n).n k' = if k' = k then n else s.n k' := by
  unfold State.n; rw [State.v_putN]; split <;> simp [Val.toNat, Val.toInt]

@[simp] theorem State.n_putN_self (s : State) (k n : Nat) : (s.putN k n).n k = n := by simp [State.n_putN]

theorem State.n_putN_of_ne {s : State} {k k' n : Nat} (h : k' ≠ k) : (s.putN k n).n k' = s.n k' := by simp [State.n_putN, h]

@[simp] theorem State.b_putB_self (s : State) (k : Nat) (b : Bool) : (s.putB k b).b k = b := by
  unfold State.b State.putB; cases b <;> simp [b2n]

/-- An object is read from the store and the module as built alone. -/
theorem State.v_congr {s t : State} (h : s.store = t.store) (ha : s.asBuilt = t.asBuilt) (k : Nat) : s.v k = t.v k := by
  unfold State.v; rw [h, ha]

/-! ### The canonical form -/

theorem storeWf_storePut {a : AsBuilt} {st : List (Nat × Val)} (h : storeWf a st = true) (k : Nat) (v : Val) :
    storeWf a (storePut a st k v) = true := by
  simp only [storeWf, Bool.and_eq_true, List.all_eq_true] at h ⊢
  unfold storePut
  by_cases hd : v = objDefault a k
  · rw [if_pos hd]
    exact ⟨amSorted_amErase st k h.1, fun x hx => h.2 x (mem_amErase hx)⟩
  · rw [if_neg hd]
    refine ⟨amSorted_amSet st k v h.1, fun x hx => ?_⟩
    rcases mem_amSet hx with hx | hx
    · subst hx; simpa using hd
    · exact h.2 x hx

theorem State.storeWf_put {s : State} (h : storeWf s.asBuilt s.store = true) (k : Nat) (v : Val) :
    storeWf (s.put k v).asBuilt (s.put k v).store = true := storeWf_storePut h k v

end Sys2Proof.Machine
end

