-- ==== Sys2Proof/Laws/Command.lean ====
section
/-!
SUPPORT. The form of every command: what its beginning and its end leave, when its power or its resource is there, and the
pads that its end drives.
-/

namespace Sys2Proof.Machine

/-! ### Bits -/

theorem maskOf_lt (n : Nat) (f : Nat → Bool) : maskOf n f < 2 ^ n := by
  induction n with
  | zero => simp [maskOf]
  | succ n ih => simp only [maskOf]; split <;> omega

theorem bitOf_of_lt {m i j : Nat} (h : m < 2 ^ i) (hij : i ≤ j) : bitOf m j = false := by
  have h2 : m < 2 ^ j := lt_of_lt_of_le h (Nat.pow_le_pow_right (by omega) hij)
  simp [bitOf, Nat.div_eq_of_lt h2]

/-- A mask has exactly the bits below its width for which its function holds. -/
theorem bitOf_maskOf (n : Nat) (f : Nat → Bool) (i : Nat) : bitOf (maskOf n f) i = (decide (i < n) && f i) := by
  induction n with
  | zero => simp [maskOf, bitOf]
  | succ n ih =>
    rcases Nat.lt_trichotomy i n with h | h | h
    · obtain ⟨d, rfl⟩ : ∃ d, n = i + 1 + d := ⟨n - (i + 1), by omega⟩
      have e : (2 : Nat) ^ (i + 1 + d) = 2 ^ i * (2 * 2 ^ d) := by rw [pow_add, pow_succ]; ring
      have : bitOf (maskOf (i + 1 + d + 1) f) i = bitOf (maskOf (i + 1 + d) f) i := by
        simp only [maskOf, bitOf]
        split
        · rw [e, Nat.add_mul_div_left _ _ (by positivity), Nat.add_mul_mod_self_left]
        · simp
      rw [this, ih, decide_eq_true (show i < i + 1 + d by omega), decide_eq_true (show i < i + 1 + d + 1 by omega)]
    · subst h
      simp only [maskOf, bitOf]
      have hl := maskOf_lt i f
      split <;> rename_i hf
      · rw [Nat.add_div_right _ (by positivity), Nat.div_eq_of_lt hl]; simp [hf]
      · simp at hf; rw [Nat.add_zero, Nat.div_eq_of_lt hl]; simp [hf]
    · rw [bitOf_of_lt (maskOf_lt (n + 1) f) (by omega)]; simp; omega

/-! ### Repetition -/

/-- What every member of a repetition leaves, the repetition leaves. -/
theorem State.each_keeps {β : Type} (g : State → β) (n : Nat) (f : Nat → State → State)
    (h : ∀ i s, g (f i s) = g s) (s : State) : g (s.each n f) = g s := by
  unfold State.each
  generalize List.range n = l
  induction l generalizing s with
  | nil => rfl
  | cons a l ih => simp only [List.foldl_cons]; rw [ih, h]

theorem State.forAll_keeps {α β : Type} (g : State → β) (l : List α) (f : α → State → State)
    (h : ∀ a s, g (f a s) = g s) (s : State) : g (s.forAll l f) = g s := by
  unfold State.forAll
  induction l generalizing s with
  | nil => rfl
  | cons a l ih => simp only [List.foldl_cons]; rw [ih, h]

@[simp] theorem State.forAll_nil {α : Type} (f : α → State → State) (s : State) : s.forAll [] f = s := rfl
@[simp] theorem State.each_zero (f : Nat → State → State) (s : State) : s.each 0 f = s := rfl

/-! ### The beginning of a command -/

@[simp] theorem began_store (s : State) : (began s).store = s.store := by unfold began watchWindow; split <;> rfl
@[simp] theorem began_asBuilt (s : State) : (began s).asBuilt = s.asBuilt := by unfold began watchWindow; split <;> rfl
@[simp] theorem began_pending (s : State) : (began s).pending = s.pending := by unfold began watchWindow; split <;> rfl
@[simp] theorem began_out (s : State) : (began s).out = [] := by unfold began watchWindow; split <;> rfl
@[simp] theorem began_pow (s : State) : (began s).pow = s.pow := by unfold began watchWindow; split <;> rfl
@[simp] theorem began_v (s : State) (k : Nat) : (began s).v k = s.v k := State.v_congr (began_store s) (began_asBuilt s) k
@[simp] theorem began_n (s : State) (k : Nat) : (began s).n k = s.n k := by simp [State.n]
@[simp] theorem began_b (s : State) (k : Nat) : (began s).b k = s.b k := by simp [State.b]
@[simp] theorem began_running (s : State) (k : Nat) : (began s).running k = s.running k := by simp [State.running]
@[simp] theorem began_coreOn (s : State) : (began s).coreOn = s.coreOn := by simp [State.coreOn]
@[simp] theorem began_carrierOn (s : State) : (began s).carrierOn = s.carrierOn := by simp [State.carrierOn]

/-! ### Power, role, resources -/

theorem core_on {s : State} (f : State → State) (h : s.coreOn = true) : core f s = f s := by simp [core, h]
theorem core_off {s : State} (f : State → State) (h : s.coreOn = false) : core f s = s := by simp [core, h]
theorem carrier_on {s : State} (f : State → State) (h : s.carrierOn = true) : carrier f s = f s := by simp [carrier, h]
theorem carrier_off {s : State} (f : State → State) (h : s.carrierOn = false) : carrier f s = s := by simp [carrier, h]
theorem acting_active {s : State} (f : State → State) (h : s.standby = false) : acting f s = f s := by simp [acting, h]
theorem onPart_has {ok : Bool} {f : State → State} {s : State} (h : ok = true) : onPart ok f s = run f s := by simp [onPart, h]
theorem onPart_lacks {ok : Bool} {f : State → State} {s : State} (h : ok = false) : onPart ok f s = .fault .absentResource := by
  simp [onPart, h]

/-- A command whose effect on the state it begins in is `t`. -/
theorem run_next {f : State → State} {s t : State} (h : f (began s) = t) : run f s = .next (finish s t) := by rw [run, h]
/-- The same for a command of the core domain, with power. -/
theorem run_core {f : State → State} {s t : State} (hc : (began s).coreOn = true) (h : f (began s) = t) :
    run (core f) s = .next (finish s t) := run_next (by rw [core_on f hc, h])
/-- The same for a command of the carrier, with power. -/
theorem run_carrier {f : State → State} {s t : State} (hc : (began s).carrierOn = true) (h : f (began s) = t) :
    run (carrier f) s = .next (finish s t) := run_next (by rw [carrier_on f hc, h])
/-- The same for commands on a resource that the part has. -/
theorem onPart_next {ok : Bool} {f : State → State} {s t : State} (hk : ok = true) (h : f (began s) = t) :
    onPart ok f s = .next (finish s t) := by rw [onPart_has hk]; exact run_next h
theorem onPart_core {ok : Bool} {f : State → State} {s t : State} (hk : ok = true) (hc : (began s).coreOn = true)
    (h : f (began s) = t) : onPart ok (core f) s = .next (finish s t) := by rw [onPart_has hk]; exact run_core hc h
theorem onPart_carrier {ok : Bool} {f : State → State} {s t : State} (hk : ok = true) (hc : (began s).carrierOn = true)
    (h : f (began s) = t) : onPart ok (carrier f) s = .next (finish s t) := by rw [onPart_has hk]; exact run_carrier hc h

/-! ### The end of a command -/

@[simp] theorem finish_pending (s t : State) : (finish s t).pending = s.pending := rfl
@[simp] theorem finish_asBuilt (s t : State) : (finish s t).asBuilt = s.asBuilt := rfl

/-- An object whose default does not depend on the module as built is read from the store alone. -/
theorem State.v_of_store {s t : State} {k : Nat} (h : s.store = t.store) (hk : ∀ a b, objDefault a k = objDefault b k) :
    s.v k = t.v k := by unfold State.v; rw [h]; cases amGet? t.store k <;> simp [hk s.asBuilt t.asBuilt]

theorem pairRole_default (a b : AsBuilt) : objDefault a Obj.PAIR_ROLE = objDefault b Obj.PAIR_ROLE := rfl
theorem doOverload_default (a b : AsBuilt) : objDefault a Obj.DO_OVERLOAD = objDefault b Obj.DO_OVERLOAD := rfl

/-- The pads follow their rules. -/
theorem padMask_congr {s t : State} (hf : s.field.koLatch = t.field.koLatch) (hp : s.field.powered = t.field.powered)
    (ht : s.field.tripped = t.field.tripped) (hs : s.safety = t.safety) (hst : s.store = t.store) : padMask s = padMask t := by
  have hr : s.standby = t.standby := by
    unfold State.standby State.n; rw [State.v_of_store hst pairRole_default]
  unfold padMask State.padsHeld; rw [hf, hp, ht, hs, hr]

theorem doMask_congr {s t : State} (hf : s.field.doLatch = t.field.doLatch) (hp : s.field.powered = t.field.powered)
    (hs : s.safety = t.safety) (hst : s.store = t.store) : doMask s = doMask t := by
  have hr : s.standby = t.standby := by
    unfold State.standby State.n; rw [State.v_of_store hst pairRole_default]
  have ho : s.n Obj.DO_OVERLOAD = t.n Obj.DO_OVERLOAD := by
    unfold State.n; rw [State.v_of_store hst doOverload_default]
  unfold doMask State.padsHeld; rw [hf, hp, hs, hr, ho]

theorem finish_koPad (s t : State) : (finish s t).field.koPad = padMask (finish s t) := by
  unfold finish settle drivePads State.modField
  exact padMask_congr rfl rfl rfl rfl rfl

theorem finish_doPad (s t : State) : (finish s t).field.doPad = doMask (finish s t) := by
  unfold finish settle drivePads State.modField
  exact doMask_congr rfl rfl rfl rfl

end Sys2Proof.Machine
end

