-- ==== Sys2Proof/Laws/Settle.lean ====
section
/-!
SUPPORT. What settling after a command leaves: `unsettled` is the same before and after.
-/

namespace Sys2Proof.Safety

open Sys2Proof.Machine

theorem amErase_filter {α : Type} (p : Nat × α → Bool) (m : List (Nat × α)) (k : Nat) (h : ∀ v, p (k, v) = false) :
    (amErase m k).filter p = m.filter p := by
  induction m with
  | nil => rfl
  | cons x r ih =>
    obtain ⟨a, v⟩ := x
    by_cases ha : a = k
    · subst ha; simp [amErase, ih, h]
    · simp [amErase, ha, ih, List.filter_cons]

theorem amSet_filter {α : Type} (p : Nat × α → Bool) (m : List (Nat × α)) (k : Nat) (w : α) (h : ∀ v, p (k, v) = false) :
    (amSet m k w).filter p = m.filter p := by
  induction m with
  | nil => simp [amSet, h]
  | cons x r ih =>
    obtain ⟨a, v⟩ := x
    by_cases ha : a = k
    · subst ha; simp [amSet, h]
    · by_cases hlt : k < a
      · simp [amSet, ha, hlt, List.filter_cons, h]
      · simp [amSet, ha, hlt, ih, List.filter_cons]

theorem amGet_filter {α : Type} (p : Nat → Bool) (m : List (Nat × α)) (k : Nat) (h : p k = true) :
    amGet? (m.filter fun kv => p kv.1) k = amGet? m k := by
  induction m with
  | nil => rfl
  | cons x r ih =>
    obtain ⟨a, v⟩ := x
    by_cases ha : a = k
    · subst ha; simp [h, amGet?]
    · by_cases hp : p a = true
      · simp [hp, amGet?, ha, ih]
      · simp [hp, amGet?, ha, ih]

/-- A write of a settled object leaves the rest. -/
theorem unsettled_put {s : State} {k : Nat} {v : Val} (h : settledKey k = true) : unsettled (s.put k v) = unsettled s := by
  have : (storePut s.asBuilt s.store k v).filter (fun kv => !settledKey kv.1) = s.store.filter fun kv => !settledKey kv.1 := by
    unfold storePut
    split
    · exact amErase_filter _ _ _ (by simp [h])
    · exact amSet_filter _ _ _ _ (by simp [h])
  unfold unsettled State.put
  simp only [this]

theorem unsettled_putN {s : State} {k n : Nat} (h : settledKey k = true) : unsettled (s.putN k n) = unsettled s := unsettled_put h
theorem unsettled_putQ {s : State} {k : Nat} {q : Rat} (h : settledKey k = true) : unsettled (s.putQ k q) = unsettled s :=
  unsettled_put h
theorem unsettled_putB {s : State} {k : Nat} {b : Bool} (h : settledKey k = true) : unsettled (s.putB k b) = unsettled s :=
  unsettled_put h
theorem unsettled_free (s : State) (n : Nat) : unsettled { s with free := n } = unsettled s := rfl
theorem unsettled_incW {s : State} {w k : Nat} (h : settledKey k = true) : unsettled (s.incW w k) = unsettled s := by
  unfold State.incW; split
  · exact unsettled_putN h
  · rw [unsettled_free]; exact unsettled_putN h

theorem unsettled_shares (s : State) (l : List Rat) : unsettled (s.modDisp fun d => { d with shares := l }) = unsettled s := rfl
theorem unsettled_single (s : State) (q : Rat) : unsettled (s.modDisp fun d => { d with single := q }) = unsettled s := rfl
theorem unsettled_pcal (s : State) (q : Rat) : unsettled (s.modDisp fun d => { d with pcal := q }) = unsettled s := rfl
theorem unsettled_roleOut (s : State) (b : Bool) : unsettled (s.modDuo fun d => { d with roleOut := b }) = unsettled s := rfl
theorem unsettled_wrong (s : State) (b : Bool) : unsettled (s.modSafety fun z => { z with wrong := b }) = unsettled s := rfl
theorem unsettled_lockMs (s : State) (n : Nat) : unsettled (s.modSafety fun z => { z with lockMs := n }) = unsettled s := rfl
theorem unsettled_log (s : State) (l m : List Bytes) (n : Nat) :
    unsettled (s.modSafety fun z => { z with x := { z.x with log := l }, y := { z.y with log := m }, logNo := n }) = unsettled s := rfl
theorem unsettled_barred (s : State) (b : Bool) : unsettled (s.modSafety fun z => { z with barred := b }) = unsettled s := rfl
theorem unsettled_short (s : State) (q : Rat) : unsettled (s.modDisp fun d => { d with short := q }) = unsettled s := rfl

theorem unsettled_asBuilt {s t : State} (h : unsettled s = unsettled t) : s.asBuilt = t.asBuilt := by
  have := congrArg (fun u : State => u.asBuilt) h
  exact this

/-- An object that settling does not write reads as before wherever the rest agrees. -/
theorem v_of_unsettled {s t : State} (h : unsettled s = unsettled t) {k : Nat} (hk : settledKey k = false) : s.v k = t.v k := by
  have hs : s.store.filter (fun kv => !settledKey kv.1) = t.store.filter fun kv => !settledKey kv.1 := congrArg (fun u : State => u.store) h
  have ha := unsettled_asBuilt h
  unfold State.v
  rw [← amGet_filter (fun k => !settledKey k) s.store k (by simp [hk]), ← amGet_filter (fun k => !settledKey k) t.store k (by simp [hk]),
    hs, ha]

theorem unsettled_logEx (s : State) (c r u : Nat) (a0 a1 a2 : Val) : unsettled (s.logEx c r u a0 a1 a2) = unsettled s := by
  have hfresh : ∀ (x : ExRec) (n m e : Nat) (l : List ExRec),
      unsettled ((({ s with exLog := x :: l, exSlot := m, exNo := e } : State).putN Obj.LOG_NEWEST n).putN Obj.LOG_COUNT
        (x :: l).length) = unsettled s := by
    intro x n m e l
    rw [unsettled_putN (by decide), unsettled_putN (by decide)]; rfl
  unfold State.logEx
  simp only
  have hf : ∀ (p : Prop) [Decidable p] (t : State), unsettled t = unsettled s →
      unsettled (if p then t.inc Obj.EXCEPTIONS_OVERWRITTEN else t) = unsettled s := by
    intro p _ t ht; split
    · unfold State.inc; rw [unsettled_incW (by decide)]; exact ht
    · exact ht
  split
  · split
    · rfl
    · exact hf _ _ (hfresh _ _ _ _ _)
  · exact hf _ _ (hfresh _ _ _ _ _)

theorem unsettled_logN (s : State) (c r u a b : Nat) : unsettled (s.logN c r u a b) = unsettled s := unsettled_logEx ..

theorem unsettled_logChange (k e v : Nat) (s : State) : unsettled (logChange k e v s) = unsettled s := by
  unfold logChange; simp only; split
  · unfold State.inc; rw [unsettled_incW (by decide)]; rfl
  · rfl

theorem unsettled_each {n : Nat} {f : Nat → State → State} (h : ∀ i s, i < n → unsettled (f i s) = unsettled s) (s : State) :
    unsettled (s.each n f) = unsettled s := by
  unfold State.each
  have : ∀ (l : List Nat), (∀ i ∈ l, i < n) → ∀ s, unsettled (l.foldl (fun t i => f i t) s) = unsettled s := by
    intro l
    induction l with
    | nil => intro _ s; rfl
    | cons a l ih =>
      intro hl s
      simp only [List.foldl_cons]
      rw [ih (fun i hi => hl i (by simp [hi])), h a s (hl a (by simp))]
  exact this _ (by simp) s

theorem strings_le (a : AsBuilt) : a.strings ≤ 16 := by unfold AsBuilt.strings; split <;> omega

theorem settledKey_idx {k i : Nat} (h : k / 65536 = i) (hi : [0x605C, 0x6080, 0x6081, 0x6082, 0x2B21].contains i = true) :
    settledKey k = true := by simp only [settledKey, h, hi, Bool.or_true, Bool.true_or]

/-! ### The parts of settling -/

theorem unsettled_lower {s : State} {k : Nat} {q : Rat} (h : settledKey k = true) : unsettled (s.lower k q) = unsettled s := by
  unfold State.lower; split
  · exact unsettled_putQ h
  · rfl

theorem unsettled_watchWindow (s : State) : unsettled (watchWindow s) = unsettled s := by
  unfold watchWindow; split <;> rfl

theorem unsettled_loginBarred (s : State) : unsettled (loginBarred s) = unsettled s := by
  unfold loginBarred
  split
  · rfl
  · rw [unsettled_logChange, unsettled_barred]

theorem unsettled_loginFailed (s : State) : unsettled (loginFailed s) = unsettled s := by
  unfold loginFailed
  simp only
  split
  · exact unsettled_loginBarred s
  · split
    · rw [unsettled_logChange, unsettled_putN (by decide), unsettled_wrong, unsettled_loginBarred]
    · rw [unsettled_logChange, unsettled_putN (by decide), unsettled_lockMs, unsettled_logChange, unsettled_putN (by decide),
        unsettled_wrong, unsettled_loginBarred]

theorem unsettled_formSetpoints (s : State) : unsettled (formSetpoints s) = unsettled s := by
  unfold formSetpoints
  refine unsettled_each (fun n t hn => ?_) s
  have hn' : n < 65536 := lt_of_lt_of_le hn (le_trans (strings_le _) (by omega))
  have hc : settledKey (Obj.STRING_LIMIT_CHG n) = true :=
    settledKey_idx (i := 0x6080) (by unfold Obj.STRING_LIMIT_CHG; omega) (by decide)
  have hd : settledKey (Obj.STRING_LIMIT_DIS n) = true :=
    settledKey_idx (i := 0x6081) (by unfold Obj.STRING_LIMIT_DIS; omega) (by decide)
  have hp : settledKey (Obj.STRING_SETPOINT n) = true :=
    settledKey_idx (i := 0x6082) (by unfold Obj.STRING_SETPOINT; omega) (by decide)
  simp only
  rw [unsettled_putQ hp]
  unfold fallLimits
  simp only
  rw [unsettled_lower hd, unsettled_lower hc]

theorem unsettled_publishShort (q : Rat) (s : State) : unsettled (publishShort q s) = unsettled s := by
  unfold publishShort
  rw [unsettled_putQ (by decide), unsettled_short]

theorem unsettled_redeal (s : State) : unsettled (redeal s) = unsettled s := by
  unfold redeal
  split
  · rfl
  · simp only
    split
    · rw [unsettled_formSetpoints, unsettled_shares, unsettled_publishShort]
    · rw [unsettled_formSetpoints, unsettled_publishShort, unsettled_single]

theorem unsettled_calAbort13 (r : Nat) (s : State) : unsettled (calAbort13 r s) = unsettled s := by
  unfold calAbort13
  split
  · rfl
  · rw [unsettled_redeal]
    unfold calFinish
    rw [unsettled_pcal, unsettled_putN (by decide), unsettled_putN (by decide), unsettled_logN]

theorem unsettled_dispatchWatch (s : State) : unsettled (dispatchWatch s) = unsettled s := by
  have hz : ∀ t, unsettled (fallContainer t) = unsettled t := by
    intro t; unfold fallContainer; split
    · rw [unsettled_putQ (by decide), unsettled_putQ (by decide)]
    · split
      · rfl
      · simp only
        rw [unsettled_lower (by decide), unsettled_lower (by decide)]
  unfold dispatchWatch
  simp only
  rw [unsettled_formSetpoints, hz]
  split
  · split
    · rfl
    · exact unsettled_calAbort13 _ _
  · rfl

theorem unsettled_showDos (s : State) : unsettled (showDos s) = unsettled s := unsettled_putN (by decide)

theorem unsettled_showContactors (n : Nat) (s : State) (hn : n < 65536) : unsettled (showContactors n s) = unsettled s := by
  unfold showContactors
  exact unsettled_putN (settledKey_idx (i := 0x605C) (by unfold Obj.CONTACTOR_STATUS; omega) (by decide))

theorem unsettled_showStatus (s : State) : unsettled (showStatus s) = unsettled s := by
  unfold showStatus
  simp only
  rw [unsettled_roleOut, unsettled_putN (by decide), unsettled_putB (by decide), unsettled_putB (by decide), unsettled_putB (by decide),
    unsettled_putN (by decide), unsettled_putN (by decide)]
  exact unsettled_each (fun n t hn => unsettled_showContactors n t (lt_of_lt_of_le hn (le_trans (strings_le _) (by omega)))) s

theorem map_can (f : CanSt → CanSt) (hf : ∀ x, ({ f x with svc := [], wait := [] } : CanSt) = { x with svc := [], wait := [] })
    (c : Nat) (s : State) : unsettled (s.modCan c f) = unsettled s := by
  have : ∀ (l : List CanSt), (l.set c (f (nth l c {}))).map (fun x => ({ x with svc := [], wait := [] } : CanSt)) =
      l.map fun x => { x with svc := [], wait := [] } := by
    intro l
    induction l generalizing c with
    | nil => rfl
    | cons a l ih =>
      cases c with
      | zero => simp [nth, hf]
      | succ c =>
        have := ih c
        simp only [nth, List.getD_cons_succ, List.set_cons_succ, List.map_cons] at this ⊢
        rw [this]
  unfold State.modCan State.canCh unsettled
  simp only [this]

theorem unsettled_svc (c : Nat) (s : State) (b : Nat) (t : SvcTx) :
    unsettled (s.modCan c fun x => { x with svc := amSet x.svc b t }) = unsettled s :=
  map_can (fun x => { x with svc := amSet x.svc b t }) (fun _ => rfl) c s
theorem unsettled_wait (c : Nat) (s : State) (t : SvcTx) :
    unsettled (s.modCan c fun x => { x with wait := x.wait ++ [t] }) = unsettled s :=
  map_can (fun x => { x with wait := x.wait ++ [t] }) (fun _ => rfl) c s

theorem unsettled_sendService (f : CanFrame) (r : Bool) (s : State) : unsettled (sendService f r s) = unsettled s := by
  unfold sendService
  simp only
  split
  · rfl
  · rename_i hc
    have hc2 : f.channel < 2 := by simp at hc; omega
    split
    · unfold State.inc
      refine unsettled_incW ?_
      have : f.channel = 0 ∨ f.channel = 1 := by omega
      rcases this with h | h <;> rw [h] <;> decide
    · unfold takeBuffer
      split
      · rename_i b hb
        rw [unsettled_svc]
        have hb8 : b < 8 := by simpa using List.mem_of_find?_eq_some hb
        refine unsettled_putN ?_
        have : f.channel = 0 ∨ f.channel = 1 := by omega
        rcases this with h | h <;> rw [h] <;> (interval_cases b <;> decide)
      · exact unsettled_wait _ _ _

theorem unsettled_settleCore (s : State) : unsettled (settleCore s) = unsettled s := by
  unfold settleCore
  simp only
  have : ∀ (l : List Output) t, unsettled (t.forAll l sendCanResponse) = unsettled t := by
    intro l t
    refine State.forAll_keeps unsettled l _ (fun o u => ?_) t
    unfold sendCanResponse
    split
    · unfold canResponse; exact unsettled_sendService _ _ _
    · rfl
  rw [this, unsettled_showStatus, unsettled_showDos, unsettled_dispatchWatch, unsettled_loginFailed, unsettled_watchWindow]

theorem unsettled_drivePads (s : State) : unsettled (drivePads s) = unsettled s := by
  unfold drivePads
  show unsettled (countSwitches _ _ _) = _
  have ho : ∀ d t, unsettled (overloadStep d t) = unsettled t := by
    intro d t; unfold overloadStep
    split
    · rfl
    · simp only
      split
      · split <;> rfl
      · split
        · split
          · rw [unsettled_putN (by decide)]; rfl
          · rfl
        · rfl
  unfold countSwitches
  split
  · exact unsettled_each (fun i t _ => ho i t) s
  · refine (unsettled_each (fun m t hm => ?_) _).trans (unsettled_each (fun i t _ => ho i t) s)
    split
    · exact unsettled_incW (settledKey_idx (i := 0x2B21) (by unfold Obj.KO_SWITCHES; omega) (by decide))
    · rfl

/-- Settling leaves everything but what `unsettled` leaves out. -/
theorem unsettled_settle (s : State) : unsettled (settle s) = unsettled s := by
  unfold settle
  rw [unsettled_drivePads]
  have : ∀ t, unsettled (settleLatches t) = unsettled t := by
    intro t; unfold settleLatches; split
    · rfl
    · split <;> rfl
  rw [this]
  split
  · exact unsettled_settleCore s
  · rfl

/-- The end of a command leaves everything but what settling may change, the queue and what the module was built with. -/
theorem unsettled_finish (s t : State) : unsettled (finish s t) = { unsettled t with pending := s.pending, asBuilt := s.asBuilt } := by
  have h := unsettled_settle { t with asBuilt := s.asBuilt }
  calc unsettled (finish s t) =
      { unsettled (settle { t with asBuilt := s.asBuilt }) with pending := s.pending, asBuilt := s.asBuilt } := rfl
    _ = { unsettled { t with asBuilt := s.asBuilt } with pending := s.pending, asBuilt := s.asBuilt } := by rw [h]
    _ = _ := rfl

/-- An object that settling does not write, after the end of a command on the same module. -/
theorem v_finish {s t : State} (ha : t.asBuilt = s.asBuilt) {k : Nat} (hk : settledKey k = false) : (finish s t).v k = t.v k := by
  have ht : ({ t with asBuilt := s.asBuilt } : State) = t := by rw [← ha]
  have h1 : (finish s t).v k = (settle t).v k := by
    have h2 : (settle t).asBuilt = t.asBuilt := unsettled_asBuilt (unsettled_settle t)
    refine State.v_congr ?_ ?_ k
    · show (settle { t with asBuilt := s.asBuilt }).store = _; rw [ht]
    · rw [finish_asBuilt, h2, ha]
  rw [h1]; exact v_of_unsettled (unsettled_settle t) hk

end Sys2Proof.Safety
end

