-- ==== Sys2Proof/Laws/Outcome.lean ====
section
/-!
SUPPORT. What the outcome of any command is: a settled effect or the fault of a resource the part lacks; when a resource is
there; the field side through the part of settling that does not drive the pads.
-/

namespace Sys2Proof.Machine

/-! ### Outcomes -/

theorem run_finishes {f : State → State} {s t : State} (h : run f s = .next t) : t = finish s (f (began s)) := by
  unfold run at h; cases h; rfl

theorem onPart_finishes {ok : Bool} {f : State → State} {s t : State} (h : onPart ok f s = .next t) :
    ok = true ∧ t = finish s (f (began s)) := by
  unfold onPart at h
  split at h
  · exact ⟨by assumption, run_finishes h⟩
  · cases h

/-- A command that answers a next state has settled some effect. -/
theorem exec_finishes (c : Instr) (s t : State) (h : exec c s = .next t) : ∃ e, t = finish s e := by
  cases c <;> first | exact ⟨_, run_finishes h⟩ | exact ⟨_, (onPart_finishes h).2⟩

theorem run_stops {f : State → State} {s : State} :
    (∀ r, run f s ≠ .refused r) ∧ ∀ g, run f s = .fault g → g = .absentResource := by
  unfold run; refine ⟨fun r h => ?_, fun g h => ?_⟩ <;> cases h

theorem onPart_stops {ok : Bool} {f : State → State} {s : State} :
    (∀ r, onPart ok f s ≠ .refused r) ∧ ∀ g, onPart ok f s = .fault g → g = .absentResource := by
  unfold onPart
  split
  · exact run_stops
  · refine ⟨fun r h => ?_, fun g h => ?_⟩ <;> cases h; rfl

/-! ### Resources -/

theorem hasString_of_lt {s : State} {n : Nat} (h : n < s.asBuilt.strings) : hasString s n = true := by simpa [hasString] using h
theorem hasHead_of_lt {s : State} {n : Nat} (h : n < s.asBuilt.heads) : hasHead s n = true := by simpa [hasHead] using h
theorem hasChannel_of_lt {c : Nat} (h : c < 2) : hasChannel c = true := by simpa [hasChannel] using h
theorem isU16_of_lt {n : Nat} (h : n < 65536) : isU16 n = true := by simpa [isU16] using h
theorem blt_of_lt {a b : Nat} (h : a < b) : Nat.blt a b = true := by simpa using h
theorem blt_of_le {a b : Nat} (h : b ≤ a) : Nat.blt a b = false := by rw [← Bool.not_eq_true]; simp [Nat.blt_eq]; omega

/-! ### Counters -/

theorem v_incW_ne {s : State} {w k k' : Nat} (h : k' ≠ k) : (s.incW w k).v k' = s.v k' := by
  unfold State.incW
  split
  · rw [State.v_putN, if_neg h]
  · show (s.putN k _).v k' = _
    rw [State.v_putN, if_neg h]

/-! ### The field side -/

theorem field_free (s : State) (n : Nat) : ({ s with free := n } : State).field = s.field := rfl
theorem field_incW (s : State) (w k : Nat) : (s.incW w k).field = s.field := by unfold State.incW; split <;> rfl
theorem field_logEx (s : State) (c r u : Nat) (a0 a1 a2 : Val) : (s.logEx c r u a0 a1 a2).field = s.field := by
  unfold State.logEx
  simp only []
  split
  · split
    · rfl
    · split
      · unfold State.inc; rw [field_incW]; rfl
      · rfl
  · split
    · unfold State.inc; rw [field_incW]; rfl
    · rfl
theorem field_logChange (k e v : Nat) (s : State) : (logChange k e v s).field = s.field := by
  unfold logChange; simp only []; split
  · unfold State.inc; rw [field_incW]; rfl
  · rfl
theorem field_lower (s : State) (k : Nat) (q : Rat) : (s.lower k q).field = s.field := by unfold State.lower; split <;> rfl
theorem field_formSetpoints (s : State) : (formSetpoints s).field = s.field := by
  unfold formSetpoints
  refine State.each_keeps State.field _ _ (fun n t => ?_) s
  show (fallLimits n t).field = _
  unfold fallLimits
  simp only []
  rw [field_lower, field_lower]
theorem field_redeal (s : State) : (redeal s).field = s.field := by
  unfold redeal
  split
  · rfl
  · simp only []
    split
    · rw [field_formSetpoints]; rfl
    · rw [field_formSetpoints]; rfl
theorem field_calAbort13 (r : Nat) (s : State) : (calAbort13 r s).field = s.field := by
  unfold calAbort13
  split
  · rfl
  · rw [field_redeal]
    unfold calFinish
    show (State.logN _ _ _ _ _ _).field = _
    exact field_logEx ..
theorem field_putN (t : State) (k n : Nat) : (t.putN k n).field = t.field := rfl
theorem field_putB (t : State) (k : Nat) (n : Bool) : (t.putB k n).field = t.field := rfl
theorem field_modDuo (t : State) (f) : (t.modDuo f).field = t.field := rfl
theorem field_showStatus (t : State) : (showStatus t).field = t.field := by
  have : ∀ u : State, (u.each u.asBuilt.strings showContactors).field = u.field := fun u => State.each_keeps State.field _ showContactors (fun n u => rfl) u
  unfold showStatus; simp only []
  rw [field_modDuo, field_putN, field_putB, field_putB, field_putB, field_putN, field_putN]; exact this t
theorem field_fallContainer (t : State) : (fallContainer t).field = t.field := by
  unfold fallContainer; split
  · rfl
  · split
    · rfl
    · simp only []
      rw [field_lower, field_lower]
theorem field_dispatchWatch (t : State) : (dispatchWatch t).field = t.field := by
  unfold dispatchWatch; simp only []
  rw [field_formSetpoints, field_fallContainer]; split
  · split
    · rfl
    · exact field_calAbort13 ..
  · rfl
theorem field_modSafety (t : State) (f) : (t.modSafety f).field = t.field := rfl
theorem field_loginBarred (t : State) : (loginBarred t).field = t.field := by
  unfold loginBarred; split
  · rfl
  · rw [field_logChange, field_modSafety]
theorem field_loginFailed (t : State) : (loginFailed t).field = t.field := by
  unfold loginFailed; simp only []; split
  · exact field_loginBarred t
  · split
    · rw [field_logChange, field_putN, field_modSafety, field_loginBarred]
    · rw [field_logChange, field_putN, field_modSafety, field_logChange, field_putN, field_modSafety, field_loginBarred]
theorem field_watchWindow (t : State) : (watchWindow t).field = t.field := by unfold watchWindow; split <;> rfl
theorem field_send (o : Output) (u : State) : (sendCanResponse o u).field = u.field := by
  unfold sendCanResponse
  split
  · unfold canResponse sendService
    simp only []
    split
    · rfl
    · split
      · unfold State.inc; rw [field_incW]
      · unfold takeBuffer; split <;> rfl
  · rfl
theorem field_showDos (t : State) : (showDos t).field = t.field := by unfold showDos; rfl
theorem field_settleCore (s : State) : (settleCore s).field = s.field := by
  unfold settleCore
  exact (State.forAll_keeps State.field _ _ field_send _).trans ((field_showStatus _).trans ((field_showDos _).trans ((field_dispatchWatch _).trans ((field_loginFailed _).trans (field_watchWindow _)))))

end Sys2Proof.Machine
end

