-- ==== Sys2Proof/Laws/Request.lean ====
section
/-!
SUPPORT. Requests: what a write that passes its checks does, what a write does that the object's own rules refuse, what a
repeated TAG does.
-/

namespace Sys2Proof.Safety

open Sys2Proof.Machine

theorem findRow_group {key : Nat} {g : ObjGroup} {row : ObjRow} (h : findRow key = some (g, row)) :
    findGroup (key / 65536) = some g ∧ g.row? (key % 65536) = some row := by
  unfold findRow at h
  cases hg : findGroup (key / 65536) with
  | none => simp [hg] at h
  | some g' =>
    cases hr : g'.row? (key % 65536) with
    | none => simp [hg, hr] at h
    | some r' => simp [hg, hr] at h; exact ⟨by rw [h.1], by rw [← h.1, hr, h.2]⟩

theorem find_none_of_any {α : Type} {p : α → Bool} {l : List α} (h : (!(l.any p)) = true) : l.find? p = none := by
  simpa using h

/-- What the admission of a write says. -/
theorem admitted_iff {s : State} {r : Req} {key : Nat} (h : admitted s r key = true) :
    ∃ ses g row, s.session? r.src = some ses ∧ findRow key = some (g, row) ∧ ses.kept.find? (fun k => k.tag == r.tag) = none ∧
      (s.touchSession r).checkAccess r ses (opOf key) (key / 65536) (key % 65536) = none ∧
      (s.touchSession r).checkValue r g row (key / 65536) (key % 65536) r.data = none := by
  unfold admitted at h
  split at h
  · rename_i ses g row hs hr
    simp only [Bool.and_eq_true, Option.isNone_iff_eq_none] at h
    exact ⟨ses, g, row, hs, hr, find_none_of_any h.1.1.2, h.1.2, h.2⟩
  · exact absurd h (by simp)

/-- The frame of an admitted write is no duplicate. -/
theorem admitted_passes {s : State} {r : Req} {key : Nat} (h : admitted s r key = true) : (!(s.netIn r).1) = false := by
  unfold admitted at h
  split at h
  · simp only [Bool.and_eq_true] at h; simp [h.1.1.1]
  · exact absurd h (by simp)

theorem objKey_div_mod (key : Nat) : objKey (key / 65536) (key % 65536) = key := by unfold objKey; omega

theorem isDomain_of_row {key : Nat} {g : ObjGroup} {row : ObjRow} (h : findRow key = some (g, row)) :
    isDomain key = (row.ty == .domain) := by
  unfold isDomain; rw [h]; simp only [Option.map_some]
  cases row.ty <;> rfl

/-- A write that passes its checks and that the object's own rules carry out. -/
theorem writeRequest_granted {s t : State} {r : Req} {key : Nat} {own : Val → State → Except Abort State}
    (h : admitted s r key = true) (ho : own (valueOf key r) (heard s r key) = .ok t) :
    s.writeRequest r key own = granted s r key t := by
  obtain ⟨ses, g, row, hs, hr, hk, hc, hv⟩ := admitted_iff h
  obtain ⟨hg, hrow⟩ := findRow_group hr
  have hd := isDomain_of_row hr
  have hval : valueOf key r = row.ty.decode r.data := by unfold valueOf; rw [hr]
  have hop : (if ((findRow key).map (fun x => x.2.ty) == some .domain) = true then Op.domainWrite 0 true else Op.write) = opOf key := rfl
  unfold State.writeRequest State.request
  rw [admitted_passes h]
  simp only [hop, hs, hk, hc, Bool.false_eq_true, if_false]
  unfold State.writeAct
  simp only [hg, hrow, hv, objKey_div_mod]
  have hh : (if (row.ty == Ty.domain) = true then closeTransfer r.src key (s.touchSession r) else s.touchSession r) = heard s r key := by
    unfold heard; rw [hd]
  rw [hh, ← hval, ho]
  unfold granted
  simp only [hr]

/-- A write that passes its checks and that the object's own rules refuse. -/
theorem writeRequest_refused {s : State} {r : Req} {key : Nat} {own : Val → State → Except Abort State} {a : Abort}
    (h : admitted s r key = true) (ho : own (valueOf key r) (heard s r key) = .error a) :
    s.writeRequest r key own =
      (s.touchSession r).answerAbort r (opOf key) (key / 65536) (key % 65536) { a with ends := isDomain key } := by
  obtain ⟨ses, g, row, hs, hr, hk, hc, hv⟩ := admitted_iff h
  obtain ⟨hg, hrow⟩ := findRow_group hr
  have hd := isDomain_of_row hr
  have hval : valueOf key r = row.ty.decode r.data := by unfold valueOf; rw [hr]
  have hop : (if ((findRow key).map (fun x => x.2.ty) == some .domain) = true then Op.domainWrite 0 true else Op.write) = opOf key := rfl
  unfold State.writeRequest State.request
  rw [admitted_passes h]
  simp only [hop, hs, hk, hc, Bool.false_eq_true, if_false]
  unfold State.writeAct
  simp only [hg, hrow, hv, objKey_div_mod]
  have hh : (if (row.ty == Ty.domain) = true then closeTransfer r.src key (s.touchSession r) else s.touchSession r) = heard s r key := by
    unfold heard; rw [hd]
  rw [hh, ← hval, ho]
  simp only [hd]

theorem asked_iff {s : State} {r : Req} {op : Op} {idx sub : Nat} (h : asked s r op idx sub = true) :
    ∃ ses, s.session? r.src = some ses ∧ ses.kept.find? (fun k => k.tag == r.tag) = none ∧
      (s.touchSession r).checkAccess r ses op idx sub = none := by
  unfold asked at h
  split at h
  · rename_i ses hs
    simp only [Bool.and_eq_true, Option.isNone_iff_eq_none] at h
    exact ⟨ses, hs, find_none_of_any h.1.2, h.2⟩
  · exact absurd h (by simp)

/-- The frame of an operation asked is no duplicate. -/
theorem asked_passes {s : State} {r : Req} {op : Op} {idx sub : Nat} (h : asked s r op idx sub = true) : (!(s.netIn r).1) = false := by
  unfold asked at h
  split at h
  · simp only [Bool.and_eq_true] at h; simp [h.1.1]
  · exact absurd h (by simp)

/-- An operation that passes its checks and is carried out. -/
theorem request_answered {s t : State} {r : Req} {op : Op} {idx sub : Nat} {act : State → Except Abort (State × Bool × Bytes)}
    {last : Bool} {data : Bytes} (h : asked s r op idx sub = true) (ha : act (s.touchSession r) = .ok (t, last, data)) :
    s.request r op idx sub act = t.answer r op idx sub 0 last data := by
  obtain ⟨ses, hs, hk, hc⟩ := asked_iff h
  unfold State.request; rw [asked_passes h]; simp only [hs, hk, hc, ha]; rfl

/-- An operation that passes its checks and is refused. -/
theorem request_aborted {s : State} {r : Req} {op : Op} {idx sub : Nat} {act : State → Except Abort (State × Bool × Bytes)}
    {a : Abort} (h : asked s r op idx sub = true) (ha : act (s.touchSession r) = .error a) :
    s.request r op idx sub act = (s.touchSession r).answerAbort r op idx sub a := by
  obtain ⟨ses, hs, hk, hc⟩ := asked_iff h
  unfold State.request; rw [asked_passes h]; simp only [hs, hk, hc, ha]; rfl

/-- A request whose TAG is kept is answered from the kept response, whatever it asks. -/
theorem request_repeated {s : State} {r : Req} {op : Op} {idx sub : Nat} {act : State → Except Abort (State × Bool × Bytes)}
    {ses : Session} {k : Response} (hn : (s.netIn r).1 = true) (hs : s.session? r.src = some ses) (hk : ses.kept.find? (fun k => k.tag == r.tag) = some k) :
    s.request r op idx sub act = (s.touchSession r).emit (.response r.src k) := by
  unfold State.request; simp [hn, hs, hk]

/-- A datagram that belongs to no open session has no effect but that its frame is noted (R382). -/
theorem request_no_session {s : State} {r : Req} {op : Op} {idx sub : Nat} {act : State → Except Abort (State × Bool × Bytes)}
    (hs : s.session? r.src = none) : s.request r op idx sub act = (s.netIn r).2 := by
  unfold State.request; simp only [hs, ite_self]

/-- A pop that passes its checks answers a slice of the element read. -/
theorem popRequest_answered {s : State} {r : Req} {key c q offset length : Nat}
    (ht : typeOf (key / 65536) (key % 65536) = .domain) (hx : key ≠ Obj.EXCEPTION_LOG) (hq : popQueue? key = some (c, q))
    (h : asked s r (.domainRead offset length) (key / 65536) (key % 65536) = true) :
    popRequest key offset length r s =
      (popRead r.src key c q offset (s.touchSession r)).2.answer r (.domainRead offset length) (key / 65536) (key % 65536) 0
        (decide ((popRead r.src key c q offset (s.touchSession r)).1.length ≤ offset + min length (dataLimit r.src)))
        (slice (popRead r.src key c q offset (s.touchSession r)).1 offset (min length (dataLimit r.src))) := by
  unfold popRequest Machine.request
  refine request_answered h ?_
  unfold domainReadAct
  simp [ht, hx, hq, objKey_div_mod]

/-- A frame of a service on a channel that receives it (R341, R345). -/
theorem serviceRx_takes {f : CanFrame} {g : CanFrame → State → State} {u : State} (h1 : u.canHears f.channel = true)
    (h2 : u.canMode f.channel ≠ cmDetect) (h3 : f.fd = true → u.b (Obj.FD_ENABLE f.channel) = true) :
    serviceRx f g u = g f u := by
  unfold serviceRx
  rw [if_neg (by simp [h1, h2]), if_neg]
  cases hf : f.fd <;> simp_all

/-- The index of a key. -/
theorem objKey_div {i j : Nat} (h2 : j < 65536) : objKey i j / 65536 = i := by unfold objKey; omega
/-- The subindex of a key. -/
theorem objKey_mod {i j : Nat} (h2 : j < 65536) : objKey i j % 65536 = j := by unfold objKey; omega
/-- Counting changes the store and the free values alone. -/
theorem inc_keeps (s : State) (k : Nat) : ∃ st n, s.inc k = { s with store := st, free := n } := by
  unfold State.inc State.incW; split <;> exact ⟨_, _, rfl⟩

/-- The arrival of a request's frame (R382) changes the counts of frames and what is kept of the frames received alone. -/
theorem netIn_keeps (s : State) (r : Req) :
    ∃ st n x, (s.netIn r).2 = { s with store := st, free := n, idp := { s.idp with seenFrames := x } } := by
  unfold State.netIn
  split
  · unfold netPass
    simp only
    split
    · exact ⟨_, _, _, rfl⟩
    · have hi : ∀ (w : State) (k : Nat), (∃ st n x, w = { s with store := st, free := n, idp := { s.idp with seenFrames := x } }) →
          ∃ st n x, w.inc k = { s with store := st, free := n, idp := { s.idp with seenFrames := x } } := by
        rintro w k ⟨st, n, x, rfl⟩
        obtain ⟨st', n', e⟩ := inc_keeps { s with store := st, free := n, idp := { s.idp with seenFrames := x } } k
        exact ⟨_, _, _, e⟩
      have hx : ∀ (w : State) (x : List (Nat × Nat × Nat)), (∃ st n x, w = { s with store := st, free := n, idp := { s.idp with seenFrames := x } }) →
          ∃ st n y, ({ w with idp := { w.idp with seenFrames := x } } : State) =
            { s with store := st, free := n, idp := { s.idp with seenFrames := y } } := by
        rintro w x ⟨st, n, x', rfl⟩; exact ⟨_, _, _, rfl⟩
      have hs : ∃ st n x, s = { s with store := st, free := n, idp := { s.idp with seenFrames := x } } := ⟨_, _, _, rfl⟩
      split
      · refine hi _ _ (hx _ _ ?_); split
        · exact hi _ _ hs
        · exact hs
      · refine hx _ _ ?_; split
        · exact hi _ _ hs
        · exact hs
  · exact ⟨_, _, _, rfl⟩

/-- A datagram that arrives leaves the transfers. -/
theorem touchSession_transfers (u : State) (r : Req) : (u.touchSession r).idp.transfers = u.idp.transfers := by
  obtain ⟨st, n, x, e⟩ := netIn_keeps u r
  unfold State.touchSession
  simp only [e]
  split
  · unfold State.putSession; simp only; split <;> rfl
  · rfl

/-- A datagram that arrives leaves the bases. -/
theorem touchSession_time (u : State) (r : Req) : (u.touchSession r).time = u.time := by
  obtain ⟨st, n, x, e⟩ := netIn_keeps u r
  unfold State.touchSession
  simp only [e]
  split
  · unfold State.putSession; simp only; split <;> rfl
  · rfl

/-- The type of a DOMAIN's row. -/
theorem ty_of_isDomain {key : Nat} {g : ObjGroup} {row : ObjRow} (h : findRow key = some (g, row)) (hd : isDomain key = true) : row.ty = .domain := by
  have := isDomain_of_row h
  rw [hd] at this
  cases hr : row.ty <;> rw [hr] at this <;> first | rfl | exact absurd this (by decide)
/-- A WRITE of an object by index and subindex is carried out by the object's own rules. -/
theorem write_granted {u : State} {r : Req} {i j : Nat} (hj : j < 65536) (hd : isDomain (objKey i j) = false) (t : State)
    (ha : admitted u r (objKey i j) = true)
    (ho : ownWrite r.src (objKey i j) (valueOf (objKey i j) r) (heard u r (objKey i j)) = .ok t) :
    request .write i j r u = granted u r (objKey i j) t := by
  obtain ⟨ses, g, row, h1, hr, h2, h3, h4⟩ := admitted_iff ha
  have e := writeRequest_granted (own := ownWrite r.src (objKey i j)) ha ho
  rw [← e]
  unfold State.writeRequest request
  have hop : (if ((findRow (objKey i j)).map (fun x => x.2.ty) == some .domain) = true then Op.domainWrite 0 true else Op.write) = .write := by
    show opOf (objKey i j) = _; unfold opOf; rw [hd]; rfl
  have hdm := isDomain_of_row hr
  simp only [hop, objKey_div hj, objKey_mod hj]
  have hop2 : opOf (objKey i j) = .write := hop
  rw [hop2, objKey_div hj, objKey_mod hj] at h3
  unfold State.request
  rw [admitted_passes ha]
  simp only [h1, h2, h3, Bool.false_eq_true, if_false]
  have : genericWriteAct r i j (u.touchSession r) = State.writeAct r i j (ownWrite r.src (objKey i j)) (u.touchSession r) := by
    unfold genericWriteAct
    have ht : Op.suits .write (typeOf i j) = true := by
      unfold typeOf Op.suits; rw [hr]; rw [hd] at hdm; simpa using hdm.symm
    rw [ht]; rfl
  rw [this]

end Sys2Proof.Safety
end

