-- ==== Sys2Proof/WellFormed.lean ====
section
/-!
DEFINITION. Which commands are well formed: every operand within the span that the spec gives it on the largest part
(Table 0.1, R29, R360, R372), every frame of a length its format carries.
-/

namespace Sys2Proof

/-- A request comes from one of 16 peers, over CAN or from the program, with a 16-bit TAG. -/
def Req.wf (r : Req) : Bool :=
  Nat.blt r.tag 65536 && (match r.src with | .udp p => Nat.blt p 16 | .can => true | .program => true)

/-- A request that acts on no object: its header's index and subindex are fields of 16 bits. -/
def HeadReq.wf (r : HeadReq) : Bool := Nat.blt r.index 65536 && Nat.blt r.sub 65536 && r.req.wf

/-- A CAN frame: one of two channels, an identifier within its format, a data field its format carries (R337, R341). -/
def CanFrame.wf (f : CanFrame) : Bool :=
  Nat.blt f.channel 2 && Nat.blt f.id (if f.ext then 2 ^ 29 else 2 ^ 11) &&
  (Nat.ble f.data.length 8 || (f.fd && [12, 16, 20, 24, 32, 48, 64].contains f.data.length)) && !(f.fd && f.rtr)

/-- An Announce message: port 1 or 2, a 64-bit clock identity. -/
def Announce.wf (a : Announce) : Bool := (a.port == 1 || a.port == 2) && Nat.blt a.master (2 ^ 64)

/-- A window of a string: as many values as samples, one string of sixteen. -/
def StringWindow.wf (w : StringWindow) : Bool := Nat.blt w.string 16

/-- What shows as a chain is enumerated: at most four frames for each of 250 addresses and the probe (R82). -/
def EnumHead.wf (x : EnumHead) : Bool := Nat.blt x.head 8 && Nat.ble x.replies.length 1001 && Nat.ble x.devs.length 250 && Nat.ble x.learned.length 250

/-- The operands of a command lie within their spans. -/
def Instr.wf : Instr → Bool
  | .sweepMark => true
  | .ptpSyncMessage port profile domain _ x => Nat.blt port 3 && Nat.blt profile 3 && Nat.blt domain 256 && Nat.blt x.seq 65536
  | .ptpAnnounceMessage a => a.wf
  | .announceReceiptTimeout port => Nat.blt port 3
  | .pSet r => r.wf
  | .angEdge => true
  | .pcsAngleMessage f _ => f.wf
  | .angEdgeTimeout => true
  | .angMsgTimeout => true
  | .mHoldoverMaxExpiry => true
  | .xtalCompUpdate => true
  | .markPulse _ => true
  | .syncSend => true
  | .windowLatch ws => ws.all StringWindow.wf
  | .readStart => true
  | .blockReceived head _ _ => Nat.blt head 8
  | .trainReceived head _ => Nat.blt head 8
  | .trainWaitTimeout head _ => Nat.blt head 8
  | .segmentReadOrder head devices => Nat.blt head 8 && Nat.ble devices 250
  | .carrierCheck head kind _ => Nat.blt head 8 && Nat.blt kind 16
  | .continuityRestored head => Nat.blt head 8
  | .heartbeatDue head => Nat.blt head 8
  | .echoDue head _ _ => Nat.blt head 8
  | .readdress head _ => Nat.blt head 8
  | .acceptDevice r => r.wf
  | .abacusDeadline => true
  | .sweepTail _ _ => true
  | .ciFault string => Nat.blt string 16
  | .ciFaultClear string => Nat.blt string 16
  | .overcurrent string => Nat.blt string 16
  | .cellUpdateDone rod cell _ _ => Nat.blt rod 16 && Nat.blt cell 8192
  | .kernelOverrun rod cell => Nat.blt rod 16 && Nat.blt cell 8192
  | .scrubWord _ => true
  | .balanceSend _ => true
  | .leadCalStart r => r.wf
  | .leadCalTimeout => true
  | .anchorArm string => Nat.blt string 16
  | .anchorTimerExpiry string => Nat.blt string 16
  | .partnerPreferenceExpiry => true
  | .restoreTimeoutExpiry => true
  | .checkpoint r => r.wf
  | .checkpointPeriodExpiry => true
  | .checkpointDemand r => r.wf
  | .pushConfirm peer _ _ => Nat.blt peer 16
  | .pushRetry piece => Nat.blt piece.peer 16
  | .sensorFailed sensor cause => Nat.blt sensor 4096 && Nat.blt cause 4
  | .sensorReset r => r.wf
  | .thresholdDwell kind n _ => Nat.blt kind 3 && Nat.blt n 16
  | .moduleDieRead _ => true
  | .loopTick => true
  | .handoverForced loop => Nat.blt loop 16
  | .senseLost loop => Nat.blt loop 16
  | .plausibilityFault loop => Nat.blt loop 16
  | .loopFrameSend loop => Nat.blt loop 16
  | .senseCanFrame f => f.wf
  | .lawReq loop r => Nat.blt loop 16 && r.wf
  | .manual loop r => Nat.blt loop 16 && r.wf
  | .manualOut loop r => Nat.blt loop 16 && r.wf
  | .isoMessage f => f.wf
  | .isoLost => true
  | .busVoltageFrame f => f.wf
  | .busLost string => Nat.blt string 16
  | .currentInputTimeout string => Nat.blt string 16
  | .stringCommandClose string r => Nat.blt string 16 && r.wf
  | .stringCommandOpen string r => Nat.blt string 16 && r.wf
  | .contactTimeExpiry string => Nat.blt string 16
  | .prechargeTimeout string => Nat.blt string 16
  | .prechargeOverlapExpiry string => Nat.blt string 16
  | .prechargeCooldownEnd string => Nat.blt string 16
  | .breakWaitEnd string => Nat.blt string 16
  | .negOpenDelayExpiry string => Nat.blt string 16
  | .weldCheckTimeExpiry string => Nat.blt string 16
  | .protReset r => r.wf
  | .weldClear r => r.wf
  | .safetyCycle _ => true
  | .siChangeAccepted controller channel _ => Nat.blt controller 3 && Nat.blt channel 16
  | .testPulseFrame _ => true
  | .discrepancyFault pair => Nat.blt pair 8
  | .stop1DelayExpiry source => Nat.blt source 16
  | .safeWeld output => Nat.blt output 48
  | .proofDue string => Nat.blt string 16
  | .proofOverdue string => Nat.blt string 16
  | .proofStart r => r.wf
  | .proofTestStep string => Nat.blt string 16
  | .qsfFrameReceived conn _ _ => Nat.blt conn 8
  | .qsfWatchdogExpiry conn => Nat.blt conn 8
  | .qsfSend conn => Nat.blt conn 8
  | .safetyLogin r => r.wf
  | .safetyLogout r => r.wf
  | .safetySessionTimeout => true
  | .lockoutEnd => true
  | .safetyPasswordNew r => r.wf
  | .safetyRestart r => r.wf
  | .safeReset r => r.wf
  | .dispatchCommand r => r.wf
  | .cmdCanFrame f => f.wf
  | .cmdLost => true
  | .setpointFrameSend string => Nat.blt string 16
  | .tableCycleStart => true
  | .offerReceived _ _ => true
  | .dealSend => true
  | .dealReceived _ _ => true
  | .tableCycleCheck => true
  | .dealHoldMaxExpiry => true
  | .calMaxTimeExpiry => true
  | .calShortfallTimeout => true
  | .canFrameReceived f _ _ => f.wf
  | .protocolException channel => Nat.blt channel 2
  | .canTxDone channel _ _ _ => Nat.blt channel 2
  | .canBusOff channel => Nat.blt channel 2
  | .busoffRecovery channel => Nat.blt channel 2
  | .txRequest channel r => Nat.blt channel 2 && r.wf
  | .txCancel channel _ r => Nat.blt channel 2 && r.wf
  | .rxFifoPop channel fifo _ _ r => Nat.blt channel 2 && Nat.blt fifo 2 && r.wf
  | .txEventPop channel _ _ r => Nat.blt channel 2 && r.wf
  | .detectDwellExpiry channel => Nat.blt channel 2
  | .detectTimeout channel => Nat.blt channel 2
  | .canWakePattern channel => Nat.blt channel 2
  | .read index sub r => Nat.blt index 65536 && Nat.blt sub 65536 && r.wf
  | .write index sub r => Nat.blt index 65536 && Nat.blt sub 65536 && r.wf
  | .readRange index sub count r => Nat.blt index 65536 && Nat.blt sub 65536 && Nat.blt count 65536 && r.wf
  | .domainRead index sub _ _ r => Nat.blt index 65536 && Nat.blt sub 65536 && r.wf
  | .domainWrite index sub _ _ r => Nat.blt index 65536 && Nat.blt sub 65536 && r.wf
  | .push r => r.wf
  | .keepalive r => r.wf
  | .transferLapse index sub => Nat.blt index 65536 && Nat.blt sub 65536
  | .functionRun index sub r found => Nat.blt index 65536 && Nat.blt sub 65536 && r.wf && found.all EnumHead.wf
  | .functionStop index sub r => Nat.blt index 65536 && Nat.blt sub 65536 && r.wf
  | .configSave r => r.wf
  | .sessionHandshake _ _ => true
  | .idpIdleTimeout peer => Nat.blt peer 16
  | .netConfirmTimeout => true
  | .supervisionFrameSend => true
  | .solicit _ _ => true
  | .announce => true
  | .programScan _ _ => true
  | .progWatchdog => true
  | .varValue n r => Nat.blt n 4096 && r.wf
  | .forceEntry n r => Nat.blt n 64 && r.wf
  | .progDebugEnter r => r.wf
  | .progDebugLeave r => r.wf
  | .progStep r => r.wf
  | .programStaged r => r.wf
  | .exchangeRequest r _ => r.wf
  | .exchangeTimeout => true
  | .snapshotReceived _ => true
  | .fieldCycle _ => true
  | .fieldRestart _ => true
  | .fieldSupplyFault => true
  | .dieReset => true
  | .fieldRelease r => r.wf
  | .diChange n _ => Nat.blt n 32
  | .aiSettled n => Nat.blt n 4
  | .piGateEnd n _ _ => Nat.blt n 2
  | .piTimeout n => Nat.blt n 2
  | .kgWindowEnd _ => true
  | .koClampMeasured m _ _ => Nat.blt m 48
  | .doOvertemp n => Nat.blt n 16
  | .kgPathTrip g => Nat.blt g 6
  | .pairHeartbeatSend => true
  | .pairHeartbeatReceived _ => true
  | .heartbeatMiss => true
  | .controlReceived _ => true
  | .sweepMessageReceived _ => true
  | .mirrorReceived _ => true
  | .programMessageReceived _ => true
  | .configReceived index sub _ => Nat.blt index 65536 && Nat.blt sub 65536
  | .restoreReceived _ => true
  | .segmentReceived head _ _ => Nat.blt head 8
  | .roleInAsserted => true
  | .roleInDeasserted => true
  | .roleCollision => true
  | .splitDetected => true
  | .aliveLost => true
  | .pairStartWaitExpiry => true
  | .tpDriveStop => true
  | .swapDue => true
  | .swapRequest r => r.wf
  | .swapSkip => true
  | .coldStart => true
  | .startStepDone _ => true
  | .regulatorRetry => true
  | .wellToneLoss => true
  | .chainActivity => true
  | .wakeOnLan => true
  | .wakeTimerExpiry => true
  | .watchScan _ => true
  | .powerRequestWatch r => r.wf
  | .powerRequestDormant r => r.wf
  | .powerRequestTransport r _ => r.wf
  | .handshakeAnswer block _ => Nat.blt block 8
  | .handshakeDelayExpiry block => Nat.blt block 8
  | .handshakeTimeout => true
  | .transportRelease _ => true
  | .brownoutRaised => true
  | .brownoutCleared => true
  | .holdupRecompute _ _ _ _ => true
  | .crystalLost _ => true
  | .xtalTest _ => true
  | .powerRestart r => r.wf
  | .throttleStart => true
  | .throttleEnd => true
  | .dieCritical sensor _ => Nat.blt sensor 3
  | .updateManifest r => r.wf
  | .updatePiece component piece r => Nat.blt component 6 && Nat.blt piece 32768 && r.wf
  | .componentHashDone component => Nat.blt component 6
  | .imageLoadFrame head => Nat.blt head 8
  | .updateCommandActivate r _ _ => r.wf
  | .updateCommandCancel r => r.wf
  | .postcheckComplete _ => true
  | .postcheckTimeout _ => true
  | .recorderCommit => true
  | .recorderCommitNow r => r.wf
  | .recorderClear r => r.wf
  | .canReceiveError channel _ => Nat.blt channel 2
  | .ciMainPathSample _ => true
  | .carrierPowerLost => true
  | .ethernetLinkChange port _ => Nat.blt port 3

end Sys2Proof
end

