-- ==== Sys2Proof/Tests/Slice0.lean ====
section
/-!
SUPPORT. Tests. A witness of a statement takes the statement as its premise and applies it to concrete states and operands,
one for each clause in the clauses' order: its proof shows that these meet all the hypotheses of the clause together. `m l`
is a module in service whose objects in `l` have the values given beside them; every other object stands at its default.
-/

namespace Sys2Proof.Tests

/- One test after the other: each thread of the elaborator would take its own share of the memory. -/
set_option Elab.async false

open Sys2Proof Sys2Proof.Machine Sys2Proof.Safety

/-- A command answers a next state. -/
abbrev Runs (c : Instr) (s : State) : Prop := ∃ t, exec c s = .next t

/-- A module in service with some objects at given values. -/
def m (l : List (Nat × Nat)) : State := l.foldl (fun s x => s.putN x.1 x.2) {}

/-- A request of the control program, an operator. -/
def own (d : Bytes) : Req := { src := .program, tag := 1, data := d }
/-- A request over the first peer's session. -/
def peer (d : Bytes) : Req := { src := .udp 0, tag := 1, data := d }
/-- The first peer has a session with a role: 2 engineer, 3 safety. -/
def logged (role : Nat) (s : State) : State := { s with idp := { s.idp with sessions := [{ peer := 0, role }] } }
/-- The first peer holds the safety session. -/
def safe (s : State) : State := { logged 3 s with safety := { s.safety with session := some (.udp 0) } }

/-- A position map with one front-end: head 0, address 1, string 0, cells 0 and 1, sensors 0 to 7. -/
def plant : Bytes :=
  leBytes 2 1 ++ leBytes 2 1 ++ leBytes 12 0 ++
    (leBytes 8 77 ++ leBytes 1 0 ++ leBytes 1 1 ++ leBytes 2 0 ++ leBytes 2 0 ++ leBytes 2 3 ++ leBytes 8 0)
/-- The same objects as `m`, with that position map. -/
def mm (l : List (Nat × Nat)) : State := (m l).putBytes Obj.POSITION_MAP plant

/-- What an operation that does not refuse leads to. -/
def okOr (e : Except Abort State) : State :=
  match e with
  | .ok t => t
  | .error _ => {}

theorem ok_get {e : Except Abort State} (h : e.isOk = true) : e = .ok (okOr e) := by
  cases e with
  | ok t => rfl
  | error a => cases h

theorem opt_all {α : Type} {o : Option α} {P : α → Prop} [DecidablePred P] (h : o.all (fun a => decide (P a)) = true) :
    ∀ a, o = some a → P a := by
  rintro a rfl
  simpa using h

theorem some_get {α : Type} {o : Option α} (h : o.isSome = true) : o = some (o.get h) := by simp

theorem pair_get {α β : Type} {o : Option (α × β)} (h : o.isSome = true) : o = some ((o.get h).1, (o.get h).2) := by simp

/-- A program image with one byte of code, one variable of one byte, no binding. -/
def image : Bytes :=
  let b := leBytes 16 0 ++ leBytes 4 1 ++ leBytes 4 1 ++ leBytes 2 0 ++ leBytes 2 1 ++ leBytes 28 0 ++ leBytes 1 0 ++
    (leBytes 20 0 ++ leBytes 2 1 ++ leBytes 1 0 ++ leBytes 1 1 ++ leBytes 8 0) ++ leBytes 1 0
  leBytes 4 1 ++ leBytes 4 (crc32c b) ++ b
/-- A module with that image RUNNING. -/
def progOf (l : List (Nat × Nat)) : State := (m ((Obj.PROG_STATE, 1) :: l)).putBytes Obj.PROGRAM_IMAGE image

/-- A CAN frame on channel 0 with a standard identifier, classic format. -/
def frame (id : Nat) (d : Bytes) : CanFrame := { channel := 0, id, ext := false, rtr := false, fd := false, brs := false, data := d }
/-- A message that came over P1. -/
def viaP1 : NetFrame := { port := 0, lan := 0, source := 1, seq := 1 }

theorem leBytes_length (n v : Nat) : (leBytes n v).length = n := by
  induction n generalizing v with
  | zero => rfl
  | succ n ih => simp [leBytes, ih]

/-- An answered frame to device 1 that a head awaits, and heads 0 to 7 awaiting it. -/
def awaited (kind : Nat) : Await := { kind, dest := 1, seq := 3, payload := [] }
def awaits (kind : Nat) (l : List (Nat × Nat)) : State :=
  { m l with chain := { heads := List.replicate 8 { awaiting := some (awaited kind) } } }
/-- The train that answers it, turned at device 1 by cause 1, and its block. -/
def answer (a : Await) (b : Bytes) : Train :=
  let h := leBytes 1 (a.kind + 128) ++ leBytes 1 a.seq ++ leBytes 1 1 ++ leBytes 1 1
  { bytes := h ++ leBytes 2 (crc16 h) ++ b, after := [] }
def blockOf (kind : Nat) : Bytes :=
  let b := leBytes ((awaited kind).blockLen - 2) 1
  blockMark ++ b ++ leBytes 2 (crc16 b)

/-! ### Witnesses of the completion statements -/

theorem test_clock_commands_run (h : Obligations.ClockCommandsComplete) :
    Runs (.ptpSyncMessage 1 0 0 7 { seq := 9, masterNs := 50 }) (m [(Obj.PTP_PORT, 1), (Obj.PTP_MASTER_ID, 7), (Obj.PTP_PROFILE, 0)]) ∧
    Runs (.ptpSyncMessage 1 0 0 7 { seq := 9, masterNs := 50 }) { m [(Obj.PTP_PORT, 1), (Obj.PTP_MASTER_ID, 7), (Obj.PTP_PROFILE, 0)] with time := { armed := true, offsets := [40, 45, 60] } } ∧
    Runs (.ptpAnnounceMessage { port := 1, profile := 2, domain := 0, master := 9, rank := [] }) {} ∧
    Runs (.announceReceiptTimeout 2) (m [(Obj.PTP_PORT, 1), (Obj.PTP_MASTER_ID, 7), (Obj.PTP_PROFILE, 0)]) ∧
    Runs (.announceReceiptTimeout 1) { m [(Obj.PTP_PORT, 1), (Obj.PTP_MASTER_ID, 7), (Obj.PTP_PROFILE, 0)] with time := { masters := [{ port := 2, id := 7, rank := [] }] } } ∧
    Runs (.announceReceiptTimeout 1) (m [(Obj.PTP_PORT, 1), (Obj.PTP_MASTER_ID, 7), (Obj.PTP_PROFILE, 0)]) ∧
    Runs (.pSet (peer (leBytes 8 5000))) { logged 2 {} with time := { armed := true } } ∧
    Runs (.angEdge) { time := { l := 2000000000, angAccepted := some 19980000000, angEdge := some 19980000000 } } ∧
    Runs (.pcsAngleMessage { channel := 0, id := 5, ext := false, rtr := false, fd := true, brs := false, data := leBytes 8 99 } 100) (m [(Obj.ANGLE_SOURCE, 1), (Obj.ANG_MSG_ID, 5)]) ∧
    Runs (.angEdgeTimeout) { time := { angAccepted := some 0 } } ∧
    Runs (.angMsgTimeout) { m [(Obj.ANGLE_SOURCE, 1)] with time := { pcsLast := some 0 } } ∧
    Runs (.mHoldoverMaxExpiry) (m [(Obj.M_STATE, mHoldover)]) ∧
    Runs (.xtalCompUpdate) {} ∧
    Runs (.markPulse 2) { m [(Obj.MK_STATE 2, 1)] with time := { marks := [{}, {}, { next := some 0 }, {}] } } := by
  obtain ⟨c1, c2, c3, c4, c5, c6, c7, c8, c9, c10, c11, c12, c13, c14⟩ := h
  exact ⟨⟨_, by apply c1 <;> decide +kernel⟩,
    ⟨_, by apply c2 <;> decide +kernel⟩,
    ⟨_, by apply c3 <;> decide +kernel⟩,
    ⟨_, by apply c4 <;> decide +kernel⟩,
    ⟨_, by apply c5 <;> decide +kernel⟩,
    ⟨_, by apply c6 <;> decide +kernel⟩,
    ⟨_, by apply c7 <;> decide +kernel⟩,
    ⟨_, by apply c8 <;> first | decide +kernel | exact opt_all (by decide +kernel)⟩,
    ⟨_, by apply c9 <;> decide +kernel⟩,
    ⟨_, by apply c10 <;> decide +kernel⟩,
    ⟨_, by apply c11 <;> decide +kernel⟩,
    ⟨_, by apply c12 <;> decide +kernel⟩,
    ⟨_, by apply c13 <;> decide +kernel⟩,
    ⟨_, by apply c14 (n := 2) (t := 0) <;> decide +kernel⟩⟩

theorem test_sweep_commands_run (h : Obligations.SweepCommandsComplete) :
    Runs (.sweepMark) { time := { nextMark := some 5 } } ∧
    Runs (.syncSend) {} ∧
    Runs (.windowLatch [{ string := 0, densities := [1], complete := true }]) {} ∧
    Runs (.readStart) {} ∧
    Runs (.sweepTail { rods := [], words := [] } true) { sweep := { tailDone := false } } ∧
    Runs (.ciFault 15) {} ∧
    Runs (.ciFaultClear 15) {} ∧
    Runs (.ciMainPathSample [(15, 5)]) {} := by
  obtain ⟨c1, c2, c3, c4, c5, c6, c7, c8⟩ := h
  exact ⟨⟨_, by apply c1 <;> decide +kernel⟩,
    ⟨_, by apply c2 <;> decide +kernel⟩,
    ⟨_, by apply c3 <;> decide +kernel⟩,
    ⟨_, by apply c4 <;> decide +kernel⟩,
    ⟨_, by apply c5 <;> decide +kernel⟩,
    ⟨_, by apply c6 <;> decide +kernel⟩,
    ⟨_, by apply c7 <;> decide +kernel⟩,
    ⟨_, by apply c8 <;> decide +kernel⟩⟩

theorem test_chain_commands_run (h : Obligations.ChainCommandsComplete) :
    Runs (.blockReceived 7 1 []) {} ∧
    Runs (.segmentReceived 7 1 []) {} ∧
    Runs (.trainReceived 7 (answer (awaited kRead) [])) (awaits kRead [(Obj.HEAD_ROLE 7, roleReading)]) ∧
    Runs (.trainReceived 7 (answer (awaited kBalance) (blockOf kBalance))) (awaits kBalance []) ∧
    Runs (.trainReceived 7 (answer (awaited kConfigWrite) (blockOf kConfigWrite))) (awaits kConfigWrite []) ∧
    Runs (.trainReceived 7 (answer (awaited kImageCheck) (blockOf kImageCheck))) (awaits kImageCheck []) ∧
    Runs (.trainWaitTimeout 7 true) (awaits kBalance []) ∧
    Runs (.trainWaitTimeout 7 false) (awaits kRead [(Obj.HEAD_ROLE 7, roleReading)]) ∧
    Runs (.trainWaitTimeout 7 true) (awaits kRead [(Obj.HEAD_ROLE 7, roleReading)]) ∧
    Runs (.segmentReadOrder 7 0) { m [(Obj.HEAD_ROLE 7, roleListening)] with chain := { heads := List.replicate 8 { ordered := some 3, delaysB := true } } } ∧
    Runs (.segmentReadOrder 7 4) { m [(Obj.HEAD_ROLE 7, roleListening), (Obj.HEAD_SHAPE 7, 3), (Obj.PAIR_ROLE, 2)] with chain := { heads := List.replicate 8 { delaysB := true } } } ∧
    Runs (.carrierCheck 7 kSync true) (m [(Obj.HEAD_ROLE 7, roleListening)]) ∧
    Runs (.continuityRestored 7) (m [(Obj.HEAD_ROLE 7, roleSegment)]) ∧
    Runs (.heartbeatDue 7) (m [(Obj.HEAD_ROLE 7, roleReading)]) ∧
    Runs (.echoDue 7 true [{ addr := 1, echoes := [], regs := none }]) (m [(Obj.HEAD_ROLE 7, roleListening)]) ∧
    Runs (.readdress 7 []) { m [(Obj.HEAD_ROLE 7, roleReading), (Obj.HEAD_DEVICES 7, 3)] with chain := { heads := List.replicate 8 { readTurn := some (2, 2) } } } ∧
    Runs (.acceptDevice (peer (leBytes 2 0))) (logged 2 (mm [(Obj.FE_STATUS 0, feMismatch), (Obj.FE_UID 0, 88)])) := by
  obtain ⟨c1, c2, c3, c4, c5, c6, c7, c8, c9, c10, c11, c12, c13⟩ := h
  exact ⟨⟨_, by apply c1 <;> decide +kernel⟩,
    ⟨_, by apply c2 <;> decide +kernel⟩,
    ⟨_, by apply c3 (a := awaited kRead) <;> decide +kernel⟩,
    ⟨_, by exact (c4 _ _ _ (awaited kBalance) _ (by decide +kernel) (by decide +kernel) (by decide +kernel) (by decide +kernel) (by decide +kernel) (some_get (by decide +kernel))).1 (by decide +kernel)⟩,
    ⟨_, by exact (c4 _ _ _ (awaited kConfigWrite) _ (by decide +kernel) (by decide +kernel) (by decide +kernel) (by decide +kernel) (by decide +kernel) (some_get (by decide +kernel))).2.1 (by decide +kernel)⟩,
    ⟨_, by exact (c4 _ _ _ (awaited kImageCheck) _ (by decide +kernel) (by decide +kernel) (by decide +kernel) (by decide +kernel) (by decide +kernel) (some_get (by decide +kernel))).2.2 (by decide +kernel)⟩,
    ⟨_, by apply c5 (a := awaited kBalance) <;> decide +kernel⟩,
    ⟨_, by exact (c6 _ _ (awaited kRead) (by decide +kernel) (by decide +kernel) (by decide +kernel) (by decide +kernel) (by decide +kernel)).1⟩,
    ⟨_, by exact (c6 _ _ (awaited kRead) (by decide +kernel) (by decide +kernel) (by decide +kernel) (by decide +kernel) (by decide +kernel)).2⟩,
    ⟨_, by apply c7 (m := 3) <;> decide +kernel⟩,
    ⟨_, by apply c7 (d := 4) (m := 4) <;> decide +kernel⟩,
    ⟨_, by apply c8 <;> decide +kernel⟩,
    ⟨_, by apply c9 <;> decide +kernel⟩,
    ⟨_, by apply c10 <;> decide +kernel⟩,
    ⟨_, by apply c11 <;> decide +kernel⟩,
    ⟨_, by apply c12 (turn := 2) <;> decide +kernel⟩,
    ⟨_, by apply c13 <;> first | decide +kernel | exact ok_get (by decide +kernel)⟩⟩

theorem test_cell_commands_run (h : Obligations.CellCommandsComplete) :
    Runs (.abacusDeadline) {} ∧
    Runs (.cellUpdateDone 15 8191 [] none) { est := { abacus := { rods := List.replicate 16 { slots := [{ cell := 8191, lagged := false, worst := 9600, sop := false, par := false, forced := false, priority := false }] } } } } ∧
    Runs (.kernelOverrun 15 8191) { est := { abacus := { rods := List.replicate 16 { slots := [{ cell := 8191, lagged := false, worst := 9600, sop := false, par := false, forced := false, priority := false }] } } } } ∧
    Runs (.scrubWord { word := 0, errs := [], area := 3, rod := 0, readers := [] }) {} ∧
    Runs (.balanceSend true) {} ∧
    Runs (.leadCalStart (peer (leBytes 2 0xFFFF))) (logged 2 (mm [(Obj.BAL_STATE, 0)])) ∧
    Runs (.leadCalTimeout) (m [(Obj.LEAD_CAL_STATE, 1), (Obj.SWEEP_COUNT, 1000000)]) ∧
    Runs (.anchorArm 15) { est := { strs := List.replicate 16 { timers := [100000, 0, 0] } } } ∧
    Runs (.anchorTimerExpiry 15) { est := { strs := List.replicate 16 { unjudged := 2 } } } ∧
    Runs (.partnerPreferenceExpiry) { custody := { host := some { generation := 1, uids := [], crcs := [], records := [], charges := [] } } } ∧
    Runs (.restoreTimeoutExpiry) {} ∧
    Runs (.checkpointPeriodExpiry) {} ∧
    Runs (.checkpointPeriodExpiry) { custody := { gen := some { number := 1, unset := false, reason := 0, paced := true } } } ∧
    Runs (.checkpointDemand (own [1])) {} ∧
    Runs (.pushConfirm 0 64 0) { custody := { pieces := [{ offset := 64, last := false, data := [], attempts := 1 }] } } ∧
    Runs (.pushConfirm 0 64 0) { custody := { pieces := [{ offset := 64, last := true, data := [], attempts := 1 }] } } ∧
    Runs (.pushRetry ⟨0, 64⟩) { custody := { pieces := [{ offset := 64, last := true, data := [], attempts := 4 }] } } ∧
    Runs (.pushRetry ⟨0, 64⟩) { custody := { pieces := [{ offset := 64, last := true, data := [], attempts := 5 }] } } := by
  obtain ⟨c1, c2, c3, c4, c5, c6, c7, c8, c9, c10, c11, -, c13, c14, c15, c16, c17, c18, c19⟩ := h
  exact ⟨⟨_, by apply c1 <;> decide +kernel⟩,
    ⟨_, by apply c2 <;> decide +kernel⟩,
    ⟨_, by apply c3 <;> first | decide +kernel | exact some_get (by decide +kernel)⟩,
    ⟨_, by apply c4 <;> decide +kernel⟩,
    ⟨_, by apply c5 <;> decide +kernel⟩,
    ⟨_, by apply c6 <;> decide +kernel⟩,
    ⟨_, by apply c7 <;> decide +kernel⟩,
    ⟨_, by apply c8 <;> decide +kernel⟩,
    ⟨_, by apply c9 <;> decide +kernel⟩,
    ⟨_, by apply c10 <;> decide +kernel⟩,
    ⟨_, by apply c11 <;> decide +kernel⟩,
    ⟨_, by apply c13 <;> decide +kernel⟩,
    ⟨_, by apply c14 <;> decide +kernel⟩,
    ⟨_, by apply c15 <;> decide +kernel⟩,
    ⟨_, by apply c16 <;> first | decide +kernel | exact some_get (by decide +kernel)⟩,
    ⟨_, by apply c17 <;> first | decide +kernel | exact some_get (by decide +kernel)⟩,
    ⟨_, by apply c18 (p := { offset := 64, last := true, data := [], attempts := 4 }) <;> decide +kernel⟩,
    ⟨_, by apply c19 (p := { offset := 64, last := true, data := [], attempts := 5 }) <;> decide +kernel⟩⟩

theorem test_heat_commands_run (h : Obligations.HeatCommandsComplete) :
    Runs (.sensorFailed 0 fcShort) ((mm [(Obj.SENSOR_STATUS 0, snOk)]).putBytes Obj.GEOMETRY_MAP (leBytes 36 0 ++ leBytes 4 1)) ∧
    Runs (.sensorReset (peer (leBytes 2 0))) (logged 2 {}) ∧
    Runs (.thresholdDwell 0 15 0) {} ∧
    Runs (.thresholdDwell 1 7 0) {} ∧
    Runs (.thresholdDwell 2 15 0) {} ∧
    Runs (.moduleDieRead [50, 50, 50, 50, 50, 50]) {} ∧
    Runs (.loopTick) {} ∧
    Runs (.handoverForced 15) { m [(Obj.LOOP_STATE 15, 1)] with loops := List.replicate 16 { handover := some 0 } } ∧
    Runs (.senseLost 15) (m [(Obj.LOOP_STATE 15, 1)]) ∧
    Runs (.plausibilityFault 15) { m [(Obj.LOOP_STATE 15, 1)] with loops := List.replicate 16 { plausL := some 0 } } ∧
    Runs (.loopFrameSend 15) (m [(Obj.LOOP_STATE 15, 1), (Obj.OUT_A 15, 0xFE)]) ∧
    Runs (.senseCanFrame (frame 5 (leBytes 2 2500))) (m [(Obj.LOOP_STATE 15, 1), (Obj.SENSE_SOURCE 15, 1), (Obj.SENSE_CAN_ID 15, 5)]) ∧
    Runs (.lawReq 15 (own [1])) {} ∧
    Runs (.manual 15 (own [1])) {} ∧
    Runs (.manualOut 15 (own (leBytes 4 7))) {} := by
  obtain ⟨c1, c2, c3, c4, c5, c6, c7, c8, c9, c10, c11, c12, c13, c14, c15⟩ := h
  exact ⟨⟨_, by apply c1 <;> decide +kernel⟩,
    ⟨_, by apply c2 <;> decide +kernel⟩,
    ⟨_, by apply c3 <;> decide +kernel⟩,
    ⟨_, by apply c4 <;> decide +kernel⟩,
    ⟨_, by apply c5 <;> decide +kernel⟩,
    ⟨_, by apply c6 <;> decide +kernel⟩,
    ⟨_, by apply c7 <;> decide +kernel⟩,
    ⟨_, by apply c8 <;> decide +kernel⟩,
    ⟨_, by apply c9 <;> decide +kernel⟩,
    ⟨_, by apply c10 <;> decide +kernel⟩,
    ⟨_, by apply c11 <;> decide +kernel⟩,
    ⟨_, by apply c12 <;> decide +kernel⟩,
    ⟨_, by apply c13 <;> decide +kernel⟩,
    ⟨_, by apply c14 <;> decide +kernel⟩,
    ⟨_, by apply c15 <;> decide +kernel⟩⟩

theorem test_protection_commands_run (h : Obligations.ProtectionCommandsComplete) :
    Runs (.overcurrent 15) {} ∧
    Runs (.isoMessage (frame 5 (leBytes 4 1000 ++ leBytes 4 1))) (m [(Obj.ISO_MSG_CHANNEL, 0), (Obj.ISO_MSG_ID, 5)]) ∧
    Runs (.isoLost) {} ∧
    Runs (.busVoltageFrame (frame 5 (leBytes 4 800000 ++ leBytes 4 1))) (mm [(Obj.BUS_MSG_CHANNEL, 0), (Obj.BUS_MSG_ID, 5)]) ∧
    Runs (.busLost 0) (mm [(Obj.STRING_SEQ_STATE 0, sqClosed)]) ∧
    Runs (.currentInputTimeout 0) (mm [(Obj.CI_FAULT 0, 1)]) ∧
    Runs (.stringCommandClose 0 (own [])) { mm [(Obj.CELL_MEAS_FLAGS 0, 0), (Obj.CELL_MEAS_FLAGS 1, 0)] with prot := { strs := List.replicate 16 { voltValid := true, busL := some 0 } }, safety := { x := { en := 65535 }, y := { en := 65535 } } } ∧
    Runs (.stringCommandOpen 15 (own [])) {} ∧
    Runs (.contactTimeExpiry 15) { m [(Obj.AUX_INPUT 46, 0)] with prot := { strs := List.replicate 16 { phase := phNeg } }, field := { ko := 2 ^ 48 - 1 }, safety := { x := { si := 1 } } } ∧
    Runs (.contactTimeExpiry 15) { m [(Obj.AUX_INPUT 45, 0)] with prot := { strs := List.replicate 16 { phase := phPos } }, field := { ko := 2 ^ 48 - 1 }, safety := { x := { si := 1 } } } ∧
    Runs (.contactTimeExpiry 15) { prot := { strs := List.replicate 16 { phase := phContact } } } ∧
    Runs (.prechargeTimeout 15) { prot := { strs := List.replicate 16 { phase := phPre } } } ∧
    Runs (.prechargeOverlapExpiry 15) { prot := { strs := List.replicate 16 { phase := phOverlap } } } ∧
    Runs (.prechargeCooldownEnd 15) { prot := { strs := List.replicate 16 { phase := 0, cooldown := true } } } ∧
    Runs (.breakWaitEnd 15) { prot := { strs := List.replicate 16 { phase := phBreak } } } ∧
    Runs (.negOpenDelayExpiry 15) { prot := { strs := List.replicate 16 { phase := phNegDelay } } } ∧
    Runs (.weldCheckTimeExpiry 15) { prot := { strs := List.replicate 16 { phase := phVoltage } } } ∧
    Runs (.protReset (own [0xFF])) {} ∧
    Runs (.weldClear (peer [15])) (logged 2 {}) := by
  obtain ⟨c1, c2, c3, c4, c5, c6, c7, c8, c9, c10, c11, c12, c13, c14, c15, c16, c17, c18, c19⟩ := h
  exact ⟨⟨_, by apply c1 <;> decide +kernel⟩,
    ⟨_, by apply c2 <;> decide +kernel⟩,
    ⟨_, by apply c3 <;> decide +kernel⟩,
    ⟨_, by apply c4 <;> decide +kernel⟩,
    ⟨_, by apply c5 <;> decide +kernel⟩,
    ⟨_, by apply c6 <;> decide +kernel⟩,
    ⟨_, by apply c7 <;> decide +kernel⟩,
    ⟨_, by apply c8 <;> decide +kernel⟩,
    ⟨_, by apply c9 <;> decide +kernel⟩,
    ⟨_, by apply c10 <;> decide +kernel⟩,
    ⟨_, by apply c11 <;> decide +kernel⟩,
    ⟨_, by apply c12 <;> decide +kernel⟩,
    ⟨_, by apply c13 <;> decide +kernel⟩,
    ⟨_, by apply c14 <;> decide +kernel⟩,
    ⟨_, by apply c15 <;> decide +kernel⟩,
    ⟨_, by apply c16 <;> decide +kernel⟩,
    ⟨_, by apply c17 <;> decide +kernel⟩,
    ⟨_, by apply c18 <;> decide +kernel⟩,
    ⟨_, by apply c19 <;> decide +kernel⟩⟩

theorem test_safety_commands_run (h : Obligations.SafetyCommandsComplete) :
    Runs (.safetyCycle { koX := 0, koY := 0, lost := false, failure := 0 }) {} ∧
    Runs (.siChangeAccepted 2 15 true) {} ∧
    Runs (.testPulseFrame [15]) (m [(Obj.SAFETY_STATE, 1)]) ∧
    Runs (.discrepancyFault 7) { m [(Obj.SAFETY_STATE, 1)] with safety := { x := { pairs := List.replicate 8 { st := prReleasing } } } } ∧
    Runs (.stop1DelayExpiry 15) (m [(Obj.SAFETY_STATE, 1)]) ∧
    Runs (.safeWeld 47) { m [(Obj.AUX_INPUT 47, 15)] with safety := { weldTests := [47], x := { si := 65535 } } } ∧
    Runs (.proofDue 15) (m [(Obj.SAFETY_STATE, 1)]) ∧
    Runs (.proofOverdue 15) (m [(Obj.SAFETY_STATE, 1), (Obj.PROOF_STATE 15, 1)]) ∧
    Runs (.proofStart (own [15])) (m [(Obj.SAFETY_STATE, 1)]) ∧
    Runs (.proofTestStep 15) { safety := { strs := List.replicate 16 { proof := some (0, 1) } } } ∧
    Runs (.proofTestStep 15) { safety := { strs := List.replicate 16 { proof := some (1, 2) } } } ∧
    Runs (.proofTestStep 15) { safety := { strs := List.replicate 16 { proof := some (2, 7) } } } ∧
    Runs (.qsfFrameReceived 7 [1] { viaP1 with udp := 48821, addr := 9 }) (m [(Obj.QSF_TRANSPORT 7, 2), (Obj.QSF_PEER_ADDR 7, 9)]) ∧
    Runs (.qsfFrameReceived 7 [1] { viaP1 with udp := 48821, addr := 8 }) (m [(Obj.QSF_TRANSPORT 7, 2), (Obj.QSF_PEER_ADDR 7, 9)]) ∧
    Runs (.qsfWatchdogExpiry 7) (m [(Obj.SAFETY_STATE, 1), (Obj.QSF_ROLE 7, 2)]) ∧
    Runs (.qsfSend 7) (m [(Obj.SAFETY_STATE, 1), (Obj.QSF_ROLE 7, 1)]) ∧
    Runs (.safetyLogin (peer (leBytes 8 0x3837363534333231))) { logged 3 {} with safety := { pwHash := some (Config.passwordHash (leBytes 8 0x3837363534333231)) } } ∧
    Runs (.safetyLogout (peer [])) (safe {}) ∧
    Runs (.safetySessionTimeout) (safe {}) ∧
    Runs (.lockoutEnd) { safety := { lockMs := 1 } } ∧
    Runs (.safetyPasswordNew (peer (leBytes 8 0x3837363534333231))) (safe {}) ∧
    Runs (.safetyRestart (peer [])) (safe (m [(Obj.SAFETY_STATE, 2)])) ∧
    Runs (.safeReset (own [])) (m [(Obj.SAFETY_STATE, 1), (Obj.SAFE_RESET_REMOTE, 1)]) := by
  obtain ⟨c1, c2, c3, c4, c5, c6, c7, c8, c9, c10, c11, c12, c13, c14, c15, c16, c17, c18, c19, c20, c21, c22, c23⟩ := h
  exact ⟨⟨_, by apply c1 <;> decide +kernel⟩,
    ⟨_, by apply c2 <;> decide +kernel⟩,
    ⟨_, by apply c3 <;> decide +kernel⟩,
    ⟨_, by apply c4 <;> decide +kernel⟩,
    ⟨_, by apply c5 <;> decide +kernel⟩,
    ⟨_, by apply c6 <;> decide +kernel⟩,
    ⟨_, by apply c7 <;> decide +kernel⟩,
    ⟨_, by apply c8 <;> decide +kernel⟩,
    ⟨_, by apply c9 <;> decide +kernel⟩,
    ⟨_, by apply c10 (i := 0) <;> decide +kernel⟩,
    ⟨_, by apply c11 (i := 1) (step := 2) <;> decide +kernel⟩,
    ⟨_, by apply c12 (i := 2) <;> decide +kernel⟩,
    ⟨_, by apply c13 <;> decide +kernel⟩,
    ⟨_, by apply c14 <;> decide +kernel⟩,
    ⟨_, by apply c15 <;> decide +kernel⟩,
    ⟨_, by apply c16 <;> decide +kernel⟩,
    ⟨_, by apply c17 <;> first | decide +kernel | rfl⟩,
    ⟨_, by apply c18 <;> decide +kernel⟩,
    ⟨_, by apply c19 <;> decide +kernel⟩,
    ⟨_, by apply c20 <;> decide +kernel⟩,
    ⟨_, by apply c21 <;> decide +kernel⟩,
    ⟨_, by apply c22 <;> decide +kernel⟩,
    ⟨_, by apply c23 <;> decide +kernel⟩⟩

/-- A module at the table, in cycle 0. -/
def seated : State := m [(Obj.TABLE_ENABLE, 1), (Obj.TABLE_STATE, 1), (Obj.P_STATE, 2)]
/-- The same, with the dealer at seat 3. -/
def dealer : State := m [(Obj.TABLE_ENABLE, 1), (Obj.TABLE_STATE, 1), (Obj.P_STATE, 2), (Obj.DEALER_SEAT, 3)]
/-- The OFFER of seat 3 for cycle 0 without its MAC, and a DEAL of seat 3 without entries. -/
def offerBody : Bytes := leBytes 1 1 ++ leBytes 1 1 ++ leBytes 2 0 ++ leBytes 1 3 ++ leBytes 31 0
def dealBody : Bytes := leBytes 1 2 ++ leBytes 1 1 ++ leBytes 2 0 ++ leBytes 1 3 ++ leBytes 19 0
/-- A table message with its MAC. -/
def sealed (s : State) (b : Bytes) : Bytes := b ++ tableMac (began s) b

theorem sealed_field (s : State) (b : Bytes) (o n : Nat) (h : o + n ≤ b.length) : fieldU (sealed s b) o n = fieldU b o n := by
  unfold fieldU slice sealed
  rw [List.drop_append_of_le_length (by omega), List.take_append_of_le_length (by simp; omega)]

theorem sealed_length (s : State) (b : Bytes) : (sealed s b).length = b.length + 16 := by simp [sealed, tableMac, Config.hmac]

theorem sealed_passes (kind : Nat) (s : State) (b : Bytes) (ht : (began s).atTable = true) (hl : 16 ≤ b.length)
    (h1 : fieldU b 0 1 = kind) (h2 : fieldU b 1 1 = 1) (h3 : fieldU b 2 2 = (began s).n Obj.TABLE_ID)
    (h4 : fieldU b 8 8 = (began s).tableCycle) : tableMessage kind (sealed s b) (began s) = (true, began s) := by
  have e1 : (sealed s b).take ((sealed s b).length - 16) = b := by rw [sealed_length]; simp [sealed]
  have e2 : (sealed s b).drop ((sealed s b).length - 16) = tableMac (began s) b := by rw [sealed_length]; simp [sealed]
  unfold tableMessage
  rw [e1, e2, sealed_field s b 0 1 (by omega), sealed_field s b 1 1 (by omega), sealed_field s b 2 2 (by omega),
    sealed_field s b 8 8 (by omega), sealed_length]
  have hn : ¬ b.length + 16 < 32 := by omega
  simp [ht, h1, h2, h3, h4, hn]

theorem netPass_plain (v : NetFrame) (s : State) (h : s.ethN Obj.NET_MODE = 0) : netPass v s = (true, s) := by simp [netPass, h]

theorem offer_passes : netPass viaP1 (began seated) = (true, began seated) ∧
    tableMessage 1 (sealed seated offerBody) (began seated) = (true, began seated) :=
  ⟨netPass_plain _ _ (by decide +kernel), sealed_passes 1 _ _ (by decide +kernel) (by decide) (by decide +kernel) (by decide +kernel)
    (by decide +kernel) (by decide +kernel)⟩

theorem deal_passes : netPass viaP1 (began dealer) = (true, began dealer) ∧
    tableMessage 2 (sealed dealer dealBody) (began dealer) = (true, began dealer) :=
  ⟨netPass_plain _ _ (by decide +kernel), sealed_passes 2 _ _ (by decide +kernel) (by decide) (by decide +kernel) (by decide +kernel)
    (by decide +kernel) (by decide +kernel)⟩

theorem test_dispatch_commands_run (h : Obligations.DispatchCommandsComplete) :
    Runs (.dispatchCommand (own (leBytes 4 0))) {} ∧
    Runs (.cmdCanFrame (frame 5 (leBytes 4 0 ++ leBytes 4 1))) (m [(Obj.CMD_SOURCE, 1), (Obj.CMD_CAN_ID, 5)]) ∧
    Runs (.cmdLost) {} ∧
    Runs (.setpointFrameSend 0) (mm []) ∧
    Runs (.tableCycleStart) (m [(Obj.TABLE_ENABLE, 1), (Obj.TABLE_STATE, 1), (Obj.P_STATE, 2)]) ∧
    Runs (.offerReceived (sealed seated offerBody) viaP1) seated ∧
    Runs (.dealSend) (m [(Obj.TABLE_ENABLE, 1), (Obj.TABLE_STATE, 1), (Obj.P_STATE, 2), (Obj.TABLE_SEATS_EXPECTED, 3), (Obj.SEATS_HEARD, 2), (Obj.DEALER_SEAT, 4), (Obj.SEAT_NUMBER, 4)]) ∧
    Runs (.dealReceived (sealed dealer dealBody) viaP1) dealer ∧
    Runs (.tableCycleCheck) (m [(Obj.TABLE_ENABLE, 1), (Obj.TABLE_STATE, 1), (Obj.P_STATE, 2)]) ∧
    Runs (.dealHoldMaxExpiry) (m [(Obj.TABLE_ENABLE, 1), (Obj.TABLE_STATE, 1), (Obj.P_STATE, 2)]) ∧
    Runs (.calMaxTimeExpiry) (m [(Obj.CAL_STRING, 15)]) ∧
    Runs (.calShortfallTimeout) { m [(Obj.CAL_STRING, 15)] with disp := { short := 1 } } := by
  obtain ⟨c1, c2, c3, c4, c5, c6, c7, c8, c9, c10, c11, c12⟩ := h
  exact ⟨⟨_, by apply c1 <;> decide +kernel⟩,
    ⟨_, by apply c2 <;> decide +kernel⟩,
    ⟨_, by apply c3 <;> decide +kernel⟩,
    ⟨_, by apply c4 <;> decide +kernel⟩,
    ⟨_, by apply c5 <;> decide +kernel⟩,
    ⟨_, by exact c6 _ _ _ (by decide +kernel) (by decide +kernel) (by rw [offer_passes.1]; exact congrArg Prod.fst offer_passes.2) (by rw [sealed_length]; rfl)⟩,
    ⟨_, by apply c7 <;> decide +kernel⟩,
    ⟨_, c8 dealer (sealed dealer dealBody) viaP1 (by decide +kernel) (by rw [deal_passes.1])
      (by rw [deal_passes.1]; exact congrArg Prod.fst deal_passes.2)
      (by rw [sealed_length, sealed_field _ _ _ _ (by decide)]; decide +kernel)
      (by rw [deal_passes.1, deal_passes.2, sealed_field _ _ _ _ (by decide)]; decide +kernel)
      (by rw [deal_passes.1, deal_passes.2]; decide +kernel)⟩,
    ⟨_, by apply c9 <;> first | decide +kernel | exact opt_all (by decide +kernel)⟩,
    ⟨_, by apply c10 <;> decide +kernel⟩,
    ⟨_, by apply c11 (n := 15) <;> decide +kernel⟩,
    ⟨_, by apply c12 (n := 15) <;> decide +kernel⟩⟩

theorem test_can_commands_run (h : Obligations.CanCommandsComplete) :
    Runs (.canFrameReceived (frame 5 []) false 0) {} ∧
    Runs (.protocolException 1) (m [(Obj.CAN_STATE 1, 1)]) ∧
    Runs (.canTxDone 1 none { code := 0 } 0) (m [(Obj.CAN_STATE 1, 1), (Obj.TX_STATE 1 8, txPending)]) ∧
    Runs (.canTxDone 1 (some 31) { code := 1 } 0) (m [(Obj.CAN_STATE 1, 1), (Obj.TX_STATE 1 31, txPending)]) ∧
    Runs (.canBusOff 1) (m [(Obj.CAN_STATE 1, 1)]) ∧
    Runs (.busoffRecovery 1) { m [(Obj.CAN_STATE 1, 1), (Obj.CAN_ERROR_STATE 1, 2)] with can := [{}, { recovering := true }] } ∧
    Runs (.txRequest 1 (own (leBytes 4 0x80000100))) (m [(Obj.CAN_STATE 1, 1)]) ∧
    Runs (.txCancel 1 0x80000000 (own (leBytes 4 0x80000100))) {} ∧
    Runs (.rxFifoPop 1 1 0 64 (own [])) {} ∧
    Runs (.txEventPop 1 0 64 (own [])) {} ∧
    Runs (.detectDwellExpiry 1) ((m [(Obj.CAN_STATE 1, 1), (Obj.CAN_MODE 1, cmDetect)]).putBytes (Obj.RATE_CANDIDATES 1) (leBytes 24 1)) ∧
    Runs (.detectTimeout 1) (m [(Obj.CAN_STATE 1, 1), (Obj.CAN_MODE 1, cmDetect)]) ∧
    Runs (.canWakePattern 1) { m [(Obj.CAN_WAKE_ENABLE 1, 1), (Obj.WAKE_SOURCES, 4)] with pow := { phase := 2 } } ∧
    Runs (.canReceiveError 1 { dataPhase := false }) (m [(Obj.CAN_STATE 1, 1)]) ∧
    Runs (.canReceiveError 1 { dataPhase := true }) ((m [(Obj.CAN_STATE 1, 1), (Obj.CAN_MODE 1, cmDetect)]).putBytes (Obj.RATE_CANDIDATES 1) (leBytes 24 1)) ∧
    Runs (.canReceiveError 1 { dataPhase := true }) { m [(Obj.CAN_STATE 1, 1), (Obj.CAN_MODE 1, cmDetect)] with can := [{}, { chosen := true }] } := by
  obtain ⟨c1, c2, c3, c4, c5, c6, c7, c8, c9, c10, c11, c12, c13, c14, c15, c16⟩ := h
  exact ⟨⟨_, by apply c1 <;> decide +kernel⟩,
    ⟨_, by apply c2 <;> decide +kernel⟩,
    ⟨_, by apply c3 (b := 8) <;> decide +kernel⟩,
    ⟨_, by apply c4 <;> decide +kernel⟩,
    ⟨_, by apply c5 <;> decide +kernel⟩,
    ⟨_, by apply c6 <;> decide +kernel⟩,
    ⟨_, by apply c7 <;> decide +kernel⟩,
    ⟨_, by apply c8 <;> decide +kernel⟩,
    ⟨_, by apply c9 <;> decide +kernel⟩,
    ⟨_, by apply c10 <;> decide +kernel⟩,
    ⟨_, by apply c11 <;> decide +kernel⟩,
    ⟨_, by apply c12 <;> decide +kernel⟩,
    ⟨_, by apply c13 <;> decide +kernel⟩,
    ⟨_, by apply c14 <;> decide +kernel⟩,
    ⟨_, by apply c15 <;> decide +kernel⟩,
    ⟨_, by apply c16 <;> decide +kernel⟩⟩

theorem test_dictionary_commands_run (h : Obligations.DictionaryCommandsComplete) :
    Runs (.read (Obj.PTP_PROFILE / 65536) (Obj.PTP_PROFILE % 65536) (own [])) {} ∧
    Runs (.write (Obj.DISPATCH_COMMAND / 65536) (Obj.DISPATCH_COMMAND % 65536) (own (leBytes 4 0))) {} ∧
    Runs (.readRange (Obj.STRING_SEQ_STATE 0 / 65536) (Obj.STRING_SEQ_STATE 0 % 65536) 16 (own [])) {} ∧
    Runs (.domainRead (Obj.PROGRAM_STAGED / 65536) (Obj.PROGRAM_STAGED % 65536) 0 64 (own [])) {} ∧
    Runs (.domainWrite (Obj.PROGRAM_STAGED / 65536) (Obj.PROGRAM_STAGED % 65536) 0 false (peer [1, 2])) (logged 2 {}) ∧
    Runs (.domainWrite (Obj.FORCE_ENTRY 0 / 65536) (Obj.FORCE_ENTRY 0 % 65536) 0 true (peer [])) (logged 2 {}) ∧
    Runs (.push { index := Obj.PTP_PROFILE / 65536, sub := Obj.PTP_PROFILE % 65536, req := own [] }) {} ∧
    Runs (.keepalive { index := 0, sub := 0, req := own [] }) {} ∧
    Runs (.transferLapse (Obj.PROGRAM_STAGED / 65536) (Obj.PROGRAM_STAGED % 65536)) { idp := { transfers := [{ src := .can, key := Obj.PROGRAM_STAGED, data := [1] }] } } ∧
    Runs (.functionRun (Obj.RECORDER_STATE / 65536) (Obj.RECORDER_STATE % 65536) (peer []) []) (logged 2 (m [(Obj.RECORDER_STATE, 0)])) ∧
    Runs (.functionStop (Obj.RECORDER_STATE / 65536) (Obj.RECORDER_STATE % 65536) (peer [])) (logged 2 {}) ∧
    Runs (.configSave (peer [])) (logged 2 {}) := by
  obtain ⟨c1, c2, c3, c4, c5, c6, c7, c8, c9, c10, c11, c12⟩ := h
  exact ⟨⟨_, by apply c1 <;> decide +kernel⟩,
    ⟨_, by apply c2 <;> first | decide +kernel | exact ok_get (by decide +kernel)⟩,
    ⟨_, by apply c3 <;> decide +kernel⟩,
    ⟨_, by apply c4 <;> decide +kernel⟩,
    ⟨_, by apply c5 <;> decide +kernel⟩,
    ⟨_, by apply c6 <;> first | decide +kernel | exact ok_get (by decide +kernel)⟩,
    ⟨_, by apply c7 (ses := { peer := 17, role := 1 }) (a := Abort.of aTransport 0) <;> decide +kernel⟩,
    ⟨_, by apply c8 <;> decide +kernel⟩,
    ⟨_, by apply c9 <;> decide +kernel⟩,
    ⟨_, by apply c10 <;> decide +kernel⟩,
    ⟨_, by apply c11 <;> decide +kernel⟩,
    ⟨_, by apply c12 <;> decide +kernel⟩⟩

theorem test_network_commands_run (h : Obligations.NetworkCommandsComplete) :
    Runs (.sessionHandshake (List.replicate 32 0) viaP1) {} ∧
    Runs (.idpIdleTimeout 0) (logged 2 {}) ∧
    Runs (.netConfirmTimeout) { idp := { ethBefore := some [] } } ∧
    Runs (.supervisionFrameSend) { idp := { ethInForce := [(Obj.NET_MODE, .int 1)] } } ∧
    Runs (.solicit (asciiBytes "IBDN" ++ leBytes 1 1 ++ leBytes 1 2 ++ leBytes 74 0) viaP1) {} ∧
    Runs (.announce) {} ∧
    Runs (.configReceived (Obj.DISPATCH_COMMAND / 65536) (Obj.DISPATCH_COMMAND % 65536) (leBytes 4 0)) (m [(Obj.PAIR_ROLE, 2)]) ∧
    Runs (.ethernetLinkChange 2 true) {} := by
  obtain ⟨c1, c2, c3, c4, c5, c6, c7, c8⟩ := h
  exact ⟨⟨_, by apply c1 (p := 0) <;> decide +kernel⟩,
    ⟨_, by apply c2 <;> decide +kernel⟩,
    ⟨_, by apply c3 (old := []) <;> decide +kernel⟩,
    ⟨_, by apply c4 <;> decide +kernel⟩,
    ⟨_, by apply c5 <;> decide +kernel⟩,
    ⟨_, by apply c6 <;> decide +kernel⟩,
    ⟨_, by apply c7 <;> first | exact pair_get (by decide +kernel) | decide +kernel | exact ok_get (by decide +kernel)⟩,
    ⟨_, by apply c8 <;> decide +kernel⟩⟩

theorem test_program_commands_run (h : Obligations.ProgramCommandsComplete) :
    Runs (.programScan 100 ⟨false, []⟩) (progOf []) ∧
    Runs (.progWatchdog) (progOf []) ∧
    Runs (.varValue 0 (own [7])) (progOf []) ∧
    Runs (.forceEntry 63 (peer (leBytes 2 0 ++ leBytes 2 1 ++ leBytes 8 7))) (logged 2 (progOf [(Obj.PROG_DEBUG, 1), (Obj.DEBUG_MODEL, 1)])) ∧
    Runs (.forceEntry 63 (peer [])) (logged 2 {}) ∧
    Runs (.progDebugEnter (peer [])) (logged 2 {}) ∧
    Runs (.progDebugLeave (peer [])) (logged 2 {}) ∧
    Runs (.progStep (peer [])) (logged 2 (m [(Obj.PROG_HELD, 1)])) ∧
    Runs (.programStaged (peer image)) (logged 2 (m [(Obj.PAIR_ROLE, 2)])) ∧
    Runs (.exchangeRequest (peer []) image) (logged 2 (progOf [(Obj.PAIR_ROLE, 1), (Obj.PAIR_SYNC, 2)])) ∧
    Runs (.exchangeTimeout) (m [(Obj.EXCHANGE_STATE, 1)]) ∧
    Runs (.snapshotReceived { data := [], blocks := [], clock := 5, forces := [], debug := false, dos := 0, written := [], image := image }) (progOf [(Obj.REDUNDANCY_STATE, 1), (Obj.PAIR_ENABLE, 1), (Obj.PAIR_ROLE, 1)]) := by
  obtain ⟨c1, c2, c3, c4, c5, c6, c7, c8, c9, c10, c11, c12⟩ := h
  exact ⟨⟨_, by apply c1 <;> decide +kernel⟩,
    ⟨_, by apply c2 <;> decide +kernel⟩,
    ⟨_, by apply c3 <;> decide +kernel⟩,
    ⟨_, by apply c4 <;> decide +kernel⟩,
    ⟨_, by apply c5 <;> decide +kernel⟩,
    ⟨_, by apply c6 <;> decide +kernel⟩,
    ⟨_, by apply c7 <;> decide +kernel⟩,
    ⟨_, by apply c8 <;> decide +kernel⟩,
    ⟨_, by apply c9 <;> decide +kernel⟩,
    ⟨_, by apply c10 <;> decide +kernel⟩,
    ⟨_, by apply c11 <;> decide +kernel⟩,
    ⟨_, by apply c12 <;> decide +kernel⟩⟩

theorem test_field_commands_run (h : Obligations.FieldCommandsComplete) :
    Runs (.fieldCycle { di := [1, 1, 1, 1, 1, 1, 1, 1, 1, 1], koX := 0, koY := 0, kg := 0, ai := [[5], [5], [5], [5]] }) {} ∧
    Runs (.fieldRestart { di := [1, 1, 1, 1, 1, 1, 1, 1, 1, 1], koX := 0, koY := 0, kg := 0, ai := [[5], [5], [5], [5]] }) { field := { powered := false } } ∧
    Runs (.fieldSupplyFault) {} ∧
    Runs (.dieReset) {} ∧
    Runs (.fieldRelease (peer [])) (logged 2 {}) ∧
    Runs (.diChange 31 true) {} ∧
    Runs (.aiSettled 3) (m [(Obj.AI_STATUS 3, 3)]) ∧
    Runs (.piGateEnd 1 [100000, 200000] []) {} ∧
    Runs (.piTimeout 1) {} ∧
    Runs (.kgWindowEnd [11, 0, 0, 0, 0, 0]) {} ∧
    Runs (.koClampMeasured 47 1 1) {} ∧
    Runs (.doOvertemp 15) { field := { doPad := 65535 } } ∧
    Runs (.kgPathTrip 5) {} := by
  obtain ⟨c1, c2, c3, c4, c5, c6, c7, c8, c9, c10, c11, c12, c13⟩ := h
  exact ⟨⟨_, by apply c1 <;> decide +kernel⟩,
    ⟨_, by apply c2 <;> decide +kernel⟩,
    ⟨_, by apply c3 <;> decide +kernel⟩,
    ⟨_, by apply c4 <;> decide +kernel⟩,
    ⟨_, by apply c5 <;> decide +kernel⟩,
    ⟨_, by apply c6 <;> decide +kernel⟩,
    ⟨_, by apply c7 <;> decide +kernel⟩,
    ⟨_, by apply c8 (first := 100000) (mid := []) (last := 200000) <;> decide +kernel⟩,
    ⟨_, by apply c9 <;> decide +kernel⟩,
    ⟨_, by apply c10 <;> decide +kernel⟩,
    ⟨_, by apply c11 <;> decide +kernel⟩,
    ⟨_, by apply c12 <;> decide +kernel⟩,
    ⟨_, by apply c13 <;> decide +kernel⟩⟩

/-- A heartbeat of a standby, a SYNC as sent. -/
def beat : Heartbeat :=
    { role := 2, sync := 2, block := 0, ready := true, position := 2, serial := 5, l := 0, markSweep := 0, markCycle := 0, phase := 0,
      signature := 0, enables := 0, pairStates := [], qsf := [], swap := none, small := false, safe := false, configCrc := 0,
      mapCrc := 0, mainVersion := 0, minMain := 0, brownout := false, restored := [] }

def sent : SyncRec := { sweep := 7, startAngle := 0, harmA := 1, harmB := 3, blanking := false, pilot := false, fw := 5, open_ := [] }

theorem test_pair_messages_run (h : Obligations.PairMessagesComplete) :
    Runs (.pairHeartbeatSend) (m [(Obj.REDUNDANCY_STATE, 1), (Obj.PAIR_ENABLE, 1), (Obj.PAIR_ROLE, 1)]) ∧
    Runs (.pairHeartbeatSend) { pow := { phase := 4 }, idp := { flash := [(Obj.REDUNDANCY_STATE, (1, [(Obj.PAIR_ENABLE, .int 1)]))] } } ∧
    Runs (.pairHeartbeatReceived beat) (m [(Obj.REDUNDANCY_STATE, 1), (Obj.PAIR_ENABLE, 1), (Obj.PAIR_ROLE, 1)]) ∧
    Runs (.pairHeartbeatReceived beat) (m [(Obj.REDUNDANCY_STATE, 1), (Obj.PAIR_ENABLE, 1), (Obj.PAIR_ROLE, 2), (Obj.PAIR_LINK_UP, 1)]) ∧
    Runs (.heartbeatMiss) { m [(Obj.REDUNDANCY_STATE, 1), (Obj.PAIR_ENABLE, 1)] with duo := { hb := some beat, misses := 1 } } ∧
    Runs (.controlReceived { strs := [], ko := 1, tripped := false, command := 0, shares := [], single := 0, seqs := [], dealer := 255, dealerPrio := 0, share := 0, loops := [], marks := [] }) (m [(Obj.PAIR_ROLE, 2)]) ∧
    Runs (.sweepMessageReceived { sweep := 7, sync := sent, next := sent, strs := [], nextMark := none, delta := 0, cut := [] }) (m [(Obj.PAIR_ROLE, 2)]) ∧
    Runs (.mirrorReceived [leBytes 64 3]) (m [(Obj.PAIR_ROLE, 2)]) ∧
    Runs (.programMessageReceived { vars := [], forces := [], dos := 1, clock := 5, at_ := 0 }) (m [(Obj.PAIR_ROLE, 2)]) ∧
    Runs (.restoreReceived { generation := 1, uids := [], crcs := [], records := [], charges := [] }) (m [(Obj.PAIR_ROLE, 2)]) ∧
    Runs (.restoreReceived { generation := 1, uids := [], crcs := [], records := [], charges := [] }) {} := by
  obtain ⟨c1, c2, c3, c4, c5, c6, c7, c8, c9, c10, c11⟩ := h
  exact ⟨⟨_, by apply c1 <;> decide +kernel⟩,
    ⟨_, by apply c2 <;> decide +kernel⟩,
    ⟨_, by apply c3 <;> decide +kernel⟩,
    ⟨_, by apply c4 <;> decide +kernel⟩,
    ⟨_, by apply c5 <;> decide +kernel⟩,
    ⟨_, by apply c6 <;> decide +kernel⟩,
    ⟨_, by apply c7 <;> decide +kernel⟩,
    ⟨_, by apply c8 <;> decide +kernel⟩,
    ⟨_, by apply c9 <;> decide +kernel⟩,
    ⟨_, by apply c10 <;> decide +kernel⟩,
    ⟨_, by apply c11 <;> decide +kernel⟩⟩

theorem test_pair_roles_run (h : Obligations.PairRolesComplete) :
    Runs (.roleInAsserted) (m [(Obj.REDUNDANCY_STATE, 1), (Obj.PAIR_ENABLE, 1)]) ∧
    Runs (.roleInAsserted) { pow := { phase := 1 } } ∧
    Runs (.roleInDeasserted) { m [(Obj.REDUNDANCY_STATE, 1), (Obj.PAIR_ENABLE, 1), (Obj.PAIR_ROLE, 2)] with duo := { splitWait := true } } ∧
    Runs (.roleInDeasserted) (m [(Obj.REDUNDANCY_STATE, 1), (Obj.PAIR_ENABLE, 1), (Obj.PAIR_ROLE, 2)]) ∧
    Runs (.roleInDeasserted) (m [(Obj.REDUNDANCY_STATE, 1), (Obj.PAIR_ENABLE, 1), (Obj.PAIR_ROLE, 2), (Obj.PAIR_SYNC, 2)]) ∧
    Runs (.roleCollision) (m [(Obj.REDUNDANCY_STATE, 1), (Obj.PAIR_ENABLE, 1), (Obj.PAIR_ROLE, 1), (Obj.PAIR_POSITION, 2)]) ∧
    Runs (.splitDetected) { m [(Obj.ROLE_IN_STATE, 1)] with duo := { splitWait := true } } ∧
    Runs (.aliveLost) {} ∧
    Runs (.pairStartWaitExpiry) { duo := { startWait := true } } ∧
    Runs (.tpDriveStop) (m [(Obj.PAIR_ROLE, 2)]) ∧
    Runs (.swapDue) (m [(Obj.PAIR_ROLE, 1), (Obj.P_STATE, 2)]) ∧
    Runs (.swapRequest (peer [])) (logged 2 (m [(Obj.PAIR_ROLE, 1)])) ∧
    Runs (.swapRequest (peer [])) (logged 2 (m [(Obj.PAIR_ROLE, 2)])) ∧
    Runs (.swapSkip) { duo := { due := some (2, 0) } } := by
  obtain ⟨c1, c2, c3, c4, c5, c6, c7, c8, c9, c10, c11, c12, c13, c14⟩ := h
  exact ⟨⟨_, by apply c1 <;> decide +kernel⟩,
    ⟨_, by apply c2 <;> decide +kernel⟩,
    ⟨_, by apply c3 <;> decide +kernel⟩,
    ⟨_, by apply c4 <;> decide +kernel⟩,
    ⟨_, by apply c5 <;> decide +kernel⟩,
    ⟨_, by apply c6 <;> decide +kernel⟩,
    ⟨_, by apply c7 <;> decide +kernel⟩,
    ⟨_, by apply c8 <;> decide +kernel⟩,
    ⟨_, by apply c9 <;> decide +kernel⟩,
    ⟨_, by apply c10 <;> decide +kernel⟩,
    ⟨_, by apply c11 <;> decide +kernel⟩,
    ⟨_, by apply c12 <;> decide +kernel⟩,
    ⟨_, by apply c13 <;> decide +kernel⟩,
    ⟨_, by apply c14 <;> decide +kernel⟩⟩

theorem test_power_commands_run (h : Obligations.PowerCommandsComplete) :
    Runs (.coldStart) { pow := { phase := 7 } } ∧
    Runs (.startStepDone { crystal := true, sets := (true, false), selfTest := true, pages := [], found := [] }) { pow := { phase := 5, step := 2 } } ∧
    Runs (.startStepDone { crystal := true, sets := (true, false), selfTest := true, pages := [], found := [] }) { pow := { phase := 5, step := 3, xtal := true } } ∧
    Runs (.startStepDone { crystal := true, sets := (true, false), selfTest := true, pages := [], found := [] }) { pow := { phase := 5, step := 4 } } ∧
    Runs (.startStepDone { crystal := true, sets := (true, false), selfTest := true, pages := [], found := [] }) { pow := { phase := 5, step := 5 } } ∧
    Runs (.startStepDone { crystal := true, sets := (true, false), selfTest := true, pages := [], found := [] }) { pow := { phase := 5, step := 6 } } ∧
    Runs (.startStepDone { crystal := true, sets := (true, false), selfTest := true, pages := [], found := [] }) { pow := { phase := 5, step := 7 } } ∧
    Runs (.regulatorRetry) { pow := { phase := 5, step := 2 } } ∧
    Runs (.regulatorRetry) { m [(Obj.START_RETRIES, 3)] with pow := { phase := 5, step := 2 } } ∧
    Runs (.wakeOnLan) { m [(Obj.WAKE_SOURCES, 8)] with pow := { phase := 2 } } ∧
    Runs (.wakeTimerExpiry) { m [(Obj.WAKE_SOURCES, 32), (Obj.WAKE_TIMER, 60)] with pow := { phase := 1 } } ∧
    Runs (.watchScan []) { pow := { phase := 1 } } ∧
    Runs (.powerRequestTransport (peer []) false) (logged 2 {}) ∧
    Runs (.handshakeAnswer 7 0) { pow := { request := some (1, 0) } } ∧
    Runs (.handshakeAnswer 1 0) { pow := { request := some (1, 0) } } ∧
    Runs (.handshakeAnswer 7 0) { m [(Obj.ENUM_DONE, 1)] with pow := { request := some (1, 0), answers := [1, 1, 1, 1, 1, 1, 0] } } ∧
    Runs (.handshakeAnswer 7 4) (m [(Obj.PAIR_ROLE, 2), (Obj.PAIR_LINK_UP, 1)]) ∧
    Runs (.handshakeAnswer 7 6) { asBuilt := { plug := 1 }, pow := { phase := 2 }, idp := { flash := [(Obj.REDUNDANCY_STATE, (1, [(Obj.PAIR_ENABLE, .int 1)]))] } } ∧
    Runs (.handshakeDelayExpiry 7) { pow := { request := some (1, 0), answers := [1, 1, 1, 1, 1, 1, 2] } } ∧
    Runs (.handshakeTimeout) { pow := { request := some (1, 0) } } ∧
    Runs (.transportRelease true) { pow := { phase := 3 } } := by
  obtain ⟨c1, c2, c3, c4, c5, c6, c7, c8, c9, c10, c11, c12, c13, c14, c15, c16, c17, c18, c19, c20, c21⟩ := h
  exact ⟨⟨_, by apply c1 <;> decide +kernel⟩,
    ⟨_, by apply c2 <;> decide +kernel⟩,
    ⟨_, by apply c3 <;> decide +kernel⟩,
    ⟨_, by apply c4 <;> first | decide +kernel | exact some_get (by decide +kernel)⟩,
    ⟨_, by apply c5 <;> decide +kernel⟩,
    ⟨_, by apply c6 <;> decide +kernel⟩,
    ⟨_, by apply c7 <;> decide +kernel⟩,
    ⟨_, by apply c8 <;> decide +kernel⟩,
    ⟨_, by apply c9 <;> decide +kernel⟩,
    ⟨_, by exact c10 _ _ 3 _ (by decide +kernel) (.tail _ (.tail _ (.head _))) (by decide +kernel)⟩,
    ⟨_, by apply c11 <;> decide +kernel⟩,
    ⟨_, by apply c12 <;> decide +kernel⟩,
    ⟨_, by apply c13 (r := peer []) (k := 3) (data := [3]) (energised := false) <;> decide +kernel⟩,
    ⟨_, by apply c14 (k := 1) (since := 0) <;> decide +kernel⟩,
    ⟨_, by apply c15 (k := 1) (since := 0) <;> decide +kernel⟩,
    ⟨_, by apply c16 (k := 1) (since := 0) <;> decide +kernel⟩,
    ⟨_, by apply c17 (k := 1) <;> decide +kernel⟩,
    ⟨_, by apply c18 <;> decide +kernel⟩,
    ⟨_, by apply c19 <;> decide +kernel⟩,
    ⟨_, by apply c20 <;> decide +kernel⟩,
    ⟨_, by apply c21 <;> decide +kernel⟩⟩

theorem test_supply_commands_run (h : Obligations.SupplyCommandsComplete) :
    Runs (.brownoutRaised) {} ∧
    Runs (.brownoutRaised) { pow := { phase := 1 } } ∧
    Runs (.brownoutCleared) (m [(Obj.BROWNOUT, 1)]) ∧
    Runs (.holdupRecompute 80 40 24 24) {} ∧
    Runs (.holdupRecompute 1 40 24 24) (m [(Obj.BROWNOUT, 1)]) ∧
    Runs (.carrierPowerLost) { pow := { phase := 6 } } ∧
    Runs (.crystalLost 9) {} ∧
    Runs (.xtalTest true) (m [(Obj.START_STATE, 1)]) ∧
    Runs (.powerRestart (peer [])) (logged 2 {}) ∧
    Runs (.throttleStart) {} ∧
    Runs (.throttleEnd) (m [(Obj.THROTTLED, 1)]) ∧
    Runs (.dieCritical 2 120) {} := by
  obtain ⟨c1, c2, c3, c4, c5, c6, c7, c8, c9, c10, c11, c12⟩ := h
  exact ⟨⟨_, by apply c1 <;> decide +kernel⟩,
    ⟨_, by apply c2 <;> decide +kernel⟩,
    ⟨_, by apply c3 <;> decide +kernel⟩,
    ⟨_, by apply c4 <;> decide +kernel⟩,
    ⟨_, by apply c5 <;> decide +kernel⟩,
    ⟨_, by apply c6 <;> decide +kernel⟩,
    ⟨_, by apply c7 <;> decide +kernel⟩,
    ⟨_, by apply c8 <;> decide +kernel⟩,
    ⟨_, by apply c9 <;> decide +kernel⟩,
    ⟨_, by apply c10 <;> decide +kernel⟩,
    ⟨_, by apply c11 <;> decide +kernel⟩,
    ⟨_, by apply c12 <;> decide +kernel⟩⟩

/-- A manifest of six components of one byte each. -/
def manifest : Bytes :=
  leBytes 16 1 ++ leBytes 48 1 ++ ((List.range 6).flatMap fun c => leBytes 4 c ++ leBytes 4 1 ++ leBytes 96 0) ++ leBytes 64 0

theorem test_update_commands_run (h : Obligations.UpdateCommandsComplete) :
    Runs (.updatePiece 0 0 (peer [1])) ((logged 2 (m [(Obj.UPDATE_STATE, 1)])).putBytes Obj.UPDATE_MANIFEST manifest) ∧
    Runs (.componentHashDone 5) { upd := { hashing := [5] } } ∧
    Runs (.imageLoadFrame 7) { m [(Obj.HEAD_ROLE 7, roleReading)] with upd := { jobs := [(7, { image := leBytes 200 1, queue := [(0, 1)] })] } } ∧
    Runs (.updateCommandActivate (peer []) { id := 1, costs := [9600, 5200, 14000, 8000], reads := [1] } true) { ((logged 2 (m [(Obj.UPDATE_STATE, 1)])).putBytes Obj.UPDATE_MANIFEST manifest) with upd := { running := { digests := List.replicate 6 (leBytes 32 0) } } } ∧
    Runs (.updateCommandCancel (peer [])) (logged 2 {}) ∧
    Runs (.postcheckComplete []) (m [(Obj.UPDATE_STATE, 5), (Obj.ENUM_DONE, 1)]) ∧
    Runs (.postcheckTimeout []) (m [(Obj.UPDATE_STATE, 5)]) := by
  obtain ⟨-, c2, c3, c4, c5, c6, c7, c8⟩ := h
  exact ⟨⟨_, by apply c2 <;> decide +kernel⟩,
    ⟨_, by apply c3 <;> decide +kernel⟩,
    ⟨_, by apply c4 (i := 1) (dest := 0) (rest := []) (j := { image := leBytes 200 1, queue := [(0, 1)] }) <;> decide +kernel⟩,
    ⟨_, by apply c5 <;> decide +kernel⟩,
    ⟨_, by apply c6 <;> decide +kernel⟩,
    ⟨_, by apply c7 <;> decide +kernel⟩,
    ⟨_, by apply c8 <;> decide +kernel⟩⟩

theorem test_recorder_commands_run (h : Obligations.RecorderCommandsComplete) :
    Runs (.recorderCommit) {} ∧
    Runs (.recorderCommitNow (own [])) {} ∧
    Runs (.recorderClear (peer [255])) (logged 2 {}) := by
  obtain ⟨c1, c2, c3⟩ := h
  exact ⟨⟨_, by apply c1 <;> decide +kernel⟩,
    ⟨_, by apply c2 <;> decide +kernel⟩,
    ⟨_, by apply c3 <;> decide +kernel⟩⟩

/-! ### Witnesses of the other statements -/

/-- A command answers a next state in which something holds. -/
def after (o : Host.Outcome State Fault Refusal) (p : State → Bool) : Bool :=
  match o with
  | .next t => p t
  | _ => false

theorem after_get {o : Host.Outcome State Fault Refusal} {p : State → Bool} (h : after o p = true) :
    ∃ t, o = .next t ∧ p t = true := by
  cases o with
  | next t => exact ⟨t, rfl, h⟩
  | fault f => cases h
  | refused r => cases h

theorem test_step_takes_the_front (h : Obligations.StepRunsTheFrontCommand) :
    step { pending := [.announce, .sweepMark] } = exec .announce { pending := [.sweepMark] } := h _ .announce [.sweepMark] rfl

theorem test_idle_ticks (h : Obligations.EmptyQueueTicks) :
    (∃ t, step {} = .next t ∧ t.lNow = 10) ∧ step { pow := { phase := 7 } } = .next { pow := { phase := 7 } } := by
  obtain ⟨t, h1, h2, -⟩ := h.1 {} rfl (by decide +kernel)
  exact ⟨⟨t, h1, h2⟩, h.2 _ rfl (by decide +kernel)⟩

theorem test_reset_is_cold_start :
    exec .coldStart { State.reset with store := [], recorder := {}, pow := { phase := 7, ready := false } } = .next State.reset := by
  obtain ⟨t, ht, e⟩ := after_get (o := exec .coldStart { State.reset with store := [], recorder := {}, pow := { phase := 7, ready := false } })
    (p := fun t => decide (t = State.reset)) (by decide +kernel)
  rw [ht, of_decide_eq_true e]

theorem test_command_ends (h : Obligations.CommandEnds) : (finish {} {}).v Obj.PTP_PORT = ({} : State).v Obj.PTP_PORT :=
  (h {} {}).2.2 rfl _ (by decide +kernel)

theorem test_command_keeps_queue (h : Obligations.CommandsKeepQueueAndPart) :
    ∃ t, exec .announce { pending := [.sweepMark] } = .next t ∧ t.pending = [.sweepMark] := by
  obtain ⟨t, ht, -⟩ := after_get (o := exec .announce { pending := [.sweepMark] }) (p := fun _ => true) (by decide +kernel)
  exact ⟨t, ht, (h _ _ _ ht).1⟩

theorem test_stop_is_absent_resource (h : Obligations.CommandsStopOnlyAtAbsentResources) (f : Fault)
    (hf : exec (.ciFault 16) {} = .fault f) : f = .absentResource := (h _ _).2 f hf

theorem test_absent_resources (h : Obligations.AbsentResourcesStop) :
    exec (.blockReceived 8 1 []) {} = .fault .absentResource ∧ exec (.ciFault 16) {} = .fault .absentResource ∧
    exec (.koClampMeasured 48 1 1) {} = .fault .absentResource ∧ exec (.cellUpdateDone 0 8192 [] none) {} = .fault .absentResource ∧
    exec (.sensorFailed 4096 3) {} = .fault .absentResource ∧ exec (.canBusOff 2) {} = .fault .absentResource :=
  ⟨h.1 _ _ _ _ (by decide), h.2.1 _ _ (by decide), h.2.2.1 _ _ _ _ (by decide), h.2.2.2.1 _ _ _ _ _ (by decide),
    h.2.2.2.2.1 _ _ _ (by decide), h.2.2.2.2.2 _ _ (by decide)⟩

theorem test_pads_at_rest : padsFollow {} := by constructor <;> intro <;> simp [bitOf]

theorem test_pads_follow_a_step (h : Obligations.PadsFollowEveryStep) :
    ∃ t, step { pending := [.announce] } = .next t ∧ padsFollow t := by
  obtain ⟨t, ht, -⟩ := after_get (o := step { pending := [.announce] }) (p := fun _ => true) (by decide +kernel)
  exact ⟨t, ht, h _ _ (by constructor <;> intro <;> simp [bitOf]) ht⟩

theorem test_pads_of_a_standby (h : Obligations.PadsFollowEveryCommand) :
    ∃ t, exec .announce (m [(Obj.PAIR_ROLE, 2)]) = .next t ∧ bitOf t.field.koPad 0 = false := by
  obtain ⟨t, ht, hs⟩ := after_get (o := exec .announce (m [(Obj.PAIR_ROLE, 2)])) (p := State.standby) (by decide +kernel)
  exact ⟨t, ht, ((h _ _ _ ht).2 hs 0).1⟩

theorem test_latches_hold (h : Obligations.LatchesHoldTheirLevels) :
    (∃ t, exec .announce (m [(Obj.FIELD_LATCHED, 0), (Obj.KO_COMMAND, 5)]) = .next t ∧ t.field.koLatch = t.n Obj.KO_COMMAND) ∧
    (∃ t, exec (.fieldRestart { di := [], koX := 0, koY := 0, kg := 0, ai := [] }) { field := { koLatch := 5 } } = .next t ∧
      t.field.koLatch = 0) ∧
    (∃ t, exec .dieReset { m [(Obj.FIELD_LATCHED, 0)] with field := { koLatch := 5 } } = .next t ∧ t.field.koLatch = 5) := by
  refine ⟨?_, ?_, ?_⟩
  · obtain ⟨t, ht, hs⟩ := after_get (o := exec .announce (m [(Obj.FIELD_LATCHED, 0), (Obj.KO_COMMAND, 5)]))
      (p := fun t => !t.b Obj.FIELD_LATCHED && !t.padsHeld) (by decide +kernel)
    simp only [Bool.and_eq_true, Bool.not_eq_true'] at hs
    have := h.1 _ _ _ ht hs.1
    rw [hs.2] at this
    exact ⟨t, ht, this.1⟩
  · obtain ⟨t, h1, h2, -⟩ := h.2.1 { field := { koLatch := 5 } } { di := [], koX := 0, koY := 0, kg := 0, ai := [] } (by decide)
    exact ⟨t, h1, h2⟩
  · obtain ⟨t, h1, h2, -⟩ := h.2.2 { m [(Obj.FIELD_LATCHED, 0)] with field := { koLatch := 5 } } (by decide +kernel)
    exact ⟨t, h1, h2⟩

theorem test_core_off (h : Obligations.CoreOffNoEffect) :
    exec .sweepMark { pow := { phase := 2 } } = .next (finish { pow := { phase := 2 } } (began { pow := { phase := 2 } })) :=
  h _ (own []) { index := 0, sub := 0, req := own [] } 0x2001 1 0 false ⟨false, []⟩ (by decide) (by decide) (by decide) _ (by simp)

theorem test_write_of_ro_refused (h : Obligations.RefusedWriteHasNoEffect) :
    ∃ t, exec (.write (Obj.P_STATE / 65536) (Obj.P_STATE % 65536) (own [1])) {} = .next t ∧ t.n Obj.ABORT_LAST = aReadOnly := by
  obtain ⟨t, h1, h2, -⟩ := h {} (Obj.P_STATE / 65536) (Obj.P_STATE % 65536) (own [1]) { peer := 17, role := 1 } (Abort.of aReadOnly 0)
    (by decide) (by decide) (by decide) (by decide) (by decide) (by decide) (by decide +kernel)
  exact ⟨t, h1, h2⟩

/-- A response to TAG 1. -/
def kept : Response := { tag := 1, op := 7, index := 0, sub := 0, abort := 0, last := false, data := [] }
/-- The first peer's session has kept it. -/
def keeping : State := { idp := { sessions := [{ peer := 0, role := 2, kept := [kept] }] } }

theorem test_repeated_tag (h : Obligations.RepeatedTagAnsweredFromKept) :
    exec (.keepalive { index := 0x2001, sub := 1, req := peer [] }) keeping =
      .next (finish keeping (((began keeping).touchSession (peer [])).emit (.response (.udp 0) kept))) :=
  h keeping 0x2001 1 (peer []) { peer := 0, role := 2, kept := [kept] } kept (by decide) (by decide) (by decide) (by decide) (by decide +kernel)
    (by decide) _ (by simp)

theorem test_no_session (h : Obligations.NoSessionNoEffect) : exec (.push { index := 0x2001, sub := 1, req := peer [] }) {} = .next (finish {} (began {})) :=
  h {} 0x2001 1 (peer []) (by decide) (by decide) (Or.inl (by decide)) _ (by simp)

/-- The session over CAN is enabled, for an operator. -/
def canOn : State := { idp := { ethInForce := [(Obj.IDP_CAN_ENABLE, .int 1), (Obj.IDP_CAN_ROLE, .int 1)] } }
/-- A request over CAN. -/
def canReq (d : Bytes) : Req := { src := .can, tag := 1, data := d }

theorem test_can_requests (h : Obligations.CanRequestsLimited) :
    (∃ t, exec (.push { index := Obj.PTP_PROFILE / 65536, sub := Obj.PTP_PROFILE % 65536, req := canReq [] }) canOn = .next t ∧ t.n Obj.ABORT_LAST = aTransport) ∧
    (∃ t, exec (.read (Obj.SAFETY_LOGIN / 65536) (Obj.SAFETY_LOGIN % 65536) (canReq [])) canOn = .next t ∧
      t.n Obj.ABORT_LAST = aTransport) ∧
    (∃ t, exec (.write (Obj.PTP_PROFILE / 65536) (Obj.PTP_PROFILE % 65536) (canReq [1])) canOn = .next t ∧
      t.n Obj.ABORT_LAST = aTransport) ∧
    ((began canOn).touchSession (canReq [])).checkAccess (canReq []) { peer := 16, role := 1 } .write
      (Obj.DISPATCH_COMMAND / 65536) (Obj.DISPATCH_COMMAND % 65536) = none := by
  have hs : (began canOn).session? .can = some { peer := 16, role := 1 } := by decide +kernel
  have w := fun d => h canOn (canReq d) { peer := 16, role := 1 } (by decide) rfl rfl hs rfl
  refine ⟨(w []).1 _ _ _ _ (by decide) (by decide) (some_get (by decide +kernel)) (by decide +kernel) (some_get (by decide +kernel)) (by decide), ?_, ?_, ?_⟩
  · exact ((w []).2 (Obj.SAFETY_LOGIN / 65536) (Obj.SAFETY_LOGIN % 65536) _ _ (by decide) (by decide) (some_get (by decide +kernel)) (by decide +kernel) (some_get (by decide +kernel))
      (by decide)).1 (by decide) _ (by simp)
  · exact ((w [1]).2 (Obj.PTP_PROFILE / 65536) (Obj.PTP_PROFILE % 65536) _ _ (by decide) (by decide) (some_get (by decide +kernel)) (by decide +kernel) (some_get (by decide +kernel))
      (by decide)).2.1 (by decide +kernel) (by decide +kernel)
  · exact ((w []).2 (Obj.DISPATCH_COMMAND / 65536) (Obj.DISPATCH_COMMAND % 65536) _ _ (by decide) (by decide) (some_get (by decide +kernel)) (by decide +kernel) (some_get (by decide +kernel))
      (by decide)).2.2 (by decide) (by decide +kernel) (by decide +kernel) (by decide) (by decide +kernel)

theorem test_degraded_can (h : Obligations.DegradedCanSilent) :
    ∃ t, exec (.canBusOff 1) (m [(Obj.START_STATE, 1), (Obj.TX_STATE 1 8, txPending)]) = .next t ∧
      t.n (Obj.TX_STATE 1 8) = (m [(Obj.START_STATE, 1), (Obj.TX_STATE 1 8, txPending)]).n (Obj.TX_STATE 1 8) := by
  obtain ⟨t, h1, -, h2⟩ := h (m [(Obj.START_STATE, 1), (Obj.TX_STATE 1 8, txPending)]) (frame 5 []) false 0 1 { code := 0 } none
    (by decide) (by decide) (by decide +kernel) (.canBusOff 1) (by simp)
  exact ⟨t, h1, h2 1 8 (by decide) (by decide) (by decide)⟩

/-- A manifest whose component 5 has the digest `d`. -/
def manifestOf (d : Bytes) : Bytes := leBytes 64 1 ++ leBytes 528 5 ++ d ++ leBytes 128 0
/-- A module that holds it and hashes component 5, whose one piece is `b`. -/
def hashing (b d : Bytes) : State :=
  { (m [(Obj.UPDATE_STATE, 1)]).putBytes Obj.UPDATE_MANIFEST (manifestOf d) with upd := { hashing := [5], pieces := [(5, [(0, b)])] } }

theorem hashing_digest (b d : Bytes) (hd : d.length = 32) : mfDigest (began (hashing b d)).manifest 5 = d := by
  have e : (began (hashing b d)).manifest = manifestOf d := by
    have : (hashing b d).v Obj.UPDATE_MANIFEST = .bytes (manifestOf d) :=
      (State.v_congr (t := (m [(Obj.UPDATE_STATE, 1)]).putBytes Obj.UPDATE_MANIFEST (manifestOf d)) rfl rfl _).trans
        ((State.v_putBytes _ _ _ _).trans (if_pos rfl))
    unfold State.manifest State.bytes
    rw [began_v, this]; rfl
  rw [e]
  unfold mfDigest mfEntry slice manifestOf
  have h1 : (leBytes 64 1 ++ leBytes 528 5).length = 592 := by simp [leBytes_length]
  rw [List.drop_take, List.take_take, List.drop_drop, List.append_assoc, List.drop_append_of_le_length (by omega),
    List.drop_eq_nil_of_le (by omega), List.nil_append, List.take_append_of_le_length (by omega), List.take_of_length_le (by omega)]

theorem test_component_hash (h : Obligations.ComponentHashDecides) :
    Runs (.updatePiece 0 0 (peer [1])) ((logged 2 (m [(Obj.UPDATE_STATE, 1)])).putBytes Obj.UPDATE_MANIFEST manifest) ∧
    Runs (.componentHashDone 5) (hashing [1] (Config.sha256 [1])) ∧ Runs (.componentHashDone 5) { upd := { hashing := [5] } } := by
  refine ⟨?_, ?_, ?_⟩
  · obtain ⟨w, h1, -⟩ := h.1 ((logged 2 (m [(Obj.UPDATE_STATE, 1)])).putBytes Obj.UPDATE_MANIFEST manifest) 0 0 (peer [1])
      (by decide) (by decide) (by decide +kernel) (by decide +kernel) (by decide +kernel) (by decide +kernel)
      (of_decide_eq_true (by decide +kernel)) (of_decide_eq_true (by decide +kernel)) (by decide +kernel) (by decide +kernel)
      (by decide +kernel)
    exact ⟨w, h1⟩
  · obtain ⟨w, h1, -⟩ := h.2.1 (hashing [1] (Config.sha256 [1])) 5 (by decide) rfl rfl
      (by rw [hashing_digest _ _ (by simp [Config.sha256])]; rfl)
    exact ⟨w, h1⟩
  · obtain ⟨w, h1, -⟩ := h.2.2 { upd := { hashing := [5] } } 5 (by decide) rfl rfl (by
      intro he
      have h0 : mfDigest (began { upd := { hashing := [5] } }).manifest 5 = [] := by decide +kernel
      rw [h0] at he
      have := congrArg List.length he
      simp [Config.sha256] at this)
    exact ⟨_, h1⟩

/-- A dealer that has heard two seats of those it expects. -/
def dealing (expected : Nat) : State :=
  m [(Obj.TABLE_ENABLE, 1), (Obj.TABLE_STATE, 1), (Obj.P_STATE, 2), (Obj.TABLE_SEATS_EXPECTED, expected), (Obj.SEATS_HEARD, 2),
    (Obj.DEALER_SEAT, 4), (Obj.SEAT_NUMBER, 4)]

theorem test_deals_need_majority (h : Obligations.DealsNeedMajority) :
    2 * (dealing 3).n Obj.SEATS_HEARD > (dealing 3).n Obj.TABLE_SEATS_EXPECTED ∧
    (∃ t, exec .dealSend (dealing 4) = .next t ∧ t.out = []) ∧
    (∀ t t', exec .dealSend (dealing 4) = .next t → exec .dealSend (dealing 4) = .next t' → ¬ (t.out ≠ [] ∧ t'.out ≠ [])) := by
  refine ⟨?_, h.2.1 _ (by decide +kernel), fun t t' => h.2.2 _ _ t t' rfl (by decide +kernel)⟩
  obtain ⟨t, ht, ho⟩ := after_get (o := exec .dealSend (dealing 3)) (p := fun t => !t.out.isEmpty) (by decide +kernel)
  exact h.1 _ t ht (by simpa using ho)

theorem test_shuffle (h : Obligations.ShuffleVisitsEveryRod) : ({} : State).rodOf 8191 100000 = (8191 + 5 * 100000) % 16 :=
  (h {} (by decide +kernel)).1 8191 100000

theorem test_setpoints (h : Obligations.SetpointsWithinLimits) :
    ∃ t, exec .announce {} = .next t ∧ t.q (Obj.STRING_SETPOINT 15) ≤ t.q (Obj.STRING_LIMIT_CHG 15) := by
  obtain ⟨t, ht, hs⟩ := after_get (o := exec .announce {}) (p := fun t => t.coreOn && Nat.blt 15 t.asBuilt.strings &&
    decide (0 ≤ t.q (Obj.STRING_LIMIT_CHG 15)) && decide (0 ≤ t.q (Obj.STRING_LIMIT_DIS 15)) &&
    decide (2 * pilotMargin t ≤ t.q (Obj.STRING_LIMIT_CHG 15) + t.q (Obj.STRING_LIMIT_DIS 15))) (by decide +kernel)
  simp only [Bool.and_eq_true, decide_eq_true_eq, Nat.blt_eq] at hs
  obtain ⟨⟨⟨⟨a, b⟩, c⟩, d⟩, e⟩ := hs
  exact ⟨t, ht, (h _ _ _ ht a 15 b c d e).2.1⟩

/-- Login data of eight characters. -/
def password : Bytes := leBytes 8 0x3837363534333231
/-- A module with a safety role session in the lock-out state given: failures so far, ms left, the password set. -/
def locking (failures ms : Nat) (hash : Option Nat) : State :=
  { logged 3 (m [(Obj.LOGIN_FAILURES, failures)]) with safety := { lockMs := ms, pwHash := hash } }

theorem test_login_lockout (h : Obligations.FiveFailuresLockTheLogin) :
    (∃ w, exec (.safetyLogin (peer password)) (locking 4 0 none) = .next w ∧ w.safety.lockMs = 600000) ∧
    (∃ w, exec (.safetyLogin (peer password)) (locking 3 0 none) = .next w ∧ w.safety.lockMs = 0) ∧
    (∃ w, exec (.safetyLogin (peer password)) (locking 5 1 (some (Config.passwordHash password))) = .next w ∧
      w.n Obj.ABORT_LAST = aPasswordLocked) ∧
    (∃ w, exec (.safetyLogin (peer password)) (locking 4 0 (some (Config.passwordHash password))) = .next w ∧
      w.n Obj.LOGIN_FAILURES = 0) := by
  refine ⟨?_, ?_, ?_, ?_⟩
  · obtain ⟨w, h1, -, -, -, h2, -⟩ := h.1 (locking 4 0 none) (peer password) (by decide +kernel) (by decide +kernel)
      (by decide +kernel) (by decide +kernel) (by decide +kernel)
    exact ⟨w, h1, (h2 (by decide +kernel)).1⟩
  · obtain ⟨w, h1, -, -, -, -, h2⟩ := h.1 (locking 3 0 none) (peer password) (by decide +kernel) (by decide +kernel)
      (by decide +kernel) (by decide +kernel) (by decide +kernel)
    exact ⟨w, h1, h2 (by decide +kernel)⟩
  · obtain ⟨w, h1, h2, -⟩ := h.2.1 (locking 5 1 (some (Config.passwordHash password))) (peer password) (by decide +kernel)
      (by decide +kernel) (by decide +kernel) (by decide +kernel)
    exact ⟨w, h1, h2⟩
  · obtain ⟨w, h1, h2, -⟩ := h.2.2 (locking 4 0 (some (Config.passwordHash password))) (peer password) (by decide +kernel) rfl
      (by decide +kernel) (by decide +kernel) (by decide +kernel) (by rfl)
    exact ⟨w, h1, h2⟩

theorem test_overdue (h : Obligations.OverdueWithholdsEnables) :
    ∃ t, exec (.proofOverdue 15) (m [(Obj.SAFETY_STATE, 1), (Obj.PROOF_STATE 15, 1)]) = .next t ∧ bitOf t.safety.x.en 15 = false := by
  obtain ⟨t, h1, -, h2, -⟩ := h.1 (m [(Obj.SAFETY_STATE, 1), (Obj.PROOF_STATE 15, 1)]) 15 (by decide) (by decide +kernel) (by decide +kernel)
    (by decide +kernel) (by decide +kernel) (by decide +kernel) (by decide +kernel)
  exact ⟨t, h1, h2⟩

theorem test_deadline (h : Obligations.DeadlineDefers) :
    ∃ t, exec .abacusDeadline { m [(Obj.CUSTODY_STATE, cuCold)] with est := { abacus := { stored := [8191] } } } = .next t ∧
      t.dealFlag 8191 dfDeferred = true := by
  obtain ⟨t, h1, h2, -⟩ := h { m [(Obj.CUSTODY_STATE, cuCold)] with est := { abacus := { stored := [8191] } } } (by decide +kernel)
    (by decide +kernel) (by decide +kernel) (by decide +kernel)
  exact ⟨t, h1, h2 8191 (by decide) (by decide) (by decide)⟩

theorem test_no_object_changes (h : Obligations.CommandsThatChangeNoObject) :
    ∃ t, exec .recorderCommit {} = .next t ∧ t.v Obj.PTP_PORT = ({} : State).v Obj.PTP_PORT := by
  obtain ⟨t, ht, -⟩ := after_get (o := exec .recorderCommit {}) (p := fun _ => true) (by decide +kernel)
  exact ⟨t, ht, (h {} t 0 0 0 ⟨[], [], [], 0, 0, 0⟩ _ (by simp) ht (by decide +kernel)).1 _ (by decide +kernel)⟩

theorem test_named_objects_change (h : Obligations.CommandsThatChangeNamedObjects) :
    ∃ t, exec (.ciFault 15) {} = .next t ∧ t.v (Obj.CI_FAULT 14) = ({} : State).v (Obj.CI_FAULT 14) := by
  obtain ⟨t, ht, -⟩ := after_get (o := exec (.ciFault 15) {}) (p := fun _ => true) (by decide +kernel)
  exact ⟨t, ht, h {} t 15 false (.ciFault 15, [Obj.CI_FAULT 15]) (by simp) ht _ (by decide +kernel) (by decide +kernel)⟩

/-- What an update of the firmware with this manifest needs beside its fields is a verifier that accepts its signatures. -/
theorem test_manifest_runs (h : Obligations.UpdateCommandsComplete) (hs : ∀ k x g, Config.signatureValid k x g = true) :
    Runs (.updateManifest (peer manifest)) (logged 2 {}) := by
  obtain ⟨c, -⟩ := h
  refine ⟨_, c (logged 2 {}) (peer manifest) (by decide +kernel) (by decide +kernel) ?_ (by decide +kernel)⟩
  have signed : ∀ s, fieldU manifest 17 1 ≠ 1 → manifestSigned s manifest = true := by
    intro s h17
    simp [manifestSigned, entrySigned, hs, h17]
  unfold manifestBlock
  rw [show (valueOf Obj.UPDATE_MANIFEST (peer manifest)).toBytes = manifest by decide +kernel, signed _ (by decide +kernel)]
  decide +kernel

/-! ### Well-formedness: an ill-formed term for each check, which the check refuses -/

/-- A request whose TAG does not fit its field. -/
def badReq : Req := { own [] with tag := 65536 }

theorem test_wf_request : (peer [1]).wf = true ∧ badReq.wf = false ∧ ({ own [] with src := .udp 16 } : Req).wf = false := by decide

theorem test_wf_frame : (frame 2047 (leBytes 8 1)).wf = true ∧ ({ frame 0 [] with channel := 2 } : CanFrame).wf = false ∧
    (frame 2048 []).wf = false ∧ ({ frame (2 ^ 29) [] with ext := true } : CanFrame).wf = false ∧ (frame 0 (leBytes 9 1)).wf = false ∧
    ({ frame 0 (leBytes 9 1) with fd := true } : CanFrame).wf = false ∧ ({ frame 0 [] with fd := true, rtr := true } : CanFrame).wf = false := by
  decide

theorem test_wf_announce : ({ port := 0, profile := 0, domain := 0, master := 0, rank := [] } : Announce).wf = false ∧
    ({ port := 1, profile := 0, domain := 0, master := 2 ^ 64, rank := [] } : Announce).wf = false := by decide

theorem test_wf_enum : ({ head := 8, replies := [], devs := [], farHeard := false, learned := [] } : EnumHead).wf = false ∧
    ({ head := 0, replies := List.replicate 1002 none, devs := [], farHeard := false, learned := [] } : EnumHead).wf = false ∧
    ({ head := 0, replies := [], devs := List.replicate 251 {}, farHeard := false, learned := [] } : EnumHead).wf = false ∧
    ({ head := 0, replies := [], devs := [], farHeard := false, learned := List.replicate 251 {} } : EnumHead).wf = false := by
  decide +kernel

theorem test_wf_refuses_1 : ∀ c ∈ ([
    .ptpSyncMessage 3 0 0 0 ⟨0, 0⟩,  .ptpSyncMessage 0 3 0 0 ⟨0, 0⟩,  .ptpSyncMessage 0 0 256 0 ⟨0, 0⟩,
    .ptpSyncMessage 0 0 0 0 ⟨65536, 0⟩,
    .ptpAnnounceMessage ⟨3, 0, 0, 0, []⟩,  .announceReceiptTimeout 3,  .pSet badReq,
    .pcsAngleMessage (frame 2048 []) 0,  .windowLatch [⟨16, [], true⟩],  .blockReceived 8 0 [],
    .trainReceived 8 ⟨[], []⟩,  .trainWaitTimeout 8 false,  .segmentReadOrder 0 251,
    .segmentReadOrder 8 0,  .carrierCheck 8 0 false,  .carrierCheck 0 16 false,  .continuityRestored 8,
    .heartbeatDue 8,  .echoDue 8 false [],  .readdress 8 [],  .acceptDevice badReq,  .ciFault 16,  .ciFaultClear 16,
    .overcurrent 16,  .cellUpdateDone 16 0 [] none,  .cellUpdateDone 0 8192 [] none,  .kernelOverrun 16 0,
    .kernelOverrun 0 8192,  .leadCalStart badReq,  .anchorArm 16,  .anchorTimerExpiry 16,  .checkpoint badReq,
    .checkpointDemand badReq,  .pushConfirm 16 0 0,  .pushRetry ⟨16, 0⟩,  .sensorFailed 4096 0,  .sensorFailed 0 4] : List Instr), c.wf = false := by decide +kernel

theorem test_wf_refuses_2 : ∀ c ∈ ([
    .sensorReset badReq,  .thresholdDwell 3 0 0,  .thresholdDwell 0 16 0,  .handoverForced 16,  .senseLost 16,
    .plausibilityFault 16,  .loopFrameSend 16,  .senseCanFrame (frame 2048 []),  .lawReq 16 (own []),
    .lawReq 0 badReq,  .manual 16 (own []),  .manual 0 badReq,  .manualOut 16 (own []),  .manualOut 0 badReq,
    .isoMessage (frame 2048 []),  .busVoltageFrame (frame 2048 []),  .busLost 16,  .currentInputTimeout 16,
    .stringCommandClose 16 (own []),  .stringCommandClose 0 badReq,  .stringCommandOpen 16 (own []),
    .stringCommandOpen 0 badReq,  .contactTimeExpiry 16,  .prechargeTimeout 16,  .prechargeOverlapExpiry 16,
    .prechargeCooldownEnd 16,  .breakWaitEnd 16,  .negOpenDelayExpiry 16,  .weldCheckTimeExpiry 16,
    .protReset badReq,  .weldClear badReq,  .siChangeAccepted 3 0 false,  .siChangeAccepted 0 16 false,
    .discrepancyFault 8,  .stop1DelayExpiry 16,  .safeWeld 48] : List Instr), c.wf = false := by decide +kernel

theorem test_wf_refuses_3 : ∀ c ∈ ([
    .proofDue 16,  .proofOverdue 16,  .proofStart badReq,  .proofTestStep 16,  .qsfFrameReceived 8 [] viaP1,
    .qsfWatchdogExpiry 8,  .qsfSend 8,  .safetyLogin badReq,  .safetyLogout badReq,  .safetyPasswordNew badReq,
    .safetyRestart badReq,  .safeReset badReq,  .dispatchCommand badReq,  .cmdCanFrame (frame 2048 []),
    .setpointFrameSend 16,  .canFrameReceived (frame 2048 []) false 0,  .protocolException 2,
    .canTxDone 2 none { code := 0 } 0,  .canBusOff 2,  .busoffRecovery 2,  .txRequest 2 (own []),  .txRequest 0 badReq,
    .txCancel 2 0 (own []),  .txCancel 0 0 badReq,  .rxFifoPop 2 0 0 0 (own []),  .rxFifoPop 0 2 0 0 (own []),
    .rxFifoPop 0 0 0 0 badReq,  .txEventPop 2 0 0 (own []),  .txEventPop 0 0 0 badReq,  .detectDwellExpiry 2,
    .detectTimeout 2,  .canWakePattern 2,  .read 65536 0 (own []),  .read 0 65536 (own []),  .read 0 0 badReq,
    .write 65536 0 (own [])] : List Instr), c.wf = false := by decide +kernel

theorem test_wf_refuses_4 : ∀ c ∈ ([
    .write 0 65536 (own []),  .write 0 0 badReq,  .readRange 65536 0 0 (own []),  .readRange 0 65536 0 (own []),
    .readRange 0 0 65536 (own []),  .readRange 0 0 0 badReq,  .domainRead 65536 0 0 0 (own []),
    .domainRead 0 65536 0 0 (own []),  .domainRead 0 0 0 0 badReq,  .domainWrite 65536 0 0 false (own []),
    .domainWrite 0 65536 0 false (own []),  .domainWrite 0 0 0 false badReq,  .push ⟨0, 0, badReq⟩,  .keepalive ⟨0, 0, badReq⟩,
    .push ⟨65536, 0, own []⟩,  .push ⟨0, 65536, own []⟩,
    .transferLapse 65536 0,  .transferLapse 0 65536,  .functionRun 65536 0 (own []) [],
    .functionRun 0 65536 (own []) [],  .functionRun 0 0 badReq [],
    .functionRun 0 0 (own []) [⟨8, [], [], false, []⟩],  .functionStop 65536 0 (own []),
    .functionStop 0 65536 (own []),  .functionStop 0 0 badReq,  .configSave badReq,  .idpIdleTimeout 16,
    .varValue 4096 (own []),  .varValue 0 badReq,  .forceEntry 64 (own []),  .forceEntry 0 badReq,
    .progDebugEnter badReq,  .progDebugLeave badReq,  .progStep badReq,  .programStaged badReq,
    .exchangeRequest badReq [],  .fieldRelease badReq,  .diChange 32 false] : List Instr), c.wf = false := by decide +kernel

theorem test_wf_refuses_5 : ∀ c ∈ ([
    .aiSettled 4,  .piGateEnd 2 [] [],  .piTimeout 2,  .koClampMeasured 48 0 0,  .doOvertemp 16,  .kgPathTrip 6,
    .configReceived 65536 0 [],  .configReceived 0 65536 [],  .segmentReceived 8 0 [],  .swapRequest badReq,
    .powerRequestWatch badReq,  .powerRequestDormant badReq,  .powerRequestTransport badReq false,
    .handshakeAnswer 8 0,  .handshakeDelayExpiry 8,  .powerRestart badReq,  .dieCritical 3 0,  .updateManifest badReq,
    .updatePiece 6 0 (own []),  .updatePiece 0 32768 (own []),  .updatePiece 0 0 badReq,  .componentHashDone 6,
    .imageLoadFrame 8,  .updateCommandActivate badReq ⟨0, [], []⟩ false,  .updateCommandCancel badReq,
    .recorderCommitNow badReq,  .recorderClear badReq,  .canReceiveError 2 { dataPhase := false },  .ethernetLinkChange 3 false] : List Instr), c.wf = false := by decide +kernel

/-! ### A checkpoint that is accepted -/

theorem leNat_leBytes (n v : Nat) (h : v < 256 ^ n) : leNat (leBytes n v) = v := by
  induction n generalizing v with
  | zero => simp at h; subst h; rfl
  | succ n ih =>
    have h2 : v / 256 < 256 ^ n := by rw [Nat.div_lt_iff_lt_mul (by decide)]; rw [pow_succ] at h; exact h
    simp only [leBytes, leNat, ih _ h2]
    have : (BitVec.ofNat 8 (v % 256)).toNat = v % 256 := by simp
    rw [this]; omega

/-- A field that stands between two parts of a byte string. -/
theorem field_at (a b : Bytes) (n v : Nat) (h : v < 256 ^ n) : fieldU (a ++ (leBytes n v ++ b)) a.length n = v := by
  unfold fieldU slice
  rw [List.drop_left, List.take_append_of_le_length (by rw [leBytes_length]), List.take_of_length_le (by rw [leBytes_length]),
    leNat_leBytes n v h]

theorem crc32c_lt (b : Bytes) : crc32c b < 256 ^ 4 := by
  have bit : ∀ c, c < 2 ^ 32 → crcBit 0x82F63B78 c < 2 ^ 32 := by
    intro c hc
    unfold crcBit
    split
    · exact Nat.xor_lt_two_pow (by omega) (by decide)
    · omega
  have byte : ∀ c (x : Byte), c < 2 ^ 32 → crcByte 0x82F63B78 c x < 2 ^ 32 := by
    intro c x hc
    have := x.isLt
    unfold crcByte
    repeat apply bit
    exact Nat.xor_lt_two_pow hc (by omega)
  have all : ∀ (l : Bytes) c, c < 2 ^ 32 → l.foldl (crcByte 0x82F63B78) c < 2 ^ 32 := by
    intro l
    induction l with
    | nil => intro c h; exact h
    | cons x l ih => intro c h; exact ih _ (byte c x h)
  have := all b 0xFFFFFFFF (by decide)
  exact lt_of_lt_of_eq (Nat.xor_lt_two_pow this (by decide)) (by norm_num)

/-- The 4,096 data bytes of a segment: in segment 0 a header for a container, in the others zeros. -/
def cpData (cells format i : Nat) : Bytes :=
  if i = 0 then leBytes 2 1 ++ (leBytes 2 cells ++ (leBytes 8 5 ++ (leBytes 4 9 ++ (leBytes 28 0 ++ (leBytes 2 format ++ leBytes 4050 0)))))
  else leBytes 4096 0
/-- A segment of generation 5 (Table 8.6) without its checksum, and with it. -/
def cpBody (cells format i : Nat) : Bytes := cpData cells format i ++ (leBytes 8 5 ++ (leBytes 2 i ++ leBytes 2 0))
def cpSeg (cells format i : Nat) : Bytes := cpBody cells format i ++ (leBytes 4 (crc32c (cpBody cells format i)) ++ [])
/-- The seal (Table 8.7) without its checksum. -/
def cpSealBody (n crc : Nat) : Bytes := leBytes 8 5 ++ (leBytes 2 n ++ (leBytes 2 0 ++ (leBytes 4 crc ++ leBytes 44 0)))
def cpSeal (n crc : Nat) : Bytes := cpSealBody n crc ++ (leBytes 4 (crc32c (cpSealBody n crc)) ++ [])
/-- The checksum over the segments' checksums. -/
def cpCrc (cells format n : Nat) : Nat := crc32c (((List.range n).map fun i => crc32c (cpBody cells format i)).flatMap fun c => leBytes 4 c)
/-- A whole checkpoint. -/
def checkpointOf (cells format n : Nat) : Bytes := ((List.range n).flatMap (cpSeg cells format)) ++ cpSeal n (cpCrc cells format n)

theorem cpData_length (c f i : Nat) : (cpData c f i).length = 4096 := by
  unfold cpData; split <;> simp only [List.length_append, leBytes_length]
theorem cpBody_length (c f i : Nat) : (cpBody c f i).length = 4108 := by
  simp only [cpBody, List.length_append, cpData_length, leBytes_length]
theorem cpSeg_length (c f i : Nat) : (cpSeg c f i).length = 4112 := by
  simp only [cpSeg, List.length_append, cpBody_length, leBytes_length, List.length_nil]

theorem cpSeg_crc (c f i : Nat) : fieldU (cpSeg c f i) 4108 4 = crc32c (cpBody c f i) := by
  have := field_at (cpBody c f i) [] 4 _ (crc32c_lt (cpBody c f i))
  rwa [cpBody_length] at this
theorem cpSeg_take (c f i : Nat) : (cpSeg c f i).take 4108 = cpBody c f i := by
  unfold cpSeg; rw [← cpBody_length c f i, List.take_left]
theorem cpSeg_gen (c f i : Nat) : fieldU (cpSeg c f i) 4096 8 = 5 := by
  have := field_at (cpData c f i) ((leBytes 2 i ++ leBytes 2 0) ++ (leBytes 4 (crc32c (cpBody c f i)) ++ [])) 8 5 (by norm_num)
  rw [cpData_length] at this
  simpa only [cpSeg, cpBody, List.append_assoc] using this
theorem cpSeg_index (c f i : Nat) (h : i < 65536) : fieldU (cpSeg c f i) 4104 2 = i := by
  have := field_at (cpData c f i ++ leBytes 8 5) (leBytes 2 0 ++ (leBytes 4 (crc32c (cpBody c f i)) ++ [])) 2 i (by norm_num; exact h)
  rw [List.length_append, cpData_length, leBytes_length] at this
  simpa only [cpSeg, cpBody, List.append_assoc] using this

theorem flat_drop (g : Nat → Bytes) (hg : ∀ i, (g i).length = 4112) (rest : Bytes) (n i : Nat) (h : i ≤ n) :
    (((List.range n).flatMap g) ++ rest).drop (4112 * i) = ((List.range' i (n - i)).flatMap g) ++ rest := by
  induction i with
  | zero => simp [List.range_eq_range']
  | succ i ih =>
    have e : n - i = (n - (i + 1)) + 1 := by omega
    rw [Nat.mul_succ, ← List.drop_drop, ih (by omega), e, List.range'_succ, List.flatMap_cons, List.append_assoc, ← hg i, List.drop_left]

theorem flat_slice (g : Nat → Bytes) (hg : ∀ i, (g i).length = 4112) (rest : Bytes) (n i : Nat) (h : i < n) :
    slice (((List.range n).flatMap g) ++ rest) (4112 * i) 4112 = g i := by
  unfold slice
  have e : n - i = (n - (i + 1)) + 1 := by omega
  rw [flat_drop g hg rest n i (by omega), e, List.range'_succ, List.flatMap_cons, List.append_assoc, ← hg i, List.take_left]

theorem filter_index (c f n i : Nat) (hn : n ≤ 65536) (h : i < n) :
    ((List.range n).map (cpSeg c f)).filter (fun b => fieldU b 4104 2 == i) = [cpSeg c f i] := by
  rw [List.filter_map]
  have : (List.range n).filter ((fun b => fieldU b 4104 2 == i) ∘ cpSeg c f) = [i] := by
    have e : (List.range n).filter ((fun b => fieldU b 4104 2 == i) ∘ cpSeg c f) = (List.range n).filter (fun j => j == i) := by
      apply List.filter_congr
      intro j hj
      rw [List.mem_range] at hj
      simp only [Function.comp, cpSeg_index c f j (by omega)]
    rw [e]
    have : ∀ k, k ≤ n → (List.range k).filter (fun j => j == i) = if i < k then [i] else [] := by
      intro k
      induction k with
      | zero => simp
      | succ k ih =>
        intro hk
        rw [List.range_succ, List.filter_append, ih (by omega)]
        by_cases h1 : i < k
        · simp [h1, show ¬ k = i by omega, show i < k + 1 by omega]
        · by_cases h2 : k = i
          · simp [h2]
          · simp [h1, h2, show ¬ i < k + 1 by omega]
    rw [this n le_rfl, if_pos h]
  rw [this]; rfl

theorem cpHead (c f : Nat) (hc : c < 65536) (hf : f < 65536) :
    fieldU (cpSeg c f 0) 4 8 = 5 ∧ fieldU (cpSeg c f 0) 12 4 = 9 ∧ fieldU (cpSeg c f 0) 0 2 = 1 ∧ fieldU (cpSeg c f 0) 2 2 = c ∧
    fieldU (cpSeg c f 0) 44 2 = f := by
  obtain ⟨r, e⟩ : ∃ r, cpSeg c f 0 = leBytes 2 1 ++ (leBytes 2 c ++ (leBytes 8 5 ++ (leBytes 4 9 ++ (leBytes 28 0 ++ (leBytes 2 f ++ r))))) := by
    unfold cpSeg cpBody cpData
    rw [if_pos rfl]
    generalize leBytes 4050 0 = z
    simp only [List.append_assoc]
    exact ⟨_, rfl⟩
  rw [e]
  refine ⟨?_, ?_, ?_, ?_, ?_⟩
  · have := field_at (leBytes 2 1 ++ leBytes 2 c) (leBytes 4 9 ++ (leBytes 28 0 ++ (leBytes 2 f ++ r))) 8 5 (by norm_num)
    simpa only [List.length_append, leBytes_length, List.append_assoc] using this
  · have := field_at (leBytes 2 1 ++ (leBytes 2 c ++ leBytes 8 5)) (leBytes 28 0 ++ (leBytes 2 f ++ r)) 4 9 (by norm_num)
    simpa only [List.length_append, leBytes_length, List.append_assoc] using this
  · have := field_at [] (leBytes 2 c ++ (leBytes 8 5 ++ (leBytes 4 9 ++ (leBytes 28 0 ++ (leBytes 2 f ++ r))))) 2 1 (by norm_num)
    simpa only [List.length_nil, List.nil_append] using this
  · have := field_at (leBytes 2 1) (leBytes 8 5 ++ (leBytes 4 9 ++ (leBytes 28 0 ++ (leBytes 2 f ++ r)))) 2 c (by norm_num; exact hc)
    simpa only [leBytes_length] using this
  · have := field_at (leBytes 2 1 ++ (leBytes 2 c ++ (leBytes 8 5 ++ (leBytes 4 9 ++ leBytes 28 0)))) r 2 f (by norm_num; exact hf)
    simpa only [List.length_append, leBytes_length, List.append_assoc] using this

theorem cpSeal_fields (n x : Nat) (hn : n < 65536) (hx : x < 256 ^ 4) : (cpSeal n x).length = 64 ∧
    fieldU (cpSeal n x) 60 4 = crc32c ((cpSeal n x).take 60) ∧ fieldU (cpSeal n x) 0 8 = 5 ∧ fieldU (cpSeal n x) 8 2 = n ∧
    fieldU (cpSeal n x) 12 4 = x := by
  have hl : (cpSealBody n x).length = 60 := by simp only [cpSealBody, List.length_append, leBytes_length]
  have ht : (cpSeal n x).take 60 = cpSealBody n x := by unfold cpSeal; rw [← hl, List.take_left]
  rw [ht]
  refine ⟨by simp only [cpSeal, List.length_append, hl, leBytes_length, List.length_nil], ?_, ?_, ?_, ?_⟩
  · have := field_at (cpSealBody n x) [] 4 _ (crc32c_lt (cpSealBody n x))
    rwa [hl] at this
  · have := field_at [] (leBytes 2 n ++ (leBytes 2 0 ++ (leBytes 4 x ++ leBytes 44 0)) ++ (leBytes 4 (crc32c (cpSealBody n x)) ++ [])) 8 5 (by norm_num)
    simpa only [cpSeal, cpSealBody, List.length_nil, List.nil_append, List.append_assoc] using this
  · have := field_at (leBytes 8 5) (leBytes 2 0 ++ (leBytes 4 x ++ leBytes 44 0) ++ (leBytes 4 (crc32c (cpSealBody n x)) ++ [])) 2 n (by norm_num; exact hn)
    simpa only [cpSeal, cpSealBody, leBytes_length, List.append_assoc] using this
  · have := field_at (leBytes 8 5 ++ (leBytes 2 n ++ leBytes 2 0)) (leBytes 44 0 ++ (leBytes 4 (crc32c (cpSealBody n x)) ++ [])) 4 x hx
    simpa only [cpSeal, cpSealBody, List.length_append, leBytes_length, List.append_assoc] using this

theorem checkpoint_parses (s : State) (c f n : Nat) (h9 : s.n Obj.CONTAINER_ID = 9) (h1 : s.asBuilt.cells = c)
    (h2 : f ∈ s.kernel.head.reads) (h3 : s.asBuilt.segments = n) (hc : c < 65536) (hf : f < 65536) (hn : 1 ≤ n ∧ n ≤ 258) :
    ∃ x, parseCheckpoint (checkpointOf c f n) s = .ok x := by
  unfold parseCheckpoint
  have hsegs : (List.range n).map (fun i => slice (checkpointOf c f n) (4112 * i) 4112) = (List.range n).map (cpSeg c f) := by
    apply List.map_congr_left
    intro i hi
    exact flat_slice _ (cpSeg_length c f) _ n i (List.mem_range.mp hi)
  have hfind : ((List.range n).map (cpSeg c f)).find? (fun x => x.length == 4112 && fieldU x 4104 2 == 0) = some (cpSeg c f 0) := by
    obtain ⟨k, rfl⟩ : ∃ k, n = k + 1 := ⟨n - 1, by omega⟩
    rw [List.range_succ_eq_map, List.map_cons, List.find?_cons_of_pos]
    simp [cpSeg_length, cpSeg_index c f 0 (by norm_num)]
  have hseg : ∀ i < n, segmentOf ((List.range n).map (cpSeg c f)) 5 i = some (cpData c f i) := by
    intro i hi
    unfold segmentOf
    rw [filter_index c f n i (by omega) hi]
    simp only
    rw [if_pos ⟨by rw [cpSeg_crc, cpSeg_take], cpSeg_gen c f i⟩]
    congr 1
    unfold cpSeg cpBody
    rw [List.append_assoc, ← cpData_length c f i, List.take_left]
  have hat : ∀ i < n, ((List.range n).map (cpSeg c f)).find? (fun x => fieldU x 4104 2 == i) = some (cpSeg c f i) := by
    intro i hi
    rw [← List.head?_filter, filter_index c f n i (by omega) hi]; rfl
  have hdrop : (checkpointOf c f n).drop (4112 * n) = cpSeal n (cpCrc c f n) := by
    unfold checkpointOf
    rw [flat_drop _ (cpSeg_length c f) _ n n le_rfl]
    simp
  obtain ⟨g1, g2, g3, g4, g5⟩ := cpHead c f hc hf
  obtain ⟨s1, s2, s3, s4, s5⟩ := cpSeal_fields n (cpCrc c f n) (by omega) (crc32c_lt _)
  simp only [h1, h3, h9]
  rw [hsegs, hdrop, hfind]
  simp only [g1, g2, g3, g4, g5]
  rw [if_neg (by simp), if_neg (by simp), if_neg, if_neg, if_neg (by simp [h2])]
  · exact ⟨_, rfl⟩
  · rintro (h | h | h | h | h)
    · exact h s1
    · exact h s2
    · exact h s3
    · exact h s4
    · apply h
      rw [s5]
      refine congrArg crc32c (congrArg (List.flatMap fun c => leBytes 4 c) ?_)
      apply List.map_congr_left
      intro i hi
      rw [hat i (List.mem_range.mp hi)]
      exact (cpSeg_crc c f i).symm
  · intro h
    rw [List.any_eq_true] at h
    obtain ⟨i, hi, h⟩ := h
    rw [hseg i (List.mem_range.mp hi)] at h
    cases h

/-- A module in WAIT that belongs to container 9. -/
def container9 : State := m [(Obj.CONTAINER_ID, 9)]

theorem test_checkpoint_runs (h : Obligations.CellCommandsComplete) :
    ∃ b, Runs (.checkpoint (own b)) container9 := by
  obtain ⟨-, -, -, -, -, -, -, -, -, -, -, c, -⟩ := h
  have ha : ∀ b, admitted (began container9) (own b) Obj.CHECKPOINT = true := fun b => rfl
  obtain ⟨x, hx⟩ := checkpoint_parses (heard (began container9) (own []) Obj.CHECKPOINT) 8192 1 258 (by decide +kernel) (by decide +kernel)
    (by decide +kernel) (by decide +kernel) (by decide) (by decide) (by decide)
  generalize checkpointOf 8192 1 258 = b at hx
  exact ⟨b, _, c container9 (own b) (by decide +kernel) (ha b) (Or.inl rfl) x hx⟩

end Sys2Proof.Tests
end

section
/-!
SUPPORT. Proofs of the statements on the queue, the part and the resources that the part lacks.
-/

namespace Sys2Proof.Machine

/-! ### Resources the part lacks (R1, R29) -/

theorem hasHead_of_le {s : State} {h : Nat} (hle : s.asBuilt.heads ≤ h) : hasHead s h = false := blt_of_le hle
theorem hasString_of_le {s : State} {n : Nat} (hle : s.asBuilt.strings ≤ n) : hasString s n = false := blt_of_le hle
theorem hasContactor_of_le {s : State} {m : Nat} (hle : s.asBuilt.contactors ≤ m) : hasContactor s m = false := blt_of_le hle
theorem hasCell_of_le {s : State} {n : Nat} (hle : s.asBuilt.cells ≤ n) : hasCell s n = false := blt_of_le hle
theorem hasSensor_of_le {s : State} {n : Nat} (hle : s.asBuilt.sensors ≤ n) : hasSensor s n = false := blt_of_le hle
theorem hasChannel_of_le {c : Nat} (hle : 2 ≤ c) : hasChannel c = false := blt_of_le hle

/-! ### The queue and the part through a command -/

theorem exec_pending {c : Instr} {s t : State} (h : exec c s = .next t) : t.pending = s.pending := by
  obtain ⟨e, rfl⟩ := exec_finishes c s t h
  exact finish_pending s e

theorem exec_asBuilt {c : Instr} {s t : State} (h : exec c s = .next t) : t.asBuilt = s.asBuilt := by
  obtain ⟨e, rfl⟩ := exec_finishes c s t h
  exact finish_asBuilt s e

/-! ### The statements -/

/-- Settles O25: a command that answers a next state ends in `finish`, which gives back the queue and the part. -/
theorem commandsKeepQueueAndPart : Obligations.CommandsKeepQueueAndPart :=
  fun _ _ _ h => ⟨exec_pending h, exec_asBuilt h⟩

/-- Settles O27: each of these commands asks first whether the part has its resource; that one without it stops is the
model's choice (log entry 4). -/
theorem absentResourcesStop : Obligations.AbsentResourcesStop := by
  refine ⟨?head, ?string, ?contactor, ?cell, ?sensor, ?channel⟩
  case head => exact fun s h expected raw hle => onPart_lacks (hasHead_of_le hle)
  case string => exact fun s n hle => onPart_lacks (hasString_of_le hle)
  case contactor => exact fun s m i t hle => onPart_lacks (hasContactor_of_le hle)
  case cell =>
    intro s rod n e m hle
    have lacks : (Nat.blt rod 16 && hasCell s n) = false := by rw [hasCell_of_le hle, Bool.and_false]
    exact onPart_lacks lacks
  case sensor => exact fun s n cause hle => onPart_lacks (hasSensor_of_le hle)
  case channel => exact fun s c hle => onPart_lacks (hasChannel_of_le hle)

end Sys2Proof.Machine
end

section
/-!
SUPPORT. Proofs of the statements on the pads: the masks that the end of a command drives are the rules on the pads, and a
tick leaves what these rules speak of.
-/

namespace Sys2Proof.Safety

open Sys2Proof.Machine

/-! ### The rules on the pads -/

/-- Pads that conduct as their masks say follow the rules. -/
theorem padsFollow_of_masks {s : State} (hk : s.field.koPad = padMask s) (hd : s.field.doPad = doMask s) : padsFollow s := by
  refine ⟨fun m => ?contactor, fun d => ?digital⟩
  case contactor => rw [hk]; simp [padMask, bitOf_maskOf, State.padsHeld, and_assoc]
  case digital => rw [hd]; simp [doMask, bitOf_maskOf, State.padsHeld, and_assoc]

/-- The rules on the pads speak of the field side, the safety controllers, the role and the overloads alone. -/
theorem padsFollow_congr {s t : State} (hf : t.field = s.field) (hs : t.safety = s.safety)
    (hr : t.v Obj.PAIR_ROLE = s.v Obj.PAIR_ROLE) (ho : t.v Obj.DO_OVERLOAD = s.v Obj.DO_OVERLOAD) (h : padsFollow s) :
    padsFollow t := by
  simpa only [padsFollow, State.standby, State.n, hf, hs, hr, ho] using h

/-- The pads of a STANDBY module that follow the rules are off (R427). -/
theorem padsFollow.standby_off {s : State} (h : padsFollow s) (hs : s.standby = true) (m : Nat) :
    bitOf s.field.koPad m = false ∧ bitOf s.field.doPad m = false := by
  obtain ⟨contactor, digital⟩ := h
  constructor
  · rw [← Bool.not_eq_true, contactor]; simp [hs]
  · rw [← Bool.not_eq_true, digital]; simp [hs]

/-! ### A command and a tick -/

theorem padsFollow_finish (s e : State) : padsFollow (finish s e) :=
  padsFollow_of_masks (finish_koPad s e) (finish_doPad s e)

theorem padsFollow_exec {c : Instr} {s t : State} (h : exec c s = .next t) : padsFollow t := by
  obtain ⟨e, rfl⟩ := exec_finishes c s t h
  exact padsFollow_finish s e

theorem safety_incW (s : State) (w k : Nat) : (s.incW w k).safety = s.safety := by unfold State.incW; split <;> rfl

/-- A tick leaves the field side, the safety controllers and every object but M_CYCLE_COUNT (R32, R42). -/
theorem tick_frame (s : State) :
    s.tick.field = s.field ∧ s.tick.safety = s.safety ∧ ∀ k, k ≠ Obj.M_CYCLE_COUNT → s.tick.v k = s.v k := by
  unfold State.tick
  simp only
  split
  · exact ⟨rfl, rfl, fun _ _ => rfl⟩
  · split
    · exact ⟨field_incW _ _ _, safety_incW _ _ _, fun _ hk => v_incW_ne hk⟩
    · exact ⟨rfl, rfl, fun _ _ => rfl⟩

theorem padsFollow_idle {s : State} (h : padsFollow s) : padsFollow (idle s) := by
  have cleared : padsFollow s.cleared := h
  unfold idle
  simp only
  split
  · obtain ⟨hf, hs, hv⟩ := tick_frame s.cleared
    exact padsFollow_congr hf hs (hv _ (by decide)) (hv _ (by decide)) cleared
  · exact cleared

/-! ### The statements -/

/-- Settles O28: a tick leaves the pads and all that they follow; a command ends by driving them as the rules say. -/
theorem padsFollowEveryStep : Obligations.PadsFollowEveryStep := by
  intro s t h hstep
  unfold step at hstep
  split at hstep
  case h_1 => cases hstep; exact padsFollow_idle h
  case h_2 => exact padsFollow_exec hstep

/-- Settles O29: the end of a command drives the pads, whatever they were. -/
theorem padsFollowEveryCommand : Obligations.PadsFollowEveryCommand :=
  fun _ _ _ h => ⟨padsFollow_exec h, (padsFollow_exec h).standby_off⟩

end Sys2Proof.Safety
end

section
/-!
SUPPORT. Proof of the statement on the commands of a sweep: what each event does where its guards hold.
-/

namespace Sys2Proof.Machine

/-! ### Resources of every member of a list -/

theorem all_hasString {α : Type} {s : State} {l : List α} {f : α → Nat} (h : ∀ x ∈ l, f x < s.asBuilt.strings) :
    (l.all fun x => hasString s (f x)) = true :=
  List.all_eq_true.mpr fun x hx => hasString_of_lt (h x hx)

/-! ### Events whose guards hold -/

/-- SYNC_SEND while sweeps run (R101). -/
theorem syncEvent_running {u : State} (hr : u.running Obj.SWEEP_STATE = true) :
    syncEvent u = syncSend (updateAtSync u.syncSweep u) := by simp only [syncEvent, hr, if_true]

/-- The first WINDOW_LATCH of a sweep (R104). -/
theorem latchEvent_first {u : State} (ws : List StringWindow) (hr : u.running Obj.SWEEP_STATE = true)
    (hl : u.sweep.latched = false) : latchEvent ws u = startAll (sendSweep (pilotStrings (windowLatch ws u))) := by
  simp [latchEvent, hr, hl]

/-- READ_START at a module whose heads send (R100). -/
theorem readStart_leading {u : State} (hr : u.running Obj.SWEEP_STATE = true) (hc : u.running Obj.CHAIN_STATE = true)
    (hl : u.leads = true) :
    readStart u = endReads (u.forAll (u.headsIn roleReading) fun h t =>
      if chainTime (t.n (Obj.HEAD_DEVICES h)) ≤ t.readBoundNow then sendRead h t else t) := by
  simp [readStart, hr, hc, hl]

/-! ### The statement -/

/-- Settles O2: the guards of each event hold, and its resources are there. A mark ends an unfinished sweep by its own tail with
`finished` false (R27; log entries 38, 42). -/
theorem sweepCommandsComplete : Obligations.SweepCommandsComplete := by
  refine ⟨?mark, ?sync, ?latch, ?read, ?tail, ?fault, ?clear, ?sample⟩
  case mark =>
    intro s u hc hr hm hd a b c d e
    have goes : (!u.running Obj.SWEEP_STATE || u.time.nextMark.isNone || u.degraded) = false := by
      rw [hr, hd, Option.isNone_eq_false_iff.mpr hm]; rfl
    refine run_core hc ?_
    unfold sweepMark
    rw [if_neg (Bool.eq_false_iff.mp goes)]
  case sync => exact fun s hc hr => run_core hc (syncEvent_running hr)
  case latch => exact fun s ws hw hc hr hl => onPart_core (all_hasString hw) hc (latchEvent_first ws hr hl)
  case read => exact fun s hc hr hch hl => run_core hc (readStart_leading hr hch hl)
  case tail =>
    intro s run finished u hc hr ht
    have goes : (!u.running Obj.SWEEP_STATE || u.sweep.tailDone) = false := by rw [hr, ht]; rfl
    refine run_core hc ?_
    unfold sweepTail
    rw [if_neg (Bool.eq_false_iff.mp goes)]
  case fault => exact fun s n hn hc => onPart_core (hasString_of_lt hn) hc rfl
  case clear => exact fun s n hn hc => onPart_core (hasString_of_lt hn) hc rfl
  case sample => exact fun s d hd hc => onPart_core (all_hasString hd) hc rfl

end Sys2Proof.Machine
end

section
/-!
SUPPORT. Proof of the statement on the set-points: dispatch forms each one last among what it settles, and the rest of
settling leaves it, the limits and what it is formed from.
-/

namespace Sys2Proof.Machine

/-! ### Repetition over the resources of a part -/

theorem State.each_succ (s : State) (n : Nat) (f : Nat → State → State) : s.each (n + 1) f = f n (s.each n f) := by
  simp [State.each, List.range_succ]

/-- What every member of a repetition below its bound leaves, the repetition leaves. -/
theorem State.each_keeps_below {β : Type} (g : State → β) {n : Nat} {f : Nat → State → State}
    (h : ∀ i s, i < n → g (f i s) = g s) (s : State) : g (s.each n f) = g s := by
  induction n with
  | zero => rfl
  | succ n ih =>
    rw [State.each_succ, h n _ (Nat.lt_succ_self n), ih fun i s hi => h i s (Nat.lt_succ_of_lt hi)]

/-- What one member of a repetition establishes and the others keep holds after it. -/
theorem State.each_establishes {p : State → Prop} {n m : Nat} {f : Nat → State → State} (hm : m < n)
    (est : ∀ s, p (f m s)) (keep : ∀ i s, i < n → i ≠ m → p s → p (f i s)) (s : State) : p (s.each n f) := by
  induction n with
  | zero => exact absurd hm (Nat.not_lt_zero m)
  | succ n ih =>
    rw [State.each_succ]
    by_cases hn : n = m
    · rw [hn]; exact est _
    · exact keep n _ (Nat.lt_succ_self n) hn (ih (by omega) fun i s hi => keep i s (Nat.lt_succ_of_lt hi))

end Sys2Proof.Machine

namespace Sys2Proof.Safety

open Sys2Proof.Machine

/-! ### Clamping (R10) -/

theorem le_rclamp (lo hi x : Rat) : lo ≤ rclamp lo hi x := by
  unfold rclamp rmax; split <;> grind

theorem rclamp_le {lo hi : Rat} (h : lo ≤ hi) (x : Rat) : rclamp lo hi x ≤ hi := by
  unfold rclamp rmax rmin; grind

theorem pilotMargin_nonneg (s : State) : 0 ≤ pilotMargin s := by
  unfold pilotMargin; split
  · positivity
  · exact le_refl 0

/-! ### What settling leaves of the state that set-points are formed from -/

theorem n_of_unsettled {s t : State} (h : unsettled s = unsettled t) {k : Nat} (hk : settledKey k = false) : s.n k = t.n k := by
  unfold State.n; rw [v_of_unsettled h hk]

theorem perString_of_unsettled {s t : State} (h : unsettled s = unsettled t) : s.perString = t.perString := by
  unfold State.perString; rw [n_of_unsettled h (by decide)]

theorem dispatching_of_unsettled {s t : State} (h : unsettled s = unsettled t) :
    s.running Obj.DISPATCH_STATE = t.running Obj.DISPATCH_STATE := by
  unfold State.running; rw [n_of_unsettled h (by decide)]

theorem pilotMargin_of_unsettled {s t : State} (h : unsettled s = unsettled t) : pilotMargin s = pilotMargin t := by
  have n {k} (hk : settledKey k = false) := n_of_unsettled h hk
  unfold pilotMargin State.b
  rw [n (k := Obj.PILOT_ACTIVE) (by decide), n (k := Obj.PILOT_HARMONIC) (by decide), n (k := Obj.PILOT_AMPLITUDE) (by decide)]

theorem pilotValue_of_unsettled {s t : State} (h : unsettled s = unsettled t) : pilotValue s = pilotValue t := by
  have n {k} (hk : settledKey k = false) := n_of_unsettled h hk
  have phase : s.sweep.pilotK = t.sweep.pilotK := by
    have := congrArg (fun u : State => u.sweep.pilotK) h
    exact this
  unfold pilotValue State.pilotOn State.b
  rw [phase, n (k := Obj.PILOT_ACTIVE) (by decide), n (k := Obj.PILOT_ENABLE) (by decide), n (k := Obj.PILOT_HARMONIC) (by decide),
    n (k := Obj.PILOT_AMPLITUDE) (by decide), n (k := Obj.PILOT_SWEEPS_PER_PERIOD) (by decide)]

theorem formSetpoint_of_unsettled {s t : State} (h : unsettled s = unsettled t) : formSetpoint s = formSetpoint t := by
  funext share chg dis
  simp only [formSetpoint, pilotMargin_of_unsettled h, pilotValue_of_unsettled h]

/-! ### A string's limits, its set-point and the shares -/

/-- What settling writes of the set-point of string `n`: its limits, itself, the shares dealt. -/
def setpointView (n : Nat) (s : State) : Val × Val × Val × List Rat :=
  (s.v (Obj.STRING_LIMIT_CHG n), s.v (Obj.STRING_LIMIT_DIS n), s.v (Obj.STRING_SETPOINT n), s.disp.shares)

/-- Whether an object is none of those that hold limits and set-points of strings. -/
def apartFromSetpoints (k : Nat) : Bool := !([0x6080, 0x6081, 0x6082].contains (k / 65536))

theorem apart_ne {k n : Nat} (hk : apartFromSetpoints k = true) (hn : n < 16) :
    Obj.STRING_LIMIT_CHG n ≠ k ∧ Obj.STRING_LIMIT_DIS n ≠ k ∧ Obj.STRING_SETPOINT n ≠ k := by
  simp only [apartFromSetpoints, List.contains_cons, List.contains_nil, Bool.or_false, Bool.not_eq_true', Bool.or_eq_false_iff,
    beq_eq_false_iff_ne] at hk
  simp only [Obj.STRING_LIMIT_CHG, Obj.STRING_LIMIT_DIS, Obj.STRING_SETPOINT]
  omega

theorem setpointView_roleOut (n : Nat) (s : State) (b : Bool) :
    setpointView n (s.modDuo fun d => { d with roleOut := b }) = setpointView n s := rfl

theorem setpointView_settleLatches (n : Nat) (s : State) : setpointView n (settleLatches s) = setpointView n s := by
  unfold settleLatches; split
  · rfl
  · split <;> rfl

section
variable {n : Nat} (hn : n < 16)
include hn

theorem setpointView_put (s : State) {k : Nat} {v : Val} (hk : apartFromSetpoints k = true) :
    setpointView n (s.put k v) = setpointView n s := by
  obtain ⟨hc, hd, hp⟩ := apart_ne hk hn
  simp only [setpointView, State.v_put_of_ne hc, State.v_put_of_ne hd, State.v_put_of_ne hp, State.put_disp]

theorem setpointView_putN (s : State) {k m : Nat} (hk : apartFromSetpoints k = true) :
    setpointView n (s.putN k m) = setpointView n s := setpointView_put hn s hk

theorem setpointView_putB (s : State) {k : Nat} {b : Bool} (hk : apartFromSetpoints k = true) :
    setpointView n (s.putB k b) = setpointView n s := setpointView_put hn s hk

theorem setpointView_incW (s : State) {w k : Nat} (hk : apartFromSetpoints k = true) :
    setpointView n (s.incW w k) = setpointView n s := by
  unfold State.incW
  split
  · exact setpointView_putN hn s hk
  · exact setpointView_putN hn s hk

/-! The parts of settling after dispatch. -/

theorem setpointView_showDos (s : State) : setpointView n (showDos s) = setpointView n s := setpointView_putN hn s (by decide)

theorem setpointView_showContactors (s : State) {m : Nat} (hm : m < 16) :
    setpointView n (showContactors m s) = setpointView n s := by
  refine setpointView_putN hn s ?_
  have index : Obj.CONTACTOR_STATUS m / 65536 = 0x605C := by unfold Obj.CONTACTOR_STATUS; omega
  rw [apartFromSetpoints, index]; decide

theorem setpointView_showStatus (s : State) : setpointView n (showStatus s) = setpointView n s := by
  unfold showStatus
  simp only
  rw [setpointView_roleOut, setpointView_putN hn _ (by decide), setpointView_putB hn _ (by decide),
    setpointView_putB hn _ (by decide), setpointView_putB hn _ (by decide), setpointView_putN hn _ (by decide),
    setpointView_putN hn _ (by decide)]
  exact State.each_keeps_below _
    (fun m t hm => setpointView_showContactors hn t (lt_of_lt_of_le hm (strings_le s.asBuilt))) s

theorem setpointView_takeBuffer (s : State) {c : Nat} (hc : c < 2) (x : SvcTx) :
    setpointView n (takeBuffer c x s) = setpointView n s := by
  unfold takeBuffer
  split
  case h_1 b hb =>
    have hb8 : b < 8 := List.mem_range.mp (List.mem_of_find?_eq_some hb)
    have apart : apartFromSetpoints (Obj.TX_STATE c b) = true := by
      have index : Obj.TX_STATE c b / 65536 = 0x2818 + c := by unfold Obj.TX_STATE; omega
      rw [apartFromSetpoints, index]; interval_cases c <;> decide
    exact setpointView_putN hn s apart
  case h_2 => rfl

theorem setpointView_sendCanResponse (o : Output) (s : State) : setpointView n (sendCanResponse o s) = setpointView n s := by
  have sent : ∀ f r, setpointView n (sendService f r s) = setpointView n s := by
    intro f r
    unfold sendService
    simp only
    split
    case isTrue => rfl
    case isFalse h =>
      have hc : f.channel < 2 := by simp at h; omega
      split
      · have apart : apartFromSetpoints (Obj.TX_SUPPRESSED f.channel) = true := by
          generalize f.channel = c at hc
          interval_cases c <;> decide
        exact setpointView_incW hn s apart
      · exact setpointView_takeBuffer hn s hc _
  unfold sendCanResponse
  split
  · exact sent _ _
  · rfl

theorem setpointView_overloadStep (d : Nat) (s : State) : setpointView n (overloadStep d s) = setpointView n s := by
  unfold overloadStep
  split
  · rfl
  · simp only
    split
    · split <;> rfl
    · split
      · split
        · exact setpointView_putN hn (s.modField _) (by decide)
        · rfl
      · rfl

theorem setpointView_drivePads (s : State) : setpointView n (drivePads s) = setpointView n s := by
  have overloads : setpointView n (s.each 16 overloadStep) = setpointView n s :=
    State.each_keeps _ _ _ (fun d t => setpointView_overloadStep hn d t) s
  have counts : ∀ old new t, setpointView n (countSwitches old new t) = setpointView n t := by
    intro old new t
    unfold countSwitches
    split
    · rfl
    · refine State.each_keeps_below _ (fun m u hm => ?_) t
      split
      · have index : Obj.KO_SWITCHES m / 65536 = 0x2B21 := by unfold Obj.KO_SWITCHES; omega
        exact setpointView_incW hn u (by rw [apartFromSetpoints, index]; decide)
      · rfl
  exact (counts _ _ _).trans overloads

end

/-! ### A formed set-point -/

/-- Whether the set-point of string `n` is as dispatch forms it: from the share between the limits; 0 where a limit of 0 holds or
no deal serves the string (R24, R322, R325, R327). -/
def setpointFormed (n : Nat) (s : State) : Prop :=
  (s.q (Obj.STRING_LIMIT_CHG n) ≤ 0 ∧ s.q (Obj.STRING_LIMIT_DIS n) ≤ 0 ∧ s.q (Obj.STRING_SETPOINT n) = 0) ∨
  s.q (Obj.STRING_SETPOINT n) = if s.perString = true ∧ s.running Obj.DISPATCH_STATE = true then
    formSetpoint s (nth s.disp.shares n 0) (s.q (Obj.STRING_LIMIT_CHG n)) (s.q (Obj.STRING_LIMIT_DIS n)) else 0

theorem setpointFormed_congr {n : Nat} {s t : State} (hv : setpointView n t = setpointView n s) (hu : unsettled t = unsettled s)
    (h : setpointFormed n s) : setpointFormed n t := by
  simp only [setpointView, Prod.mk.injEq] at hv
  obtain ⟨hc, hd, hp, hs⟩ := hv
  simpa only [setpointFormed, State.q, hc, hd, hp, hs, perString_of_unsettled hu, dispatching_of_unsettled hu,
    formSetpoint_of_unsettled hu] using h

/-! ### Forming the set-points -/

theorem putQ_q_self (s : State) (k : Nat) (q : Rat) : (s.putQ k q).q k = q := by
  rw [State.q, State.v_putQ, if_pos rfl, Val.toRat]

theorem putQ_q_of_ne {s : State} {k k' : Nat} {q : Rat} (h : k' ≠ k) : (s.putQ k q).q k' = s.q k' := by
  rw [State.q, State.v_putQ, if_neg h, State.q]

theorem lower_le (s : State) (k : Nat) (q : Rat) : (s.lower k q).q k ≤ q := by
  unfold State.lower
  split
  case isTrue => exact le_of_eq (putQ_q_self s k q)
  case isFalse h => exact not_lt.mp h

theorem lower_q_of_ne {s : State} {k k' : Nat} {q : Rat} (h : k' ≠ k) : (s.lower k q).q k' = s.q k' := by
  unfold State.lower
  split
  · exact putQ_q_of_ne h
  · rfl

theorem setpointView_lower {n : Nat} (s : State) {k : Nat} {q : Rat} (hc : Obj.STRING_LIMIT_CHG n ≠ k)
    (hd : Obj.STRING_LIMIT_DIS n ≠ k) (hp : Obj.STRING_SETPOINT n ≠ k) : setpointView n (s.lower k q) = setpointView n s := by
  unfold State.lower
  split
  · simp only [setpointView, State.v_putQ, if_neg hc, if_neg hd, if_neg hp, State.putQ_disp]
  · rfl

theorem chg_ne_dis {n m : Nat} (hn : n < 16) (hm : m < 16) : Obj.STRING_LIMIT_CHG n ≠ Obj.STRING_LIMIT_DIS m := by
  unfold Obj.STRING_LIMIT_CHG Obj.STRING_LIMIT_DIS; omega
theorem chg_ne_setpoint {n m : Nat} (hn : n < 16) (hm : m < 16) : Obj.STRING_LIMIT_CHG n ≠ Obj.STRING_SETPOINT m := by
  unfold Obj.STRING_LIMIT_CHG Obj.STRING_SETPOINT; omega
theorem dis_ne_setpoint {n m : Nat} (hn : n < 16) (hm : m < 16) : Obj.STRING_LIMIT_DIS n ≠ Obj.STRING_SETPOINT m := by
  unfold Obj.STRING_LIMIT_DIS Obj.STRING_SETPOINT; omega

/-- Where the limits of a string are 0 they fall to 0 or below it at once (R322). -/
theorem fallLimits_zero {n : Nat} (hn : n < 16) {s : State} (hz : limitsZero s n = true) :
    (fallLimits n s).q (Obj.STRING_LIMIT_CHG n) ≤ 0 ∧ (fallLimits n s).q (Obj.STRING_LIMIT_DIS n) ≤ 0 := by
  unfold fallLimits
  simp only [hz, if_true]
  rw [lower_q_of_ne (chg_ne_dis hn hn)]
  exact ⟨lower_le _ _ _, lower_le _ _ _⟩

/-- The string limits and the set-points are settled objects. -/
theorem settledKey_setpoints {n : Nat} (hn : n < 16) : settledKey (Obj.STRING_LIMIT_CHG n) = true ∧
    settledKey (Obj.STRING_LIMIT_DIS n) = true ∧ settledKey (Obj.STRING_SETPOINT n) = true :=
  ⟨settledKey_idx (i := 0x6080) (by unfold Obj.STRING_LIMIT_CHG; omega) (by decide),
    settledKey_idx (i := 0x6081) (by unfold Obj.STRING_LIMIT_DIS; omega) (by decide),
    settledKey_idx (i := 0x6082) (by unfold Obj.STRING_SETPOINT; omega) (by decide)⟩

theorem unsettled_fallLimits {n : Nat} (hn : n < 16) (s : State) : unsettled (fallLimits n s) = unsettled s := by
  obtain ⟨hc, hd, -⟩ := settledKey_setpoints hn
  exact (unsettled_lower hd).trans (unsettled_lower hc)

theorem limitsZero_of_unsettled {s t : State} (h : unsettled s = unsettled t) {n : Nat} (hn : n < 16) :
    limitsZero s n = limitsZero t n := by
  have seq : settledKey (Obj.STRING_SEQ_STATE n) = false := by
    unfold Obj.STRING_SEQ_STATE; interval_cases n <;> decide
  have prot : s.prot = t.prot := by
    have := congrArg (fun u : State => u.prot) h
    exact this
  unfold limitsZero State.seq State.ps State.b
  rw [n_of_unsettled h seq, n_of_unsettled h (by decide), prot]

/-- The set-point that dispatch forms for string `n` from the limits in force. -/
def setpointOf (n : Nat) (s : State) : Rat :=
  if limitsZero s n || !s.perString || !s.running Obj.DISPATCH_STATE then 0
  else formSetpoint s (nth s.disp.shares n 0) (s.q (Obj.STRING_LIMIT_CHG n)) (s.q (Obj.STRING_LIMIT_DIS n))

/-- The set-point of one string, formed after its limits have fallen: the body of `formSetpoints`. -/
def formOne (n : Nat) (s : State) : State := (fallLimits n s).putQ (Obj.STRING_SETPOINT n) (setpointOf n (fallLimits n s))

theorem formSetpoints_eq (s : State) : formSetpoints s = s.each s.asBuilt.strings formOne := rfl

theorem unsettled_formOne {n : Nat} (hn : n < 16) (s : State) : unsettled (formOne n s) = unsettled s := by
  obtain ⟨-, -, hp⟩ := settledKey_setpoints hn
  exact (unsettled_putQ hp).trans (unsettled_fallLimits hn s)

/-- Forming the set-point of one string leaves those of the others. -/
theorem setpointView_formOne {n m : Nat} (hn : n < 16) (hm : m < 16) (hne : m ≠ n) (s : State) :
    setpointView n (formOne m s) = setpointView n s := by
  have cc : Obj.STRING_LIMIT_CHG n ≠ Obj.STRING_LIMIT_CHG m := by unfold Obj.STRING_LIMIT_CHG; omega
  have dd : Obj.STRING_LIMIT_DIS n ≠ Obj.STRING_LIMIT_DIS m := by unfold Obj.STRING_LIMIT_DIS; omega
  have pp : Obj.STRING_SETPOINT n ≠ Obj.STRING_SETPOINT m := by unfold Obj.STRING_SETPOINT; omega
  have fallen : setpointView n (fallLimits m s) = setpointView n s :=
    (setpointView_lower _ (chg_ne_dis hn hm) dd (dis_ne_setpoint hm hn).symm).trans
      (setpointView_lower _ cc (chg_ne_dis hm hn).symm (chg_ne_setpoint hm hn).symm)
  unfold formOne
  rw [← fallen]
  simp only [setpointView, State.v_putQ, if_neg (chg_ne_setpoint hn hm), if_neg (dis_ne_setpoint hn hm), if_neg pp,
    State.putQ_disp]

theorem setpointFormed_formOne {n : Nat} (hn : n < 16) (s : State) : setpointFormed n (formOne n s) := by
  obtain ⟨-, -, hp⟩ := settledKey_setpoints hn
  have zero : limitsZero (fallLimits n s) n = limitsZero s n := limitsZero_of_unsettled (unsettled_fallLimits hn s) hn
  have fallen : limitsZero s n = true → _ := fallLimits_zero hn
  unfold formOne
  generalize fallLimits n s = u at zero fallen
  have hu : unsettled (u.putQ (Obj.STRING_SETPOINT n) (setpointOf n u)) = unsettled u := unsettled_putQ hp
  have chg : (u.putQ (Obj.STRING_SETPOINT n) (setpointOf n u)).q (Obj.STRING_LIMIT_CHG n) = u.q (Obj.STRING_LIMIT_CHG n) :=
    putQ_q_of_ne (chg_ne_setpoint hn hn)
  have dis : (u.putQ (Obj.STRING_SETPOINT n) (setpointOf n u)).q (Obj.STRING_LIMIT_DIS n) = u.q (Obj.STRING_LIMIT_DIS n) :=
    putQ_q_of_ne (dis_ne_setpoint hn hn)
  unfold setpointFormed
  rw [chg, dis, putQ_q_self, perString_of_unsettled hu, dispatching_of_unsettled hu, formSetpoint_of_unsettled hu, State.putQ_disp]
  unfold setpointOf
  rw [zero]
  cases hz : limitsZero s n
  case true =>
    obtain ⟨hc, hd⟩ := fallen hz
    exact Or.inl ⟨hc, hd, rfl⟩
  case false =>
    refine Or.inr ?_
    cases u.perString <;> cases u.running Obj.DISPATCH_STATE <;> simp

theorem setpointFormed_formSetpoints {s : State} {n : Nat} (hn : n < s.asBuilt.strings) : setpointFormed n (formSetpoints s) := by
  have lt16 {i : Nat} (hi : i < s.asBuilt.strings) : i < 16 := lt_of_lt_of_le hi (strings_le _)
  rw [formSetpoints_eq]
  refine State.each_establishes hn (setpointFormed_formOne (lt16 hn)) (fun m t hm hne ht => ?_) s
  exact setpointFormed_congr (setpointView_formOne (lt16 hn) (lt16 hm) hne t) (unsettled_formOne (lt16 hm) t) ht

/-! ### Settling and the end of a command -/

theorem setpointFormed_dispatchWatch {s : State} {n : Nat} (hn : n < s.asBuilt.strings) :
    setpointFormed n (dispatchWatch s) := by
  obtain ⟨u, last⟩ : ∃ u, dispatchWatch s = formSetpoints u := ⟨_, rfl⟩
  have part : u.asBuilt = s.asBuilt :=
    unsettled_asBuilt (by rw [← unsettled_formSetpoints u, ← last, unsettled_dispatchWatch])
  rw [last]
  exact setpointFormed_formSetpoints (by rw [part]; exact hn)

theorem setpointFormed_settleCore {s : State} {n : Nat} (hn : n < s.asBuilt.strings) : setpointFormed n (settleCore s) := by
  have h16 : n < 16 := lt_of_lt_of_le hn (strings_le _)
  have before : unsettled (loginFailed (watchWindow s)) = unsettled s := (unsettled_loginFailed _).trans (unsettled_watchWindow s)
  have formed : setpointFormed n (dispatchWatch (loginFailed (watchWindow s))) :=
    setpointFormed_dispatchWatch (by rw [unsettled_asBuilt before]; exact hn)
  have left : unsettled (settleCore s) = unsettled (dispatchWatch (loginFailed (watchWindow s))) :=
    (unsettled_settleCore s).trans ((unsettled_dispatchWatch _).trans before).symm
  refine setpointFormed_congr ?_ left formed
  unfold settleCore
  exact (State.forAll_keeps _ _ _ (setpointView_sendCanResponse h16) _).trans
    ((setpointView_showStatus h16 _).trans (setpointView_showDos h16 _))

theorem setpointFormed_settle {s : State} {n : Nat} (hc : s.coreOn = true) (hn : n < s.asBuilt.strings) :
    setpointFormed n (settle s) := by
  have h16 : n < 16 := lt_of_lt_of_le hn (strings_le _)
  refine setpointFormed_congr ?_ ((unsettled_settle s).trans (unsettled_settleCore s).symm) (setpointFormed_settleCore hn)
  unfold settle
  rw [if_pos hc]
  exact (setpointView_drivePads h16 _).trans (setpointView_settleLatches n _)

/-- The queue has no part in a set-point, and settling keeps the part. -/
theorem setpointFormed_settled {w : State} {a : AsBuilt} {n : Nat} (p : List Instr) (hc : w.coreOn = true) (ha : w.asBuilt = a)
    (hn : n < a.strings) : setpointFormed n { settle w with pending := p, asBuilt := a } := by
  have kept : (settle w).asBuilt = a := (unsettled_asBuilt (unsettled_settle w)).trans ha
  have formed : setpointFormed n (settle w) := setpointFormed_settle hc (by rw [ha]; exact hn)
  generalize settle w = u at kept formed
  rw [← kept]
  exact formed

theorem finish_coreOn (s e : State) : (finish s e).coreOn = e.coreOn := by
  have power : (finish s e).pow = e.pow := by
    have := congrArg (fun u : State => u.pow) (unsettled_finish s e)
    exact this
  rw [State.coreOn, power, State.coreOn]

theorem setpointFormed_finish {s e : State} {n : Nat} (hc : (finish s e).coreOn = true) (hn : n < s.asBuilt.strings) :
    setpointFormed n (finish s e) := by
  rw [finish_coreOn] at hc
  exact setpointFormed_settled (w := { e with asBuilt := s.asBuilt }) s.pending hc rfl hn

/-- The clamp of a formed set-point where the limits and the pilot's amplitude leave a range (R327; log entry 148 is the case
without one). -/
theorem formSetpoint_of_range {s : State} {share chg dis : Rat} (h : 2 * pilotMargin s ≤ chg + dis) :
    formSetpoint s share chg dis = rclamp (-dis + pilotMargin s) (chg - pilotMargin s) (share + pilotValue s) := by
  unfold formSetpoint
  simp only
  rw [if_neg (by linarith)]

/-- Settles O40: dispatch forms the set-point of every string after every command (R24), clamped by its limits, which a harmonic
pilot narrows (R327). Limits that are 0 because the string is not CLOSED or has a fault leave 0 alone between them; so does
SHARED (log entry 71) or a dispatch that does not run (R325, R337). -/
theorem setpointsWithinLimits : Obligations.SetpointsWithinLimits := by
  intro c s t h hc n hn chg dis sp hchg hdis hrange
  have formed : setpointFormed n t := by
    obtain ⟨e, rfl⟩ := exec_finishes c s t h
    exact setpointFormed_finish hc hn
  have margin := pilotMargin_nonneg t
  rcases formed with ⟨hc0, hd0, hsp⟩ | hsp
  case inl =>
    have chg0 : chg = 0 := le_antisymm hc0 hchg
    have dis0 : dis = 0 := le_antisymm hd0 hdis
    have lo : -dis + pilotMargin t = 0 := by linarith
    have hi : chg - pilotMargin t = 0 := by linarith
    have clamped : ∀ x, rclamp 0 0 x = 0 := fun x => le_antisymm (rclamp_le le_rfl x) (le_rclamp 0 0 x)
    have sp0 : sp = 0 := hsp
    refine ⟨by linarith, by linarith, ?_⟩
    rw [lo, hi, clamped, ite_self]
    exact sp0
  case inr =>
    have eq : sp = if t.perString ∧ t.running Obj.DISPATCH_STATE then
        rclamp (-dis + pilotMargin t) (chg - pilotMargin t) (nth t.disp.shares n 0 + pilotValue t) else 0 := by
      rw [← formSetpoint_of_range hrange]; exact hsp
    refine ⟨?lower, ?upper, eq⟩
    case lower =>
      rw [eq]
      split
      · linarith [le_rclamp (-dis + pilotMargin t) (chg - pilotMargin t) (nth t.disp.shares n 0 + pilotValue t)]
      · linarith
    case upper =>
      rw [eq]
      split
      · linarith [rclamp_le (show -dis + pilotMargin t ≤ chg - pilotMargin t by linarith) (nth t.disp.shares n 0 + pilotValue t)]
      · exact hchg

end Sys2Proof.Safety
end

section
/-!
SUPPORT. Proofs of the statements on the bases L, P and M: what each event does where its guards hold, what a tick without a
command leaves, what reset leaves.
-/

namespace Sys2Proof.Machine

/-! ### Base P: events whose guards hold -/

/-- A Sync of the master, path, profile and domain followed, as it left the ring (R36, R41), gives a measurement. -/
theorem ptpSync_followed {u f : State} {port profile domain master : Nat} {x : PtpSync} (hf : forwardPtp port x.seq u = f)
    (ha : f.ptpActive = true) (ht : takesSync port x.seq f = true) (hm : f.n Obj.PTP_MASTER_ID = master)
    (hp : f.n Obj.PTP_PROFILE = profile) (hd : f.n Obj.PTP_DOMAIN = domain) :
    ptpSync port profile domain master x u =
      measureOffset x.masterNs { f.putN Obj.PTP_PORT port with time := { f.time with syncSeq := some x.seq } } := by
  simp [ptpSync, hf, ha, ht, hm, hp, hd]

/-- A measurement with no step armed drives the servo (R36). -/
theorem measureOffset_unarmed {t : State} (masterNs : Nat) (h : t.time.armed = false) :
    measureOffset masterNs t = servoP ((t.pNow : Int) - masterNs) (t.putI Obj.PTP_OFFSET ((t.pNow : Int) - masterNs)) := by
  simp [measureOffset, h]

/-- A measurement with the step armed is kept; the step is made where the latest four agree (R35). -/
theorem measureOffset_armed {t : State} (masterNs : Nat) (h : t.time.armed = true) :
    measureOffset masterNs t =
      let offset : Int := (t.pNow : Int) - masterNs
      let offs := (offset :: t.time.offsets).take 4
      let v : State := { t.putI Obj.PTP_OFFSET offset with time := { t.time with offsets := offs } }
      if offsetsAgree offs then v.stepP (-offset) pAcquiring else v := by
  simp [measureOffset, h]

/-- An Announce of a master not yet heard at its port joins the masters (R41). -/
theorem ptpAnnounce_new {u : State} {a : Announce} (ha : u.ptpActive = true) (hp : u.n Obj.PTP_PROFILE = a.profile)
    (hd : u.n Obj.PTP_DOMAIN = a.domain) (hport : a.port = 1 ∨ a.port = 2)
    (hnew : (u.time.masters.all fun x => x.id != a.master || x.port != a.port) = true) :
    ptpAnnounce a u = selectMaster
      { u with time := { u.time with masters := u.time.masters ++ [{ port := a.port, id := a.master, rank := a.rank }] } } := by
  have unknown : (u.time.masters.any fun x => x.id == a.master && x.port == a.port) = false := by
    simpa [List.any_eq_false, ← imp_iff_not_or] using hnew
  have onPath : (a.port == 1 || a.port == 2) = true := by simpa using hport
  simp [ptpAnnounce, ha, hp, hd, onPath, unknown]

/-- The timeout of a port other than the one in use drops the masters heard there alone (R38). -/
theorem announceTimeout_unused {u : State} {port : Nat} (ha : u.ptpActive = true) (hp : u.n Obj.PTP_PORT ≠ port) :
    announceTimeout port u =
      { u with time := { u.time with masters := u.time.masters.filter fun x => x.port != port } } := by
  simp [announceTimeout, ha, hp]

/-- The timeout of the port in use while the other port delivers the same master (R41). -/
theorem announceTimeout_other_path {u : State} {port : Nat} (ha : u.ptpActive = true) (hp : u.n Obj.PTP_PORT = port)
    (h0 : port ≠ 0)
    (hm : ((u.time.masters.filter fun x => x.port != port).any fun x => x.id == u.n Obj.PTP_MASTER_ID) = true) :
    announceTimeout port u = State.putN
      { u with time := { u.time with masters := u.time.masters.filter fun x => x.port != port } } Obj.PTP_PORT (3 - port) := by
  unfold announceTimeout
  simp only [ha, hp, h0, hm, Bool.not_true, Bool.false_eq_true, ne_eq, not_true_eq_false, or_self, if_false, if_true]

/-- The timeout of the port in use with no other path to its master: HOLDOVER unless UNSET, and a new selection (R38, R41). -/
theorem announceTimeout_lost {u : State} {port : Nat} (ha : u.ptpActive = true) (hp : u.n Obj.PTP_PORT = port) (h0 : port ≠ 0)
    (hm : ((u.time.masters.filter fun x => x.port != port).any fun x => x.id == u.n Obj.PTP_MASTER_ID) = false) :
    announceTimeout port u =
      let t : State := { u with time := { u.time with masters := u.time.masters.filter fun x => x.port != port } }
      let w := if t.pUnsetFlag then t else t.putN Obj.P_STATE pHoldover
      selectMaster { w with time := { w.time with lockRun := 0, offsets := [] } } := by
  unfold announceTimeout
  simp only [ha, hp, h0, hm, Bool.not_true, Bool.false_eq_true, ne_eq, not_true_eq_false, or_self, if_false]

/-- P_SET while the step is armed (R35). -/
theorem ownPSet_armed {t : State} (v : Val) (h : t.time.armed = true) :
    ownPSet v t = .ok (t.stepP (v.toInt - t.pNow) pHoldover) := if_pos h

/-! ### Base M: events whose guards hold -/

/-- An ANG edge half a nominal period or more after the one accepted before, at 40 to 70 Hz from the edge before, is a
reference (R44); with no edge before it the own estimate stands for its frequency (log entry 119). -/
theorem angEdge_accepted {u : State} (ha : u.angleActive = true) (hs : u.usesAng = true)
    (hgap : ∀ a, u.time.angAccepted = some a → (1000000000 / u.q Obj.M_NOMINAL_FREQ / 2 : Rat) ≤ ((u.lNow - a : Nat) : Rat))
    (hfreq : ∀ e, u.time.angEdge = some e →
      40 ≤ (1000000000 / ((u.lNow - e : Nat) : Rat) : Rat) ∧ (1000000000 / ((u.lNow - e : Nat) : Rat) : Rat) ≤ 70) :
    angEdge u =
      let t : State := { u with time := { u.time with angEdge := some u.lNow, angAccepted := some u.lNow, onPcs := false } }
      reference (signedAngle ((t.angle : Int) - t.i Obj.ANG_OFFSET))
        ((u.time.angEdge.map fun e => freqWord (1000000000 / ((u.lNow - e : Nat) : Rat))).getD t.ownWord) t := by
  unfold angEdge
  rw [if_neg (by simp [ha, hs])]
  refine (if_neg ?glitch).trans ((if_neg ?range).trans (by rw [Option.map_map]; rfl))
  case glitch =>
    cases hacc : u.time.angAccepted with
    | none => simp
    | some a => simpa using hgap a hacc
  case range =>
    cases hedge : u.time.angEdge with
    | none => simp
    | some e => simpa using hfreq e hedge

/-- A PCS angle message while PCS_MSG is the source (R43, R45); one with FREQ 0 leaves the own estimate (log entry 119). -/
theorem pcsAngle_from_pcs {u : State} {f : CanFrame} (sofL : Nat) (ha : u.angleActive = true) (hs : u.n Obj.ANGLE_SOURCE = 1)
    (hf : frameOn f (u.n Obj.ANG_MSG_CHANNEL) (u.n Obj.ANG_MSG_ID) = true) (hl : 8 ≤ f.data.length) :
    pcsAngle f sofL u =
      let t : State := { u with time := { u.time with pcsLast := some u.lNow, onPcs := true } }
      let freq := fieldU f.data 4 4
      reference (signedAngle ((t.angleAt sofL : Int) - fieldU f.data 0 4))
        (if freq = 0 then t.ownWord else freqWord ((freq : Rat) / 1000000)) t := by
  have source : u.usesPcs = true := by simp [State.usesPcs, hs]
  have notAng : u.n Obj.ANGLE_SOURCE ≠ 2 := by rw [hs]; decide
  unfold pcsAngle
  rw [if_neg (by simp [ha, source, hf, hl])]
  exact if_neg fun ⟨both, _⟩ => notAng both

/-- The ANG input falls silent (R47). -/
theorem angEdgeTimeout_lost {u : State} (ha : u.angleActive = true) (hs : u.usesAng = true)
    (hacc : u.time.angAccepted.isSome = true) (hp : u.time.onPcs = false) :
    angEdgeTimeout u =
      loseReference { u with time := { u.time with angAccepted := none, onPcs := u.n Obj.ANGLE_SOURCE == 2 } } := by
  unfold angEdgeTimeout
  rw [if_neg (by simp [ha, hs, hp, Option.isNone_eq_false_iff.mpr hacc])]

/-- The PCS message falls silent while it is the source (R47). -/
theorem angMsgTimeout_lost {u : State} (ha : u.angleActive = true) (hs : u.n Obj.ANGLE_SOURCE = 1)
    (hl : u.time.pcsLast.isSome = true) :
    angMsgTimeout u = loseReference { u with time := { u.time with pcsLast := none } } := by
  have source : u.usesPcs = true := by simp [State.usesPcs, hs]
  unfold angMsgTimeout
  rw [if_neg (by simp [ha, source, Option.isNone_eq_false_iff.mpr hl])]
  exact if_pos (by simp [hs])

/-- M_HOLDOVER_MAX passes in HOLDOVER (R47). -/
theorem holdoverMax_holdover {u : State} (ha : u.angleActive = true) (hm : u.n Obj.M_STATE = mHoldover) :
    holdoverMax u = freeRun u := if_pos ⟨ha, hm⟩

/-! ### The crystal and the mark outputs -/

/-- A crystal that runs is compensated (R55). -/
theorem xtalUpdate_runs {u : State} (h : u.degraded = false) :
    xtalUpdate u =
      let x := u.time.xtal + rclamp (-50) 50 (interp u.xtalPoints u.time.die0 - u.time.xtal)
      knownRate (rround x - rround u.time.xtal) { u.putI Obj.XTAL_COMP (rround x) with time := { u.time with xtal := x } } :=
  if_neg (Bool.eq_false_iff.mp h)

/-- A running mark output at its instant, outside DEGRADED_CLOCK and a STANDBY module (R52, R53). -/
theorem markFire_due {u : State} {n t : Nat} (hd : u.degraded = false) (hp : u.n Obj.PAIR_ROLE ≠ 2)
    (hr : u.running (Obj.MK_STATE n) = true) (ht : (nth u.time.marks n {}).next = some t) :
    markFire n u =
      let w := u.emit (.markPulse n (u.n (Obj.MK_WIDTH n)))
      if u.n (Obj.MK_MODE n) = 0 then (w.setMark n { next := none, last := some t }).putN (Obj.MK_STATE n) 0
      else w.setMark n { next := some (t + w.markPeriod n), last := some t } := by
  unfold markFire
  rw [if_neg (Bool.eq_false_iff.mp hd), if_neg hp]
  simp only [ht]
  exact if_neg (by simp [hr])

/-! ### Pads that are off -/

theorem bitOf_zero (i : Nat) : bitOf 0 i = false := by simp [bitOf]

/-! ### A tick -/

/-- A counter that counts changes the store and the free values alone. -/
theorem incW_keeps (s : State) (w k : Nat) : ∃ st n, s.incW w k = { s with store := st, free := n } := by
  unfold State.incW
  split <;> exact ⟨_, _, rfl⟩

/-- A tick changes the store, the free values and the bases alone; base L by one tick (R32, R42). -/
theorem tick_keeps (s : State) : ∃ st n x, s.tick = { s with store := st, free := n, time := x } ∧ x.l = s.time.l + 1 := by
  unfold State.tick
  simp only
  split
  · exact ⟨_, _, _, rfl, rfl⟩
  · split
    · obtain ⟨st, n, counted⟩ := incW_keeps _ 64 Obj.M_CYCLE_COUNT
      exact ⟨st, n, _, counted, rfl⟩
    · exact ⟨_, _, _, rfl, rfl⟩

theorem tick_out (s : State) : s.tick.out = s.out := by obtain ⟨st, n, x, form, -⟩ := tick_keeps s; rw [form]
theorem tick_pending (s : State) : s.tick.pending = s.pending := by obtain ⟨st, n, x, form, -⟩ := tick_keeps s; rw [form]

/-- A tick is 10 ns of base L (R32). -/
theorem tick_lNow (s : State) : s.tick.lNow = s.lNow + 10 := by
  obtain ⟨st, n, x, form, hl⟩ := tick_keeps s
  have ticked : s.tick.time.l = s.time.l + 1 := by rw [form]; exact hl
  unfold State.lNow
  omega

/-- While no command waits a carrier with power ticks (R32, R33; log entry 2). -/
theorem idle_carrierOn {s : State} (h : s.carrierOn = true) : idle s = s.cleared.tick := if_pos h

/-- A carrier without power does not count. -/
theorem idle_carrierOff {s : State} (h : s.carrierOn = false) : idle s = s.cleared := if_neg (Bool.eq_false_iff.mp h)

/-- A step on an empty queue. -/
theorem step_idle {s : State} (h : s.pending = []) : step s = .next (idle s) := by unfold step; rw [h]

end Sys2Proof.Machine

namespace Sys2Proof.Safety

open Sys2Proof.Machine

/-- P_SET is no DOMAIN: its write leaves the bases until its own rule sees them. -/
theorem heard_pSet_time (u : State) (r : Req) : (heard u r Obj.P_SET).time = u.time := by
  have plain : isDomain Obj.P_SET = false := by decide
  unfold heard
  rw [plain]
  exact touchSession_time u r

/-! ### The statements -/

/-- Settles O1: the guards of each event hold. The masters are ranked as log entry 29 says; at an ANG edge with none before it and
at FREQ 0 the module's own estimate stands in (log entry 119). -/
theorem clockCommandsComplete : Obligations.ClockCommandsComplete := by
  refine ⟨?syncServo, ?syncArmed, ?announce, ?unusedPort, ?otherPath, ?masterLost, ?pSet, ?edge, ?message, ?edgeTimeout,
    ?messageTimeout, ?holdover, ?crystal, ?mark⟩
  case syncServo =>
    intro s port profile domain master x u f hc ha ht hm hp hd t offset hu
    exact run_core hc ((ptpSync_followed rfl ha ht hm hp hd).trans (measureOffset_unarmed _ hu))
  case syncArmed =>
    intro s port profile domain master x u f hc ha ht hm hp hd t offset hu offs v
    exact run_core hc ((ptpSync_followed rfl ha ht hm hp hd).trans (measureOffset_armed _ hu))
  case announce => exact fun s a hc ha hp hd hport hnew => run_core hc (ptpAnnounce_new ha hp hd hport hnew)
  case unusedPort => exact fun s port hc ha hp => run_core hc (announceTimeout_unused ha hp)
  case otherPath => exact fun s port hc ha hp h0 hm => run_core hc (announceTimeout_other_path ha hp h0 hm)
  case masterLost => exact fun s port hc ha hp h0 hm => run_core hc (announceTimeout_lost ha hp h0 hm)
  case pSet =>
    intro s r u hc had harmed t
    have armed : t.time.armed = true := by rw [heard_pSet_time]; exact harmed
    exact run_core hc (writeRequest_granted had (ownPSet_armed _ armed))
  case edge => exact fun s hc ha hs hgap hfreq => run_core hc (angEdge_accepted ha hs hgap hfreq)
  case message =>
    intro s f sofL u hch hc hh hm hfd ha hs hf hl t freq
    exact onPart_core hch hc ((serviceRx_takes hh hm hfd).trans (pcsAngle_from_pcs sofL ha hs hf hl))
  case edgeTimeout => exact fun s hc ha hs hacc hp => run_core hc (angEdgeTimeout_lost ha hs hacc hp)
  case messageTimeout => exact fun s hc ha hs hl => run_core hc (angMsgTimeout_lost ha hs hl)
  case holdover => exact fun s hc ha hm => run_core hc (holdoverMax_holdover ha hm)
  case crystal => exact fun s hc hd => run_carrier hc (xtalUpdate_runs hd)
  case mark => exact fun s n t hc hd hp hr ht => run_core hc (markFire_due hd hp hr ht)

/-- Settles O21: the tick follows the clearing of what was put out; a tick on an empty queue is the model's choice (log entry
2). -/
theorem emptyQueueTicks : Obligations.EmptyQueueTicks := by
  refine ⟨fun s hq hc => ?powered, fun s hq hc => ?unpowered⟩
  case powered =>
    obtain ⟨-, -, hv⟩ := tick_frame s.cleared
    exact ⟨s.cleared.tick, by rw [step_idle hq, idle_carrierOn hc], tick_lNow s.cleared, tick_out s.cleared,
      (tick_pending s.cleared).trans hq, hv⟩
  case unpowered => rw [step_idle hq, idle_carrierOff hc]

/-- No function is RUNNING right after reset: each reads STOPPED until its start-up step (log entry 7). -/
theorem reset_functions_stopped : ∀ k ∈ fnKeys, State.reset.n k = 0 := by decide +kernel

/-- The pads that reset leaves follow the rules on pads: their latches are off. -/
theorem padsFollow_reset : padsFollow State.reset :=
  padsFollow_of_masks (by decide +kernel) (by decide +kernel)

/-- Settles O22: reset is the instant at which the supply monitors release the carrier (log entry 6), with every function STOPPED
until its start-up step (log entry 7). -/
theorem resetLeaves : Obligations.ResetLeaves := by
  have unset : State.reset.pUnsetFlag = true := by decide +kernel
  have readsL : State.reset.pNow = State.reset.lNow := if_pos unset
  exact ⟨rfl, unset, readsL, reset_functions_stopped, padsFollow_reset, rfl, rfl, bitOf_zero, bitOf_zero, rfl⟩

end Sys2Proof.Safety
end

section
/-!
SUPPORT. Proof of the statement on the commands of the Krytlink chains: what each event does where its guards hold.
-/

namespace Sys2Proof.Machine

/-! ### Trains and the wait for them -/

/-- A wait for a train that is over. -/
def waitOver (h : Nat) (s : State) : State := s.modHead h fun x => { x with awaiting := none }

/-- A train that answers the frame awaited ends its wait and is evaluated (R70). -/
theorem trainEvent_answers {u : State} {h : Nat} {t : Train} {a : Await} (ha : (u.head h).awaiting = some a)
    (ht : trainAnswers a t = true) :
    trainEvent h t u = drainIdle h (trainResult h a t (waitOver h (trainHeader h a t u))) := by
  simp only [trainEvent, ha, ht, Bool.not_true, Bool.and_false, Bool.false_eq_true, if_false]
  rfl

/-- The train of a READ while sweeps run (R111). -/
theorem trainResult_read {w : State} {a : Await} (h : Nat) (t : Train) (hk : a.kind = kRead)
    (hr : w.running Obj.SWEEP_STATE = true) : trainResult h a t w = readTrain h a t w := by
  rw [trainResult, if_pos hk, if_pos hr]

section
variable {a : Await} {t : Train} {b : Bytes} (w : State) (h : Nat) (hb : answerBlock a t = some b)
include hb

/-- The train of a frame other than READ is its addressee's block. -/
theorem trainResult_block (hk : a.kind ≠ kRead) :
    trainResult h a t w =
      if a.kind = kBalance then balanceAck h a b w
      else if a.kind = kConfigWrite then configAck h a b w
      else if a.kind = kImageCheck then imageChecked h b w
      else w := by
  rw [trainResult, if_neg hk, hb]

theorem trainResult_balance (hk : a.kind = kBalance) : trainResult h a t w = balanceAck h a b w := by
  rw [trainResult_block w h hb (by rw [hk]; decide), if_pos hk]

theorem trainResult_configWrite (hk : a.kind = kConfigWrite) : trainResult h a t w = configAck h a b w := by
  rw [trainResult_block w h hb (by rw [hk]; decide), hk, if_neg (by decide), if_pos rfl]

theorem trainResult_imageCheck (hk : a.kind = kImageCheck) : trainResult h a t w = imageChecked h b w := by
  rw [trainResult_block w h hb (by rw [hk]; decide), hk, if_neg (by decide), if_neg (by decide), if_pos rfl]

end

/-- The wait for the answer to a frame other than READ ends (R72). -/
theorem trainTimeout_other {u : State} {h : Nat} {a : Await} (begun : Bool) (ha : (u.head h).awaiting = some a)
    (hk : a.kind ≠ kRead) : trainTimeout h begun u = drainIdle h (waitOver h (u.inc (Obj.HEAD_TIMEOUTS h))) := by
  simp only [trainTimeout, ha, if_pos hk]
  rfl

/-- The wait of a reading head for the train of its READ ends; with no train begun the cut is at hop 0 (R111, R114). -/
theorem trainTimeout_reading {u : State} {h : Nat} {a : Await} (begun : Bool) (ha : (u.head h).awaiting = some a)
    (hk : a.kind = kRead) (hr : (waitOver h (u.inc (Obj.HEAD_TIMEOUTS h))).n (Obj.HEAD_ROLE h) = roleReading) :
    trainTimeout h begun u =
      let t := waitOver h (u.inc (Obj.HEAD_TIMEOUTS h))
      let v := (t.modHead h fun x => { x with readTurn := none }).modHead h fun x => { x with normal := false }
      drainIdle h (if begun then v else orderSegment h 0 (locate h 0 v)) := by
  have notSegment : ¬ roleReading = roleSegment := by decide
  unfold waitOver at hr
  simp only [trainTimeout, ha, hk, hr, ne_eq, not_true_eq_false, if_false, if_neg notSegment, if_true]
  rfl

/-! ### Segments and cuts -/

/-- A block at a head of a module that is not the STANDBY (R109). -/
theorem blockReceived_active {u : State} (h expected : Nat) (raw : Bytes) (hs : u.standby = false) :
    blockReceived h expected raw u = blockArrives (u.n (Obj.HEAD_ROLE h) == roleSegment) h expected raw u := by
  simp [blockReceived, hs]

/-- The devices of a segment to read: over PAIR the order names them, on a LOOP the module's own reading head has (R114). -/
theorem segmentDevices {u : State} {h d m : Nat}
    (hm : if u.n (Obj.HEAD_SHAPE h) = shapeBridge ∧ u.standby = true then m = d else (u.head h).ordered = some m) :
    (if u.n (Obj.HEAD_SHAPE h) == shapeBridge && u.standby then some d else (u.head h).ordered) = some m := by
  simp only [Bool.and_eq_true, beq_iff_eq]
  split at hm
  case isTrue hb => rw [if_pos hb, hm]
  case isFalse hb => rw [if_neg hb, hm]

/-- The order to read a segment at a head that may transmit, with a READ that fits its read bound (R114). -/
theorem segmentOrder_fits {u : State} {h d m : Nat}
    (hm : if u.n (Obj.HEAD_SHAPE h) = shapeBridge ∧ u.standby = true then m = d else (u.head h).ordered = some m) :
    let t := u.modHead h fun x => { x with ordered := none }
    (t.head h).delaysB = true → (t.head h).silent = false → t.running Obj.CHAIN_STATE = true →
    (t.n (Obj.HEAD_ROLE h) = roleListening ∨ t.n (Obj.HEAD_ROLE h) = roleSegment) →
    let since := if u.n (Obj.HEAD_SHAPE h) = shapeBridge ∧ u.standby = true then t.time.markL else (t.head (t.readingHeadOf h)).readL
    ((t.lNow - since : Nat) : Rat) / 1000000000 + chainTime m ≤ t.readBoundNow →
    segmentOrder h d u = sendRead h ((t.putN (Obj.HEAD_ROLE h) roleSegment).inc Obj.SEGMENT_READS) := by
  intro t hdelays hsilent hrun hrole since hfits
  have role : (t.n (Obj.HEAD_ROLE h) == roleListening || t.n (Obj.HEAD_ROLE h) == roleSegment) = true := by simpa using hrole
  have may : (!t.running Obj.CHAIN_STATE || !(t.n (Obj.HEAD_ROLE h) == roleListening || t.n (Obj.HEAD_ROLE h) == roleSegment) ||
      !(t.head h).delaysB || (t.head h).silent) = false := by
    rw [hrun, role, hdelays, hsilent]; rfl
  unfold segmentOrder
  simp only [segmentDevices hm]
  refine (if_neg (Bool.eq_false_iff.mp may)).trans (if_pos ?_)
  simpa only [Bool.and_eq_true, beq_iff_eq] using hfits

/-- The reading head's carrier reaches a listening head (R112). -/
theorem carrierCheck_arrived {u : State} {h : Nat} (kind : Nat) (hc : u.running Obj.CHAIN_STATE = true)
    (hr : u.n (Obj.HEAD_ROLE h) = roleListening) :
    carrierCheck h kind true u =
      ((u.modHead h fun x => { x with misses := 0 }).putB (Obj.HEAD_CONTINUITY h) true).putN (Obj.BREAK_HOP h) 0xFF := by
  simp [carrierCheck, hc, hr]

/-- A frame of the reading head reaches a segment head again (R116). -/
theorem continuityRestored_segment {u : State} {h : Nat} (hr : u.n (Obj.HEAD_ROLE h) = roleSegment) :
    continuityRestored h u =
      ((u.putB (Obj.HEAD_CONTINUITY h) true).putN (Obj.BREAK_HOP h) 0xFF).modHead h fun x => { x with silent := true, misses := 0 } :=
  if_neg (not_not_intro hr)

/-! ### Frames on an idle chain -/

/-- A heartbeat of a head that may send and awaits no train (R90). -/
theorem heartbeat_idle {u : State} {h : Nat} (ahead : Nat) (hs : u.headSends h = true) (ha : (u.head h).awaiting = none) :
    heartbeat h ahead u = transmit h kHeartbeat 0 (leBytes 4 ((u.lNow + ahead) % 2 ^ 32)) u := by
  simp [heartbeat, hs, ha]

/-- Echoes of an idle head that measures the side asked for (R76). -/
theorem echoDue_idle {u : State} {h : Nat} {fromB : Bool} (l : List EchoDev) (hc : u.running Obj.CHAIN_STATE = true)
    (hi : (u.head h).idle = true)
    (hm : if fromB then measuresFar u h = true else u.n (Obj.HEAD_ROLE h) = roleReading) :
    echoDue h fromB l u =
      let done := (l.foldl (echoOne h fromB) ([], u)).1
      let t := (l.foldl (echoOne h fromB) ([], u)).2
      let whole := (List.range (t.n (Obj.HEAD_DEVICES (t.readingHeadOf h)))).all fun i => done.contains (i + 1)
      if fromB && whole then t.modHead h fun x => { x with delaysB := true } else t := by
  have may : (if fromB then measuresFar u h else u.n (Obj.HEAD_ROLE h) == roleReading) = true := by
    cases fromB
    case false => exact beq_iff_eq.mpr hm
    case true => exact hm
  exact if_neg (by simp [hc, hi, may])

/-- An ENUM that no train answers: the missing train is counted (R72, R87). -/
theorem sendEnum_unanswered (h addr tag : Nat) (s : State) :
    sendEnum h addr tag none s =
      (none, (transmit h kEnum 255 (leBytes 1 addr ++ leBytes 1 tag ++ leBytes 2 0) s).inc (Obj.HEAD_TIMEOUTS h)) := rfl

/-- Addressing beyond an early turn with no answer: one ENUM with the next address (R87). -/
theorem readdress_unanswered {u : State} {h turn : Nat} (hs : u.headSends h = true) (hi : (u.head h).idle = true)
    (ho : (u.head h).readdressed = false) (ht : (u.head h).readTurn = some (turn, 2))
    (hr : u.n (Obj.HEAD_ROLE h) ≠ roleSegment) (hlt : turn < u.n (Obj.HEAD_DEVICES h)) :
    readdress h [] u =
      ((transmit h kEnum 255 (leBytes 1 (turn + 1) ++ leBytes 1 (u.readingHeadOf h) ++ leBytes 2 0) u).inc (Obj.HEAD_TIMEOUTS h)).modHead
        h fun y => { y with readdressed := true } := by
  have notSegment : (u.n (Obj.HEAD_ROLE h) == roleSegment) = false := beq_false_of_ne hr
  have within : Nat.ble (u.n (Obj.HEAD_DEVICES h)) turn = false := by rw [← Bool.not_eq_true, Nat.ble_eq]; omega
  have noAnswer : nth ([] : List (Option Train)) 0 none = none := rfl
  simp [readdress, ht, hs, hi, ho, notSegment, within, noAnswer, sendEnum_unanswered]

/-! ### The acceptance of a device -/

/-- An acceptance that the device's entry allows, with what it brings (R86, R135, R226). -/
theorem ownAccept_ok {v : Val} {s t : State} (h : ownAcceptDevice v s = .ok t) :
    ownAccept v s = .ok (refreshLeadNeeded (returnFrontEnd v.toNat (setLead v.toNat 0 0 t))) := by
  rw [ownAccept, h]

/-! ### The statement -/

/-- Settles O3: the guards of each event hold, and its head is there. SEGMENT_READS counts at the head that sends the READ (log
entry 130). -/
theorem chainCommandsComplete : Obligations.ChainCommandsComplete := by
  refine ⟨?block, ?segment, ?readTrain, ?answer, ?timeout, ?readTimeout, ?order, ?carrier, ?restored, ?heartbeat, ?echo,
    ?readdress, ?accept⟩
  case block => exact fun s h expected raw hh hc hs => onPart_core (hasHead_of_lt hh) hc (blockReceived_active h expected raw hs)
  case segment => exact fun s h expected raw hh hc => onPart_core (hasHead_of_lt hh) hc rfl
  case readTrain =>
    intro s h t a u hh hc ha _ ht w hk hr
    refine onPart_core (hasHead_of_lt hh) hc ((trainEvent_answers ha ht).trans ?_)
    exact congrArg (drainIdle h) (trainResult_read h t hk hr)
  case answer =>
    intro s h t a b u hh hc ha _ ht hb w
    have decided {e : State} (he : trainResult h a t w = e) : exec (.trainReceived h t) s = .next (finish s (drainIdle h e)) :=
      onPart_core (hasHead_of_lt hh) hc ((trainEvent_answers ha ht).trans (congrArg (drainIdle h) he))
    exact ⟨fun hk => decided (trainResult_balance w h hb hk), fun hk => decided (trainResult_configWrite w h hb hk),
      fun hk => decided (trainResult_imageCheck w h hb hk)⟩
  case timeout => exact fun s h begun a hh hc ha hk => onPart_core (hasHead_of_lt hh) hc (trainTimeout_other begun ha hk)
  case readTimeout =>
    intro s h a u hh hc ha hk t hr v
    have judged (begun : Bool) := onPart_core (hasHead_of_lt hh) hc (trainTimeout_reading begun ha hk hr)
    exact ⟨judged false, judged true⟩
  case order =>
    intro s h d m u hh hc hm t hdelays hsilent hrun hrole since hfits
    exact onPart_core (hasHead_of_lt hh) hc (segmentOrder_fits hm hdelays hsilent hrun hrole hfits)
  case carrier => exact fun s h kind hh hc hrun hr => onPart_core (hasHead_of_lt hh) hc (carrierCheck_arrived kind hrun hr)
  case restored => exact fun s h hh hc hr => onPart_core (hasHead_of_lt hh) hc (continuityRestored_segment hr)
  case heartbeat => exact fun s h hh hc hs ha => onPart_core (hasHead_of_lt hh) hc (heartbeat_idle (airTime 4) hs ha)
  case echo =>
    intro s h fromB l u hh hc hrun hi hm
    exact onPart_core (hasHead_of_lt hh) hc (echoDue_idle l hrun hi hm)
  case readdress =>
    intro s h turn u hh hc hs hi ho ht hr hlt
    exact onPart_core (hasHead_of_lt hh) hc (readdress_unanswered hs hi ho ht hr hlt)
  case accept =>
    intro s r u hc had v t ht
    exact run_core hc (Safety.writeRequest_granted had (ownAccept_ok ht))

end Sys2Proof.Machine
end

section
/-!
SUPPORT. Proof of the statement on the commands of the cell model, of balancing and of custody: what each event does where its
guards hold.
-/

namespace Sys2Proof.Machine

/-! ### Rods and cells of the part -/

theorem hasCell_of_lt {s : State} {n : Nat} (h : n < s.asBuilt.cells) : hasCell s n = true := by simpa [hasCell] using h

theorem hasRodAndCell {s : State} {rod n : Nat} (hr : rod < 16) (hn : n < s.asBuilt.cells) :
    (Nat.blt rod 16 && hasCell s n) = true := by rw [blt_of_lt hr, hasCell_of_lt hn]; rfl

/-! ### The Abacus -/

/-- The first deadline of a sweep while sweeps run (R110, R182). -/
theorem abacusDeadline_first {u : State} (hr : u.running Obj.SWEEP_STATE = true) (hd : u.sweep.deadline = false) :
    abacusDeadline u =
      let a := markStale u
      let late := if a.estimating then a.abacus.stored.filter fun n => !a.abacus.started.contains n else []
      let b := a.forAll late defer
      { b with sweep := { b.sweep with deadline := true } } :=
  if_neg (by simp [hr, hd])

/-- A rod finishes the update of a cell that it has in flight (R156, R438). -/
theorem updateEvent_inFlight {u : State} {rod n : Nat} (errs : List WordErr) (mirror : Option (CpRec × Rat))
    (hf : ((u.rod rod).slots.any fun x => x.cell == n) = true) :
    updateEvent rod n errs mirror u = mirrorUpdated n (cellUpdateDone rod n (mirrorRecord n mirror u) errs u) := if_pos hf

/-- An update in flight that has issued its worst cost (R177). -/
theorem kernelOverrun_inFlight {u : State} {rod n : Nat} {f : InFlight}
    (hf : ((u.rod rod).slots.find? fun x => x.cell == n) = some f) :
    kernelOverrun rod n u =
      let a := u.modRod rod fun x => { x with slots := x.slots.filter fun y => y.cell != n, used := x.used + f.worst }
      startAll ((defer n (a.setDealFlag n dfOverrun true)).inc Obj.KERNEL_OVERRUNS) := by
  simp only [kernelOverrun, hf]

/-! ### Balancing and lead calibration -/

/-- BALANCE frames of a module whose heads send (R125). -/
theorem balanceSend_leading {u : State} (periodic : Bool) (hc : u.running Obj.CHAIN_STATE = true) (hl : u.leads = true) :
    balanceSend periodic u =
      u.forAll (u.entries.filter fun x => !(u.fe x.1).testing && (periodic || (u.fe x.1).due)) balanceOne :=
  if_neg (by simp [hc, hl])

/-- A write of LEAD_CAL_START that nothing stands against (R133). -/
theorem ownLeadCalStart_free {v : Val} {t : State} (hs : t.n Obj.LEAD_CAL_STATE ≠ 1) (hb : t.n Obj.BAL_STATE = 0)
    (hr : t.running Obj.SWEEP_STATE = true) :
    ownLeadCalStart v t = .ok (
      let f := v.toNat
      let chosen := t.entries.filter fun x => (f == 0xFFFF || x.1 == f) && t.n (Obj.FE_STATUS x.1) == feMatch
      let a := t.forAll chosen fun x s => s.modFe x.1 fun y => { y with cal := some {} }
      let b : State := { a.putN Obj.LEAD_CAL_STATE 1 with
        est := { a.est with calStart := a.syncSweep, calLost := f == 0xFFFF && chosen.length != a.entries.length || chosen.isEmpty } }
      if chosen.isEmpty then calEnd false b else b) := by
  unfold ownLeadCalStart
  rw [if_neg hs, if_neg (not_not_intro hb), if_neg (by simp [hr])]

/-- A lead calibration that has run its 30 × LEAD_CAL_REPEATS sweeps (R133). -/
theorem calTimeout_due {u : State} (hs : u.n Obj.LEAD_CAL_STATE = 1)
    (hd : u.est.calStart + 30 * u.n Obj.LEAD_CAL_REPEATS ≤ u.n Obj.SWEEP_COUNT) :
    calTimeout u = calEnd (!u.est.calLost && u.underCal.all fun x => ((u.fe x.1).cal.map fun c => c.done).getD false) u :=
  if_neg (by omega)

/-! ### Anchor timers -/

/-- A timer that has reached its hold time (R164). -/
theorem anchorArm_due {u : State} {n : Nat} :
    let t := (u.track n).timers
    let top := decide ((u.n Obj.TAPER_TIME : Rat) ≤ nth t 0 0)
    let bot := decide ((u.n Obj.KNEE_TIME : Rat) ≤ nth t 1 0)
    let rest := decide ((u.n Obj.REST_TIME : Rat) ≤ nth t 2 0)
    (top || bot || rest) = true →
    anchorArm n u = showAnchors n (u.modTrack n fun x =>
      { x with timers := [if top then 0 else nth t 0 0, if bot then 0 else nth t 1 0, if rest then 0 else nth t 2 0],
               armed := some (if top then 1 else if bot then 2 else 3) }) :=
  fun due => if_neg (by rw [due]; decide)

/-- Timers that could not be judged for 2 s (R164). -/
theorem anchorExpiry_unjudged {u : State} {n : Nat} (h : 2 ≤ (u.track n).unjudged) :
    anchorExpiry n u = showAnchors n (u.modTrack n fun x => { x with timers := [0, 0, 0], unjudged := 0 }) :=
  if_neg (not_lt.mpr h)

/-! ### The wait for a restore -/

/-- PARTNER_PREFERENCE has passed at an active module that holds a host checkpoint and none of its partner (R204, R205). -/
theorem armHost_preferred {u : State} (hw : u.waiting = true) (hs : u.standby = false) (hp : u.custody.partner = none)
    (hh : u.custody.host.isSome = true) : armHost true u = u.modCustody fun c => { c with armed := some 2 } := by
  have held : u.custody.host.isNone = false := Option.isNone_eq_false_iff.mpr hh
  simp [armHost, hw, hs, hp, held]

/-- RESTORE_TIMEOUT passes with no restore armed (R204, R206). -/
theorem restoreTimeout_waiting {u : State} (hw : u.waiting = true) (ha : u.custody.armed = none) :
    restoreTimeout u =
      let a := if u.standby then u else u.forAll u.mappedCells fun x t => makeCold x.1 t
      waitEnded (((clearDeals a).putN Obj.CUSTODY_STATE cuCold).modCustody fun c => { c with host := none, partner := none }) :=
  if_neg (by simp [hw, ha])

/-- A checkpoint written while the module waits or its estimator is STOPPED, in which no fault is found (R209). -/
theorem ownCheckpoint_accepted {v : Val} {t : State} {x : Restore} (hs : t.n Obj.CUSTODY_STATE = cuWait ∨ t.n Obj.EST_STATE = 0)
    (hx : parseCheckpoint v.toBytes t = .ok x) :
    ownCheckpoint v t = .ok (armHost false ((t.putN Obj.RESTORE_REFUSAL 0).modCustody fun c => { c with host := some x })) := by
  unfold ownCheckpoint
  rw [if_neg (by tauto), hx]

/-! ### Generations -/

/-- A generation that falls due while none is in progress (R211). -/
theorem generationDue_idle {u : State} (reason : Nat) (hb : u.b Obj.BROWNOUT = false) (hg : u.custody.gen = none) :
    generationDue reason u = startGeneration reason true u := by simp [generationDue, hb, hg]

/-- A generation that falls due while another is in progress waits for its end (R211). -/
theorem generationDue_busy {u : State} (reason : Nat) (hb : u.b Obj.BROWNOUT = false) (hg : u.custody.gen.isSome = true) :
    generationDue reason u = u.modCustody fun c => { c with due := some reason } := by simp [generationDue, hb, hg]

section
variable {u : State} {peer offset : Nat} {p : PushPiece} (hp : u.n Obj.CHECKPOINT_PEER = peer)
  (hf : (u.custody.pieces.find? fun q => q.offset == offset) = some p)
include hp hf

/-- The peer confirms a piece that awaits it: with the last one the generation is sealed (R213, R378). -/
theorem pushConfirm_awaited :
    pushConfirm peer offset 0 u =
      let t := u.modCustody fun c => { c with pieces := c.pieces.filter fun q => q.offset != offset }
      if p.last then endGeneration (t.putN Obj.LAST_GEN_SEALED ((t.custody.gen.map Generation.number).getD 0)) else t := by
  unfold pushConfirm
  rw [if_neg (by simp [hp]), hf]

/-- A piece sent fewer than five times goes out again (R378). -/
theorem pushRetry_again (ha : p.attempts < 5) :
    pushRetry ⟨peer, offset⟩ u =
      let t := u.modCustody fun c =>
        { c with pieces := c.pieces.map fun q => if q.offset = offset then { q with attempts := q.attempts + 1 } else q }
      t.emit (.push { addr := t.n (Obj.PEER_ADDR peer), port := t.n (Obj.PEER_PUSH_PORT peer), tag := p.tag, key := Obj.CHECKPOINT,
                      offset := p.offset, last := p.last, data := p.data }) := by
  subst hp
  unfold pushRetry
  rw [if_neg (not_not_intro rfl), hf]
  exact if_neg (not_le.mpr ha)

/-- After five attempts the generation is abandoned (R378). -/
theorem pushRetry_exhausted (ha : 5 ≤ p.attempts) : pushRetry ⟨peer, offset⟩ u = endGeneration (abandonGeneration u) := by
  subst hp
  unfold pushRetry
  rw [if_neg (not_not_intro rfl), hf]
  exact if_pos ha

end

/-! ### The statement -/

/-- Settles O4: the guards of each event hold, and its rod, cell, string or peer is there. -/
theorem cellCommandsComplete : Obligations.CellCommandsComplete := by
  refine ⟨?deadline, ?done, ?overrun, ?scrub, ?balance, ?calStart, ?calTimeout, ?arm, ?expiry, ?preference, ?restoreTimeout,
    ?checkpoint, ?period, ?periodBusy, ?demand, ?confirm, ?confirmLast, ?retry, ?retryOver⟩
  case deadline => exact fun s hc hr hd => run_core hc (abacusDeadline_first hr hd)
  case done =>
    exact fun s rod n errs mirror hrod hn hc hf => onPart_core (hasRodAndCell hrod hn) hc (updateEvent_inFlight errs mirror hf)
  case overrun => exact fun s rod n hrod hn hc f hf => onPart_core (hasRodAndCell hrod hn) hc (kernelOverrun_inFlight hf)
  case scrub => exact fun s w hc => run_core hc rfl
  case balance => exact fun s periodic hc hch hl => run_core hc (balanceSend_leading periodic hch hl)
  case calStart =>
    intro s r u hc had t hs hb hr
    exact run_core hc (Safety.writeRequest_granted had (ownLeadCalStart_free hs hb hr))
  case calTimeout => exact fun s hc hs hd => run_core hc (calTimeout_due hs hd)
  case arm =>
    intro s n u hn hc t top bot rest due
    exact onPart_core (hasString_of_lt hn) hc (anchorArm_due due)
  case expiry => exact fun s n hn hc h => onPart_core (hasString_of_lt hn) hc (anchorExpiry_unjudged h)
  case preference => exact fun s hc hw hs hp hh => run_core hc (armHost_preferred hw hs hp hh)
  case restoreTimeout => exact fun s hc hw ha => run_core hc (restoreTimeout_waiting hw ha)
  case checkpoint =>
    intro s r u hc had t hs x hx
    exact run_core hc (Safety.writeRequest_granted had (ownCheckpoint_accepted hs hx))
  case period => exact fun s hc hb hg => run_core hc (generationDue_idle 0 hb hg)
  case periodBusy => exact fun s hc hb hg => run_core hc (generationDue_busy 0 hb hg)
  case demand =>
    intro s r u hc had t
    exact run_core hc (Safety.writeRequest_granted had rfl)
  case confirm =>
    intro s peer offset u hpeer hc hp p hf hl
    exact onPart_core (blt_of_lt hpeer) hc ((pushConfirm_awaited hp hf).trans (if_neg (by simp [hl])))
  case confirmLast =>
    intro s peer offset u hpeer hc hp p hf hl t
    exact onPart_core (blt_of_lt hpeer) hc ((pushConfirm_awaited hp hf).trans (if_pos hl))
  case retry =>
    intro s x p u hpeer hc hp hf ha t
    exact onPart_core (blt_of_lt hpeer) hc (pushRetry_again hp hf ha)
  case retryOver =>
    intro s x p u hpeer hc hp hf ha
    exact onPart_core (blt_of_lt hpeer) hc (pushRetry_exhausted hp hf ha)

end Sys2Proof.Machine
end

section
/-!
SUPPORT. Proof of the statement on the shuffle: with every rod in service it deals by residues mod 16, in which the step 5 is
invertible; what a rod starts in a free slot is a cell that the shuffle deals to it.
-/

namespace Sys2Proof.Machine

/-! ### The shuffle (R179) -/

theorem rodsInService_all {s : State} (h : ∀ r < 16, bitOf (s.n Obj.ROD_FENCED) r = false) : s.rodsInService = List.range 16 :=
  List.filter_eq_self.mpr fun r hr => by rw [h r (List.mem_range.mp hr)]; rfl

theorem rodOf_all {s : State} (h : ∀ r < 16, bitOf (s.n Obj.ROD_FENCED) r = false) (n k : Nat) : s.rodOf n k = (n + 5 * k) % 16 := by
  unfold State.rodOf
  rw [rodsInService_all h]
  rfl

/-- Consecutive numbers pass every residue. -/
theorem exists_shift_mod (a : Nat) {r : Nat} (hr : r < 16) : ∃ j < 16, (a + j) % 16 = r :=
  ⟨(r + 15 * a) % 16, Nat.mod_lt _ (by decide), by omega⟩

/-- Multiples of 5 pass every residue: 13 is the inverse of 5 mod 16. -/
theorem exists_step_mod (a : Nat) {r : Nat} (hr : r < 16) : ∃ j < 16, (a + 5 * j) % 16 = r :=
  ⟨13 * (r + 15 * a) % 16, Nat.mod_lt _ (by decide), by omega⟩

/-! ### What a rod starts (R180) -/

/-- The rods are fields of the Abacus alone. -/
theorem rod_congr {s t : State} (h : s.est.abacus.rods = t.est.abacus.rods) (r : Nat) : s.rod r = t.rod r := by
  unfold State.rod State.abacus; rw [h]

theorem est_incBy (s : State) (k m : Nat) : (s.incBy k m).est = s.est := by unfold State.incBy; split <;> rfl

/-- A member of a list with one changed is a member as it was or the changed one. -/
theorem nth_set_self {α : Type} (l : List α) (i : Nat) (x d : α) : nth (l.set i x) i d = x ∨ nth (l.set i x) i d = nth l i d := by
  unfold nth
  rcases Nat.lt_or_ge i l.length with h | h
  case inl => left; simp [List.getD, h]
  case inr => right; rw [List.set_eq_of_length_le h]

theorem modRod_rod (s : State) (r : Nat) (f : RodSt → RodSt) : (s.modRod r f).rod r = f (s.rod r) ∨ (s.modRod r f).rod r = s.rod r :=
  nth_set_self s.abacus.rods r _ {}

/-- An update enters a rod's slots behind those in flight. -/
theorem mem_enterSlot {s : State} {r : Nat} {u x : InFlight} (hx : x ∈ ((enterSlot r u s).rod r).slots) :
    x ∈ (s.rod r).slots ∨ x = u := by
  obtain ⟨f, hf, entered⟩ : ∃ f : RodSt → RodSt, (f (s.rod r)).slots = (s.rod r).slots ++ [u] ∧
      (enterSlot r u s).rod r = (s.modRod r f).rod r :=
    ⟨_, rfl, rod_congr (congrArg (fun e : EstSt => e.abacus.rods) (est_incBy _ _ _)) r⟩
  rw [entered] at hx
  rcases modRod_rod s r f with changed | same
  case inl => rw [changed, hf] at hx; simpa using hx
  case inr => rw [same] at hx; exact Or.inl hx

/-- A cell that a rod may still start is dealt to it. -/
theorem open_dealt {s : State} {r n : Nat} (h : s.open? r n = true) : s.rodOf n (s.n Obj.SWEEP_COUNT) = r := by
  simp only [State.open?, Bool.and_eq_true, beq_iff_eq] at h
  exact h.1.1

/-- What `reserve` leaves: it draws a free value at most. -/
theorem reserve_keeps (s : State) (r : Nat) : ∃ m, (reserve s r).2 = { s with free := m } := by
  unfold reserve
  simp only
  split <;> exact ⟨_, rfl⟩

theorem open_free (s : State) (m r n : Nat) : ({ s with free := m } : State).open? r n = s.open? r n := rfl
theorem plan_cell (s : State) (r n : Nat) (lagged priority : Bool) : (plan s r n lagged priority).cell = n := rfl

/-- `startOne` draws a free value at most, or enters an update of a cell that the rod may start. -/
theorem startOne_enters (r : Nat) (s : State) :
    (∃ m, startOne r s = { s with free := m }) ∨
      ∃ m u, s.open? r u.cell = true ∧ startOne r s = enterSlot r u { s with free := m } := by
  unfold startOne
  simp only
  split
  case isTrue => exact Or.inl ⟨s.free, rfl⟩
  case isFalse =>
    split
    case h_1 n first =>
      have fits := List.find?_some first
      rw [Bool.and_eq_true] at fits
      exact Or.inr ⟨s.free, plan s r n false true, fits.2, rfl⟩
    case h_2 =>
      obtain ⟨m, drawn⟩ := reserve_keeps s r
      rw [drawn]
      split
      case h_1 u second =>
        split at second
        case h_1 n found =>
          split at second
          case isTrue =>
            rw [Option.some.injEq] at second
            have fits := List.find?_some found
            rw [open_free] at fits
            exact Or.inr ⟨m, u, by rw [← second, plan_cell]; exact fits, rfl⟩
          case isFalse => cases second
        case h_2 => cases second
      case h_2 =>
        split
        case h_1 n rest held =>
          have member : n ∈ List.mergeSort _ _ := held ▸ List.mem_cons_self
          rw [List.mem_mergeSort, List.mem_filter, Bool.and_eq_true, Bool.and_eq_true, open_free] at member
          obtain ⟨-, ⟨fits, -⟩, -⟩ := member
          exact Or.inr ⟨m, plan { s with free := m } r n true true, fits, rfl⟩
        case h_2 => exact Or.inl ⟨m, rfl⟩

/-- An update that a rod starts is of a cell dealt to it. -/
theorem startOne_dealt {r : Nat} {s : State} {x : InFlight} (hx : x ∈ ((startOne r s).rod r).slots) (hn : x ∉ (s.rod r).slots) :
    s.rodOf x.cell (s.n Obj.SWEEP_COUNT) = r := by
  rcases startOne_enters r s with ⟨m, same⟩ | ⟨m, u, fits, entered⟩
  case inl => rw [same] at hx; exact absurd hx hn
  case inr =>
    rw [entered] at hx
    rcases mem_enterSlot hx with before | rfl
    case inl => exact absurd before hn
    case inr => exact open_dealt fits

/-! ### The statement -/

/-- Settles O39: the residues mod 16, and the rod that the shuffle names for the cell of every update entered in a slot. -/
theorem shuffleVisitsEveryRod : Obligations.ShuffleVisitsEveryRod := by
  intro s service
  have dealt := rodOf_all service
  refine ⟨dealt, fun n k r hr => ?sweeps, fun n k r hr => ?cells, fun r hr x hx hn => ?started⟩
  case sweeps =>
    obtain ⟨j, hj, visits⟩ := exists_step_mod (n + 5 * k) hr
    exact ⟨j, hj, by rw [dealt, ← visits]; congr 1; ring⟩
  case cells =>
    obtain ⟨j, hj, visits⟩ := exists_shift_mod (n + 5 * k) hr
    exact ⟨j, hj, by rw [dealt, ← visits]; congr 1; ring⟩
  case started => rw [← dealt]; exact startOne_dealt hx hn

end Sys2Proof.Machine
end

section
/-!
SUPPORT. Proof of the statement on the deadline: marking stale cells writes flags and ages of measurements alone; marking cells
DEFERRED leaves their records, and a mark once made stays.
-/

namespace Sys2Proof.Machine

/-! ### Repetition over a list -/

/-- What every member of a list keeps, the repetition over the list keeps. -/
theorem State.forAll_preserves {α : Type} {p : State → Prop} {l : List α} {f : α → State → State}
    (h : ∀ a s, p s → p (f a s)) {s : State} (hs : p s) : p (s.forAll l f) := by
  induction l generalizing s with
  | nil => exact hs
  | cons a l ih => exact ih (h a s hs)

/-- What one member of a list establishes and every member keeps holds after the repetition. -/
theorem State.forAll_establishes {α : Type} {p : State → Prop} {l : List α} {f : α → State → State} {a : α} (ha : a ∈ l)
    (est : ∀ s, p (f a s)) (keep : ∀ b s, p s → p (f b s)) (s : State) : p (s.forAll l f) := by
  obtain ⟨before, after, rfl⟩ := List.append_of_mem ha
  have split : s.forAll (before ++ a :: after) f = (f a (s.forAll before f)).forAll after f := by
    unfold State.forAll; rw [List.foldl_append, List.foldl_cons]
  rw [split]
  exact State.forAll_preserves keep (est _)

/-! ### Flags -/

theorem bitOf_withBit_true (m i : Nat) : bitOf (withBit m i true) i = true := by
  unfold withBit
  split
  case isTrue set => exact set
  case isFalse clear =>
    simp only [bitOf, beq_iff_eq, if_true] at clear ⊢
    rw [Nat.add_div_right m (by positivity)]
    omega

/-! ### Cells that are STALE (R110) -/

/-- Whether marking stale cells may write an object: their count, or one of the objects of cells. -/
def staleKey (k : Nat) : Prop := k = Obj.STALE_CELLS ∨ 0x40010000 ≤ k

/-- What a write of such an object leaves, marking stale cells leaves. -/
theorem markStale_keeps {β : Type} (g : State → β) (h : ∀ t k m, staleKey k → g (t.putN k m) = g t) (s : State) :
    g (markStale s) = g s := by
  unfold markStale
  simp only
  rw [h _ _ _ (Or.inl rfl)]
  refine State.forAll_keeps g _ _ (fun x t => ?_) s
  refine State.forAll_keeps g _ _ (fun y t => ?_) t
  split
  case isTrue => rfl
  case isFalse =>
    have flags : staleKey (Obj.CELL_MEAS_FLAGS y.1) := Or.inr (by unfold Obj.CELL_MEAS_FLAGS; omega)
    have age : staleKey (Obj.CELL_AGE y.1) := Or.inr (by unfold Obj.CELL_AGE; omega)
    rw [h _ _ _ age, h _ _ _ flags]

theorem markStale_asBuilt (s : State) : (markStale s).asBuilt = s.asBuilt := markStale_keeps State.asBuilt (fun _ _ _ _ => rfl) s
theorem markStale_est (s : State) : (markStale s).est = s.est := markStale_keeps State.est (fun _ _ _ _ => rfl) s
theorem markStale_sweep (s : State) : (markStale s).sweep = s.sweep := markStale_keeps State.sweep (fun _ _ _ _ => rfl) s

theorem markStale_n {s : State} {k : Nat} (hk : ¬ staleKey k) : (markStale s).n k = s.n k :=
  markStale_keeps (fun t => t.n k) (fun _ _ _ hs => State.n_putN_of_ne fun he => hk (he ▸ hs)) s

/-- Stale cells do not stop the estimator. -/
theorem markStale_estimating (s : State) : (markStale s).estimating = s.estimating := by
  have role : ¬ staleKey Obj.PAIR_ROLE := by unfold staleKey; decide
  have estimator : ¬ staleKey Obj.EST_STATE := by unfold staleKey; decide
  have custody : ¬ staleKey Obj.CUSTODY_STATE := by unfold staleKey; decide
  unfold State.estimating State.standby State.sweeping State.running
  rw [markStale_n role, markStale_n estimator, markStale_n custody, markStale_sweep]

/-! ### Cells that are DEFERRED (R182) -/

/-- Whether an object counts deferrals of cell `m` or of all cells. -/
def countsDeferrals (m k : Nat) : Prop := k = Obj.CELL_DEFERRALS m ∨ k = Obj.DEFERRED_CELLS ∨ k = Obj.DEFERRED_TOTAL

/-- What counting a deferral leaves is after marking a cell DEFERRED as its flag alone makes it. -/
theorem defer_flags_only {β : Type} (g : State → β) {m : Nat} (hc : ∀ t w k, countsDeferrals m k → g (t.incW w k) = g t)
    (hl : ∀ (t : State) f, g (t.modAbacus f) = g t) (s : State) :
    g (defer m s) = if s.dealFlag m dfDeferred then g s else g (s.setDealFlag m dfDeferred true) := by
  unfold defer deferLate State.inc
  split
  case isTrue => rfl
  case isFalse =>
    split
    case isTrue => exact hc _ _ _ (Or.inl rfl)
    case isFalse => rw [hl, hc _ _ _ (Or.inr (Or.inr rfl)), hc _ _ _ (Or.inr (Or.inl rfl)), hc _ _ _ (Or.inl rfl)]

theorem est_incW (s : State) (w k : Nat) : (s.incW w k).est = s.est := by unfold State.incW; split <;> rfl
theorem asBuilt_incW (s : State) (w k : Nat) : (s.incW w k).asBuilt = s.asBuilt := by unfold State.incW; split <;> rfl

theorem defer_cells (m : Nat) (s : State) : (defer m s).est.cells = s.est.cells := by
  rw [defer_flags_only (fun t => t.est.cells) (fun t w k _ => congrArg EstSt.cells (est_incW t w k)) (fun _ _ => rfl)]
  exact ite_self _

theorem defer_asBuilt (m : Nat) (s : State) : (defer m s).asBuilt = s.asBuilt := by
  rw [defer_flags_only State.asBuilt (fun t w k _ => asBuilt_incW t w k) (fun _ _ => rfl)]
  exact ite_self _

/-- Which cells of the part are DEFERRED after one more is marked. -/
theorem defer_dealFlag {n : Nat} (hn : n < 8192) (m : Nat) (s : State) :
    (defer m s).dealFlag n dfDeferred = (decide (m = n) || s.dealFlag n dfDeferred) := by
  have counts : ∀ k, countsDeferrals m k → Obj.CELL_DEAL_FLAGS n ≠ k := by
    rintro k (rfl | rfl | rfl)
    · unfold Obj.CELL_DEAL_FLAGS Obj.CELL_DEFERRALS; omega
    · unfold Obj.CELL_DEAL_FLAGS Obj.DEFERRED_CELLS; omega
    · unfold Obj.CELL_DEAL_FLAGS Obj.DEFERRED_TOTAL; omega
  have counted : ∀ (t : State) w k, countsDeferrals m k → (t.incW w k).dealFlag n dfDeferred = t.dealFlag n dfDeferred := by
    intro t w k hk
    unfold State.dealFlag State.n
    rw [v_incW_ne (counts k hk)]
  rw [defer_flags_only (fun t => t.dealFlag n dfDeferred) counted (fun _ _ => rfl)]
  by_cases hm : m = n
  case pos =>
    subst hm
    split
    case isTrue set => rw [set]; simp
    case isFalse => simp [State.dealFlag, State.setDealFlag, bitOf_withBit_true]
  case neg =>
    have apart : Obj.CELL_DEAL_FLAGS n ≠ Obj.CELL_DEAL_FLAGS m := by unfold Obj.CELL_DEAL_FLAGS; omega
    simp [State.dealFlag, State.setDealFlag, State.n_putN_of_ne apart, hm]

/-! ### The deadline of a sweep -/

section
variable {u : State} (hr : u.running Obj.SWEEP_STATE = true) (hd : u.sweep.deadline = false)
include hr hd

/-- Beside what it notes of the sweep, the deadline marks stale cells and those that wait for their update. -/
theorem abacusDeadline_marks {β : Type} (g : State → β) (hg : ∀ (t : State) x, g { t with sweep := x } = g t) :
    g (abacusDeadline u) = g ((markStale u).forAll
      (if u.estimating then u.abacus.stored.filter fun n => !u.abacus.started.contains n else []) defer) := by
  rw [abacusDeadline_first hr hd]
  simp only
  rw [hg, markStale_estimating]
  unfold State.abacus
  rw [markStale_est]

theorem abacusDeadline_cells : (abacusDeadline u).est.cells = u.est.cells := by
  rw [abacusDeadline_marks hr hd (fun t => t.est.cells) (fun _ _ => rfl), State.forAll_keeps (fun t => t.est.cells) _ _ defer_cells,
    markStale_est]

theorem abacusDeadline_asBuilt : (abacusDeadline u).asBuilt = u.asBuilt := by
  rw [abacusDeadline_marks hr hd State.asBuilt (fun _ _ => rfl), State.forAll_keeps State.asBuilt _ _ defer_asBuilt,
    markStale_asBuilt]

/-- At the deadline a cell that waits for its update is DEFERRED. -/
theorem abacusDeadline_defers (he : u.estimating = true) {n : Nat} (hs : n ∈ u.abacus.stored) (hn : n < 8192)
    (hst : n ∉ u.abacus.started) : (abacusDeadline u).dealFlag n dfDeferred = true := by
  have late : n ∈ u.abacus.stored.filter fun m => !u.abacus.started.contains m :=
    List.mem_filter.mpr ⟨hs, by simpa using hst⟩
  rw [abacusDeadline_marks hr hd (fun t => t.dealFlag n dfDeferred) (fun _ _ => rfl), if_pos he]
  exact State.forAll_establishes (p := fun t => t.dealFlag n dfDeferred = true) late
    (fun s => by rw [defer_dealFlag hn]; simp) (fun m s marked => by rw [defer_dealFlag hn, marked, Bool.or_true]) _

end

end Sys2Proof.Machine

namespace Sys2Proof.Safety

open Sys2Proof.Machine

/-! ### What the end of a command leaves of cells -/

theorem finish_cell (s e : State) (n : Nat) : (finish s e).cell n = e.cell n := by
  have est : (finish s e).est = e.est := by
    have := congrArg (fun u : State => u.est) (unsettled_finish s e)
    exact this
  unfold State.cell; rw [est]

theorem not_contains_of_above {l : List Nat} {b k : Nat} (hl : (l.all fun x => Nat.blt x b) = true) (hk : b ≤ k) :
    l.contains k = false := by
  have below : ∀ x ∈ l, x < b := by simpa using hl
  rw [List.contains_eq_mem, decide_eq_false_iff_not]
  exact fun mem => absurd (below k mem) (not_lt.mpr hk)

/-- Settling writes no deal flags. -/
theorem settledKey_dealFlags {n : Nat} (hn : n < 8192) : settledKey (Obj.CELL_DEAL_FLAGS n) = false := by
  have index : Obj.CELL_DEAL_FLAGS n / 65536 = 0x4040 := by unfold Obj.CELL_DEAL_FLAGS; omega
  have above : 0x40400000 ≤ Obj.CELL_DEAL_FLAGS n := Nat.le_add_right _ n
  unfold settledKey
  rw [index, not_contains_of_above (by decide) above]
  rfl

theorem finish_dealFlag {s e : State} (ha : e.asBuilt = s.asBuilt) {n : Nat} (hn : n < 8192) (bit : Nat) :
    (finish s e).dealFlag n bit = e.dealFlag n bit := by
  unfold State.dealFlag State.n
  rw [v_finish ha (settledKey_dealFlags hn)]

/-! ### The statement -/

/-- Settles O43: the deadline marks each waiting cell DEFERRED; its record and its measurements stand in cell state memory, which
no mark touches. -/
theorem deadlineDefers : Obligations.DeadlineDefers := by
  intro s u hc hr hd he
  have part : (abacusDeadline u).asBuilt = s.asBuilt := (abacusDeadline_asBuilt hr hd).trans (began_asBuilt s)
  refine ⟨finish s (abacusDeadline u), run_core hc rfl, fun n hs hn hst => ?deferred, fun n => ?record⟩
  case deferred => rw [finish_dealFlag part hn, abacusDeadline_defers hr hd he hs hn hst]
  case record => rw [finish_cell]; unfold State.cell; rw [abacusDeadline_cells hr hd]

end Sys2Proof.Safety
end

section
/-!
SUPPORT. Proof of the statement on the commands of the temperature function and of the thermal loops: what each event does where
its guards hold.
-/

namespace Sys2Proof.Machine

/-! ### Temperature: resources and guards -/

theorem hasSensor_of_lt {s : State} {n : Nat} (h : n < s.asBuilt.sensors) : hasSensor s n = true := blt_of_lt h

theorem hasDwell_level {n : Nat} (h : n < 16) : hasDwell 0 n = true := by simp [hasDwell, h]
theorem hasDwell_rate {n : Nat} (h : n < 8) : hasDwell 1 n = true := by simp [hasDwell, h]
theorem hasDwell_rule {n : Nat} (h : n < 16) : hasDwell 2 n = true := by simp [hasDwell, h]

/-- A fitted sensor that was SUSPECT, or whose raw values show an open or a short while it measures, fails (R226). -/
theorem sensorFailed_able {u : State} {n cause : Nat} (ht : u.running Obj.TEMP_STATE = true) (hf : u.fitted n = true)
    (hcross : cause = fcCross → u.n (Obj.SENSOR_STATUS n) = snSuspect)
    (hraw : cause ≠ fcCross → u.sensorMeasures n = true) :
    sensorFailed n cause u = countSensors (substitute n (neighbourRef u n) (failSensor n cause u)) := by
  have able : (if cause = fcCross then u.n (Obj.SENSOR_STATUS n) == snSuspect else u.sensorMeasures n) = true := by
    split
    case isTrue cross => exact beq_iff_eq.mpr (hcross cross)
    case isFalse raw => exact hraw raw
  exact if_neg (by rw [ht, hf, able]; decide)

/-- The element of a protection rule whose dwell is over, under protection (R269). -/
theorem dwellEvent_rule {u : State} (n el : Nat) (hp : u.protecting = true) :
    dwellEvent 2 n el u = ruleChecks n (u.setRule n (fireElement (u.rule n) el)) := if_pos hp

/-! ### Thermal loops: guards -/

/-- A command of the core domain that a module which is no STANDBY acts on (R437). -/
theorem run_acting {f : State → State} {s t : State} (hc : (began s).coreOn = true) (hs : (began s).standby = false)
    (h : f (began s) = t) : run (core (acting f)) s = .next (finish s t) :=
  run_core hc ((acting_active f hs).trans h)

/-- The same for commands on a resource that the part has. -/
theorem onPart_acting {ok : Bool} {f : State → State} {s t : State} (hk : ok = true) (hc : (began s).coreOn = true)
    (hs : (began s).standby = false) (h : f (began s) = t) : onPart ok (core (acting f)) s = .next (finish s t) :=
  onPart_core hk hc ((acting_active f hs).trans h)

/-- The tick of the loops while the module keeps its role (R246). -/
theorem loopEvent_keepsRole {u : State} (h : u.duo.handing = false) : loopEvent u = loopTick u :=
  if_neg (Bool.eq_false_iff.mp h)

/-- A hand-over of a RUNNING loop ends by force (R254). -/
theorem handoverForced_running {u : State} {n : Nat} (hr : u.n (Obj.LOOP_STATE n) = 1)
    (hh : (u.loop n).handover.isSome = true) : handoverForced n u = showLoop n (driveLaw n (forceHandover n u)) :=
  if_pos ⟨hr, hh⟩

/-- A loop that acts loses its sensed value (R243). -/
theorem senseLost_acts {u : State} {n : Nat} (ha : u.loopActs n = true) : senseLost n u = showLoop n (faultLoop n 1 u) :=
  if_pos ha

/-- The residual of a loop that acts has lain beyond its limit (R255). -/
theorem plausibilityFault_acts {u : State} {n : Nat} (ha : u.loopActs n = true) (hp : (u.loop n).plausL.isSome = true) :
    plausibilityFault n u = showLoop n (faultLoop n 2 u) := if_pos ⟨ha, hp⟩

/-- Nothing holds back the frame of a loop that acts, with 0xFE, the CAN output, as its output A (R250). -/
theorem frame_not_held {u : State} {n : Nat} (ha : u.loopActs n = true) (ho : u.n (Obj.OUT_A n) = 0xFE) :
    ¬ (!u.loopActs n || !u.loopCan n) = true := by
  have can : u.loopCan n = true := beq_iff_eq.mpr ho
  rw [ha, can]; decide

/-! ### The statement -/

/-- Settles O5: the guards of each event hold, and its sensor, dwell element, loop or channel is there. -/
theorem heatCommandsComplete : Obligations.HeatCommandsComplete := by
  refine ⟨?failed, ?reset, ?level, ?rate, ?rule, ?die, ?tick, ?handover, ?lost, ?plausibility, ?frame, ?sense, ?law, ?manual,
    ?manualOut⟩
  case failed =>
    exact fun s n cause hn hc ht hf hcross hraw => onPart_core (hasSensor_of_lt hn) hc (sensorFailed_able ht hf hcross hraw)
  case reset => exact fun s r hc had => run_core hc (Safety.writeRequest_granted had rfl)
  case level => exact fun s n el hn hc => onPart_core (hasDwell_level hn) hc rfl
  case rate => exact fun s n el hn hc => onPart_core (hasDwell_rate hn) hc rfl
  case rule => exact fun s n el hn hc hp => onPart_core (hasDwell_rule hn) hc (dwellEvent_rule n el hp)
  case die => exact fun s temps hc => run_carrier hc rfl
  case tick => exact fun s hc hs hh => run_acting hc hs (loopEvent_keepsRole hh)
  case handover => exact fun s n hn hc hs hr hh => onPart_acting (blt_of_lt hn) hc hs (handoverForced_running hr hh)
  case lost => exact fun s n hn hc hs ha => onPart_acting (blt_of_lt hn) hc hs (senseLost_acts ha)
  case plausibility => exact fun s n hn hc hs ha hp => onPart_acting (blt_of_lt hn) hc hs (plausibilityFault_acts ha hp)
  case frame => exact fun s n hn hc hs ha ho => onPart_acting (blt_of_lt hn) hc hs (if_neg (frame_not_held ha ho))
  case sense =>
    exact fun s f hf hc hears hmode hfd => onPart_core (hasChannel_of_lt hf) hc (Safety.serviceRx_takes hears hmode hfd)
  case law => exact fun s n r hn hc had => onPart_core (blt_of_lt hn) hc (Safety.writeRequest_granted had rfl)
  case manual => exact fun s n r hn hc had => onPart_core (blt_of_lt hn) hc (Safety.writeRequest_granted had rfl)
  case manualOut => exact fun s n r hn hc had => onPart_core (blt_of_lt hn) hc (Safety.writeRequest_granted had rfl)

end Sys2Proof.Machine
end

section
/-!
SUPPORT. Proof of the statement on the commands of protection and sequencing: what each event does where its guards hold, and
what a write to STRING_COMMAND, PROT_RESET or WELD_CLEAR that is not refused does.
-/

namespace Sys2Proof.Machine

/-! ### Checks of protection: guards -/

/-- A classical frame needs no FD on the channel that receives it (R341, R345). -/
theorem serviceRx_classical {f : CanFrame} {g : CanFrame → State → State} {u : State} (hh : u.canHears f.channel = true)
    (hm : u.canMode f.channel ≠ cmDetect) (hd : f.fd = false) : serviceRx f g u = g f u :=
  Safety.serviceRx_takes hh hm fun fd => absurd fd (Bool.eq_false_iff.mp hd)

section
variable {u : State} {f : CanFrame} (hp : u.protecting = true) (hd : f.fd = false) (hl : 8 ≤ f.data.length)
  (hv : bitOf (fieldU f.data 4 1) 0 = true)
include hp hd hl hv

/-- A frame of the insulation monitor that is valid and shows no fault of the monitor clears ISO_LOST and counts for both
thresholds (R268). -/
theorem isoMessage_valid (ho : frameOn f (u.n Obj.ISO_MSG_CHANNEL) (u.n Obj.ISO_MSG_ID) = true)
    (hm : bitOf (fieldU f.data 4 1) 1 = false) :
    isoMessage f u =
      let a := setCheckAll ckIsoLost false u
      let r := fieldU f.data 0 4
      let low := if r < a.n Obj.ISO_TRIP then a.prot.isoLow + 1 else 0
      let warn := if r < a.n Obj.ISO_WARN then a.prot.isoWarnLow + 1 else 0
      let b : State := { a.putN Obj.ISO_RESISTANCE r with prot := { a.prot with isoLow := low, isoWarnLow := warn } }
      isoThreshold ckIsoWarn (b.n Obj.ISO_WARN) r warn (isoThreshold ckInsulation (b.n Obj.ISO_TRIP) r low b) := by
  unfold isoMessage
  rw [if_neg (by rw [hp, ho, hd]; decide), if_neg (not_lt.mpr hl)]
  simp only [hv, hm, Bool.false_eq_true, if_false, if_true, Bool.not_true]

/-- A valid bus voltage frame brings the voltage of every string that it is for, and what depends on it (R275). -/
theorem busVoltageFrame_valid :
    busVoltageFrame f u =
      let l := (List.range u.asBuilt.strings).filter fun n =>
        frameOn f (u.n Obj.BUS_MSG_CHANNEL) (if u.perString then u.n Obj.BUS_MSG_ID + n else u.n Obj.BUS_MSG_ID)
      u.forAll l fun n t =>
        let v := t.putQ (Obj.BUS_VOLTAGE n) ((fieldU f.data 0 4 : Rat) / 1000)
        voltageEvents n (setCheck n ckBusLost false (v.modPs n fun x => { x with busL := some v.lNow })) := by
  have valid : (Nat.ble 8 f.data.length && bitOf (fieldU f.data 4 1) 0) = true := by
    rw [Nat.ble_eq_true_of_le hl, hv, Bool.and_true]
  unfold busVoltageFrame
  rw [if_neg (by rw [hp, hd]; decide)]
  simp only [valid, Bool.not_true, Bool.false_eq_true, if_false]

end

/-- A string that is not OPEN loses its bus voltage, under protection (R265). -/
theorem busLost_notOpen {u : State} {n : Nat} (hp : u.protecting = true) (hn : u.hasCells n = true) (hs : u.seq n ≠ sqOpen) :
    busLost n u = setCheck n ckBusLost true (u.modPs n fun x => { x with busL := none }) := by
  have closed : (u.seq n == sqOpen) = false := beq_eq_false_iff_ne.mpr hs
  exact if_neg (by rw [hp, hn, closed]; decide)

/-! ### CONTACT_TIME, by the step that waits for it (Tables 11.7, 11.8) -/

section
variable {u : State} {n : Nat}

/-- The negative contactor has closed: the precharge contactor follows. -/
theorem contactTime_negClosed (h : (u.ps n).phase = phNeg) (hc : confirmed u (koNeg n) = true) :
    contactTime n u =
      let a := (setKo (koPre n) true u).putN (Obj.STRING_SEQ_STATE n) sqPrecharging
      a.modPs n fun x => { x with stepL := a.lNow, phase := phPre, touched := withBit x.touched 2 true } :=
  (if_pos h).trans (if_pos hc)

/-- The positive contactor has closed: the overlap begins. -/
theorem contactTime_posClosed (h : (u.ps n).phase = phPos) (hc : confirmed u (koPos n) = true) :
    contactTime n u = u.modPs n fun x => { x with stepL := u.lNow, phase := phOverlap } := by
  have notNeg : (u.ps n).phase ≠ phNeg := by rw [h]; decide
  exact (if_neg notNeg).trans ((if_pos h).trans (if_pos hc))

/-- All contactors of an opening have had their time: the checks begin. -/
theorem contactTime_opened (h : (u.ps n).phase = phContact) : contactTime n u = openChecks n u := by
  have notNeg : (u.ps n).phase ≠ phNeg := by rw [h]; decide
  have notPos : (u.ps n).phase ≠ phPos := by rw [h]; decide
  have notPreOpen : (u.ps n).phase ≠ phPreOpen := by rw [h]; decide
  exact (if_neg notNeg).trans ((if_neg notPos).trans ((if_neg notPreOpen).trans (if_pos h)))

end

/-! ### STRING_COMMAND -/

/-- STRING_COMMAND of every string that a part can have is a U8 (R287). -/
theorem stringCommand_type : ∀ n < 16, (findRow (Obj.STRING_COMMAND n)).map (fun x => x.2.ty) = some .u8 := by decide +kernel

theorem valueOf_stringCommand {n : Nat} (hn : n < 16) (r : Req) (b : Bytes) :
    Safety.valueOf (Obj.STRING_COMMAND n) (writing r b) = .int (leNat b) := by
  obtain ⟨⟨g, row⟩, found, isU8⟩ := Option.map_eq_some_iff.mp (stringCommand_type n hn)
  unfold Safety.valueOf
  rw [found]
  exact congrArg (fun t => t.decode b) (show row.ty = .u8 from isU8)

/-- A CLOSE that nothing refuses begins the close sequence (R276). -/
theorem ownStringCommand_close {n : Nat} {v : Val} {t : State} (hv : v.toNat = 1) (hp : t.protecting = true)
    (hr : closeRefusal t n = none) : ownStringCommand n v t = .ok (beginClose n t) := by
  have accepted : closeString n t = .ok (beginClose n t) := by
    unfold closeString
    rw [if_neg (by rw [hp]; decide), hr]
  unfold ownStringCommand
  rw [if_pos hv, accepted]
  rfl

/-- Any other value is an OPEN (R279). -/
theorem ownStringCommand_open {n : Nat} {v : Val} (t : State) (hv : v.toNat ≠ 1) :
    ownStringCommand n v t = .ok (openString n false t) := if_neg hv

/-- The number of a string of the part fits a U16. -/
theorem isU16_of_string {s : State} {n : Nat} (h : n < s.asBuilt.strings) : isU16 n = true :=
  isU16_of_lt (by have := Safety.strings_le s.asBuilt; omega)

/-! ### Resets of the latches (R264, R284) -/

/-- A reset that no standing check and no lock-out of its strings refuses clears their latches (R264). -/
theorem ownProtReset_free {v : Val} {t : State} :
    let l := if v.toNat = 0xFF then List.range t.asBuilt.strings else [v.toNat]
    (∀ n ∈ l, blocksReset t n = false ∧ (t.ps n).lockout = false) →
    let w := t.forAll l fun n a => a.modPs n fun x =>
      { x with openLatch := false, raised := withBit (withBit x.raised ckNotIsolated false) ckPrecharge false }
    let z := if v.toNat = 0xFF then w.putB Obj.CONTAINER_TRIPPED false else w
    ownProtReset v t = .ok (z.each z.asBuilt.strings showProt) := by
  intro l free
  have unblocked : l.find? (blocksReset t) = none := List.find?_eq_none.mpr fun n hn => by simp [(free n hn).1]
  have unlocked : l.find? (fun n => (t.ps n).lockout) = none := List.find?_eq_none.mpr fun n hn => by simp [(free n hn).2]
  unfold ownProtReset
  simp only [beq_iff_eq]
  rw [unblocked]
  simp only
  rw [unlocked]

/-- WELD_CLEAR of a string none of whose aux inputs shows closed clears its verdicts (R284). -/
theorem ownWeldClear_shown {v : Val} {t : State} :
    let n := v.toNat
    (∀ m ∈ [koPos n, koNeg n, koPre n], (t.auxMapped m && t.auxClosed m) = false) →
    let a := (t.each 3 fun i w => setContactor n (weldBit i) false w).modPs n fun x => { x with lockout := false }
    let b : State := { a with safety := { a.safety with strs := a.safety.strs.set n { nth a.safety.strs n {} with weld := false } } }
    ownWeldClear v t = .ok (if b.seq n = sqLockedOut then b.putN (Obj.STRING_SEQ_STATE n) sqOpen else b) := by
  intro n allOpen
  have noneClosed : ([koPos n, koNeg n, koPre n].any fun m => t.auxMapped m && t.auxClosed m) = false :=
    List.any_eq_false.mpr fun m hm => by simp [allOpen m hm]
  exact if_neg (Bool.eq_false_iff.mp noneClosed)

/-! ### The statement -/

/-- Settles O6: the guards of each event hold, its string or channel is there, and the object's own rules carry out each write. -/
theorem protectionCommandsComplete : Obligations.ProtectionCommandsComplete := by
  refine ⟨?overcurrent, ?iso, ?isoLost, ?bus, ?busLost, ?input, ?close, ?opening, ?negClosed, ?posClosed, ?opened, ?precharge,
    ?overlap, ?cooldown, ?breakWait, ?negDelay, ?weldCheck, ?reset, ?weldClear⟩
  case overcurrent =>
    exact fun s n hn hc hi => onPart_core (hasString_of_lt hn) hc (if_neg (Bool.eq_false_iff.mp hi))
  case iso =>
    intro s f u hf hc hears hmode hp ho hd hl hv hm
    exact onPart_core (hasChannel_of_lt hf) hc ((serviceRx_classical hears hmode hd).trans (isoMessage_valid hp hd hl hv ho hm))
  case isoLost => exact fun s hc hp => run_core hc (if_pos hp)
  case bus =>
    intro s f u hf hc hears hmode hp hd hl hv l
    exact onPart_core (hasChannel_of_lt hf) hc ((serviceRx_classical hears hmode hd).trans (busVoltageFrame_valid hp hd hl hv))
  case busLost => exact fun s n hn hc hp hcells hs => onPart_core (hasString_of_lt hn) hc (busLost_notOpen hp hcells hs)
  case input => exact fun s n hn hc hp hcells hi => onPart_core (hasString_of_lt hn) hc (if_pos ⟨hp, hcells, hi⟩)
  case close =>
    intro s n r u hn hc had t hp hr
    have value := valueOf_stringCommand (hn.trans_le (Safety.strings_le _)) r [1]
    exact onPart_core (isU16_of_string hn) hc
      (Safety.writeRequest_granted had (ownStringCommand_close (by rw [value]; decide) hp hr))
  case opening =>
    intro s n r u hn hc had
    have value := valueOf_stringCommand (hn.trans_le (Safety.strings_le _)) r [2]
    exact onPart_core (isU16_of_string hn) hc
      (Safety.writeRequest_granted had (ownStringCommand_open _ (by rw [value]; decide)))
  case negClosed => exact fun s n hn hc hs hph hk => onPart_acting (hasString_of_lt hn) hc hs (contactTime_negClosed hph hk)
  case posClosed => exact fun s n hn hc hs hph hk => onPart_acting (hasString_of_lt hn) hc hs (contactTime_posClosed hph hk)
  case opened => exact fun s n hn hc hs hph => onPart_acting (hasString_of_lt hn) hc hs (contactTime_opened hph)
  case precharge => exact fun s n hn hc hs hph => onPart_acting (hasString_of_lt hn) hc hs (if_neg (not_not_intro hph))
  case overlap => exact fun s n hn hc hs hph => onPart_acting (hasString_of_lt hn) hc hs (if_neg (not_not_intro hph))
  case cooldown => exact fun s n hn hc hs => onPart_acting (hasString_of_lt hn) hc hs rfl
  case breakWait => exact fun s n hn hc hs hph => onPart_acting (hasString_of_lt hn) hc hs (if_neg (not_not_intro hph))
  case negDelay => exact fun s n hn hc hs hph => onPart_acting (hasString_of_lt hn) hc hs (if_neg (not_not_intro hph))
  case weldCheck => exact fun s n hn hc hs hph => onPart_acting (hasString_of_lt hn) hc hs (if_neg (not_not_intro hph))
  case reset =>
    intro s r u hc had t v l free
    exact run_core hc (Safety.writeRequest_granted had (ownProtReset_free free))
  case weldClear =>
    intro s r u hc had t n allOpen
    exact run_core hc (Safety.writeRequest_granted had (ownWeldClear_shown allOpen))

end Sys2Proof.Machine
end

section
/-!
SUPPORT. Proof of the statement on the commands of the safety controllers: what each event does where its guards hold, and what a
write to PROOF_START, SAFETY_LOGIN or SAFE_RESET that is not refused does.
-/

namespace Sys2Proof.Machine

/-! ### Inputs, demands and welds: guards -/

/-- A pair that is RELEASING faults with DISCREPANCY (R296). -/
theorem discrepancyFault_releasing {u : State} {p : Nat} (h : (nth u.safety.x.pairs p {}).st = prReleasing) :
    discrepancyFault p u = showPairs u.safety.x.pairs (faultPair p 1 u) := if_neg (by rw [h]; decide)

/-- STOP1_DELAY passes while the function is RUNNING (R300). -/
theorem stop1Delay_runs {u : State} (source : Nat) (h : u.safetyRuns = true) :
    stop1Delay source u = driveEnables (u.each u.asBuilt.strings fun n t =>
      if (actingSources t t.safety.x n).any fun x => x.1 == source && !x.2 then t.modSs n fun z => { z with stop1 := true }
      else t) := if_neg (by rw [h]; decide)

/-- An output whose test waits and whose aux input still shows closed (R304). -/
theorem safeWeld_closed {u : State} {m : Nat} (hm : m ∈ u.safety.weldTests) (hc : u.auxClosed m = true) :
    safeWeld m u = driveEnables ((u.modSs (m / 3) fun z => { z with weld := true }).modSafety fun z =>
      { z with weldTests := z.weldTests.filter (· != m) }) := by
  have waits : u.safety.weldTests.contains m = true := List.contains_iff_mem.mpr hm
  exact if_neg (by rw [waits, hc]; decide)

/-! ### Proof tests: guards (R305, R306) -/

section
variable {u : State} {n : Nat}

/-- A string that needs its proof test becomes OVERDUE; a test that runs goes on (log entry 180). -/
theorem proofOverdue_needed (hr : u.safetyRuns = true) (hp : u.n (Obj.PROOF_STATE n) ≠ 0) :
    proofOverdue n u =
      let t := u.modSs n fun z => { z with overdue := true }
      if u.n (Obj.PROOF_STATE n) = 2 then t else driveEnables (t.putN (Obj.PROOF_STATE n) 5) := by
  have needed : (u.n (Obj.PROOF_STATE n) == 0) = false := beq_false_of_ne hp
  exact if_neg (by rw [hr, needed]; decide)

/-- The string under test is OPEN: the test of its first output begins. -/
theorem proofTestStep_open {i : Nat} (hp : (u.ss n).proof = some (i, 1)) (hs : u.seq n = sqOpen) :
    proofTestStep n u = proofAt n 0 2 (setKo (proofOutput n 0) true u) := by
  unfold proofTestStep
  rw [hp]
  exact (if_pos rfl).trans (if_pos hs)

/-- A step whose condition holds: before the last one the next follows; after it the next output, and after all three the string has
passed. -/
theorem proofTestStep_passes {i step : Nat} (hp : (u.ss n).proof = some (i, step)) (h1 : 1 < step)
    (hok : proofPasses u (proofOutput n i) step = true) :
    proofTestStep n u =
      if step < 7 then proofAt n i (step + 1) u
      else
        let t := setKo (proofOutput n i) false u
        if i < 2 then proofAt n (i + 1) 2 (setKo (proofOutput n (i + 1)) true t) else proofPassed n t := by
  have notFirst : step ≠ 1 := by omega
  unfold proofTestStep
  rw [hp]
  exact (if_neg notFirst).trans (if_neg (by rw [hok]; decide))

end

/-! ### QSF connections: guards -/

section
variable {u : State} {c : Nat} {v : NetFrame}

/-- A frame that passes and comes from the peer of its connection reaches the consumer (R308, R309). -/
theorem qsfEvent_fromPeer (data : Bytes) (hn : (netPass v u).1 = true) (ht : (netPass v u).2.n (Obj.QSF_TRANSPORT c) = 2)
    (hu : v.udp = 48821) (ha : v.addr = (netPass v u).2.n (Obj.QSF_PEER_ADDR c)) :
    qsfEvent c data v u = qsfReceive c data (netPass v u).2 := by
  have fromPeer : qsfFromPeer c v (netPass v u).2 = true := by simp [qsfFromPeer, ht, hu, ha]
  exact (if_pos hn).trans (if_pos fromPeer)

/-- Any other frame is noted alone (R382). -/
theorem qsfEvent_other (data : Bytes) (h : (netPass v u).1 = false ∨ (netPass v u).2.n (Obj.QSF_TRANSPORT c) ≠ 2 ∨
    v.udp ≠ 48821 ∨ v.addr ≠ (netPass v u).2.n (Obj.QSF_PEER_ADDR c)) :
    qsfEvent c data v u = (netPass v u).2 := by
  cases hn : (netPass v u).1 with
  | false => exact if_neg (Bool.eq_false_iff.mp hn)
  | true =>
    have stranger : qsfFromPeer c v (netPass v u).2 = false := by
      rw [hn] at h
      simpa [qsfFromPeer, or_assoc, imp_iff_not_or] using h
    exact (if_pos hn).trans (if_neg (Bool.eq_false_iff.mp stranger))

/-- The watchdog of a consumer while the function is not STOPPED (R309). -/
theorem qsfWatchdog_consumer (hr : u.n (Obj.QSF_ROLE c) = 2) (hs : u.n Obj.SAFETY_STATE ≠ 0) :
    qsfWatchdog c u = ((u.putN (Obj.QSF_STATE c) 2).putN (Obj.QSF_RX_BITS c) 0).modQsf c fun x =>
      { x with synced := false, faultL := u.lNow } := if_neg (by simp [hr, hs])

/-- A producer of a module that is not the STANDBY sends its frame (R308, R310). -/
theorem qsfSend_producer (hr : u.n (Obj.QSF_ROLE c) = 1) (hs : u.n Obj.SAFETY_STATE ≠ 0) (hb : u.standby = false) :
    qsfSend c u =
      let b := qsfFrame u c
      let t := u.modQsf c fun x => { x with seq := (x.seq + 1) % 65536, sent := x.sent + 1, bits := producerBits u }
      if t.n (Obj.QSF_TRANSPORT c) = 2 then t.emit (.udp 48821 (t.n (Obj.QSF_PEER_ADDR c)) b)
      else sendService (serviceFrame (t.n (Obj.QSF_TRANSPORT c)) (t.n (Obj.QSF_CAN_ID c)) true b) false t :=
  if_neg (by simp [hr, hs, hb])

end

/-! ### SAFETY_LOGIN (R311, R313) -/

/-- SAFETY_LOGIN is a STRING (R317). -/
theorem safetyLogin_type : (findRow Obj.SAFETY_LOGIN).map (fun x => x.2.ty) = some .string := by decide +kernel

theorem valueOf_safetyLogin_empty (r : Req) : (Safety.valueOf Obj.SAFETY_LOGIN (writing r [])).toBytes = [] := by
  obtain ⟨⟨g, row⟩, found, isString⟩ := Option.map_eq_some_iff.mp safetyLogin_type
  have ty : row.ty = .string := isString
  unfold Safety.valueOf
  rw [found]
  show (row.ty.decode []).toBytes = []
  rw [ty]
  rfl

section
variable {src : ReqSource} {v : Val} {t : State}

/-- The empty string ends the session of its own source. -/
theorem ownSafetyLogin_empty (h : v.toBytes = []) :
    ownSafetyLogin src v t = .ok (if t.safety.session = some src then endSafetySession t else t) :=
  if_pos (List.isEmpty_iff.mpr h)

variable (h : v.toBytes ≠ [])
include h

theorem loginData_nonempty : ¬ v.toBytes.isEmpty = true := fun e => h (List.isEmpty_iff.mp e)

/-- While a lock-out lasts, a password is refused, whatever it is. -/
theorem ownSafetyLogin_locked (hl : t.safety.lockMs ≠ 0) : ownSafetyLogin src v t = .error (Abort.of aPasswordLocked 0) :=
  (if_neg (loginData_nonempty h)).trans (if_pos hl)

variable (hl : t.safety.lockMs = 0)
include hl

/-- The password opens the session of its source. -/
theorem ownSafetyLogin_correct (hp : t.safety.pwHash = some (Config.passwordHash v.toBytes)) :
    ownSafetyLogin src v t = .ok (logChange Obj.SAFETY_LOGIN 2 0
      (((t.modSafety fun z => { z with session := some src }).putB Obj.SAFETY_SESSION true).putN Obj.LOGIN_FAILURES 0)) :=
  (if_neg (loginData_nonempty h)).trans ((if_neg (not_not_intro hl)).trans (if_pos hp))

/-- Another password is refused. -/
theorem ownSafetyLogin_wrong (hp : t.safety.pwHash ≠ some (Config.passwordHash v.toBytes)) :
    ownSafetyLogin src v t = .error (Abort.of aPasswordWrong 0) :=
  (if_neg (loginData_nonempty h)).trans ((if_neg (not_not_intro hl)).trans (if_neg hp))

end

/-! ### The other objects of the controllers -/

/-- SAFE_RESET waits for the next cycle where remote resets are allowed and the function is RUNNING (R299). -/
theorem ownSafeReset_allowed (v : Val) {t : State} (hb : t.b Obj.SAFE_RESET_REMOTE = true) (hr : t.safetyRuns = true) :
    ownSafeReset v t = .ok (t.modSafety fun z => { z with remote := true }) := congrArg Except.ok (if_pos ⟨hb, hr⟩)

/-- A lock-out that lasts ends (R313). -/
theorem lockoutEnd_locked {u : State} (h : u.safety.lockMs ≠ 0) :
    lockoutEnd u = ((u.modSafety fun z => { z with lockMs := 0 }).putN Obj.LOCKOUT_REMAINING 0).putN Obj.LOGIN_FAILURES 0 :=
  if_neg h

/-! ### The statement -/

/-- Settles O7: the guards of each event hold, its string, contactor, pair or connection is there, and the object's own rules carry
out each write. A test that runs when its string falls overdue goes on (log entry 180); a restart begins the self-test (log entry
178). -/
theorem safetyCommandsComplete : Obligations.SafetyCommandsComplete := by
  refine ⟨?cycle, ?input, ?testPulse, ?discrepancy, ?stop1, ?weld, ?due, ?overdue, ?start, ?opened, ?step, ?lastStep, ?qsfPeer,
    ?qsfOther, ?watchdog, ?send, ?login, ?logout, ?timeout, ?lockout, ?password, ?restart, ?reset⟩
  case cycle => exact fun s x hc => run_next (if_neg (by rw [hc]; decide))
  case input =>
    intro s controller channel level u hcont hch hc
    have operands : (Nat.blt controller 3 && Nat.blt channel 16) = true := by rw [blt_of_lt hcont, blt_of_lt hch, Bool.and_true]
    exact onPart_carrier operands hc rfl
  case testPulse => exact fun s failed hc => run_carrier hc rfl
  case discrepancy =>
    intro s p u hp hc hst
    exact onPart_carrier (blt_of_lt hp) hc (congrArg (inputWake u) (discrepancyFault_releasing hst))
  case stop1 => exact fun s source hsrc hc hr => onPart_carrier (blt_of_lt hsrc) hc (stop1Delay_runs source hr)
  case weld => exact fun s m hm hc hw ha => onPart_carrier (blt_of_lt hm) hc (safeWeld_closed hw ha)
  case due => exact fun s n hn hc hr hp => onPart_carrier (hasString_of_lt hn) hc (if_pos ⟨hr, hp⟩)
  case overdue => exact fun s n hn hc hr hp => onPart_carrier (hasString_of_lt hn) hc (proofOverdue_needed hr hp)
  case start => exact fun s r hc had hok => run_core hc (Safety.writeRequest_granted had (if_pos hok))
  case opened =>
    exact fun s n i hn hc hp hs => onPart_core (hasString_of_lt hn) hc (congrArg recloseAfter (proofTestStep_open hp hs))
  case step =>
    intro s n i step u hn hc hp h1 h7 hok
    exact onPart_core (hasString_of_lt hn) hc (congrArg recloseAfter ((proofTestStep_passes hp h1 hok).trans (if_pos h7)))
  case lastStep =>
    intro s n i u hn hc hp hok t
    have last := (proofTestStep_passes hp (by decide) hok).trans (if_neg (lt_irrefl 7))
    exact onPart_core (hasString_of_lt hn) hc (congrArg recloseAfter last)
  case qsfPeer =>
    exact fun s c data v hch hc hn ht hu ha => onPart_core (blt_of_lt hch) hc (qsfEvent_fromPeer data hn ht hu ha)
  case qsfOther => exact fun s c data v hch hc h => onPart_core (blt_of_lt hch) hc (qsfEvent_other data h)
  case watchdog => exact fun s c hch hc hr hs => onPart_carrier (blt_of_lt hch) hc (qsfWatchdog_consumer hr hs)
  case send => exact fun s c hch hc hr hs hb => onPart_core (blt_of_lt hch) hc (qsfSend_producer hr hs hb)
  case login =>
    exact fun s r hc had hne hl hp => run_core hc (Safety.writeRequest_granted had (ownSafetyLogin_correct hne hl hp))
  case logout =>
    exact fun s r hc had => run_core hc (Safety.writeRequest_granted had (ownSafetyLogin_empty (valueOf_safetyLogin_empty r)))
  case timeout => exact fun s hc hs => run_core hc (if_pos hs)
  case lockout => exact fun s hc hl => run_carrier hc (lockoutEnd_locked hl)
  case password => exact fun s r hc had => run_core hc (Safety.writeRequest_granted had rfl)
  case restart => exact fun s r hc had => run_core hc (Safety.writeRequest_granted had rfl)
  case reset =>
    exact fun s r hc had hb hr => run_core hc (Safety.writeRequest_granted had (ownSafeReset_allowed _ hb hr))

end Sys2Proof.Machine
end

section
/-!
SUPPORT. Proof of the statement on the lock-out of the safety password: what a login reads and leaves of the controllers, as one
view of the state, which settling changes only by counting a wrong password.
-/

namespace Sys2Proof.Safety

open Sys2Proof.Machine

/-! ### What the lock-out keeps -/

/-- What a login meets and leaves: the session held, whether a wrong password waits to be counted, the lock-out in ms and as shown,
the failures so far, and whether the core domain, which counts them, has power. -/
structure LoginView where
  session : Option ReqSource
  wrong : Bool
  lockMs : Nat
  failures : Nat
  remaining : Nat
  powered : Bool

def loginView (s : State) : LoginView where
  session := s.safety.session
  wrong := s.safety.wrong
  lockMs := s.safety.lockMs
  failures := s.n Obj.LOGIN_FAILURES
  remaining := s.n Obj.LOCKOUT_REMAINING
  powered := s.coreOn

/-- A wrong password counted: the fifth starts ten minutes (R313). -/
def LoginView.counted (x : LoginView) : LoginView :=
  if x.wrong then
    if x.failures + 1 < 5 then { x with wrong := false, failures := x.failures + 1 }
    else { x with wrong := false, failures := x.failures + 1, lockMs := 600000, remaining := 600 }
  else x

theorem LoginView.counted_session (x : LoginView) : x.counted.session = x.session := by
  unfold LoginView.counted
  split
  · split <;> rfl
  · rfl

theorem LoginView.counted_right {x : LoginView} (h : x.wrong = false) : x.counted = x := if_neg (Bool.eq_false_iff.mp h)

section
variable {x : LoginView} (h : x.wrong = true)
include h

theorem LoginView.counted_failures : x.counted.failures = x.failures + 1 := by
  unfold LoginView.counted
  rw [if_pos h]
  split <;> rfl

theorem LoginView.counted_fifth (h5 : 5 ≤ x.failures + 1) : x.counted.lockMs = 600000 ∧ x.counted.remaining = 600 := by
  unfold LoginView.counted
  rw [if_pos h, if_neg (not_lt.mpr h5)]
  exact ⟨rfl, rfl⟩

theorem LoginView.counted_before (h5 : x.failures + 1 < 5) : x.counted.lockMs = x.lockMs := by
  unfold LoginView.counted
  rw [if_pos h, if_pos h5]

end

/-- The view is of the store, the safety controllers and the power alone. -/
theorem loginView_congr {s t : State} (hst : s.store = t.store) (hs : s.safety = t.safety) (hp : s.coreOn = t.coreOn) :
    loginView s = loginView t := by
  have failures : s.v Obj.LOGIN_FAILURES = t.v Obj.LOGIN_FAILURES := State.v_of_store hst fun _ _ => rfl
  have remaining : s.v Obj.LOCKOUT_REMAINING = t.v Obj.LOCKOUT_REMAINING := State.v_of_store hst fun _ _ => rfl
  unfold loginView State.n
  rw [hs, hp, failures, remaining]

theorem loginView_ite {p : Prop} [Decidable p] {s t : State} {x : LoginView} (hs : loginView s = x) (ht : loginView t = x) :
    loginView (if p then s else t) = x := by
  split
  · exact hs
  · exact ht

@[simp] theorem loginView_emit (s : State) (o : Output) : loginView (s.emit o) = loginView s := rfl
@[simp] theorem loginView_modDisp (s : State) (f : DispSt → DispSt) : loginView (s.modDisp f) = loginView s := rfl
@[simp] theorem loginView_modDuo (s : State) (f : DuoSt → DuoSt) : loginView (s.modDuo f) = loginView s := rfl

/-! ### Writes of other objects -/

/-- Whether an object is neither LOGIN_FAILURES nor LOCKOUT_REMAINING. -/
def apartFromLogin (k : Nat) : Bool := k != Obj.LOGIN_FAILURES && k != Obj.LOCKOUT_REMAINING

theorem apartFromLogin_iff {k : Nat} : apartFromLogin k = true ↔ k ≠ Obj.LOGIN_FAILURES ∧ k ≠ Obj.LOCKOUT_REMAINING := by
  simp [apartFromLogin]

/-- Both lie at index 0x3000. -/
theorem apartFromLogin_index {k : Nat} (h : k / 65536 ≠ 0x3000) : apartFromLogin k = true :=
  apartFromLogin_iff.mpr ⟨fun e => h (by rw [e]; rfl), fun e => h (by rw [e]; rfl)⟩

section
variable (s : State) {k : Nat} (hk : apartFromLogin k = true)
include hk

theorem loginView_put (v : Val) : loginView (s.put k v) = loginView s := by
  obtain ⟨failures, remaining⟩ := apartFromLogin_iff.mp hk
  simp only [loginView, State.n, State.v_put_of_ne failures.symm, State.v_put_of_ne remaining.symm]
  rfl

theorem loginView_putN (n : Nat) : loginView (s.putN k n) = loginView s := loginView_put s hk _
theorem loginView_putB (b : Bool) : loginView (s.putB k b) = loginView s := loginView_put s hk _
theorem loginView_putQ (q : Rat) : loginView (s.putQ k q) = loginView s := loginView_put s hk _

theorem loginView_incW (w : Nat) : loginView (s.incW w k) = loginView s :=
  loginView_ite (loginView_putN s hk _) (loginView_putN s hk _)

theorem loginView_inc : loginView (s.inc k) = loginView s := loginView_incW s hk 32
theorem loginView_lower (q : Rat) : loginView (s.lower k q) = loginView s := loginView_ite (loginView_putQ s hk q) rfl

end

/-! ### Logs -/

theorem loginView_logEx (s : State) (c r u : Nat) (a0 a1 a2 : Val) : loginView (s.logEx c r u a0 a1 a2) = loginView s := by
  have fresh (l : List ExRec) (m e n k : Nat) (p : Prop) [Decidable p] :
      let t := (({ s with exLog := l, exSlot := m, exNo := e } : State).putN Obj.LOG_NEWEST n).putN Obj.LOG_COUNT k
      loginView (if p then t.inc Obj.EXCEPTIONS_OVERWRITTEN else t) = loginView s := by
    intro t
    have entered : loginView t = loginView s := by
      rw [loginView_putN _ (by decide), loginView_putN _ (by decide)]; rfl
    exact loginView_ite ((loginView_inc t (by decide)).trans entered) entered
  unfold State.logEx
  simp only
  split
  · split
    · rfl
    · exact fresh _ _ _ _ _ _
  · exact fresh _ _ _ _ _ _

theorem loginView_logChange (k e v : Nat) (s : State) : loginView (logChange k e v s) = loginView s :=
  loginView_ite (loginView_inc _ (by decide)) rfl

/-! ### Dispatch -/

theorem loginView_fallLimits {n : Nat} (hn : n < 16) (s : State) : loginView (fallLimits n s) = loginView s := by
  unfold fallLimits
  rw [loginView_lower _ (apartFromLogin_index (by unfold Obj.STRING_LIMIT_DIS; omega)),
    loginView_lower _ (apartFromLogin_index (by unfold Obj.STRING_LIMIT_CHG; omega))]

theorem loginView_formSetpoints (s : State) : loginView (formSetpoints s) = loginView s := by
  rw [formSetpoints_eq]
  refine State.each_keeps_below loginView (fun n t hn => ?_) s
  have h16 : n < 16 := hn.trans_le (strings_le _)
  unfold formOne
  rw [loginView_putQ _ (apartFromLogin_index (by unfold Obj.STRING_SETPOINT; omega)), loginView_fallLimits h16]

theorem loginView_publishShort (q : Rat) (s : State) : loginView (publishShort q s) = loginView s :=
  loginView_putQ _ (by decide) _

theorem loginView_redeal (s : State) : loginView (redeal s) = loginView s := by
  unfold redeal
  split
  · rfl
  · simp only
    split
    · rw [loginView_formSetpoints, loginView_modDisp, loginView_publishShort]
    · rw [loginView_formSetpoints, loginView_publishShort, loginView_modDisp]

theorem loginView_calAbort13 (r : Nat) (s : State) : loginView (calAbort13 r s) = loginView s := by
  unfold calAbort13
  split
  · rfl
  · unfold calFinish State.logN
    rw [loginView_redeal, loginView_modDisp, loginView_putN _ (by decide), loginView_putN _ (by decide), loginView_logEx]

theorem loginView_fallContainer (s : State) : loginView (fallContainer s) = loginView s := by
  unfold fallContainer
  split
  · rw [loginView_putQ _ (by decide), loginView_putQ _ (by decide)]
  · split
    · rfl
    · simp only
      rw [loginView_lower _ (by decide), loginView_lower _ (by decide)]

theorem loginView_dispatchWatch (s : State) : loginView (dispatchWatch s) = loginView s := by
  unfold dispatchWatch
  simp only
  rw [loginView_formSetpoints, loginView_fallContainer]
  split
  · split
    · rfl
    · exact loginView_calAbort13 3 s
  · rfl

/-! ### What is shown and sent -/

theorem loginView_showContactors {n : Nat} (hn : n < 16) (s : State) : loginView (showContactors n s) = loginView s :=
  loginView_putN s (apartFromLogin_index (by unfold Obj.CONTACTOR_STATUS; omega)) _

theorem loginView_showStatus (s : State) : loginView (showStatus s) = loginView s := by
  unfold showStatus
  simp only
  rw [loginView_modDuo, loginView_putN _ (by decide), loginView_putB _ (by decide), loginView_putB _ (by decide),
    loginView_putB _ (by decide), loginView_putN _ (by decide), loginView_putN _ (by decide)]
  exact State.each_keeps_below loginView (fun _ t hn => loginView_showContactors (hn.trans_le (strings_le _)) t) s

theorem loginView_takeBuffer {c : Nat} (hc : c < 2) (x : SvcTx) (s : State) : loginView (takeBuffer c x s) = loginView s := by
  unfold takeBuffer
  split
  case h_1 b hb =>
    have hb8 : b < 8 := List.mem_range.mp (List.mem_of_find?_eq_some hb)
    exact loginView_putN s (apartFromLogin_index (by unfold Obj.TX_STATE; omega)) _
  case h_2 => rfl

theorem loginView_sendService (f : CanFrame) (r : Bool) (s : State) : loginView (sendService f r s) = loginView s := by
  unfold sendService
  simp only
  split
  case isTrue => rfl
  case isFalse h =>
    have hc : f.channel < 2 := by simp at h; omega
    split
    · exact loginView_inc s (apartFromLogin_index (by unfold Obj.TX_SUPPRESSED; omega))
    · exact loginView_takeBuffer hc _ s

theorem loginView_sendCanResponse (o : Output) (s : State) : loginView (sendCanResponse o s) = loginView s := by
  unfold sendCanResponse
  split
  · exact loginView_sendService _ _ s
  · rfl

/-! ### Latches and pads -/

theorem loginView_settleLatches (s : State) : loginView (settleLatches s) = loginView s :=
  loginView_ite rfl (loginView_ite rfl rfl)

theorem loginView_overloadStep (d : Nat) (s : State) : loginView (overloadStep d s) = loginView s := by
  unfold overloadStep
  split
  · rfl
  · simp only
    split
    · split <;> rfl
    · split
      · split
        · exact loginView_putN (s.modField _) (by decide) _
        · rfl
      · rfl

theorem loginView_countSwitches (old new : Nat) (s : State) : loginView (countSwitches old new s) = loginView s := by
  unfold countSwitches
  refine loginView_ite rfl (State.each_keeps_below loginView (fun m t hm => ?_) s)
  exact loginView_ite (loginView_incW t (apartFromLogin_index (by unfold Obj.KO_SWITCHES; omega)) 64) rfl

theorem loginView_drivePads (s : State) : loginView (drivePads s) = loginView s :=
  (loginView_countSwitches _ _ _).trans (State.each_keeps loginView 16 _ loginView_overloadStep s)

/-! ### The count of a wrong password (R313) -/

theorem loginView_watchWindow (s : State) : loginView (watchWindow s) = loginView s := loginView_ite rfl rfl

theorem loginView_began (s : State) : loginView (began s) = loginView s := loginView_watchWindow s.cleared

theorem loginView_loginBarred (s : State) : loginView (loginBarred s) = loginView s :=
  loginView_ite rfl (loginView_logChange ..)

theorem loginView_putFailures (s : State) (k : Nat) :
    loginView (s.putN Obj.LOGIN_FAILURES k) = { loginView s with failures := k } := by
  have other : Obj.LOCKOUT_REMAINING ≠ Obj.LOGIN_FAILURES := by decide
  simp only [loginView, State.n_putN_self, State.n_putN_of_ne other]
  rfl

theorem loginView_putRemaining (s : State) (k : Nat) :
    loginView (s.putN Obj.LOCKOUT_REMAINING k) = { loginView s with remaining := k } := by
  have other : Obj.LOGIN_FAILURES ≠ Obj.LOCKOUT_REMAINING := by decide
  simp only [loginView, State.n_putN_self, State.n_putN_of_ne other]
  rfl

theorem loginView_openSession (s : State) (src : ReqSource) :
    loginView (s.modSafety fun z => { z with session := some src }) = { loginView s with session := some src } := rfl

theorem loginView_setWrong (s : State) (b : Bool) :
    loginView (s.modSafety fun z => { z with wrong := b }) = { loginView s with wrong := b } := rfl

theorem loginView_setLock (s : State) (ms : Nat) :
    loginView (s.modSafety fun z => { z with lockMs := ms }) = { loginView s with lockMs := ms } := rfl

theorem loginView_loginFailed (s : State) : loginView (loginFailed s) = (loginView s).counted := by
  rw [← loginView_loginBarred s]
  unfold loginFailed
  simp only
  generalize loginBarred s = u
  cases hw : u.safety.wrong
  case false => exact (LoginView.counted_right hw).symm
  case true =>
    have wrong : (loginView u).wrong = true := hw
    simp only [Bool.not_true, Bool.false_eq_true, if_false, LoginView.counted, wrong, if_true, apply_ite loginView,
      loginView_logChange, loginView_putRemaining, loginView_setLock, loginView_putFailures, loginView_setWrong]
    rfl

theorem loginView_settleCore (s : State) : loginView (settleCore s) = (loginView s).counted :=
  calc loginView (settleCore s)
      = loginView (showStatus (showDos (dispatchWatch (loginFailed (watchWindow s))))) :=
        State.forAll_keeps loginView _ _ loginView_sendCanResponse _
    _ = loginView (dispatchWatch (loginFailed (watchWindow s))) :=
        (loginView_showStatus _).trans (loginView_putN _ (by decide) _)
    _ = (loginView s).counted := by rw [loginView_dispatchWatch, loginView_loginFailed, loginView_watchWindow]

theorem loginView_settle {s : State} (hc : s.coreOn = true) : loginView (settle s) = (loginView s).counted := by
  unfold settle
  rw [loginView_drivePads, loginView_settleLatches, if_pos hc, loginView_settleCore]

/-- The end of a command counts a wrong password that its effect has noted, and leaves the rest of the view. -/
theorem loginView_finish {s e : State} {x : LoginView} (effect : loginView e = x) (powered : x.powered = true) :
    loginView (finish s e) = x.counted := by
  have on : e.coreOn = true := (congrArg LoginView.powered effect).trans powered
  calc loginView (finish s e)
      = loginView (settle { e with asBuilt := s.asBuilt }) := loginView_congr rfl rfl rfl
    _ = (loginView { e with asBuilt := s.asBuilt }).counted := loginView_settle on
    _ = (loginView e).counted := congrArg _ (loginView_congr rfl rfl rfl)
    _ = x.counted := by rw [effect]

/-! ### Requests -/

theorem loginView_netPass (v : NetFrame) (s : State) : loginView (netPass v s).2 = loginView s := by
  unfold netPass
  simp only
  split
  · rfl
  · have lan (p : Prop) [Decidable p] : loginView (if p then s.inc Obj.WRONG_LAN else s) = loginView s :=
      loginView_ite (loginView_inc s (by decide)) rfl
    split
    · exact (loginView_inc _ (by decide)).trans (lan _)
    · exact lan _

theorem loginView_netIn (s : State) (r : Req) : loginView (s.netIn r).2 = loginView s := by
  unfold State.netIn
  split
  · exact loginView_netPass _ s
  · rfl

theorem loginView_putSession (s : State) (src : ReqSource) (f : Session → Session) :
    loginView (s.putSession src f) = loginView s := by
  cases src <;> rfl

theorem apartFromLogin_peerLastSeen (p : Nat) : apartFromLogin (Obj.PEER_LAST_SEEN p) = true :=
  apartFromLogin_iff.mpr ⟨by unfold Obj.PEER_LAST_SEEN Obj.LOGIN_FAILURES; omega,
    by unfold Obj.PEER_LAST_SEEN Obj.LOCKOUT_REMAINING; omega⟩

theorem loginView_touchSession (s : State) (r : Req) : loginView (s.touchSession r) = loginView s := by
  unfold State.touchSession
  simp only
  split
  · rw [loginView_putN _ (apartFromLogin_peerLastSeen _), loginView_putSession, loginView_netIn]
  · exact loginView_netIn s r

theorem loginView_heard (s : State) (r : Req) (key : Nat) : loginView (heard s r key) = loginView s :=
  loginView_ite (loginView_touchSession s r) (loginView_touchSession s r)

theorem loginView_answer (s : State) (r : Req) (op : Op) (idx sub abort : Nat) (last : Bool) (data : Bytes) :
    loginView (s.answer r op idx sub abort last data) = loginView s := by
  unfold State.answer
  rw [loginView_emit, loginView_putSession]
  exact loginView_ite rfl ((loginView_inc _ (by decide)).trans (loginView_putN _ (by decide) _))

theorem loginView_granted (s : State) (r : Req) (key : Nat) (t : State) : loginView (granted s r key t) = loginView t :=
  (loginView_answer ..).trans (loginView_ite rfl rfl)

/-! ### A refused request -/

theorem putSession_n (s : State) (src : ReqSource) (f : Session → Session) (k : Nat) : (s.putSession src f).n k = s.n k := by
  cases src <;> rfl

/-- ABORT_LAST shows the abort of an answer (R371). -/
theorem answer_abortLast {s : State} {r : Req} {op : Op} {idx sub abort : Nat} {last : Bool} {data : Bytes} (h : abort ≠ 0) :
    (s.answer r op idx sub abort last data).n Obj.ABORT_LAST = abort := by
  have other : Obj.ABORT_LAST ≠ Obj.ABORTS_ISSUED := by decide
  unfold State.answer
  rw [State.emit_n, putSession_n, if_neg h, State.n, State.inc, v_incW_ne other, ← State.n, State.n_putN_self]

/-- The end of a command leaves an object that settling does not write and whose default is that of every part. -/
theorem n_finish {s e : State} {k : Nat} (hk : settledKey k = false) (hd : ∀ a b, objDefault a k = objDefault b k) :
    (finish s e).n k = e.n k := by
  have left : unsettled (finish s e) = unsettled { e with pending := s.pending, asBuilt := s.asBuilt } := unsettled_finish s e
  exact (n_of_unsettled left hk).trans (congrArg Val.toNat (State.v_of_store rfl hd))

/-! ### SAFETY_LOGIN -/

theorem safetyLogin_notDomain : isDomain Obj.SAFETY_LOGIN = false := by decide +kernel

/-- What an admitted login meets when the object's own rules see it. -/
theorem loginView_heard_began (s : State) (r : Req) (key : Nat) : loginView (heard (began s) r key) = loginView s :=
  (loginView_heard _ r key).trans (loginView_began s)

/-- A wrong password is noted for the end of the command to count (R313). -/
theorem loginView_noteWrong (s : State) : loginView (noteLogin aPasswordWrong s) = { loginView s with wrong := true } := rfl

/-- A password refused by the lock-out is not counted. -/
theorem loginView_noteLocked (s : State) : loginView (noteLogin aPasswordLocked s) = loginView s := rfl

/-- A login that its own rules refuse is answered with their code, and leaves the note of it alone. -/
theorem safetyLogin_refused {s : State} {r : Req} {code : Nat} (hc : (began s).coreOn = true)
    (had : admitted (began s) r Obj.SAFETY_LOGIN = true) (h0 : code ≠ 0)
    (ho : ownSafetyLogin r.src (valueOf Obj.SAFETY_LOGIN r) (heard (began s) r Obj.SAFETY_LOGIN) = .error (Abort.of code 0)) :
    ∃ e, exec (.safetyLogin r) s = .next (finish s e) ∧ e.n Obj.ABORT_LAST = code ∧
      loginView e = loginView (noteLogin code ((began s).touchSession r)) := by
  have answered := writeRequest_refused had ho
  rw [safetyLogin_notDomain] at answered
  exact ⟨_, run_core hc answered, answer_abortLast h0, loginView_answer ..⟩

/-- Settles O41: a wrong password is noted by its refusal and counted at the end of the command, the fifth with ten minutes; while
they last a password is refused before it is looked at; the right one sets the count to 0, and nothing is noted to be counted. -/
theorem fiveFailuresLockTheLogin : Obligations.FiveFailuresLockTheLogin := by
  refine ⟨?wrong, ?locked, ?correct⟩
  case wrong =>
    intro s r u hc had t b hne hl hp
    obtain ⟨e, run, abort, noted⟩ := safetyLogin_refused hc had (by decide) (ownSafetyLogin_wrong hne hl hp)
    have effect : loginView e = { loginView s with wrong := true } := by
      rw [noted, loginView_noteWrong, loginView_touchSession, loginView_began]
    have view := loginView_finish (s := s) effect ((began_coreOn s).symm.trans hc)
    refine ⟨finish s e, run, ?failures, (n_finish (by decide) fun _ _ => rfl).trans abort, ?session, fun h5 => ?fifth,
      fun h5 => ?before⟩
    case failures => exact (congrArg LoginView.failures view).trans (LoginView.counted_failures rfl)
    case session => exact (congrArg LoginView.session view).trans (LoginView.counted_session _)
    case fifth =>
      obtain ⟨lock, remaining⟩ := LoginView.counted_fifth (x := { loginView s with wrong := true }) rfl h5
      exact ⟨(congrArg LoginView.lockMs view).trans lock, (congrArg LoginView.remaining view).trans remaining⟩
    case before =>
      have unlocked : (loginView s).lockMs = 0 := (congrArg LoginView.lockMs (loginView_heard_began s r _)).symm.trans hl
      exact (congrArg LoginView.lockMs view).trans ((LoginView.counted_before rfl h5).trans unlocked)
  case locked =>
    intro s r u hc had t b hne hl
    obtain ⟨e, run, abort, noted⟩ := safetyLogin_refused hc had (by decide) (ownSafetyLogin_locked hne hl)
    have effect : loginView e = loginView s := by
      rw [noted, loginView_noteLocked, loginView_touchSession, loginView_began]
    have view := loginView_finish (s := s) effect ((began_coreOn s).symm.trans hc)
    exact ⟨finish s e, run, (n_finish (by decide) fun _ _ => rfl).trans abort,
      (congrArg LoginView.session view).trans (LoginView.counted_session _)⟩
  case correct =>
    intro s r u hc hw had t b hne hl hp
    have answered := writeRequest_granted had (ownSafetyLogin_correct (src := r.src) hne hl hp)
    have effect : loginView (u.writeRequest r Obj.SAFETY_LOGIN (ownSafetyLogin r.src)) =
        { loginView s with session := some r.src, failures := 0 } := by
      rw [answered, loginView_granted, loginView_logChange, loginView_putFailures, loginView_putB _ (by decide),
        loginView_openSession, loginView_heard_began]
    have view := loginView_finish (s := s) effect ((began_coreOn s).symm.trans hc)
    rw [LoginView.counted_right hw] at view
    exact ⟨_, run_core hc rfl, congrArg LoginView.failures view, congrArg LoginView.session view⟩

end Sys2Proof.Safety
end

section
/-!
SUPPORT. Proofs of the statements on dispatch and the plant table: what each event does where its guards hold, and that a seat
without a majority sends nothing.
-/

namespace Sys2Proof.Machine

/-! ### Frames from the network (R382) -/

/-- What a frame that passes carries takes effect. -/
theorem viaNet_passes {v : NetFrame} {u : State} (f : State → State) (h : (netPass v u).1 = true) :
    viaNet v f u = f (netPass v u).2 := if_pos h

/-! ### Commands (R328) -/

/-- A CAN command frame of the source, VALID, with a SEQ of its own and a value that is a number. -/
theorem cmdCanFrame_fresh {u : State} {f : CanFrame} (hr : u.running Obj.DISPATCH_STATE = true) (hs : u.n Obj.CMD_SOURCE = 1)
    (hfd : f.fd = false) (hon : frameOn f (u.n Obj.CMD_CAN_CHANNEL) (u.n Obj.CMD_CAN_ID) = true) (hl : 8 ≤ f.data.length)
    (hvalid : bitOf (fieldU f.data 4 1) 0 = true) (hseq : u.disp.lastSeq ≠ some (fieldU f.data 6 2))
    (hnan : fieldF32 f.data 0 ≠ .nan) :
    cmdCanFrame f u = freshCommand (fieldF32 f.data 0) (u.modDisp fun d => { d with lastSeq := some (fieldU f.data 6 2) }) := by
  have fresh : (bitOf (fieldU f.data 4 1) 0 && u.disp.lastSeq != some (fieldU f.data 6 2) && fieldF32 f.data 0 != .nan) = true := by
    simp [hvalid, hseq, hnan]
  unfold cmdCanFrame
  rw [if_neg (by simp [hr, hs, hfd, hon]), if_neg (not_lt.mpr hl)]
  exact if_pos fresh

/-- The command of a RUNNING dispatch is lost for the first time: CMD_FALLBACK applies. -/
theorem cmdLost_first {u : State} (hr : u.running Obj.DISPATCH_STATE = true) (hl : u.b Obj.CMD_LOST = false) :
    cmdLost u =
      let t := (u.putB Obj.CMD_LOST true).logN 0x0801 0x2700 noSubject (u.n Obj.CMD_SOURCE) 0
      let v := if t.n Obj.CMD_FALLBACK = 1 then t.disp.fresh else .int 0
      if t.b Obj.TABLE_ENABLE then t.modDisp fun d => { d with plant := v } else setCommand v t :=
  if_neg (by simp [hr, hl])

/-! ### Set-point frames (R326) -/

/-- A converter of the active module while dispatch is RUNNING: nothing holds its frame back. -/
theorem setpoint_not_held {u : State} {n : Nat} (hs : u.standby = false) (hn : n ∈ u.converters) :
    ¬ (u.standby || !u.converters.contains n) = true := by
  simp [hs, hn]

/-! ### The table (R329 to R333) -/

/-- A seat that takes part has the table enabled and dispatch RUNNING. -/
theorem atTable_dispatching {u : State} (h : u.atTable = true) :
    u.b Obj.TABLE_ENABLE = true ∧ u.running Obj.DISPATCH_STATE = true := by
  simp only [State.atTable, Bool.and_eq_true] at h
  obtain ⟨⟨⟨enabled, dispatching⟩, -⟩, -⟩ := h
  exact ⟨enabled, dispatching⟩

/-- A flag other than the role leaves whether the module is the STANDBY. -/
theorem standby_putB (u : State) {k : Nat} (b : Bool) (hk : Obj.PAIR_ROLE ≠ k) : (u.putB k b).standby = u.standby := by
  simp only [State.standby, State.n, State.v_putB, if_neg hk]

/-- A message that passes, as long as its form says, records its OFFER (R329). -/
theorem offerReceived_passes {b : Bytes} {u w : State} (hm : tableMessage 1 b u = (true, w)) (hl : b.length = 52) :
    offerReceived b u = recordOffer
      { seat := fieldU b 4 1, prio := fieldU b 5 1, cycle := fieldU b 8 8, chg := (fieldF32 b 16).toRat,
        dis := (fieldF32 b 20).toRat, soe := (fieldF32 b 24).toRat, room := (fieldF32 b 28).toRat,
        eligible := bitOf (fieldU b 32 1) 0 } w := by
  unfold offerReceived
  rw [hm]
  exact if_neg (by simp [hl])

/-- The dealer held by its own seat and not quiet (R331, R332). -/
theorem dealer_not_held {u : State} (ht : u.atTable = true) (hs : u.standby = false)
    (hd : u.n Obj.DEALER_SEAT = u.n Obj.SEAT_NUMBER) (hq : u.disp.quiet = false) :
    ¬ (!u.atTable || u.standby || u.n Obj.DEALER_SEAT != u.n Obj.SEAT_NUMBER || u.disp.quiet) = true := by
  simp [ht, hs, hd, hq]

/-- A seat takes its share of a DEAL from the dealer it holds while it has accepted none (R330, R333). -/
theorem dealReceived_fromDealer {b : Bytes} {u w : State} (hm : tableMessage 2 b u = (true, w))
    (hl : b.length = 40 + 8 * fieldU b 20 1) (hd : w.n Obj.DEALER_SEAT = fieldU b 4 1) (ha : w.disp.accepted = none) :
    dealReceived b u =
      takeShare (fieldU b 8 8) (fieldU b 5 1) (fieldU b 4 1) (dealEntry b (w.n Obj.SEAT_NUMBER)) w := by
  have wellFormed : ¬ (!true || b.length != 40 + 8 * fieldU b 20 1) = true := by simp [← hl]
  unfold dealReceived
  rw [hm]
  refine (if_neg wellFormed).trans ?_
  simp only [hd, ha, beq_self_eq_true, Bool.true_or, Bool.not_true, Bool.or_self, Bool.false_eq_true, if_false, ne_eq,
    not_true_eq_false, and_false]

/-- No DEAL of the cycle has been accepted, be it the latest or the one before it. -/
theorem deal_missed {u : State} (ha : ∀ x, u.disp.accepted = some x → x.1 ≠ u.tableCycle)
    (hb : u.disp.acceptedBefore ≠ some u.tableCycle) :
    (u.disp.accepted.map (·.1) == some u.tableCycle || u.disp.acceptedBefore == some u.tableCycle) = false := by
  have latest : u.disp.accepted.map (·.1) ≠ some u.tableCycle := by
    intro e
    obtain ⟨x, hx, cycle⟩ := Option.map_eq_some_iff.mp e
    exact ha x hx cycle
  rw [beq_false_of_ne latest, beq_false_of_ne hb, Bool.or_self]

/-- DEAL_HOLD_MAX passes at a seat that takes part (R333). -/
theorem dealHoldMax_atTable {u : State} (h : u.atTable = true) :
    dealHoldMax u = setCommand (.int 0) ((u.putB Obj.TABLE_LOST true).putQ Obj.SEAT_SHARE 0) := by
  obtain ⟨enabled, dispatching⟩ := atTable_dispatching h
  exact if_neg (by rw [enabled, dispatching]; decide)

/-! ### The calibration charge (R335) -/

/-- The calibration charge of a string is aborted. -/
theorem calAbort13_running {u : State} {n : Nat} (reason : Nat) (h : u.calString? = some n) :
    calAbort13 reason u = redeal (calFinish cpAborted (u.logN 0x0802 0x2700 n reason 0)) := by
  unfold calAbort13
  rw [h]

/-! ### The statement on completion -/

/-- Settles O8: the guards of each event hold, its string or channel is there, and the object's own rule carries out the write. The
layouts of the frames are Tables 13.1 and 13.3; rounding of watts and the own SEQ are log entry 71. -/
theorem dispatchCommandsComplete : Obligations.DispatchCommandsComplete := by
  refine ⟨?command, ?frame, ?lost, ?setpoint, ?cycleStart, ?offer, ?dealSent, ?dealTaken, ?check, ?hold, ?maxTime, ?shortfall⟩
  case command => exact fun s r hc had => run_core hc (Safety.writeRequest_granted had rfl)
  case frame =>
    intro s f u hch hc hh hm hr hs hfd hon hl hvalid hseq hnan
    have classic : f.fd = true → u.b (Obj.FD_ENABLE f.channel) = true := fun fd => absurd (hfd.symm.trans fd) (by decide)
    exact onPart_core (hasChannel_of_lt hch) hc
      ((Safety.serviceRx_takes hh hm classic).trans (cmdCanFrame_fresh hr hs hfd hon hl hvalid hseq hnan))
  case lost => exact fun s hc hs hr hl => run_acting hc hs (cmdLost_first hr hl)
  case setpoint =>
    exact fun s n hn hc hr hs hmem =>
      onPart_core (hasString_of_lt hn) hc ((if_pos hr).trans (if_neg (setpoint_not_held hs hmem)))
  case cycleStart =>
    intro s u hc hs ht
    have active : ¬ (u.putB Obj.SEAT_DROPPED false).standby = true := by
      rw [standby_putB u false (by decide), hs]; decide
    exact run_acting hc hs ((if_neg (by rw [ht]; decide)).trans (if_neg active))
  case offer =>
    exact fun s b via hc hn hm hl => run_core hc ((viaNet_passes _ hn).trans (offerReceived_passes (Prod.ext hm rfl) hl))
  case dealSent =>
    exact fun s hc hs ht hd hq hmaj =>
      run_acting hc hs ((if_neg (dealer_not_held ht hs hd hq)).trans (if_neg (not_le.mpr hmaj)))
  case dealTaken =>
    exact fun s b via hc hn hm hl hd ha =>
      run_core hc ((viaNet_passes _ hn).trans (dealReceived_fromDealer (Prod.ext hm rfl) hl hd ha))
  case check =>
    refine fun s hc hs ht ha hb => run_acting hc hs ((if_neg (by rw [ht]; decide)).trans ?_)
    simp only [deal_missed ha hb, Bool.false_eq_true, if_false]
  case hold => exact fun s hc hs ht => run_acting hc hs (dealHoldMax_atTable ht)
  case maxTime => exact fun s n hc hs hcal => run_acting hc hs (calAbort13_running 1 hcal)
  case shortfall => exact fun s n hc hs hcal hshort => run_acting hc hs ((if_pos hshort).trans (calAbort13_running 2 hcal))

/-! ### A seat without a majority (R332) -/

/-- A dealer that has heard at most half of the seats expected does not deal. -/
theorem dealSend_minority {u : State} (h : 2 * u.n Obj.SEATS_HEARD ≤ u.n Obj.TABLE_SEATS_EXPECTED) : dealSend u = u := by
  unfold dealSend
  simp only [if_pos h, ite_self]

/-- A command of the core domain has no effect, with power or in any role, where its own effect is none. -/
theorem core_acting_idle {f : State → State} {u : State} (h : f u = u) : core (acting f) u = u := by
  unfold core acting
  rw [h, ite_self, ite_self]

end Sys2Proof.Machine

namespace Sys2Proof.Safety

open Sys2Proof.Machine

/-! ### What is sent without a majority -/

/-- The end of a command puts out nothing of its own. -/
theorem finish_out (s e : State) : (finish s e).out = e.out := by
  have same := congrArg (fun u : State => u.out) (unsettled_finish s e)
  exact same

/-- DEAL_SEND at such a seat, whatever its role, changes and sends nothing. -/
theorem dealSend_minority_silent {s : State} (h : 2 * s.n Obj.SEATS_HEARD ≤ s.n Obj.TABLE_SEATS_EXPECTED) :
    ∃ t, exec .dealSend s = .next t ∧ t.out = [] := by
  have minority : 2 * (began s).n Obj.SEATS_HEARD ≤ (began s).n Obj.TABLE_SEATS_EXPECTED := by rwa [began_n, began_n]
  exact ⟨finish s (began s), run_next (core_acting_idle (dealSend_minority minority)), (finish_out s _).trans (began_out s)⟩

/-- A module that sends at DEAL_SEND has heard more than half of the seats it expects. -/
theorem dealSend_sends_majority {s t : State} (ht : exec .dealSend s = .next t) (hsent : t.out ≠ []) :
    s.n Obj.TABLE_SEATS_EXPECTED < 2 * s.n Obj.SEATS_HEARD := by
  by_contra minority
  obtain ⟨t', ht', silent⟩ := dealSend_minority_silent (not_lt.mp minority)
  cases ht.symm.trans ht'
  exact hsent silent

/-- Settles O38: a seat without a majority stops before it deals, and two majorities of the same seats expected overlap. -/
theorem dealsNeedMajority : Obligations.DealsNeedMajority := by
  refine ⟨fun s t => dealSend_sends_majority, fun s => dealSend_minority_silent, fun s s' t t' same together ht ht' => ?_⟩
  rintro ⟨sent, sent'⟩
  have majority := dealSend_sends_majority ht sent
  have majority' := dealSend_sends_majority ht' sent'
  omega

end Sys2Proof.Safety
end

section
/-!
SUPPORT. Proof of the statement on the CAN channels: what each event does where its guards hold.
-/

namespace Sys2Proof.Machine

/-! ### Channels that take part in the bus (R344 to R346) -/

/-- A channel that is up in normal mode, not in bus-off and past its wait for bus idle: nothing holds an attempt back. -/
theorem canTx_not_held {u : State} {c sofL : Nat} (hup : u.canUp c = true) (hm : u.canMode c = cmNormal)
    (he : u.n (Obj.CAN_ERROR_STATE c) ≠ 2) (hi : u.idleBy c sofL = true) :
    ¬ (!u.canUp c || u.canMode c != cmNormal || u.n (Obj.CAN_ERROR_STATE c) == 2 || !u.idleBy c sofL) = true := by
  simp [hup, hm, he, hi]

/-- The choice of a detection puts the mode of DETECT_THEN in force. -/
theorem canMode_chosen {u : State} {c : Nat} (h : (u.canCh c).chosen = true) : u.canMode c ≠ cmDetect := by
  unfold State.canMode
  rw [if_pos h]
  split
  case isTrue other => exact other
  case isFalse => split <;> decide

/-- A channel that has chosen detects no more. -/
theorem detecting_chosen {u : State} {c : Nat} (h : (u.canCh c).chosen = true) : u.detecting c = false := by
  simp [State.detecting, canMode_chosen h]

/-! ### Attempts, bus-off, requests (R344, R351 to R353) -/

/-- The attempt of the buffer that arbitration ranks first ends. -/
theorem canTxDone_ranked {u : State} {c b sofL : Nat} {o : TxOutcome} (hup : u.canUp c = true) (hm : u.canMode c = cmNormal)
    (he : u.n (Obj.CAN_ERROR_STATE c) ≠ 2) (hi : u.idleBy c sofL = true) (hb : nextBuffer u c = some b) :
    canTxDone c none o sofL u = txEnd c b o sofL u := by
  unfold canTxDone
  rw [if_neg (canTx_not_held hup hm he hi), hb]

/-- The attempt of a pending buffer that began earlier ends. -/
theorem canTxDone_early {u : State} {c b sofL : Nat} {o : TxOutcome} (hup : u.canUp c = true) (hm : u.canMode c = cmNormal)
    (he : u.n (Obj.CAN_ERROR_STATE c) ≠ 2) (hi : u.idleBy c sofL = true) (hb : b < 32) (hp : u.n (Obj.TX_STATE c b) = txPending) :
    canTxDone c (some b) o sofL u = txEnd c b o sofL u := by
  unfold canTxDone
  simp only [if_neg (canTx_not_held hup hm he hi), if_pos (And.intro hb hp)]

/-- A channel in bus-off whose recovery has begun is error active again. -/
theorem busoffRecovery_begun {u : State} {c : Nat} (hup : u.canUp c = true) (he : u.n (Obj.CAN_ERROR_STATE c) = 2)
    (hr : (u.canCh c).recovering = true) :
    busoffRecovery c u = ((u.putN (Obj.CAN_ERROR_STATE c) 0).putN (Obj.CAN_ERROR_COUNTERS c) 0).modCan c
      fun x => { x with recovering := false } :=
  if_neg (by simp [hup, he, hr])

/-- Integrator buffers whose content passes become pending on a channel in normal mode. -/
theorem ownTxRequest_ok {u : State} {c : Nat} {v : Val} (hl : v.toNat % 256 = 0) (hm : u.canMode c = cmNormal)
    (hb : ∀ b ∈ maskBuffers v.toNat, bufferOk u c b = true) :
    ownTxRequest c v u = .ok (u.forAll (maskBuffers v.toNat) fun b w => w.putN (Obj.TX_STATE c b) txPending) := by
  have passes : (maskBuffers v.toNat).find? (fun b => !bufferOk u c b) = none := by simpa using hb
  simp [ownTxRequest, hl, hm, passes]

/-! ### Reads that pop (R350, R355) -/

/-- The object of a channel's FIFO pops that FIFO. -/
theorem fifoPop_object {c fifo : Nat} (hc : c < 2) (hf : fifo < 2) :
    let key := if fifo = 0 then Obj.RX_FIFO0_POP c else Obj.RX_FIFO1_POP c
    typeOf (key / 65536) (key % 65536) = .domain ∧ key ≠ Obj.EXCEPTION_LOG ∧ popQueue? key = some (c, fifo) := by
  interval_cases c <;> interval_cases fifo <;> decide +kernel

/-- The object of a channel's event queue pops that queue. -/
theorem eventPop_object {c : Nat} (hc : c < 2) :
    let key := Obj.TX_EVENT_POP c
    typeOf (key / 65536) (key % 65536) = .domain ∧ key ≠ Obj.EXCEPTION_LOG ∧ popQueue? key = some (c, 2) := by
  interval_cases c <;> decide +kernel

/-! ### Errors in a frame being received (R344, R346) -/

/-- The state after the counters have taken an error in a frame being received. -/
def errorCounted (c : Nat) (e : RxError) (u : State) : State :=
  let w := u.n (Obj.CAN_ERROR_COUNTERS c)
  setCounters c (tecOf w) (min (recOf w + (if e.exempt then 0 else 1) + 8 * e.eights) 65535) u

/-- An error on a channel that receives and does not wait for bus idle is counted, then heeded by its detection. -/
theorem canReceiveError_counted {u : State} {c : Nat} (e : RxError) (hh : u.canHears c = true) (hi : u.idleBy c u.lNow = true) :
    canReceiveError c e u =
      if (errorCounted c e u).detecting c then nextCandidate c (errorCounted c e u)
      else if e.dataPhase then unchoose c (errorCounted c e u)
      else errorCounted c e u :=
  if_neg (by simp [hh, hi])

/-- A channel that is not set to detect has no choice to lose. -/
theorem unchoose_notDetect {u : State} {c : Nat} (h : u.n (Obj.CAN_MODE c) ≠ cmDetect) : unchoose c u = u :=
  if_neg fun guard => h guard.1

/-- A choice that no data phase has confirmed is lost. -/
theorem unchoose_unconfirmed {u : State} {c : Nat} (hm : u.n (Obj.CAN_MODE c) = cmDetect) (hch : (u.canCh c).chosen = true)
    (hd : u.b (Obj.DATA_CONFIRMED c) = false) :
    unchoose c u = nextCandidate c ((u.putN (Obj.CAN_DETECTED c) 0xFF).modCan c fun x => { x with chosen := false }) :=
  if_pos ⟨hm, hch, by rw [hd]; rfl⟩

/-- An error on a channel that neither detects nor is set to detect is counted alone. -/
theorem canReceiveError_notDetect {u : State} {c : Nat} {e : RxError} (hh : u.canHears c = true) (hi : u.idleBy c u.lNow = true)
    (hd : (errorCounted c e u).detecting c = false) (hm : (errorCounted c e u).n (Obj.CAN_MODE c) ≠ cmDetect) :
    canReceiveError c e u = errorCounted c e u := by
  rw [canReceiveError_counted e hh hi, if_neg (Bool.eq_false_iff.mp hd), unchoose_notDetect hm, ite_self]

/-- An error in the data phase after a choice that no data phase has confirmed is counted, and the choice lost. -/
theorem canReceiveError_unconfirmed {u : State} {c : Nat} {e : RxError} (hh : u.canHears c = true) (hi : u.idleBy c u.lNow = true)
    (hdata : e.dataPhase = true) (hm : (errorCounted c e u).n (Obj.CAN_MODE c) = cmDetect)
    (hch : ((errorCounted c e u).canCh c).chosen = true) (hd : (errorCounted c e u).b (Obj.DATA_CONFIRMED c) = false) :
    canReceiveError c e u =
      nextCandidate c (((errorCounted c e u).putN (Obj.CAN_DETECTED c) 0xFF).modCan c fun x => { x with chosen := false }) := by
  rw [canReceiveError_counted e hh hi, if_neg (Bool.eq_false_iff.mp (detecting_chosen hch)), if_pos hdata,
    unchoose_unconfirmed hm hch hd]

/-! ### The wake-up pattern (R356, R464) -/

/-- A source of WAKE_SOURCES wakes a module that sleeps. -/
theorem wake_enabled {u : State} {bit : Nat} (hs : u.sleeps = true) (hw : bitOf (u.n Obj.WAKE_SOURCES) bit = true) :
    wake bit u = wakeNow bit u := if_neg (by simp [hs, hw])

/-! ### The statement -/

/-- Settles O9: the guards of each event hold, its channel is there, and the object's own rules carry out a request. How the
counters move at a receive error is log entry 76, the shortest bus idle log entry 181. -/
theorem canCommandsComplete : Obligations.CanCommandsComplete := by
  refine ⟨?received, ?exception, ?ranked, ?early, ?busOff, ?recovery, ?request, ?cancel, ?fifoPop, ?eventPop, ?dwell, ?timeout,
    ?wakePattern, ?error, ?errorDetecting, ?errorChosen⟩
  case received => exact fun s f esi sofL hch hc hh => onPart_core (hasChannel_of_lt hch) hc rfl
  case exception =>
    exact fun s c hch hc hh => onPart_core (hasChannel_of_lt hch) hc (if_neg (by rw [hh]; decide))
  case ranked =>
    exact fun s c b o sofL hch hc hup hm he hi hb =>
      onPart_core (hasChannel_of_lt hch) hc (canTxDone_ranked hup hm he hi hb)
  case early =>
    exact fun s c b o sofL hch hc hup hm he hi hb hp =>
      onPart_core (hasChannel_of_lt hch) hc (canTxDone_early hup hm he hi hb hp)
  case busOff => exact fun s c hch hc hup => onPart_core (hasChannel_of_lt hch) hc (if_pos hup)
  case recovery =>
    exact fun s c hch hc hup he hr => onPart_core (hasChannel_of_lt hch) hc (busoffRecovery_begun hup he hr)
  case request =>
    exact fun s c r hch hc had hl hm hb =>
      onPart_core (hasChannel_of_lt hch) hc (Safety.writeRequest_granted had (ownTxRequest_ok hl hm hb))
  case cancel =>
    exact fun s c begun r hch hc had hl =>
      onPart_core (hasChannel_of_lt hch) hc (Safety.writeRequest_granted had (if_neg (not_not.mpr hl)))
  case fifoPop =>
    intro s c fifo offset length r u hch hf hc key op hask
    obtain ⟨domain, notLog, queue⟩ := fifoPop_object hch hf
    have has : (hasChannel c && Nat.blt fifo 2) = true := by rw [hasChannel_of_lt hch, blt_of_lt hf]; rfl
    exact onPart_core has hc (Safety.popRequest_answered domain notLog queue hask)
  case eventPop =>
    intro s c offset length r u hch hc key op hask
    obtain ⟨domain, notLog, queue⟩ := eventPop_object hch
    exact onPart_core (hasChannel_of_lt hch) hc (Safety.popRequest_answered domain notLog queue hask)
  case dwell => exact fun s c hch hc hd => onPart_core (hasChannel_of_lt hch) hc (if_pos hd)
  case timeout =>
    exact fun s c hch hc hup hm => onPart_core (hasChannel_of_lt hch) hc (if_neg (by rw [hup, hm]; decide))
  case wakePattern =>
    exact fun s c hch hen hs hw => onPart_next (hasChannel_of_lt hch) ((if_pos hen).trans (wake_enabled hs hw))
  case error =>
    exact fun s c e hch hc hh hi hd hm => onPart_core (hasChannel_of_lt hch) hc (canReceiveError_notDetect hh hi hd hm)
  case errorDetecting =>
    exact fun s c e hch hc hh hi hd =>
      onPart_core (hasChannel_of_lt hch) hc ((canReceiveError_counted e hh hi).trans (if_pos hd))
  case errorChosen =>
    exact fun s c e hch hc hh hi hdata hm hchosen hconf =>
      onPart_core (hasChannel_of_lt hch) hc (canReceiveError_unconfirmed hh hi hdata hm hchosen hconf)

end Sys2Proof.Machine
end

section
/-!
SUPPORT. Proofs of the statements on requests that are not carried out: those that no session hears, those that a kept response
answers, those over CAN that rows 1 to 7 of Table 15.4 refuse.
-/

namespace Sys2Proof.Machine

/-! ### Requests that reach no object -/

/-- A duplicate of a frame has no effect but that it is noted (R382). -/
theorem request_duplicate {s : State} {r : Req} {op : Op} {idx sub : Nat} {act : State → Except Abort (State × Bool × Bytes)}
    (hn : (s.netIn r).1 = false) : s.request r op idx sub act = (s.netIn r).2 := by
  unfold State.request
  simp only [hn, Bool.not_false, if_true]

/-- A request without an open session, or a duplicate, leaves the note of its arrival alone (R377, R382). -/
theorem request_unheard {s : State} {r : Req} {op : Op} {idx sub : Nat} {act : State → Except Abort (State × Bool × Bytes)}
    (h : s.session? r.src = none ∨ (s.netIn r).1 = false) : s.request r op idx sub act = (s.netIn r).2 :=
  h.elim Safety.request_no_session request_duplicate

/-- A request that rows 1 to 7 of Table 15.4 refuse is answered with their abort (R365). -/
theorem request_denied {s : State} {r : Req} {op : Op} {idx sub : Nat} {act : State → Except Abort (State × Bool × Bytes)}
    {ses : Session} {a : Abort} (hn : (s.netIn r).1 = true) (hs : s.session? r.src = some ses)
    (hk : (ses.kept.any fun k => k.tag == r.tag) = false) (hc : (s.touchSession r).checkAccess r ses op idx sub = some a) :
    s.request r op idx sub act = (s.touchSession r).answerAbort r op idx sub a := by
  have fresh : ses.kept.find? (fun k => k.tag == r.tag) = none := Safety.find_none_of_any (by rw [hk]; rfl)
  unfold State.request
  simp only [hn, hs, fresh, hc, Bool.not_true, Bool.false_eq_true, if_false]

/-! ### Indices and subindices -/

theorem isU16_both {index sub : Nat} (hi : index < 65536) (hs : sub < 65536) : (isU16 index && isU16 sub) = true := by
  rw [isU16_of_lt hi, isU16_of_lt hs]; rfl

/-! ### The abort of rows 1 to 7 (Table 15.4) -/

/-- The codes with which rows 1 to 7 of Table 15.4 refuse. -/
def accessCodes : List Nat :=
  [aUnknownOp, aNoObject, aNoSubindex, aTransport, aReadOnly, aWriteOnly, aRole, aNoSafetySession]

/-- Whether an answer of the access checks, where it refuses, refuses with a bare code: it sets no object, logs nothing, ends
nothing. -/
def bareRefusal (x : Option Abort) : Prop := ∀ a, x = some a → ∃ c ∈ accessCodes, a = Abort.of c 0

theorem bareRefusal_none : bareRefusal none := fun _ h => absurd h (by simp)

theorem bareRefusal_code {c : Nat} (hc : c ∈ accessCodes) : bareRefusal (some (Abort.of c 0)) :=
  fun _ h => ⟨c, hc, (Option.some.inj h).symm⟩

theorem bareRefusal_ite {p : Prop} [Decidable p] {x y : Option Abort} (hx : bareRefusal x) (hy : bareRefusal y) :
    bareRefusal (if p then x else y) := by split <;> assumption

/-- Rows 1 to 7 refuse with a bare code. -/
theorem checkAccess_bare (s : State) (r : Req) (ses : Session) (op : Op) (idx sub : Nat) :
    bareRefusal (s.checkAccess r ses op idx sub) := by
  have code {c : Nat} (hc : c ∈ accessCodes) := bareRefusal_code hc
  unfold State.checkAccess
  refine bareRefusal_ite (code (by decide)) (bareRefusal_ite bareRefusal_none (bareRefusal_ite (code (by decide)) ?group))
  split
  · exact code (by decide)
  · refine bareRefusal_ite (code (by decide)) ?row
    split
    · exact code (by decide)
    · exact bareRefusal_ite (code (by decide)) (bareRefusal_ite (code (by decide)) (bareRefusal_ite (code (by decide))
        (bareRefusal_ite (code (by decide)) (bareRefusal_ite (code (by decide)) (bareRefusal_ite (code (by decide))
          bareRefusal_none)))))

theorem accessCode_ne_zero : ∀ c ∈ accessCodes, c ≠ 0 := by decide
/-- None of them is an abort of a login. -/
theorem accessCode_noLogin : ∀ c ∈ accessCodes, c ≠ aPasswordWrong ∧ c ≠ aPasswordLocked := by decide
/-- None of them carries data (R371). -/
theorem accessCode_noData : ∀ c ∈ accessCodes, (Abort.of c 0).data = [] := by decide

/-- An abort of rows 1 to 7 is answered, and that is all. -/
theorem answerAbort_access {c : Nat} (hc : c ∈ accessCodes) (s : State) (r : Req) (op : Op) (idx sub : Nat) :
    s.answerAbort r op idx sub (Abort.of c 0) = s.answer r op idx sub c false [] := by
  obtain ⟨notWrong, notLocked⟩ := accessCode_noLogin c hc
  have noted : noteLogin (Abort.of c 0).code s = s := (if_neg notWrong).trans (if_neg notLocked)
  show State.answer (endProof none (noteLogin (Abort.of c 0).code s)) r op idx sub c false (Abort.of c 0).data = _
  rw [noted, accessCode_noData c hc]
  rfl

/-- A request that rows 1 to 7 refuse has the answer of their abort as its whole effect (R365, R371). -/
theorem request_denied_answer {s : State} {r : Req} {op : Op} {idx sub : Nat}
    {act : State → Except Abort (State × Bool × Bytes)} {ses : Session} {a : Abort} (hn : (s.netIn r).1 = true)
    (hs : s.session? r.src = some ses) (hk : (ses.kept.any fun k => k.tag == r.tag) = false)
    (hc : (s.touchSession r).checkAccess r ses op idx sub = some a) :
    a.code ∈ accessCodes ∧ a.data = [] ∧
      s.request r op idx sub act = (s.touchSession r).answer r op idx sub a.code false [] := by
  obtain ⟨c, hcode, rfl⟩ := checkAccess_bare _ _ _ _ _ _ a hc
  exact ⟨hcode, accessCode_noData c hcode, (request_denied hn hs hk hc).trans (answerAbort_access hcode ..)⟩

/-! ### Statements on requests that reach no object -/

/-- Settles O33: the kept response leaves again, whatever the request asks. -/
theorem repeatedTagAnsweredFromKept : Obligations.RepeatedTagAnsweredFromKept := by
  intro s index sub r ses k u hi hs hc hn hses hk
  have repeated (op : Op) : request op index sub r u = (u.touchSession r).emit (.response r.src k) :=
    Safety.request_repeated hn hses hk
  simp only [List.forall_mem_cons]
  refine ⟨?read, ?write, ?push, ?keepalive, List.forall_mem_nil _⟩
  case read => exact onPart_core (isU16_both hi hs) hc (repeated .read)
  case write => exact onPart_core (isU16_both hi hs) hc (repeated .write)
  case push => exact run_core hc (repeated .push)
  case keepalive => exact run_core hc (repeated .keepalive)

/-- The effect of a request that no session hears, with power or without. -/
theorem core_unheard {f : State → State} {u : State} {r : Req} (h : f u = (u.netIn r).2) :
    core f u = if u.coreOn then (u.netIn r).2 else u := by unfold core; rw [h]

/-- Settles O34: a request that no session hears leaves the note of its arrival alone; without power the module hears nothing. -/
theorem noSessionNoEffect : Obligations.NoSessionNoEffect := by
  intro s index sub r u hi hs h
  have unheard (op : Op) : core (request op index sub r) u = if u.coreOn then (u.netIn r).2 else u :=
    core_unheard (request_unheard h)
  simp only [List.forall_mem_cons]
  refine ⟨?read, ?write, ?push, ?keepalive, ?save, List.forall_mem_nil _⟩
  case read => exact onPart_next (isU16_both hi hs) (unheard .read)
  case write => exact onPart_next (isU16_both hi hs) (unheard .write)
  case push => exact run_next (unheard .push)
  case keepalive => exact run_next (unheard .keepalive)
  case save =>
    have save : u.writeRequest (writing r [1]) Obj.CONFIG_SAVE ownConfigSave = (u.netIn r).2 :=
      request_unheard (r := writing r [1]) h
    exact run_next (core_unheard (f := fun s => s.writeRequest (writing r [1]) Obj.CONFIG_SAVE ownConfigSave) save)

end Sys2Proof.Machine

namespace Sys2Proof.Safety

open Sys2Proof.Machine

/-! ### The answer to a refused request -/

/-- After a request that rows 1 to 7 refuse ABORT_LAST shows the code (R371). -/
theorem request_denied_abortLast {s : State} {r : Req} {op : Op} {idx sub : Nat}
    {act : State → Except Abort (State × Bool × Bytes)} {ses : Session} {a : Abort} (hn : ((began s).netIn r).1 = true)
    (hs : (began s).session? r.src = some ses) (hk : (ses.kept.any fun k => k.tag == r.tag) = false)
    (hc : ((began s).touchSession r).checkAccess r ses op idx sub = some a) :
    (finish s ((began s).request r op idx sub act)).n Obj.ABORT_LAST = a.code := by
  obtain ⟨code, -, answered⟩ := request_denied_answer (act := act) hn hs hk hc
  rw [answered]
  exact (n_finish (by decide) fun _ _ => rfl).trans (answer_abortLast (accessCode_ne_zero _ code))

/-! ### Requests over CAN (R380) -/

/-- A request over CAN carries no frame of the Ethernet ports and belongs to the one session, whose peer is not stamped. -/
theorem touchSession_can {u : State} {r : Req} (h : r.src = .can) : u.touchSession r = u ∧ (u.netIn r).1 = true := by
  simp [State.touchSession, State.netIn, h]

/-- Rows 4 to 7 of Table 15.4 for an object that is there, its row of the object table at hand. -/
def objectAccess (s : State) (r : Req) (ses : Session) (op : Op) (idx sub : Nat) (g : ObjGroup) (row : ObjRow) : Option Abort :=
  if op = .push then some (Abort.of aTransport 0)
  else if r.src = .can ∧ (objKey idx sub = Obj.SAFETY_LOGIN ∨
      (op.writes ∧ row.access ≠ .ro ∧ writeNeeds r row g idx sub ≠ 1)) then
    some (Abort.of aTransport 0)
  else if op.writes ∧ row.access = .ro then some (Abort.of aReadOnly 0)
  else if op.reads ∧ (row.access = .wo ∨ objKey idx sub = Obj.SAFETY_PASSWORD_NEW ∨ objKey idx sub = Obj.SAFETY_RESTART) then
    some (Abort.of aWriteOnly 0)
  else if op.writes ∧ !roleAllows ses.role (writeNeeds r row g idx sub) then some (Abort.of aRole 0)
  else if op.writes ∧ row.access = .safe ∧ s.safety.session ≠ some r.src ∧
      !(objKey idx sub = Obj.SAFETY_PASSWORD_NEW ∧ s.safety.pwHash = none) then some (Abort.of aNoSafetySession 0)
  else none

section
variable {s : State} {r : Req} {ses : Session} {op : Op} {idx sub : Nat} {g : ObjGroup} {row : ObjRow}

/-- Rows 1 to 3 let an operation on an object that is there pass. -/
theorem checkAccess_object (hp : pduKnown r = true) (hop : op ≠ .keepalive) (hg : findGroup idx = some g)
    (he : g.exists? s.asBuilt idx sub = true) (hr : g.row? sub = some row)
    (hsym : idx = 0x2A10 ∨ idx = 0x2A12 → sub < s.symbolCount) :
    s.checkAccess r ses op idx sub = objectAccess s r ses op idx sub g row := by
  have mapped : indexMapped idx = true := by unfold indexMapped; rw [hg]; rfl
  have beyond (h : idx = 0x2A10 ∨ idx = 0x2A12) : Nat.ble s.symbolCount sub = false :=
    Bool.eq_false_iff.mpr fun hb => absurd (Nat.le_of_ble_eq_true hb) (not_le.mpr (hsym h))
  have there : (!g.exists? s.asBuilt idx sub || ((idx == 0x2A10 || idx == 0x2A12) && Nat.ble s.symbolCount sub)) = false := by
    simpa [he] using beyond
  unfold State.checkAccess
  simp only [hp, hop, mapped, hg, there, hr, Bool.not_true, Bool.false_eq_true, if_false]
  rfl

theorem objectAccess_push : objectAccess s r ses .push idx sub g row = some (Abort.of aTransport 0) := rfl

/-- Any access to SAFETY_LOGIN over CAN (R380). -/
theorem objectAccess_canLogin (hc : r.src = .can) (hk : objKey idx sub = Obj.SAFETY_LOGIN) :
    objectAccess s r ses op idx sub g row = some (Abort.of aTransport 0) := by
  unfold objectAccess
  rw [if_pos (c := r.src = .can ∧ _) ⟨hc, Or.inl hk⟩, ite_self]

/-- A write over CAN that needs more than the operator role (R380). -/
theorem objectAccess_canRole (hc : r.src = .can) (ha : row.access ≠ .ro) (hn : writeNeeds r row g idx sub ≠ 1) :
    objectAccess s r ses .write idx sub g row = some (Abort.of aTransport 0) := by
  unfold objectAccess
  rw [if_pos (c := r.src = .can ∧ _) ⟨hc, Or.inr ⟨rfl, ha, hn⟩⟩, ite_self]

/-- A write of an object that an operator may write, over CAN as on any session. -/
theorem objectAccess_operator (hk : objKey idx sub ≠ Obj.SAFETY_LOGIN) (ha : row.access ≠ .ro)
    (hn : writeNeeds r row g idx sub = 1) (hrole : roleAllows ses.role 1 = true) (hsafe : row.access ≠ .safe) :
    objectAccess s r ses .write idx sub g row = none := by
  simp [objectAccess, Op.writes, Op.reads, hk, ha, hn, hrole, hsafe]

end

/-- Settles O35: over CAN the checks find an object that is there, and its row decides. -/
theorem canRequestsLimited : Obligations.CanRequestsLimited := by
  intro s r ses u hc hsrc hp hses hk
  obtain ⟨same, passes⟩ := touchSession_can (u := u) hsrc
  have session : u.session? r.src = some ses := by rwa [hsrc]
  have limited {op : Op} {index sub : Nat} {act : State → Except Abort (State × Bool × Bytes)}
      (denied : u.checkAccess r ses op index sub = some (Abort.of aTransport 0)) :
      (finish s (u.request r op index sub act)).n Obj.ABORT_LAST = aTransport :=
    request_denied_abortLast passes session hk (by rw [same]; exact denied)
  have object {op : Op} {index sub : Nat} {g : ObjGroup} {row : ObjRow} (hop : op ≠ .keepalive) (hg : findGroup index = some g)
      (he : g.exists? s.asBuilt index sub = true) (hr : g.row? sub = some row)
      (hsym : index = 0x2A10 ∨ index = 0x2A12 → sub < u.symbolCount) :
      u.checkAccess r ses op index sub = objectAccess u r ses op index sub g row :=
    checkAccess_object hp hop hg (by rwa [began_asBuilt]) hr hsym
  constructor
  case left =>
    intro index sub g row hi hs hg he hr hsym
    exact ⟨_, run_core hc rfl, limited ((object (by decide) hg he hr hsym).trans objectAccess_push)⟩
  case right =>
    intro index sub g row hi hs hg he hr hsym
    refine ⟨fun hlogin => ?login, fun ha hneeds => ?role, fun hlogin ha hneeds hrole hsafe => ?operator⟩
    case login =>
      have refused {op : Op} (hop : op ≠ .keepalive) :
          u.checkAccess r ses op index sub = some (Abort.of aTransport 0) :=
        (object hop hg he hr hsym).trans (objectAccess_canLogin hsrc hlogin)
      simp only [List.forall_mem_cons]
      refine ⟨?read, ?write, List.forall_mem_nil _⟩
      case read => exact ⟨_, onPart_core (isU16_both hi hs) hc rfl, limited (refused (op := .read) (by decide))⟩
      case write => exact ⟨_, onPart_core (isU16_both hi hs) hc rfl, limited (refused (op := .write) (by decide))⟩
    case role =>
      exact ⟨_, onPart_core (isU16_both hi hs) hc rfl,
        limited ((object (by decide) hg he hr hsym).trans (objectAccess_canRole hsrc ha hneeds))⟩
    case operator =>
      rw [same, object (by decide) hg he hr hsym]
      exact objectAccess_operator hlogin ha hneeds hrole hsafe

end Sys2Proof.Safety
end

section
/-!
SUPPORT. Proof of the statement on the operations of the object dictionary: what each does where its guards hold.
-/

namespace Sys2Proof.Machine

/-! ### What a request depends on -/

/-- A request depends on what carries it out only at the state that has noted its arrival. -/
theorem request_congr {s : State} {r : Req} {op : Op} {idx sub : Nat} {act act' : State → Except Abort (State × Bool × Bytes)}
    (h : act (s.touchSession r) = act' (s.touchSession r)) : s.request r op idx sub act = s.request r op idx sub act' := by
  unfold State.request
  simp only [h]

/-! ### Reads that are carried out (R373) -/

/-- A READ of an object that is no DOMAIN and whose value one PDU carries. -/
theorem readAct_whole {src : ReqSource} {idx sub : Nat} {s : State} (ht : typeOf idx sub ≠ .domain)
    (hl : (readObject (objKey idx sub) (typeOf idx sub) s).1.length ≤ dataLimit src) :
    readAct src idx sub s = .ok ((readObject (objKey idx sub) (typeOf idx sub) s).2, false,
      (readObject (objKey idx sub) (typeOf idx sub) s).1) := by
  have suits : Op.suits .read (typeOf idx sub) = true := bne_iff_ne.mpr ht
  unfold readAct
  simp only [suits, not_lt.mpr hl, Bool.not_true, Bool.false_eq_true, if_false]

/-- A READ_RANGE of scalar elements that can all be read and that one PDU carries. -/
theorem readRangeAct_whole {src : ReqSource} {idx sub count : Nat} {s : State} (ht : (typeOf idx sub).isScalar = true)
    (hl : count * (typeOf idx sub).size.getD 1 ≤ dataLimit src)
    (he : ∀ i < count, rangeElement s idx (sub + i) (typeOf idx sub) = none) :
    readRangeAct src idx sub count s = .ok ((readElements idx (typeOf idx sub) count sub s).2, false,
      (readElements idx (typeOf idx sub) count sub s).1) := by
  have there : ((List.range count).any fun i =>
      rangeElement s idx (sub + i) (typeOf idx sub) == some (Abort.of aNoSubindex 0)) = false :=
    List.any_eq_false.mpr fun i hi => by rw [he i (List.mem_range.mp hi)]; decide
  have readable : (List.range count).findSome? (fun i => rangeElement s idx (sub + i) (typeOf idx sub)) = none :=
    List.findSome?_eq_none_iff.mpr fun i hi => he i (List.mem_range.mp hi)
  unfold readRangeAct
  simp only [there, ht, blt_of_le hl, readable, Bool.not_true, Bool.or_self, Bool.false_eq_true, if_false]

/-- A DOMAIN_READ of an object with no rule of its own for it. -/
theorem domainReadAct_piece {src : ReqSource} {idx sub offset length : Nat} {s : State} (ht : typeOf idx sub = .domain)
    (hx : objKey idx sub ≠ Obj.EXCEPTION_LOG) (hq : popQueue? (objKey idx sub) = none) :
    let n := min length (dataLimit src)
    let p := readObject (objKey idx sub) .domain s
    domainReadAct src idx sub offset length s = .ok (p.2, decide (p.1.length ≤ offset + n), slice p.1 offset n) := by
  simp [domainReadAct, ht, hx, hq]

/-! ### Pieces of a DOMAIN (R375) -/

/-- A transfer of an object that is the session's own lets its piece pass. -/
theorem ownTransfer {l : List Transfer} {key : Nat} {src : ReqSource} (h : ∀ t ∈ l, t.key = key → t.src = src) :
    ((l.find? fun t => t.key == key).map fun t => t.src != src) ≠ some true := by
  intro foreign
  obtain ⟨t, found, other⟩ := Option.map_eq_some_iff.mp foreign
  have same : t.src = src := h t (List.mem_of_find?_eq_some found) (by simpa using List.find?_some found)
  simp [same] at other

section
variable {r : Req} {idx sub : Nat} {s : State} (ht : typeOf idx sub = .domain) (hl : r.data.length ≤ dataLimit r.src)
include ht hl

/-- The first piece starts the session's transfer again. -/
theorem domainWriteAct_first (hown : ∀ t ∈ s.idp.transfers, t.key = objKey idx sub → t.src = r.src) :
    let t := closeTransfer r.src (objKey idx sub) s
    domainWriteAct r idx sub 0 false s = .ok
      ({ t with idp := { t.idp with transfers := { src := r.src, key := objKey idx sub, data := r.data } :: t.idp.transfers } },
        false, []) := by
  simp [domainWriteAct, ht, blt_of_le hl, ownTransfer hown]

/-- A piece at offset 0 with LAST is the write of the whole value. -/
theorem domainWriteAct_whole :
    domainWriteAct r idx sub 0 true s = State.writeAct r idx sub (ownWrite r.src (objKey idx sub)) s := by
  simp [domainWriteAct, ht, blt_of_le hl]

end

/-! ### Functions (R369) -/

/-- Every function state object is a U8 (R362). -/
theorem fnKeys_type : ∀ k ∈ fnKeys, (findRow k).map (fun x => x.2.ty) = some .u8 := by decide +kernel

theorem valueOf_fnKey {key : Nat} (hk : isFnKey key = true) (r : Req) (b : Bytes) :
    Safety.valueOf key (writing r b) = .int (leNat b) := by
  obtain ⟨⟨g, row⟩, found, isU8⟩ := Option.map_eq_some_iff.mp (fnKeys_type key (List.contains_iff_mem.mp hk))
  unfold Safety.valueOf
  rw [found]
  exact congrArg (fun t => t.decode b) (show row.ty = .u8 from isU8)

/-- A RUN of a function that is not RUNNING and that its checks let run. -/
theorem ownFunction_run {found : List EnumHead} {key : Nat} {r : Req} {t : State} (hk : isFnKey key = true) (hs : t.n key ≠ 1)
    (hc : fnRunCheck key (adoptStaged key t) = none) :
    let w := adoptStaged key t
    let v := resumeAtMark key true (fnRunEffect found key ((if key = Obj.FIELD_STATE then t else w).putN key 1))
    ownFunction found key (Safety.valueOf key (writing r [1])) t =
      .ok (storeFn key (if sweepFns.contains key && t.running Obj.SWEEP_STATE then withholdSettings key t v else v)) := by
  rw [valueOf_fnKey hk]
  show runFunction found key t = _
  unfold runFunction
  simp only [if_neg hs, hc]

/-- A STOP of a function that is not STOPPED and that its checks let stop. -/
theorem ownFunction_stop {found : List EnumHead} {key : Nat} {r : Req} {t : State} (hk : isFnKey key = true) (hs : t.n key ≠ 0)
    (hc : fnStopCheck key t = none) :
    ownFunction found key (Safety.valueOf key (writing r [0])) t =
      .ok (storeFn key (resumeAtMark key false (fnStopEffect key (t.putN key 0)))) := by
  rw [valueOf_fnKey hk]
  show stopFunction key t = _
  unfold stopFunction
  simp only [if_neg hs, hc]

end Sys2Proof.Machine

namespace Sys2Proof.Safety

open Sys2Proof.Machine

/-! ### The write of a whole DOMAIN -/

/-- The type of a DOMAIN by index and subindex. -/
theorem typeOf_of_isDomain {idx sub : Nat} (h : isDomain (objKey idx sub) = true) : typeOf idx sub = .domain := by
  unfold isDomain at h
  unfold typeOf
  cases hr : findRow (objKey idx sub) with
  | none => rw [hr] at h; exact absurd h (by decide)
  | some x =>
    obtain ⟨g, row⟩ := x
    exact ty_of_isDomain hr h

/-- The write of an object by its index and subindex. -/
theorem writeRequest_objKey {u : State} {r : Req} {i j : Nat} {own : Val → State → Except Abort State} (hj : j < 65536) :
    u.writeRequest r (objKey i j) own = u.request r (opOf (objKey i j)) i j (State.writeAct r i j own) := by
  show u.request r (opOf (objKey i j)) (objKey i j / 65536) (objKey i j % 65536) _ = _
  rw [objKey_div hj, objKey_mod hj]

/-- A DOMAIN_WRITE of a whole value is carried out by the object's own rules (R375). -/
theorem domainWrite_granted {u t : State} {r : Req} {i j : Nat} (hj : j < 65536) (hd : isDomain (objKey i j) = true)
    (hl : r.data.length ≤ dataLimit r.src) (ha : admitted u r (objKey i j) = true)
    (ho : ownWrite r.src (objKey i j) (valueOf (objKey i j) r) (heard u r (objKey i j)) = .ok t) :
    request (.domainWrite 0 true) i j r u = granted u r (objKey i j) t := by
  have op : opOf (objKey i j) = .domainWrite 0 true := if_pos hd
  calc request (.domainWrite 0 true) i j r u
      = u.request r (.domainWrite 0 true) i j (State.writeAct r i j (ownWrite r.src (objKey i j))) :=
        request_congr (domainWriteAct_whole (typeOf_of_isDomain hd) hl)
    _ = u.writeRequest r (objKey i j) (ownWrite r.src (objKey i j)) := by rw [writeRequest_objKey hj, op]
    _ = granted u r (objKey i j) t := writeRequest_granted ha ho

end Sys2Proof.Safety

namespace Sys2Proof.Machine

/-! ### The statements -/

/-- Settles O10: each operation passes the checks of Table 15.4, and what carries it out is reached with its guards held. -/
theorem dictionaryCommandsComplete : Obligations.DictionaryCommandsComplete := by
  refine ⟨?read, ?write, ?range, ?domainRead, ?piece, ?whole, ?push, ?keepalive, ?lapse, ?run, ?stop, ?save⟩
  case read =>
    exact fun s index sub r hi hs hc hask ht hl =>
      onPart_core (isU16_both hi hs) hc (Safety.request_answered hask (readAct_whole ht hl))
  case write =>
    exact fun s index sub r hi hs hc hd ha t ho =>
      onPart_core (isU16_both hi hs) hc (Safety.write_granted hs hd t ha ho)
  case range =>
    exact fun s index sub count r hi hs hc hask ht hl he =>
      onPart_core (isU16_both hi hs) hc (Safety.request_answered hask (readRangeAct_whole ht hl he))
  case domainRead =>
    exact fun s index sub offset length r hi hs hc hask ht hx hq =>
      onPart_core (isU16_both hi hs) hc (Safety.request_answered hask (domainReadAct_piece ht hx hq))
  case piece =>
    intro s index sub r u hi hs hc hask key ht hl hown t
    have own : ∀ x ∈ (u.touchSession r).idp.transfers, x.key = key → x.src = r.src := by
      rwa [Safety.touchSession_transfers]
    exact onPart_core (isU16_both hi hs) hc (Safety.request_answered hask (domainWriteAct_first ht hl own))
  case whole =>
    exact fun s index sub r hi hs hc hd hl _ ha t ho =>
      onPart_core (isU16_both hi hs) hc (Safety.domainWrite_granted hs hd hl ha ho)
  case push => exact fun s x ses a hc hn hses hk ha => run_core hc (request_denied hn hses hk ha)
  case keepalive => exact fun s x hc hask => run_core hc (Safety.request_answered hask rfl)
  case lapse => exact fun s index sub hi hs hc => onPart_core (isU16_both hi hs) hc rfl
  case run =>
    exact fun s index sub r found hk hc ha hs hcheck =>
      onPart_core hk hc (Safety.writeRequest_granted ha (ownFunction_run hk hs hcheck))
  case stop =>
    exact fun s index sub r hk hc ha hs hcheck =>
      onPart_core hk hc (Safety.writeRequest_granted ha (ownFunction_stop hk hs hcheck))
  case save => exact fun s r hc ha => run_core hc (Safety.writeRequest_granted ha rfl)

end Sys2Proof.Machine
end

section
/-!
SUPPORT. Proof of the statement on the network ports: what each event does where its guards hold.
-/

namespace Sys2Proof.Machine

/-! ### Sessions (R377) -/

/-- A handshake of a matching peer opens its session while fewer than eight are open. -/
theorem sessionHandshake_opens {v : State} {fp : Bytes} {via : NetFrame} {p : Nat} (hp : peerFor v fp via.addr = some p)
    (hl : v.idp.sessions.length < 8) :
    sessionHandshake fp via v =
      let t := v.modIdp fun x =>
        { x with
          sessions := x.sessions ++ [{ peer := p, role := v.n (Obj.PEER_ROLE p), seen := v.lNow, addr := via.addr }]
          ethBefore := none }
      countSessions ((t.putB (Obj.PEER_SESSION p) true).putN (Obj.PEER_LAST_SEEN p) t.pNow) := by
  unfold sessionHandshake
  rw [hp]
  exact if_neg (not_le.mpr hl)

/-- The end of an open session that holds no safety session ends its transfers with it (R375). -/
theorem endSession_open {u : State} {p : Nat} (hs : (u.session? (.udp p)).isSome = true) (hn : u.safety.session ≠ some (.udp p)) :
    endSession p u =
      let t := u.modIdp fun x =>
        { x with sessions := x.sessions.filter fun y => y.peer != p, transfers := x.transfers.filter fun t => t.src != .udp p }
      countSessions (t.putB (Obj.PEER_SESSION p) false) := by
  have isOpen : (u.session? (.udp p)).isNone = false := Option.isNone_eq_false_iff.mpr hs
  unfold endSession
  simp only [isOpen, hn, Bool.false_eq_true, if_false]

/-! ### Settings, redundancy, discovery -/

/-- No session has confirmed the settings in time (R384). -/
theorem netConfirmTimeout_unconfirmed {u : State} {old : List (Nat × Val)} (h : u.idp.ethBefore = some old) :
    netConfirmTimeout u =
      (loadSettings Obj.ETH_STATE old (u.modIdp fun x => { x with ethInForce := old, ethBefore := none })).logN 0x0A02 0x2900
        noSubject 0 0 := by
  unfold netConfirmTimeout
  rw [h]

/-- A SOLICIT in its form (Table 15.12) while discovery answers (R385). -/
theorem solicitReceived_valid {v : State} {b : Bytes} (hd : v.ethN Obj.DISCOVERY_ENABLE = 1) (hl : b.length = 80)
    (hm : b.take 4 = asciiBytes "IBDN") (h4 : fieldU b 4 1 = 1) (h5 : fieldU b 5 1 = 2) (hz : ∀ c ∈ b.drop 8, c = 0) :
    solicitReceived b v = v.modIdp fun x => { x with solicited := true } := by
  have zeros : ((b.drop 8).all fun c => c == 0) = true := List.all_eq_true.mpr fun c hc => beq_iff_eq.mpr (hz c hc)
  unfold solicitReceived
  simp only [hl, hm, h4, h5, zeros, hd]
  rfl

/-! ### Configuration from the partner (R435) -/

/-- A shared write that the standby does not hold yet and that its checks and the object's own rules accept. -/
theorem configReceived_accepted {u t : State} {index sub : Nat} {data : Bytes} {g : ObjGroup} {row : ObjRow}
    (hb : u.standby = true) (hr : findRow (objKey index sub) = some (g, row)) (hshared : row.shared index = true)
    (hnew : row.access ≠ .rws ∨ u.shown (objKey index sub) ≠ row.ty.decode data)
    (hcheck : ({ restForConfig g row index u with idp := { (restForConfig g row index u).idp with transfers := [] } }.putN
      Obj.PAIR_ROLE 0).checkValue { src := .program, tag := 0, data } g row index sub data = none)
    (hown : ownWrite .program (objKey index sub) (row.ty.decode data) (restForConfig g row index u) = .ok t) :
    configReceived index sub data u = t := by
  have differs : ¬(row.access = .rws ∧ u.shown (objKey index sub) = row.ty.decode data) :=
    fun ⟨rws, held⟩ => hnew.elim (· rws) (· held)
  unfold configReceived
  simp only [hb, hr, hshared, if_neg differs, hcheck, hown, Bool.not_true, Bool.false_eq_true, if_false]

/-! ### The statement -/

/-- Settles O11: the guards of each event hold, and its peer, object or port is there. The rest of a RUNNING function of the
standby is log entry 192. -/
theorem networkCommandsComplete : Obligations.NetworkCommandsComplete := by
  refine ⟨?handshake, ?idle, ?confirm, ?supervision, ?solicit, ?announce, ?config, ?link⟩
  case handshake =>
    exact fun s fp via p hc hn hp hl => run_core hc ((viaNet_passes _ hn).trans (sessionHandshake_opens hp hl))
  case idle => exact fun s p hp hc hs hn => onPart_core (blt_of_lt hp) hc (endSession_open hs hn)
  case confirm => exact fun s old hc h => run_core hc (netConfirmTimeout_unconfirmed h)
  case supervision => exact fun s hc hm => run_core hc (if_neg hm)
  case solicit =>
    exact fun s via b hc hn hd hl hm h4 h5 hz =>
      run_core hc ((viaNet_passes _ hn).trans (solicitReceived_valid hd hl hm h4 h5 hz))
  case announce => exact fun s hc hd => run_core hc (if_neg hd)
  case config =>
    exact fun s index sub data g row hi hs hc hb hr hshared hnew hcheck t hown =>
      onPart_core (isU16_both hi hs) hc (configReceived_accepted hb hr hshared hnew hcheck hown)
  case link => exact fun s port up hp hc => onPart_core (blt_of_lt hp) hc rfl

end Sys2Proof.Machine
end

section
/-!
SUPPORT. Proofs of the statements on what commands leave: each object through the shared updates, through a request that rows 1 to 7
of Table 15.4 refuse, and through commands that change named objects only.
-/

namespace Sys2Proof.Safety

open Sys2Proof.Machine

/-! ### One object through the shared updates -/

/-- An object with the part, which gives its default: what a command must leave for its end to leave the object. -/
def objectView (k : Nat) (s : State) : AsBuilt × Val := (s.asBuilt, s.v k)

section
variable {k : Nat}

theorem objectView_ite {p : Prop} [Decidable p] {s t u : State} (hs : objectView k s = objectView k u)
    (ht : objectView k t = objectView k u) : objectView k (if p then s else t) = objectView k u := by
  split <;> assumption

theorem objectView_of_unsettled {s t : State} (h : unsettled s = unsettled t) (hk : settledKey k = false) :
    objectView k s = objectView k t := Prod.ext (unsettled_asBuilt h) (v_of_unsettled h hk)

theorem objectView_logN (hk : settledKey k = false) (s : State) (c r u a b : Nat) :
    objectView k (s.logN c r u a b) = objectView k s := objectView_of_unsettled (unsettled_logN s c r u a b) hk

theorem objectView_began (s : State) : objectView k (began s) = objectView k s := Prod.ext (began_asBuilt s) (began_v s k)

theorem objectView_core {f : State → State} {u : State} (h : objectView k (f u) = objectView k u) :
    objectView k (Machine.core f u) = objectView k u := objectView_ite h rfl

theorem objectView_carrier {f : State → State} {u : State} (h : objectView k (f u) = objectView k u) :
    objectView k (carrier f u) = objectView k u := objectView_ite h rfl

@[simp] theorem objectView_emit (s : State) (o : Output) : objectView k (s.emit o) = objectView k s := rfl
@[simp] theorem objectView_modDuo (s : State) (f : DuoSt → DuoSt) : objectView k (s.modDuo f) = objectView k s := rfl
@[simp] theorem objectView_modProg (s : State) (f : ProgSt → ProgSt) : objectView k (s.modProg f) = objectView k s := rfl

theorem objectView_putSession (s : State) (src : ReqSource) (f : Session → Session) :
    objectView k (s.putSession src f) = objectView k s := by cases src <;> rfl

section
variable {j : Nat} (h : k ≠ j)
include h

theorem objectView_put (s : State) (v : Val) : objectView k (s.put j v) = objectView k s :=
  Prod.ext rfl (State.v_put_of_ne h)
theorem objectView_putN (s : State) (n : Nat) : objectView k (s.putN j n) = objectView k s := objectView_put h s _
theorem objectView_putB (s : State) (b : Bool) : objectView k (s.putB j b) = objectView k s := objectView_put h s _
theorem objectView_inc (s : State) : objectView k (s.inc j) = objectView k s :=
  Prod.ext (asBuilt_incW s 32 j) (v_incW_ne h)

end

/-! ### The end of a command -/

/-- An object that a command's effect leaves, the command leaves, unless settling writes it. -/
theorem v_finish_began {s e : State} (hk : settledKey k = false) (h : objectView k e = objectView k (began s)) :
    (finish s e).v k = s.v k := by
  obtain ⟨part, value⟩ := Prod.ext_iff.mp (h.trans (objectView_began s))
  exact (v_finish part hk).trans value

theorem v_run {f : State → State} {s t : State} (ht : run f s = .next t) (hk : settledKey k = false)
    (hf : objectView k (f (began s)) = objectView k (began s)) : t.v k = s.v k := by
  rw [run_finishes ht]; exact v_finish_began hk hf

theorem v_onPart {ok : Bool} {f : State → State} {s t : State} (ht : onPart ok f s = .next t) (hk : settledKey k = false)
    (hf : objectView k (f (began s)) = objectView k (began s)) : t.v k = s.v k := by
  rw [(onPart_finishes ht).2]; exact v_finish_began hk hf

/-! ### A refused request (R365, R371) -/

/-- A frame that passes changes no object but WRONG_LAN (R382). -/
theorem objectView_netPass {v : NetFrame} {s : State} (hn : (netPass v s).1 = true) (hl : k ≠ Obj.WRONG_LAN) :
    objectView k (netPass v s).2 = objectView k s := by
  unfold netPass at hn ⊢
  simp only at hn ⊢
  split at hn
  case isTrue direct => rw [if_pos direct]
  case isFalse redundant =>
    rw [if_neg redundant]
    split at hn
    · exact absurd hn Bool.false_ne_true
    · rename_i fresh
      rw [if_neg fresh]
      exact objectView_ite (objectView_inc hl s) rfl

theorem objectView_netIn {s : State} {r : Req} (hn : (s.netIn r).1 = true) (hl : k ≠ Obj.WRONG_LAN) :
    objectView k (s.netIn r).2 = objectView k s := by
  unfold State.netIn at hn ⊢
  split at hn
  · exact objectView_netPass hn hl
  · rfl

/-- The arrival of a request that is no duplicate changes no object but WRONG_LAN and its peer's stamp (R377, R382). -/
theorem objectView_touchSession {s : State} {r : Req} (hn : (s.netIn r).1 = true) (hl : k ≠ Obj.WRONG_LAN)
    (hp : ∀ p, r.src = .udp p → k ≠ Obj.PEER_LAST_SEEN p) : objectView k (s.touchSession r) = objectView k s := by
  unfold State.touchSession
  simp only
  split
  · rename_i p hsrc
    rw [objectView_putN (hp p hsrc), objectView_putSession, objectView_netIn hn hl]
  · exact objectView_netIn hn hl

/-- An answer changes no object but those that record an abort (R371). -/
theorem objectView_answer {s : State} {r : Req} {op : Op} {idx sub abort : Nat} {last : Bool} {data : Bytes}
    (hl : k ≠ Obj.ABORT_LAST) (hi : k ≠ Obj.ABORTS_ISSUED) :
    objectView k (s.answer r op idx sub abort last data) = objectView k s := by
  unfold State.answer
  rw [objectView_emit, objectView_putSession]
  exact objectView_ite rfl ((objectView_inc hi _).trans (objectView_putN hl s abort))

end

/-- The response of an answer leaves (R371). -/
theorem answer_out (s : State) (r : Req) (op : Op) (idx sub abort : Nat) (last : Bool) (data : Bytes) :
    Output.response r.src { tag := r.tag, op := (r.op.map (· % 128)).getD op.code, index := idx, sub, abort
                            offset := op.offset, count := op.count, last, data } ∈ (s.answer r op idx sub abort last data).out :=
  List.mem_append_right _ (List.mem_singleton.mpr rfl)

/-- Settles O32: the checks of rows 1 to 7 come before anything that an operation does, and their abort is bare. -/
theorem refusedWriteHasNoEffect : Obligations.RefusedWriteHasNoEffect := by
  intro s index sub r ses a u hi hs hc hn hses hk ha
  obtain ⟨-, noData, answered⟩ := request_denied_answer (act := genericWriteAct r index sub) hn hses hk ha
  refine ⟨_, onPart_core (isU16_both hi hs) hc answered, ?abort, ?response, fun k settled hlast hissued hlan hpeer => ?frame⟩
  case abort => rw [← answered]; exact request_denied_abortLast hn hses hk ha
  case response => rw [finish_out, noData]; exact answer_out ..
  case frame =>
    exact v_finish_began settled ((objectView_answer hlast hissued).trans (objectView_touchSession hn hlan hpeer))

/-! ### Commands that change named objects only -/

section
variable {k : Nat} {u : State}

theorem linkChange_object (h : k ≠ Obj.LINK_STATE) (port : Nat) (up : Bool) :
    objectView k (linkChange port up u) = objectView k u := objectView_ite (objectView_putN h u _) rfl

theorem piTimeout_object {n : Nat} (h : k ≠ Obj.PI_STATUS n) : objectView k (piTimeout n u) = objectView k u :=
  objectView_putN h (u.setPi n { gateL := u.lNow }) _

theorem ciFault_object {n : Nat} (h : k ≠ Obj.CI_FAULT n) : objectView k (ciFault n u) = objectView k u :=
  objectView_putB h u true

theorem brownoutCleared_object (h : k ≠ Obj.BROWNOUT) : objectView k (brownoutCleared u) = objectView k u :=
  objectView_ite rfl (objectView_putB h u false)

theorem xtalTest_object (h : k ≠ Obj.XTAL_RECOVERED) (ready : Bool) : objectView k (xtalTest ready u) = objectView k u :=
  objectView_ite (objectView_putB h u true) rfl

theorem proofDue_object {n : Nat} (h : k ≠ Obj.PROOF_STATE n) : objectView k (proofDue n u) = objectView k u :=
  objectView_ite (objectView_putN h u 1) rfl

theorem protocolException_object {n : Nat} (h : k ≠ Obj.PROTOCOL_EXCEPTIONS n) :
    objectView k (protocolException n u) = objectView k u := objectView_ite rfl (objectView_inc h u)

theorem busoffRecovery_object {n : Nat} (hs : k ≠ Obj.CAN_ERROR_STATE n) (hc : k ≠ Obj.CAN_ERROR_COUNTERS n) :
    objectView k (busoffRecovery n u) = objectView k u :=
  objectView_ite rfl ((objectView_putN hc _ 0).trans (objectView_putN hs u 0))

theorem detectTimeout_object {n : Nat} (hs : k ≠ Obj.CAN_STATE n) (hf : k ≠ Obj.DETECT_FAILED n) :
    objectView k (detectTimeout n u) = objectView k u :=
  objectView_ite rfl ((objectView_putB hf _ true).trans (objectView_putN hs u 2))

theorem kgPathTrip_object (h : k ≠ Obj.KG_SUPPLY_OK) (g : Nat) : objectView k (kgPathTrip g u) = objectView k u :=
  objectView_putN h (u.modField fun x => { x with tripped := amSet x.tripped g 0 }) _

theorem swapSkip_object (h : k ≠ Obj.SWAPS_SKIPPED) : objectView k (swapSkip u) = objectView k u :=
  objectView_ite rfl (objectView_inc h u)

theorem throttleStart_object (h : k ≠ Obj.THROTTLE_EVENTS) : objectView k (throttleStart u) = objectView k u :=
  objectView_ite rfl (objectView_inc h u)

/-- A host checkpoint that is armed stands in custody's own state (R204). -/
theorem armHost_object (expired : Bool) (u : State) : objectView k (armHost expired u) = objectView k u :=
  objectView_ite rfl (objectView_ite rfl rfl)

/-- Link loss shows itself in the objects of the link and its synchronisation alone; a wait for ROLE_IN or a takeover to come stands
in the pair's own state (R431, R433, R440). -/
theorem linkLoss_object (hk : settledKey k = false) (hl : k ≠ Obj.PAIR_LINK_UP) (hs : k ≠ Obj.PAIR_SYNC)
    (hb : k ≠ Obj.SYNC_BLOCK) (u : State) : objectView k (linkLoss u) = objectView k u := by
  have lost : objectView k (armHost false (((u.putB Obj.PAIR_LINK_UP false).putN Obj.PAIR_SYNC 0).putN Obj.SYNC_BLOCK 1)) =
      objectView k u := by
    rw [armHost_object, objectView_putN hb, objectView_putN hs, objectView_putB hl]
  unfold linkLoss
  simp only
  refine objectView_ite ?standsAlone (objectView_ite ?waits (objectView_ite ?logs ?takesOver)) <;>
    simp only [objectView_modDuo, objectView_modProg, objectView_logN hk, lost]

theorem heartbeatMiss_object (hk : settledKey k = false) (hm : k ≠ Obj.HEARTBEATS_MISSED) (hl : k ≠ Obj.PAIR_LINK_UP)
    (hs : k ≠ Obj.PAIR_SYNC) (hb : k ≠ Obj.SYNC_BLOCK) : objectView k (heartbeatMiss u) = objectView k u :=
  objectView_ite rfl (objectView_ite ((linkLoss_object hk hl hs hb _).trans (objectView_inc hm u)) (objectView_inc hm u))

end

/-- Settles O45: each command's effect leaves every other object, and so does its end but for those that settling writes. -/
theorem commandsThatChangeNamedObjects : Obligations.CommandsThatChangeNamedObjects := by
  intro s t n up
  simp only [List.forall_mem_cons]
  simp only [List.mem_cons, List.not_mem_nil, or_false, not_or, IsEmpty.forall_iff, implies_true, and_true]
  refine ⟨?link, ?pi, ?fault, ?clear, ?brownout, ?xtal, ?proof, ?exception, ?recovery, ?detect, ?path, ?heartbeat, ?skip,
    ?throttle⟩
  case link => exact fun h k hk hn => v_onPart h hk (objectView_core (linkChange_object hn n up))
  case pi => exact fun h k hk hn => v_onPart h hk (objectView_carrier (piTimeout_object hn))
  case fault => exact fun h k hk hn => v_onPart h hk (objectView_core (ciFault_object hn))
  case clear => exact fun h k hk hn => v_onPart h hk (objectView_core (objectView_putB hn _ false))
  case brownout => exact fun h k hk hn => v_run h hk (objectView_carrier (brownoutCleared_object hn))
  case xtal => exact fun h k hk hn => v_run h hk (objectView_core (xtalTest_object hn up))
  case proof => exact fun h k hk hn => v_onPart h hk (objectView_carrier (proofDue_object hn))
  case exception => exact fun h k hk hn => v_onPart h hk (objectView_core (protocolException_object hn))
  case recovery => exact fun h k hk ⟨hs, hc⟩ => v_onPart h hk (objectView_core (busoffRecovery_object hs hc))
  case detect =>
    exact fun h k hk ⟨hs, hf⟩ => v_onPart h hk (objectView_core (detectTimeout_object hs hf))
  case path => exact fun h k hk hn => v_onPart h hk (objectView_carrier (kgPathTrip_object hn n))
  case heartbeat =>
    exact fun h k hk ⟨hm, hl, hs, hb⟩ => v_run h hk (objectView_core (heartbeatMiss_object hk hm hl hs hb))
  case skip => exact fun h k hk hn => v_run h hk (objectView_core (swapSkip_object hn))
  case throttle => exact fun h k hk hn => v_run h hk (objectView_core (throttleStart_object hn))

end Sys2Proof.Safety
end

section
/-!
SUPPORT. Proofs of the statements on a step, on the beginning of a command and on its end.
-/

namespace Sys2Proof.Machine

/-- Settles O20: `step` takes the queue's front apart. -/
theorem stepRunsTheFrontCommand : Obligations.StepRunsTheFrontCommand := by
  intro s c rest h
  unfold step
  rw [h]

/-- What a command's beginning notes of the burst window leaves the field side and the controllers. -/
@[simp] theorem began_field (s : State) : (began s).field = s.field := field_watchWindow s.cleared
@[simp] theorem began_safety (s : State) : (began s).safety = s.safety := by unfold began watchWindow; split <;> rfl

/-- Settles O23: the beginning clears what was put out and notes what the burst window sees. -/
theorem commandBegins : Obligations.CommandBegins := fun s =>
  ⟨began_out s, began_v s, began_pending s, began_asBuilt s, began_pow s, began_field s, began_safety s⟩

end Sys2Proof.Machine

namespace Sys2Proof.Safety

open Sys2Proof.Machine

/-- Settles O24: settling leaves what `unsettled` keeps and puts nothing out (log entry 5). -/
theorem commandEnds : Obligations.CommandEnds := fun s t =>
  ⟨unsettled_finish s t, finish_out s t, fun part _ apart => v_finish part apart⟩

end Sys2Proof.Safety
end

section
/-!
SUPPORT. Proof of the statement on the control program: when a scan takes place, what the objects' own rules do with a write that
they do not refuse, what a SNAPSHOT carries over.
-/

namespace Sys2Proof.Machine

/-! ### Scans (R393, R394) -/

/-- The program of a module that is not STANDBY scans while it runs, waits for no snapshot and is not held. -/
theorem scans_running {u : State} (hr : u.running Obj.PROG_STATE = true) (hs : u.standby = false) (hw : u.prog.waits = false)
    (hh : u.b Obj.PROG_HELD = false ∨ u.prog.stepDue = true) : u.scans = true := by
  rcases hh with held | stepDue
  · simp [State.scans, hr, hs, hw, held]
  · simp [State.scans, hr, hs, hw, stepDue]

/-! ### Writes of the program's objects (R397 to R404) -/

/-- A value that fits a variable which no force holds waits for the next scan (R397). -/
theorem ownVarValue_fits {n : Nat} {v : Val} {t : State} (hf : t.prog.frozen = false) (hr : t.running Obj.PROG_STATE = true)
    (hk : (imSymbol t.image n).kind = 0 ∨ (imSymbol t.image n).kind = 1) (he : (imSymbol t.image n).elementary = true)
    (hl : v.toBytes.length = (imSymbol t.image n).size) (hn : (t.forces.any fun f => f.2.1 == n) = false) :
    ownVarValue n v t = .ok (t.modProg fun p => { p with online := amSet p.online n v.toBytes }) := by
  have unforced : (t.forces.find? fun f => f.2.1 == n) = none :=
    List.find?_eq_none.mpr fun f hf => Bool.not_eq_true _ ▸ List.any_eq_false.mp hn f hf
  have fits : (!((imSymbol t.image n).kind == 0 || (imSymbol t.image n).kind == 1) || !(imSymbol t.image n).elementary ||
      v.toBytes.length != (imSymbol t.image n).size) = false := by
    rcases hk with hk | hk <;> simp [hk, he, hl]
  unfold ownVarValue
  simp only [hf, hr, fits, unforced, Bool.not_true, Bool.false_eq_true, if_false]

/-- A force of a variable that no other entry forces is set in debug model FORCE (R400). -/
theorem ownForceEntry_sets {e : Nat} {v : Val} {t : State} (hf : t.prog.frozen = false) (hd : v.toBytes ≠ [])
    (hr : t.running Obj.PROG_STATE = true) (hb : t.b Obj.PROG_DEBUG = true) (hm : t.n Obj.DEBUG_MODEL = 1)
    (hfit : forceFits t.image v.toBytes = true) (hn : (t.forces.any fun x => x.1 != e && x.2.1 == fieldU v.toBytes 0 2) = false) :
    ownForceEntry e v t = .ok (setForce e v.toBytes t) := by
  have nonempty : v.toBytes.isEmpty = false := List.isEmpty_eq_false_iff.mpr hd
  unfold ownForceEntry
  simp only [hf, nonempty, hr, hb, hm, hfit, hn, Bool.not_true, Bool.false_eq_true, if_false, bne_self_eq_false, Bool.or_self]

/-- An empty write removes a force (R400). -/
theorem ownForceEntry_removes {e : Nat} {v : Val} {t : State} (hf : t.prog.frozen = false) (hd : v.toBytes = []) :
    ownForceEntry e v t = .ok (removeForce e t) := by
  unfold ownForceEntry
  simp only [hf, hd, List.isEmpty_nil, Bool.false_eq_true, if_false, if_true]

/-- The value that the bytes of a command's row give an object of a type (R361). -/
theorem valueOf_writing {key : Nat} {ty : Ty} (h : (findRow key).map (fun x => x.2.ty) = some ty) (r : Req) (b : Bytes) :
    Safety.valueOf key (writing r b) = ty.decode b := by
  obtain ⟨⟨g, row⟩, found, isTy⟩ := Option.map_eq_some_iff.mp h
  unfold Safety.valueOf
  rw [found]
  exact congrArg (fun t => t.decode b) isTy

theorem progDebug_type : (findRow Obj.PROG_DEBUG).map (fun x => x.2.ty) = some .bool := by decide +kernel

/-- Debug ends where no force remains (R399, R401). -/
theorem ownProgDebug_leaves {v : Val} {t : State} (hv : v.toNat = 0) (hf : t.n Obj.FORCE_COUNT = 0) :
    ownProgDebug v t = .ok ((resumeClock t).putB Obj.PROG_DEBUG false) := (if_pos hv).trans (if_pos hf)

/-- An image that passes the checks of R392 is staged on a standby (R403). -/
theorem ownProgramStaged_checked {v : Val} {t : State} (hs : t.standby = true) (hb : v.toBytes ≠ [])
    (hok : imageOk t v.toBytes = true) :
    ownProgramStaged v t = .ok ((t.putBytes Obj.PROGRAM_STAGED v.toBytes).putN Obj.STAGED_CRC (fieldU v.toBytes 4 4)) := by
  have nonempty : v.toBytes.isEmpty = false := List.isEmpty_eq_false_iff.mpr hb
  unfold ownProgramStaged
  simp only [hs, nonempty, hok, Bool.not_true, Bool.false_eq_true, if_false]

/-- An exchange that nothing refuses is armed (R404). -/
theorem ownExchangeRequest_armed {staged : Bytes} (v : Val) {t : State} (ha : t.pairActive = true) (hs : t.n Obj.PAIR_SYNC = 2)
    (hok : imageOk t staged = true) (hh : t.b Obj.PROG_HELD = false) (hf : t.forces = [])
    (hl : loopConflict t (imDos staged) = none) :
    ownExchangeRequest staged v t =
      .ok (makeDue 3 ((t.putN Obj.EXCHANGE_STATE 1).modProg fun p => { p with armedL := t.lNow })) := by
  have allowed : exchangeRefusal t staged = none := by
    unfold exchangeRefusal
    simp only [ha, hs, hok, hh, hf, hl, Bool.not_true, bne_self_eq_false, Bool.or_self, Bool.false_eq_true, if_false, List.find?_nil]
  unfold ownExchangeRequest
  rw [allowed]

/-! ### The statement -/

/-- Settles O12: the guards of each event hold, and the object's own rules carry out each write. A step and an entry into debug
outside their state leave it (log entry 79); the values last written that a snapshot gives its image are log entry 187. -/
theorem programCommandsComplete : Obligations.ProgramCommandsComplete := by
  refine ⟨?scan, ?watchdog, ?value, ?force, ?unforce, ?enter, ?leave, ?step, ?staged, ?exchange, ?timeout, ?snapshot⟩
  case scan =>
    exact fun s micros x hc hr hs hw hh => run_core hc (if_neg (by rw [scans_running hr hs hw hh]; decide))
  case watchdog => exact fun s hc hr hs hw hh => run_core hc (if_neg (by rw [scans_running hr hs hw hh]; decide))
  case value =>
    exact fun s n r hn hc had hf hr hk he hl hforce =>
      onPart_core (isU16_of_lt hn) hc (Safety.writeRequest_granted had (ownVarValue_fits hf hr hk he hl hforce))
  case force =>
    exact fun s e r he hc had hf hd hr hb hm hfit hother =>
      onPart_core (isU16_of_lt he) hc (Safety.writeRequest_granted had (ownForceEntry_sets hf hd hr hb hm hfit hother))
  case unforce =>
    exact fun s e r he hc had hf hd =>
      onPart_core (isU16_of_lt he) hc (Safety.writeRequest_granted had (ownForceEntry_removes hf hd))
  case enter =>
    intro s r u hc had
    have written := valueOf_writing progDebug_type r [1]
    exact run_core hc (Safety.writeRequest_granted had (if_neg (by rw [written]; decide)))
  case leave =>
    intro s r u hc had t hf
    have written := valueOf_writing progDebug_type r [0]
    exact run_core hc (Safety.writeRequest_granted had (ownProgDebug_leaves (congrArg Val.toNat written) hf))
  case step => exact fun s r hc had => run_core hc (Safety.writeRequest_granted had rfl)
  case staged =>
    exact fun s r hc had hs hb hok => run_core hc (Safety.writeRequest_granted had (ownProgramStaged_checked hs hb hok))
  case exchange =>
    exact fun s r staged hc had ha hs hok hh hf hl =>
      run_core hc (Safety.writeRequest_granted had (ownExchangeRequest_armed _ ha hs hok hh hf hl))
  case timeout => exact fun s hc he hm => run_core hc (if_neg (by simp [he, hm]))
  case snapshot =>
    intro s x u hc hp hrole hr hk t
    have taken : ¬ (!u.paired || !(u.pairActive || u.standby) || !u.running Obj.PROG_STATE) = true := by
      rcases hrole with h | h <;> simp [hp, h, hr]
    have sameImage : (u.n Obj.LAST_CHANGE_KIND == 3 && !(u.bytes Obj.PROGRAM_STAGED).isEmpty) = false := by
      rw [beq_false_of_ne hk, Bool.false_and]
    have received : snapshotReceived x u = t := by
      unfold snapshotReceived
      rw [if_neg taken]
      simp only [sameImage, Bool.false_eq_true, false_and, if_false]
      rfl
    refine run_core hc ?_
    unfold snapshotEvent
    rw [received]

end Sys2Proof.Machine
end

section
/-!
SUPPORT. Proof of the statement on the field side: what the gate of a pulse input measures, what a window of group currents gives.
-/

namespace Sys2Proof.Machine

/-! ### Pulse inputs (R421) -/

/-- A gate that has seen rising edges from `first` to `last` gives frequency and duty over the time between them. -/
theorem piMeasure_edges {first last : Nat} (mid falls : List Nat) (h : first < last) :
    piMeasure (first :: mid ++ [last]) falls = some
      ((((first :: mid ++ [last]).length : Rat) - 1) * 1000000000 / ((last : Rat) - first),
        100 * (piHigh falls (first :: mid ++ [last]) : Rat) / ((last : Rat) - first)) := by
  unfold piMeasure
  rw [List.getLast?_concat]
  exact if_neg (not_le.mpr h)

/-- What a gate of PI `n` measures outside DEGRADED_CLOCK where its edges go from `first` to `last`. -/
theorem piResult_edges {n first last : Nat} {mid rises falls : List Nat} {u : State} (hd : u.degraded = false)
    (he : (piEdges n rises falls u).rises = first :: mid ++ [last]) (h : first < last) :
    piResult n rises falls u = some
      ((((first :: mid ++ [last]).length : Rat) - 1) * 1000000000 / ((last : Rat) - first),
        100 * (piHigh (piEdges n rises falls u).falls (first :: mid ++ [last]) : Rat) / ((last : Rat) - first)) := by
  unfold piResult
  rw [if_neg (Bool.eq_false_iff.mp hd)]
  simp only
  rw [he, piMeasure_edges mid _ h]

/-- A gate whose measurement is within 110 kHz publishes it, with the command that it may carry. -/
theorem gateEvent_measured {n : Nat} {rises falls : List Nat} {hz duty : Rat} {u : State} (hd : u.degraded = false)
    (hm : piResult n rises falls u = some (hz, duty)) (hhz : hz ≤ 110000) :
    gateEvent n rises falls u = piCommand n
      ((((u.setPi n { gateL := u.lNow }).putN (Obj.PI_STATUS n) 0).putQ (Obj.PI_FREQ n) hz).putQ (Obj.PI_DUTY n) duty) := by
  have published : piGateEnd n rises falls u = piPublish n hz duty (u.setPi n { gateL := u.lNow }) := by
    unfold piGateEnd
    rw [if_neg (Bool.eq_false_iff.mp hd), hm]
  unfold gateEvent
  rw [published, hm]
  exact congrArg (piCommand n) (if_neg (not_lt.mpr hhz))

/-! ### Group currents (R415) -/

/-- The means of a window that a last measurement closes (log entry 190). -/
theorem kgMeans_kgMeasure (last : List Rat) (u : State) :
    kgMeans (kgMeasure last u) =
      (List.range 6).map fun g => (nth u.field.kgSum g 0 + nth last g 0) / ((u.field.kgCount : Rat) + 1) := by
  refine List.map_congr_left fun g hg => ?_
  have within : g < 6 := List.mem_range.mp hg
  have sum : nth (kgMeasure last u).field.kgSum g 0 = nth u.field.kgSum g 0 + nth last g 0 := by
    simp [nth, kgMeasure, State.modField, within]
  have count : ((kgMeasure last u).field.kgCount : Rat) = (u.field.kgCount : Rat) + 1 := Nat.cast_succ _
  rw [sum, count]

/-! ### The statement -/

/-- Settles O13: the guards of each event hold, and its input, output or group is there. The places of groups that do not exist
are log entry 115, the gate that follows a PI_TIMEOUT log entry 191. -/
theorem fieldCommandsComplete : Obligations.FieldCommandsComplete := by
  refine ⟨?cycle, ?restart, ?supplyFault, ?reset, ?release, ?input, ?analog, ?gate, ?noEdges, ?window, ?clamp, ?overtemp, ?path⟩
  case cycle => exact fun s x hc hp => run_next (if_neg (by rw [hc, hp]; decide))
  case restart => exact fun s x hc => run_carrier hc rfl
  case supplyFault => exact fun s hc => run_carrier hc rfl
  case reset => exact fun s hp => run_next (if_pos hp)
  case release => exact fun s r hc had => run_core hc (Safety.writeRequest_granted had rfl)
  case input => exact fun s n level hn hc => onPart_carrier (blt_of_lt hn) hc rfl
  case analog =>
    exact fun s n hn hc _ hs => onPart_carrier (blt_of_lt hn) hc (congrArg (core aiCommand) (if_pos hs))
  case gate =>
    intro s n first last mid rises falls u hn hc hd hcore he hlt span hz high g hhz
    exact onPart_carrier (blt_of_lt hn) hc ((if_pos hcore).trans (gateEvent_measured hd (piResult_edges hd he hlt) hhz))
  case noEdges => exact fun s n hn hc => onPart_carrier (blt_of_lt hn) hc rfl
  case window =>
    intro s last u hc means
    refine run_carrier hc ?_
    unfold kgWindowEnd
    simp only [kgMeans_kgMeasure]
    rfl
  case clamp => exact fun s m current time hm hc => onPart_carrier (blt_of_lt hm) hc rfl
  case overtemp => exact fun s n hn hc hp => onPart_carrier (blt_of_lt hn) hc (if_pos hp)
  case path => exact fun s g hg hc => onPart_carrier (blt_of_lt hg) hc rfl

end Sys2Proof.Machine
end

section
/-!
SUPPORT. Proofs of the statements on the pair: what messages between its partners do where their guards hold, and what the events
that move its roles do.
-/

namespace Sys2Proof.Machine

/-! ### Roles -/

/-- The active module of a pair is not its STANDBY. -/
theorem active_not_standby {u : State} (h : u.pairActive = true) : u.standby = false := by
  have role : u.n Obj.PAIR_ROLE = 1 := beq_iff_eq.mp h
  simp [State.standby, role]

theorem standby_not_active {u : State} (h : u.standby = true) : u.pairActive = false := by
  have role : u.n Obj.PAIR_ROLE = 2 := beq_iff_eq.mp h
  simp [State.pairActive, role]

/-- A swap that falls due leaves the role. -/
theorem makeDue_standby (kind : Nat) (u : State) : (makeDue kind u).standby = u.standby := by
  unfold makeDue; split <;> rfl

theorem makeDue_active {u : State} (kind : Nat) (h : u.pairActive = true) :
    makeDue kind u = u.modDuo fun d => { d with due := some (kind, u.lNow), swapMark := none, snapSent := false, waive := kind == 4 } :=
  if_neg (by rw [h]; decide)

/-! ### Heartbeats (R430, R431, R450) -/

/-- What a heartbeat notes of the link and the partner, before anything is judged (R430). -/
def heartbeatNoted (h : Heartbeat) (u : State) : State :=
  let t := (u.putB Obj.PAIR_LINK_UP true).putN Obj.PARTNER_SERIAL h.serial
  t.modDuo fun d => { d with hb := some h, hbL := t.lNow, misses := 0, splitWait := false }

theorem heartbeatNoted_role (h : Heartbeat) (u : State) : (heartbeatNoted h u).n Obj.PAIR_ROLE = u.n Obj.PAIR_ROLE := by
  have other : Obj.PAIR_ROLE ≠ Obj.PARTNER_SERIAL := by decide
  have link : Obj.PAIR_ROLE ≠ Obj.PAIR_LINK_UP := by decide
  unfold heartbeatNoted
  simp only
  rw [State.modDuo_n, State.n_putN_of_ne other, State.n, State.v_putB, if_neg link, ← State.n]

theorem heartbeatNoted_standby (h : Heartbeat) (u : State) : (heartbeatNoted h u).standby = u.standby :=
  congrArg (· == 2) (heartbeatNoted_role h u)
theorem heartbeatNoted_pairActive (h : Heartbeat) (u : State) : (heartbeatNoted h u).pairActive = u.pairActive :=
  congrArg (· == 1) (heartbeatNoted_role h u)

/-- The swap that a standby partner asks for in its heartbeat falls due (R446, log entry 176). -/
def swapTaken (h : Heartbeat) (u : State) : State :=
  if u.pairActive && h.role == 2 && h.swap.isSome && u.duo.due.isNone then makeDue 2 u else u

/-- The heads of BRIDGE chains that the partner reports silent are restored, but by the standby. -/
def headsRestored (h : Heartbeat) (u : State) : State :=
  if u.standby then u
  else u.forAll (h.restored.filter fun i => u.n (Obj.HEAD_SHAPE i) == shapeBridge) fun i t =>
    t.modHead i fun x => { x with restored := true }

/-- What a heartbeat of a partner that is not active leaves before a welcome or a takeover. -/
def heartbeatTaken (h : Heartbeat) (u : State) : State :=
  armHost false (evaluateSync h (headsRestored h (swapTaken h (heartbeatNoted h u))))

theorem swapTaken_active {h : Heartbeat} {u : State} (ha : u.pairActive = true) (h2 : (h.role == 2) = true) :
    swapTaken h u = if h.swap.isSome && u.duo.due.isNone then makeDue 2 u else u := by
  unfold swapTaken
  rw [ha, h2, Bool.true_and, Bool.true_and]

theorem swapTaken_standby {h : Heartbeat} {u : State} (hs : u.standby = true) : swapTaken h u = u :=
  if_neg (by simp [standby_not_active hs])

theorem swapTaken_role (h : Heartbeat) (u : State) : (swapTaken h u).standby = u.standby := by
  unfold swapTaken
  split
  · exact makeDue_standby 2 u
  · rfl

section
variable {h : Heartbeat} {u : State} (hp : u.paired = true) (h1 : h.role ≠ 1)
include hp h1

theorem heartbeatReceived_paired :
    heartbeatReceived h u =
      let z := heartbeatTaken h u
      if partnerReturned h u then welcomePartner z
      else if !u.b Obj.PAIR_LINK_UP && z.standby then offerRestore z
      else if u.duo.misses != 0 && z.standby && z.n Obj.PAIR_SYNC == 2 && !z.b Obj.ROLE_IN_STATE && z.duo.takeover.isNone then
        takeoverDue z
      else z := by
  unfold heartbeatReceived
  rw [if_neg (show ¬ (!u.paired) = true by rw [hp]; decide)]
  simp only [if_neg h1]
  rfl

/-- The active module hears a partner that has returned: it takes the swap that the heartbeat asks for, restores what the heads
report, and welcomes it (R446, R450). -/
theorem heartbeatReceived_returned (hr : partnerReturned h u = true) :
    heartbeatReceived h u =
      let w := heartbeatNoted h u
      let v := if h.swap.isSome && w.duo.due.isNone then makeDue 2 w else w
      welcomePartner (armHost false (evaluateSync h
        (v.forAll (h.restored.filter fun i => v.n (Obj.HEAD_SHAPE i) == shapeBridge) fun i x =>
          x.modHead i fun y => { y with restored := true }))) := by
  obtain ⟨⟨ha, h2⟩, -⟩ : (u.pairActive = true ∧ (h.role == 2) = true) ∧ _ := by
    simpa only [partnerReturned, Bool.and_eq_true] using hr
  have active : (heartbeatNoted h u).pairActive = true := (heartbeatNoted_pairActive h u).trans ha
  have acts : (swapTaken h (heartbeatNoted h u)).standby = false := (swapTaken_role h _).trans (active_not_standby active)
  rw [heartbeatReceived_paired hp h1]
  refine (if_pos hr).trans (congrArg (fun x => welcomePartner (armHost false (evaluateSync h x))) ?_)
  unfold headsRestored
  rw [if_neg (Bool.eq_false_iff.mp acts), swapTaken_active active h2]

/-- The standby of a pair whose link is up and which has missed none evaluates its synchronisation (R434). -/
theorem heartbeatReceived_standby (hs : u.standby = true) (hl : u.b Obj.PAIR_LINK_UP = true) (hm : u.duo.misses = 0) :
    heartbeatReceived h u = armHost false (evaluateSync h (heartbeatNoted h u)) := by
  have follows : (heartbeatNoted h u).standby = true := (heartbeatNoted_standby h u).trans hs
  have known : partnerReturned h u = false := by simp [partnerReturned, standby_not_active hs]
  rw [heartbeatReceived_paired hp h1]
  simp only [known, hl, hm, Bool.not_true, Bool.false_and, bne_self_eq_false, Bool.false_eq_true, if_false]
  unfold heartbeatTaken headsRestored
  rw [swapTaken_standby follows, if_pos follows]

end

/-- A missed heartbeat that is not the third counts (R431). -/
theorem heartbeatMiss_counts {u : State} (hp : u.paired = true) (hh : u.duo.hb.isSome = true) (hm : u.duo.misses ≠ 2) :
    heartbeatMiss u = (u.inc Obj.HEARTBEATS_MISSED).modDuo fun d => { d with misses := d.misses + 1 } := by
  obtain ⟨st, n, counted⟩ := Safety.inc_keeps u Obj.HEARTBEATS_MISSED
  have hears : (!u.paired || u.duo.hb.isNone) = false := by rw [hp, Option.isNone_eq_false_iff.mpr hh]; rfl
  refine (if_neg (Bool.eq_false_iff.mp hears)).trans (if_neg fun third => hm ?_)
  obtain ⟨misses, -⟩ := third
  rw [counted] at misses
  exact Nat.succ_injective misses

/-- A restore offered while the module waits, before RESTORE_TIMEOUT, is armed (R204, R205). -/
theorem partnerOffer_waiting (x : Restore) {u : State} (hw : u.waiting = true)
    (ht : u.lNow < u.custody.waitL + u.n Obj.RESTORE_TIMEOUT * 1000000000) :
    partnerOffer x u = u.modCustody fun c =>
      { c with partner := some x, host := none, armed := some 1, base := (List.range u.asBuilt.strings).map u.chargeNow } :=
  if_neg (by simp [hw, ht])

/-- Settles O14: the guards of each message hold. What SWEEP and CONTROL carry beyond Table 18.2 is log entries 134 and 158. -/
theorem pairMessagesComplete : Obligations.PairMessagesComplete := by
  refine ⟨?send, ?failedSend, ?returned, ?followed, ?miss, ?control, ?sweep, ?mirror, ?program, ?restoreStandby, ?restore⟩
  case send => exact fun s hc hp => run_next ((if_pos hc).trans (if_neg (by rw [hp]; decide)))
  case failedSend =>
    intro s u h4 hp
    have off : ¬ u.coreOn = true := by simp [State.coreOn, h4]
    exact run_next ((if_neg off).trans (if_pos ⟨h4, hp⟩))
  case returned => exact fun s h hc hp h1 _ hr => run_core hc (heartbeatReceived_returned hp h1 hr)
  case followed => exact fun s h hc hp h1 hs hl hm => run_core hc (heartbeatReceived_standby hp h1 hs hl hm)
  case miss => exact fun s hc hp hh hm => run_core hc (heartbeatMiss_counts hp hh hm)
  case control => exact fun s c hc hs => run_core hc (if_neg (by rw [hs]; decide))
  case sweep =>
    intro s m u hc hs
    refine run_core hc ?_
    unfold sweepReceived
    refine (if_neg (by rw [hs]; decide)).trans ?_
    extract_lets -merge a taken _ _ _ _ _ _ a' stated
    -- the strings' values are taken alike; the rest is the same of both
    have strings : taken = stated := rfl
    clear_value taken stated
    subst strings
    rfl
  case mirror => exact fun s l hc hs => run_core hc (if_pos hs)
  case program => exact fun s p hc hs => run_core hc (if_neg (by rw [hs]; decide))
  case restoreStandby => exact fun s x hc hs => run_core hc (congrArg (partnerOffer x) (if_pos hs))
  case restore =>
    exact fun s x hc hs hw ht =>
      run_core hc ((congrArg (partnerOffer x) (if_neg (Bool.eq_false_iff.mp hs))).trans (partnerOffer_waiting x hw ht))

end Sys2Proof.Machine
end

section
/-!
SUPPORT. Proof of the statement on the roles of a pair: what each event that moves them does where its guards hold.
-/

namespace Sys2Proof.Machine

/-! ### The role lines (R429, R433, R440) -/

/-- A module that is past its wait at start ends none (R432). -/
theorem endStartWait_past (role : Nat) {u : State} (h : u.duo.startWait = false) : endStartWait role u = u :=
  if_pos (by rw [h]; rfl)

section
variable {u t : State} (level : u.putB Obj.ROLE_IN_STATE true = t)
include level

/-- ROLE_IN at a module of a pair that is not active, its own ROLE_OUT open: it yields (R429). -/
theorem roleInAsserted_inactive (hp : t.paired = true) (ha : t.pairActive = false) (hw : t.duo.startWait = false)
    (ho : t.duo.roleOut = false) : roleInAsserted u = setYield true t := by
  unfold roleInAsserted
  simp only [level, hp, endStartWait_past 2 hw, ho, ha, Bool.not_true, Bool.false_eq_true, if_false]

/-- ROLE_IN at a module whose pair function has not received its state (R429). -/
theorem roleInAsserted_unpaired (hp : t.paired = false) :
    roleInAsserted u = if t.heedsRole && !t.duo.roleOut then setYield true t else t := by
  unfold roleInAsserted
  simp only [level, hp, Bool.not_false, if_true]

end

section
variable {u t : State} (level : u.putB Obj.ROLE_IN_STATE false = t) (hp : t.paired = true) (hs : t.standby = true)
include level hp hs

/-- ROLE_IN leaves a standby of a pair: within the 2 ms of a link loss, or while heartbeats arrive, a takeover starts (R440). -/
theorem roleInDeasserted_standby :
    roleInDeasserted u =
      if t.duo.splitWait then
        if t.duo.splitBlock = 0 then t.modDuo fun d => { d with takeover := some 1, splitWait := false }
        else (t.logN 0x0D02 0x2C00 noSubject t.duo.splitBlock 0).modDuo fun d => { d with splitWait := false }
      else if t.n Obj.PAIR_SYNC = 2 then (if t.duo.misses = 0 then takeoverDue t else t)
      else t.logN 0x0D02 0x2C00 noSubject (t.n Obj.SYNC_BLOCK) 0 := by
  unfold roleInDeasserted
  simp only [level, hp, hs, Bool.not_true, Bool.or_self, Bool.false_eq_true, if_false]

end

/-! ### Planned swaps (R446, R447) -/

/-- ROLE_SWAP_TIME at a module that is swapped by a period, with base P set and no swap due. -/
theorem swapDue_periodic {u : State} (hper : u.n Obj.ROLE_SWAP_PERIOD ≠ 0) (hP : u.pUnsetFlag = false)
    (hd : u.duo.due = none) : swapDue u = makeDue 2 u := if_neg (by simp [hper, hP, hd])

/-- SWAP_REQUEST at the active module with no swap due. -/
theorem ownSwapRequest_active (v : Val) {t : State} (ha : t.pairActive = true) (hd : t.duo.due = none) :
    ownSwapRequest v t = .ok (makeDue 2 t) := by
  unfold ownSwapRequest
  rw [if_neg (Bool.eq_false_iff.mp (active_not_standby ha)), if_neg (by simp [hd])]

/-- SWAP_REQUEST at a standby is carried to the active module (R436, log entry 176). -/
theorem ownSwapRequest_standby (v : Val) {t : State} (hs : t.standby = true) :
    ownSwapRequest v t = .ok (t.modDuo fun d => { d with due := some (2, t.lNow) }) := congrArg Except.ok (if_pos hs)

/-! ### The statement -/

/-- Settles O15: the guards of each event hold, and SWAP_REQUEST's own rule carries out its write, on a standby as log entry 176
says. -/
theorem pairRolesComplete : Obligations.PairRolesComplete := by
  refine ⟨?asserted, ?assertedUnpaired, ?splitWait, ?unsynced, ?takeover, ?collision, ?split, ?alive, ?startWait, ?drive, ?due,
    ?request, ?requestStandby, ?skip⟩
  case asserted => exact fun s hc hp ha hw ho => run_carrier hc (roleInAsserted_inactive rfl hp ha hw ho)
  case assertedUnpaired => exact fun s hc hp => run_carrier hc (roleInAsserted_unpaired rfl hp)
  case splitWait =>
    exact fun s hc hp hs hw => run_next ((if_pos hc).trans ((roleInDeasserted_standby rfl hp hs).trans (if_pos hw)))
  case unsynced =>
    exact fun s hc hp hs hw hy => run_next ((if_pos hc).trans ((roleInDeasserted_standby rfl hp hs).trans
      ((if_neg (Bool.eq_false_iff.mp hw)).trans (if_neg hy))))
  case takeover =>
    exact fun s hc hp hs hw hy hm => run_next ((if_pos hc).trans ((roleInDeasserted_standby rfl hp hs).trans
      ((if_neg (Bool.eq_false_iff.mp hw)).trans ((if_pos hy).trans (if_pos hm)))))
  case collision => exact fun s hc hp ha h2 => run_core hc (if_neg (by simp [hp, ha, h2]))
  case split => exact fun s hc hw hi => run_core hc (if_neg (by simp [hw, hi]))
  case alive => exact fun s hc => run_carrier hc rfl
  case startWait => exact fun s hc hw => run_core hc (if_neg (by rw [hw]; decide))
  case drive => exact fun s hc hs hl => run_carrier hc (if_pos (by simp [hs, hl]))
  case due =>
    exact fun s hc ha hper hP hd => run_core hc ((swapDue_periodic hper hP hd).trans (makeDue_active 2 ha))
  case request =>
    exact fun s r hc had ha hd =>
      run_core hc (Safety.writeRequest_granted had ((ownSwapRequest_active _ ha hd).trans (congrArg Except.ok (makeDue_active 2 ha))))
  case requestStandby =>
    exact fun s r hc had hs => run_core hc (Safety.writeRequest_granted had (ownSwapRequest_standby _ hs))
  case skip =>
    exact fun s hc hd hm hs => run_core hc (if_neg (by simp [hm, hs, Option.isNone_eq_false_iff.mpr hd]))

end Sys2Proof.Machine
end

section
/-!
SUPPORT. Proof of the statement on start-up, sleep and the power requests: each step of Table 19.2, the wake of a sleeping module,
a request that nothing refuses, a block's answer.
-/

namespace Sys2Proof.Machine

/-! ### Start-up (R454) -/

/-- A start-up step that is complete; the next begins. -/
def nextStep (s : State) : State := s.modPow fun p => { p with step := p.step + 1 }

section
variable {u : State} {x : StartObs} (h5 : u.pow.phase = 5)
include h5

/-- Regulators (Table 19.2 step 2). -/
theorem startStepDone_regulators (h : u.pow.step = 2) : startStepDone x u = nextStep u := by
  unfold startStepDone
  rw [if_neg (not_not_intro h5), h]
  rfl

/-- The crystal, where it is tested (step 3). -/
theorem startStepDone_crystal (h : u.pow.step = 3) (hx : u.pow.xtal = true) :
    startStepDone x u = nextStep (if x.crystal then u.putN Obj.START_STATE 0 else degradeClock (u.putN Obj.START_STATE 1)) := by
  unfold startStepDone
  rw [if_neg (not_not_intro h5), h]
  exact if_neg (by rw [hx]; decide)

/-- The loader finds a set that verifies (step 4). -/
theorem startStepDone_boot {t : State} (h : u.pow.step = 4) (hb : bootChoice x.sets u = some t) :
    startStepDone x u = nextStep t := by
  unfold startStepDone
  rw [if_neg (not_not_intro h5), h]
  simp only [hb]
  rfl

/-- The safety self-test (step 5). -/
theorem startStepDone_safety (h : u.pow.step = 5) : startStepDone x u = nextStep (startSafetyStep x.selfTest u) := by
  unfold startStepDone
  rw [if_neg (not_not_intro h5), h]
  rfl

/-- The functions receive their states, once the role has settled (step 6). -/
theorem startStepDone_functions (h : u.pow.step = 6) (hw : u.duo.startWait = false) :
    startStepDone x u = nextStep (startFunctions x.pages x.found u) := by
  unfold startStepDone
  rw [if_neg (not_not_intro h5), h]
  exact if_neg (Bool.eq_false_iff.mp hw)

/-- The start-up sequence is complete (step 7). -/
theorem startStepDone_last (h : u.pow.step = 7) : startStepDone x u = startDone u := by
  unfold startStepDone
  rw [if_neg (not_not_intro h5), h]
  rfl

/-- No power-good within 20 ms (step 2). -/
theorem regulatorRetry_waiting (h : u.pow.step = 2) :
    regulatorRetry u = if u.n Obj.START_RETRIES < 3 then u.putN Obj.START_RETRIES (u.n Obj.START_RETRIES + 1) else failStart 1 u :=
  if_neg (by simp [h5, h])

end

/-! ### Waking (R462 to R465) -/

/-- The watch engine's scan of every chain, none of which raises WATCH_LIMIT (R462). -/
theorem watchScan_quiet {u : State} {trains : List (Nat × Option Train)} (h1 : u.pow.phase = 1)
    (hq : (u.pow.watchHeads.foldl (scanChain trains) (false, u.inc Obj.WATCH_SCANS)).1 = false) :
    watchScan trains u = (u.pow.watchHeads.foldl (scanChain trains) (false, u.inc Obj.WATCH_SCANS)).2 :=
  (if_neg (not_not_intro h1)).trans (if_neg (Bool.eq_false_iff.mp hq))

/-- TONE lost shows at every reading head; it leaves that the module sleeps (R463). -/
theorem toneLost_sleeps (u : State) :
    (u.forAll u.pow.watchHeads fun x t => t.putB (Obj.HEAD_TONE x.1) false).sleeps = u.sleeps := by
  have power := State.forAll_keeps State.pow u.pow.watchHeads (fun x t => t.putB (Obj.HEAD_TONE x.1) false) (fun _ _ => rfl) u
  unfold State.sleeps
  rw [power]

/-! ### Requests and answers (R458 to R460) -/

theorem powerRequest_type : (findRow Obj.POWER_REQUEST).map (fun x => x.2.ty) = some .u8 := by decide +kernel

/-- A request that neither a brown-out, nor another one, nor an energised TRANSPORT_RELEASE stands against (R458). -/
theorem ownPowerRequest_free {k : Nat} {v : Val} {t : State} {energised : Bool} (hv : v.toNat = k) (hk : k = 3 → energised = false)
    (hb : t.b Obj.BROWNOUT = false) (hr : t.pow.request = none) :
    ownPowerRequest energised v t =
      let a := ((t.putN Obj.REQUEST_RESULT 1).putN Obj.REFUSING_BLOCK 0).putN Obj.REFUSAL_REASON 0
      let b := a.modPow fun p => { p with request := some (k, a.lNow), answers := [0, 0, 0, 0, 0, 0, 0], demand := none }
      .ok (if b.paired && b.b Obj.PAIR_LINK_UP then b.emit (.pair (.request k)) else b) := by
  have notEnergised : (k == 3 && energised) = false := by
    by_cases h : k = 3
    · rw [hk h, Bool.and_false]
    · rw [beq_false_of_ne h, Bool.false_and]
  unfold ownPowerRequest
  simp only [hv, hb, hr, notEnergised, Option.isSome_none, Bool.or_self, Bool.false_eq_true, if_false]

/-- A block's answer is noted: 1 ACCEPT, 2 DELAY. -/
def noteAnswer (block a : Nat) (u : State) : State := u.modPow fun p => { p with answers := p.answers.set (block - 1) a }

/-- The request ends with the refusal of a block. -/
def refusedBy (block reason : Nat) (u : State) : State :=
  ((endHandshake 2 u).putN Obj.REFUSING_BLOCK block).putN Obj.REFUSAL_REASON reason

section
variable {u : State} {block partner k since : Nat} (hr : u.pow.request = some (k, since))
  (h0 : 0 < block) (h8 : block < 8) (h2 : block ≠ 2) (h3 : block ≠ 3)
include hr h0 h8 h2 h3

/-- The answer of a block that neither demands a generation nor cancels frames (R459). -/
theorem handshakeAnswer_plain :
    handshakeAnswer block partner u =
      if refusal block partner k u ≠ 0 then refusedBy block (refusal block partner k u) u
      else if u.accepted block && delays block partner u then refusedBy block ((withdrawal u block partner k).getD 0) u
      else
        let t := noteAnswer block (if delays block partner u then 2 else 1) u
        if !(t.pow.answers.all (· == 1)) then t
        else match (List.range 7).findSome? fun b => (withdrawal t (b + 1) 0 k).map fun r => (b + 1, r) with
          | some (b, r) => refusedBy b r t
          | none => enterLower k t := by
  have known : ¬ (block = 0 ∨ 7 < block) := by omega
  unfold handshakeAnswer
  rw [hr]
  simp only [if_neg known, if_neg h2, if_neg h3]
  rfl

/-- A block refuses (Table 19.3). -/
theorem handshakeAnswer_refuses (h : refusal block partner k u ≠ 0) :
    handshakeAnswer block partner u = refusedBy block (refusal block partner k u) u :=
  (handshakeAnswer_plain hr h0 h8 h2 h3).trans (if_pos h)

variable (h : refusal block partner k u = 0)
include h

/-- A block answers while another has not accepted. -/
theorem handshakeAnswer_notLast (hd : (u.accepted block && delays block partner u) = false)
    (hall : ((noteAnswer block (if delays block partner u then 2 else 1) u).pow.answers.all (· == 1)) = false) :
    handshakeAnswer block partner u = noteAnswer block (if delays block partner u then 2 else 1) u := by
  rw [handshakeAnswer_plain hr h0 h8 h2 h3]
  exact (if_neg (not_not_intro h)).trans ((if_neg (Bool.eq_false_iff.mp hd)).trans (if_pos (by rw [hall]; rfl)))

/-- The last block accepts and none withdraws: the entry begins (R460, R461). -/
theorem handshakeAnswer_last (hd : delays block partner u = false) (hall : ((noteAnswer block 1 u).pow.answers.all (· == 1)) = true)
    (hw : ∀ b < 7, withdrawal (noteAnswer block 1 u) (b + 1) 0 k = none) :
    handshakeAnswer block partner u = enterLower k (noteAnswer block 1 u) := by
  have noneWithdraws :
      ((List.range 7).findSome? fun b => (withdrawal (noteAnswer block 1 u) (b + 1) 0 k).map fun r => (b + 1, r)) = none :=
    List.findSome?_eq_none_iff.mpr fun b hb => by rw [hw b (List.mem_range.mp hb)]; rfl
  rw [handshakeAnswer_plain hr h0 h8 h2 h3]
  simp only [h, hd, hall, noneWithdraws, Bool.and_false, Bool.false_eq_true, Bool.not_true, if_false, ne_eq, not_true_eq_false]

end

/-- A standby without a request hears that its partner has entered WATCH or DORMANT (R460, log entry 111). -/
theorem handshakeAnswer_partnerEnters {u : State} {k : Nat} (hr : u.pow.request = none) (hs : u.standby = true)
    (hl : u.b Obj.PAIR_LINK_UP = true) (hk : k = 1 ∨ k = 2) : handshakeAnswer 7 (3 + k) u = enterSleep k u := by
  have entered : 3 + k - 3 = k := Nat.add_sub_cancel_left 3 k
  unfold handshakeAnswer
  rw [hr]
  refine (if_pos ⟨rfl, hs, hl, by omega⟩).trans ?_
  rw [entered]

theorem isBlock {block : Nat} (h0 : 0 < block) (h8 : block < 8) : (Nat.blt 0 block && Nat.blt block 8) = true := by
  rw [blt_of_lt h0, blt_of_lt h8]; rfl

/-- HANDSHAKE_ANSWER of a block of Table 19.3, heard by the core domain, or without its power by the wake logic. -/
theorem exec_handshakeAnswer {s t : State} {block partner : Nat} (h0 : 0 < block) (h8 : block < 8)
    (h : (if (began s).coreOn then handshakeAnswer block partner (began s) else partnerWakes block partner (began s)) = t) :
    exec (.handshakeAnswer block partner) s = .next (finish s t) := onPart_next (isBlock h0 h8) h

/-! ### The statement -/

/-- Settles O16: the guards of each event hold, each step and each block is the one named, and POWER_REQUEST's own rule carries out
its write. That a standby follows its partner into sleep and wakes with it is told by the operand of log entries 111 and 185. -/
theorem powerCommandsComplete : Obligations.PowerCommandsComplete := by
  refine ⟨?cold, ?regulators, ?crystal, ?boot, ?safety, ?functions, ?last, ?retry, ?fail, ?source, ?timer, ?scan, ?request,
    ?notLast, ?refuses, ?enters, ?follows, ?wakes, ?delay, ?timeout, ?release⟩
  case cold => exact fun s h3 h4 h6 => run_next (if_neg (not_or.mpr ⟨h3, not_or.mpr ⟨h4, h6⟩⟩))
  case regulators => exact fun s x h5 h => run_next (startStepDone_regulators h5 h)
  case crystal => exact fun s x h5 h hx => run_next (startStepDone_crystal h5 h hx)
  case boot => exact fun s x h5 h t hb => run_next (startStepDone_boot h5 h hb)
  case safety => exact fun s x h5 h => run_next (startStepDone_safety h5 h)
  case functions => exact fun s x h5 h hw => run_next (startStepDone_functions h5 h hw)
  case last => exact fun s x h5 h => run_next (startStepDone_last h5 h)
  case retry => exact fun s h5 h hn => run_next ((regulatorRetry_waiting h5 h).trans (if_pos hn))
  case fail => exact fun s h5 h hn => run_next ((regulatorRetry_waiting h5 h).trans (if_neg (not_lt.mpr hn)))
  case source =>
    intro s i bit u hs silent hi hw
    simp only [List.mem_cons, Prod.mk.injEq, List.not_mem_nil, or_false] at hi
    rcases hi with ⟨rfl, rfl, rfl⟩ | ⟨rfl, rfl, rfl⟩ | ⟨rfl, rfl, rfl⟩
    case inl =>
      have asleep : silent.sleeps = true := (toneLost_sleeps (began s)).trans hs
      exact run_next ((if_neg (by rw [hs]; decide)).trans (wake_enabled asleep hw))
    case inr.inl => exact run_next (wake_enabled hs hw)
    case inr.inr => exact run_next (wake_enabled hs hw)
  case timer => exact fun s ht hs hw => run_next ((if_neg ht).trans (wake_enabled hs hw))
  case scan =>
    intro s trains u hheads h1 x hq
    exact onPart_next (List.all_eq_true.mpr fun x hx => hasHead_of_lt (hheads x hx)) (watchScan_quiet h1 hq)
  case request =>
    intro s c r k data energised u hc hcore had t hk hb hr
    simp only [List.mem_cons, Prod.mk.injEq, List.not_mem_nil, or_false] at hc
    have value (b : Bytes) := congrArg Val.toNat (valueOf_writing powerRequest_type r b)
    rcases hc with ⟨rfl, rfl, rfl⟩ | ⟨rfl, rfl, rfl⟩ | ⟨rfl, rfl, rfl⟩
    case inl => exact run_core hcore (Safety.writeRequest_granted had (ownPowerRequest_free (value [1]) (by decide) hb hr))
    case inr.inl => exact run_core hcore (Safety.writeRequest_granted had (ownPowerRequest_free (value [2]) (by decide) hb hr))
    case inr.inr => exact run_core hcore (Safety.writeRequest_granted had (ownPowerRequest_free (value [3]) hk hb hr))
  case notLast =>
    intro s block partner k since u h0 h8 h2 h3 hc hr h hd t hall
    exact exec_handshakeAnswer h0 h8 ((if_pos hc).trans (handshakeAnswer_notLast hr h0 h8 h2 h3 h hd hall))
  case refuses =>
    intro s block partner k since u h0 h8 h2 h3 hc hr h
    exact exec_handshakeAnswer h0 h8 ((if_pos hc).trans (handshakeAnswer_refuses hr h0 h8 h2 h3 h))
  case enters =>
    intro s block partner k since u h0 h8 h2 h3 hc hr h hd t hall hw
    exact exec_handshakeAnswer h0 h8 ((if_pos hc).trans (handshakeAnswer_last hr h0 h8 h2 h3 h hd hall hw))
  case follows =>
    exact fun s k hc hr hs hl hk => exec_handshakeAnswer (by decide) (by decide) ((if_pos hc).trans (handshakeAnswer_partnerEnters hr hs hl hk))
  case wakes =>
    intro s u hc hs hp hplug
    have paired : (storedPair u && u.asBuilt.plug != 0) = true := by simp [hp, hplug]
    refine exec_handshakeAnswer (by decide) (by decide) ((if_neg (Bool.eq_false_iff.mp hc)).trans ((if_pos ⟨hs, rfl, rfl, hp, hplug⟩).trans ?_))
    unfold wakeNow
    exact if_pos paired
  case delay =>
    exact fun s block h0 h8 hc hr hn => onPart_core (isBlock h0 h8) hc (if_pos ⟨hr, h0, hn⟩)
  case timeout => exact fun s hc hr => run_core hc (if_pos hr)
  case release => exact fun s h3 => run_next (if_pos ⟨h3, rfl⟩)

end Sys2Proof.Machine
end

section
/-!
SUPPORT. Proof of the statement on the supply, the crystal and the die: what each event does where its guards hold.
-/

namespace Sys2Proof.Machine

/-! ### Brown-out (R466, R467) -/

section
variable {u t : State} (hc : u.carrierOn = true) (hb : u.b Obj.BROWNOUT = false)
  (noted : countPage 2 (((u.putB Obj.BROWNOUT true).inc Obj.BROWNOUTS).modPow fun p => { p with opened := false }) = t)
include hc hb noted

/-- A brown-out begins. -/
theorem brownoutRaised_first :
    brownoutRaised u =
      if !t.coreOn then t else
      let w := custodyBrownout (bleedOff (calAbort (if t.pow.request.isSome then endHandshake 4 t else t)))
      if w.pairActive && w.n Obj.PAIR_SYNC == 2 && !((w.duo.hb.map Heartbeat.brownout).getD false) then makeDue 4 w else w := by
  subst noted
  exact if_neg (by rw [hc, hb]; decide)

/-- Without the power of the core domain. -/
theorem brownoutRaised_coreOff (ht : t.coreOn = false) : brownoutRaised u = t :=
  (brownoutRaised_first hc hb noted).trans (if_pos (by rw [ht]; rfl))

/-- In service without a request under way. -/
theorem brownoutRaised_serving (ht : t.coreOn = true) (hr : t.pow.request = none) :
    brownoutRaised u =
      let w := custodyBrownout (bleedOff (calAbort t))
      if w.pairActive && w.n Obj.PAIR_SYNC == 2 && !((w.duo.hb.map Heartbeat.brownout).getD false) then makeDue 4 w else w := by
  have noRequest : ¬ t.pow.request.isSome = true := by rw [hr]; exact Bool.false_ne_true
  rw [brownoutRaised_first hc hb noted, if_neg (by rw [ht]; decide), if_neg noRequest]

end

/-- What HOLDUP_RECOMPUTE shows of energy, load and inputs (R466; log entry 88). -/
def holdupShown (energy load v1 v2 : Rat) (u : State) : State :=
  let ms := if load ≤ 0 then 65535 else min 65535 (energy / load * 1000).floor.toNat
  let a := ((u.putN Obj.HOLDUP_REMAINING ms).putQ Obj.MODULE_POWER load).putBytes Obj.INPUT_VOLTAGE
    (f32Bytes (.real v1) ++ f32Bytes (.real v2))
  if 72 ≤ energy then a.putB Obj.HOLDUP_READY true else a

section
variable (energy load v1 v2 : Rat) {u : State} (hc : u.carrierOn = true) (h6 : u.pow.phase ≠ 6)
include hc h6

theorem holdupRecompute_live :
    holdupRecompute energy load v1 v2 u =
      let ms := if load ≤ 0 then 65535 else min 65535 (energy / load * 1000).floor.toNat
      let t := holdupShown energy load v1 v2 u
      if !t.b Obj.BROWNOUT then t
      else if ms ≤ 50 then finalStop t
      else if t.pow.phase = 0 ∧ ms ≤ t.n Obj.BROWNOUT_OPEN_MARGIN ∧ !t.pow.opened then brownoutOpening t else t :=
  if_neg (by simp [hc, h6])

/-- The supply is there. -/
theorem holdupRecompute_supplied (hb : (holdupShown energy load v1 v2 u).b Obj.BROWNOUT = false) :
    holdupRecompute energy load v1 v2 u = holdupShown energy load v1 v2 u := by
  rw [holdupRecompute_live _ _ _ _ hc h6]
  simp only [hb, Bool.not_false, if_true]

/-- Under BROWNOUT the hold-up is down to 50 ms: final stop begins (R467). -/
theorem holdupRecompute_empty (hb : (holdupShown energy load v1 v2 u).b Obj.BROWNOUT = true)
    (hms : (if load ≤ 0 then 65535 else min 65535 (energy / load * 1000).floor.toNat) ≤ 50) :
    holdupRecompute energy load v1 v2 u = finalStop (holdupShown energy load v1 v2 u) := by
  rw [holdupRecompute_live _ _ _ _ hc h6]
  simp only [hb, hms, Bool.not_true, Bool.false_eq_true, if_false, if_true]

end

/-! ### Crystal and die (R456, R457, R468) -/

/-- POWER_RESTART with every string OPEN, or on a standby in DEGRADED_CLOCK. -/
theorem ownPowerRestart_allowed (v : Val) {t : State} (h : t.standby = true ∧ t.degraded = true ∨ t.firstNotOpen = none) :
    ownPowerRestart v t = .ok (beginStart true (false, false) (resetPads (coreLost (commit t)))) := by
  refine if_neg ?_
  rcases h with ⟨hs, hd⟩ | allOpen
  · simp [hs, hd]
  · simp [allOpen]

/-- Settles O17: the guards of each event hold, and POWER_RESTART's own rule carries out its write. The rounding of the hold-up
and its 72 J are log entry 88. -/
theorem supplyCommandsComplete : Obligations.SupplyCommandsComplete := by
  refine ⟨?raised, ?raisedOff, ?cleared, ?holdup, ?finalStop, ?lost, ?crystal, ?test, ?restart, ?throttled, ?returned, ?critical⟩
  case raised =>
    intro s u hc hb t ht hr
    exact run_next (brownoutRaised_serving hc hb rfl ht hr)
  case raisedOff => exact fun s hc hb ht => run_next (brownoutRaised_coreOff hc hb rfl ht)
  case cleared => exact fun s hc h6 => run_carrier hc (if_neg h6)
  case holdup => exact fun s energy load v1 v2 hc h6 hb => run_next (holdupRecompute_supplied energy load v1 v2 hc h6 hb)
  case finalStop => exact fun s energy load v1 v2 hc h6 hb hms => run_next (holdupRecompute_empty energy load v1 v2 hc h6 hb hms)
  case lost => exact fun s hp => run_next (if_pos hp.symm)
  case crystal => exact fun s deviation hc h0 hd => run_core hc (if_neg (by simp only [h0, hd]; decide))
  case test => exact fun s hc hd => run_core hc (if_pos (by rw [hd]; rfl))
  case restart =>
    exact fun s r hc had hok => run_core hc (Safety.writeRequest_granted had (ownPowerRestart_allowed _ hok))
  case throttled => exact fun s hc ht h1 => run_core hc (if_neg (by rw [ht, beq_false_of_ne h1, Bool.false_and]; decide))
  case returned => exact fun s hc ht => run_core hc (if_pos ht)
  case critical =>
    exact fun s sensor temp hn hc hd => onPart_core (blt_of_lt hn) hc (if_neg (Bool.eq_false_iff.mp hd))

end Sys2Proof.Machine
end

section
/-!
SUPPORT. Proof of the statement on the firmware update: what a write of a manifest, a piece or a command does that is not refused,
which IMAGE frame a head sends.
-/

namespace Sys2Proof.Machine

/-! ### Manifest and pieces (R475 to R477) -/

/-- A manifest that is accepted and whose MANIFEST_ID is not the one held begins the update anew (R475). -/
theorem ownUpdateManifest_new {v : Val} {t : State} {b : Bytes} (hv : v.toBytes = b) (hk : manifestBlock t b = 0)
    (hn : (t.hasManifest && fieldU t.manifest 4 8 == fieldU b 4 8) = false) :
    ownUpdateManifest v t = .ok (
      let a := ((t.putBytes Obj.UPDATE_MANIFEST b).putN Obj.UPDATE_BLOCK 0).modUpd fun u =>
        { u with pieces := [], hashing := [], jobs := [], loaded := [] }
      let c := a.each 6 fun c w => w.putN (Obj.COMPONENT_STATUS c) (if componentSame w b c then 0 else 1)
      let d := (c.each c.asBuilt.frontEnds fun f w => w.putN (Obj.FE_IMAGE_STATUS f) 0).putN Obj.FE_VERIFIED 0
      refreshReady b ((d.each 6 (showPieces b)).putN Obj.UPDATE_STATE 1)) := by
  subst hv
  unfold ownUpdateManifest
  simp only [hk, hn, ne_eq, not_true_eq_false, Bool.false_eq_true, if_false]

/-- A piece of its length that the module does not hold is kept; the last missing one makes the slot be hashed (R476, R477). -/
theorem ownUpdatePiece_kept {c p : Nat} {v : Val} {t : State} (hu : t.n Obj.UPDATE_STATE = 1) (hm : t.hasManifest = true)
    (hc : componentSame t t.manifest c = false) (hp : 1024 * p < mfLength t.manifest c)
    (hl : v.toBytes.length = min 1024 (mfLength t.manifest c - 1024 * p)) (hg : amGet? (t.pieces c) p = none) :
    ownUpdatePiece c p v t = .ok (
      let a := (t.modUpd fun u => { u with pieces := amSet u.pieces c (amSet (t.pieces c) p v.toBytes) }).putN (Obj.COMPONENT_STATUS c) 1
      let b := showPieces t.manifest c a
      if b.n (Obj.PIECES_MISSING c) = 0 then b.modUpd fun u => { u with hashing := c :: u.hashing.filter (· != c) } else b) := by
  have within : Nat.ble (mfLength t.manifest c) (1024 * p) = false := by
    rw [← Bool.not_eq_true, Nat.ble_eq]; exact not_le.mpr hp
  unfold ownUpdatePiece
  simp only [hu, hm, hc, within, hl, hg, ne_eq, not_true_eq_false, decide_false, Bool.not_true, bne_self_eq_false, Bool.or_self,
    Bool.false_eq_true, if_false, Option.isSome_none]

/-! ### The load of front-ends (R478) -/

/-- The next IMAGE frame of a load that goes on, where it ends before the next SYNC. -/
theorem imageLoadFrame_sends {u : State} {h dest i : Nat} {j : LoadJob} {rest : List (Nat × Nat)}
    (hc : u.running Obj.CHAIN_STATE = true) (hl : u.leads = true) (hr : u.n (Obj.HEAD_ROLE h) = roleReading)
    (hi : (u.head h).idle = true) (hj : amGet? u.upd.jobs h = some j) (hq : j.queue = (dest, i) :: rest)
    (hf : imageFits u = true) (hlt : i < (j.image.length + 127) / 128) :
    imageLoadFrame h u =
      let w := sendFrame h kImage dest (leBytes 4 (128 * i) ++ fit 128 (slice j.image (128 * i) 128)) u
      let k := { j with
        queue := if i + 1 = (j.image.length + 127) / 128 then rest else (dest, i + 1) :: rest, endL := w.lNow + airTime 132 + 250 }
      w.modUpd fun x => { x with jobs := amSet x.jobs h k } := by
  unfold imageLoadFrame
  simp only [hc, hl, hr, hi, hj, hq, hf, if_neg (not_le.mpr hlt), Bool.not_true, bne_self_eq_false, Bool.or_self,
    Bool.false_eq_true, if_false, Option.isSome_some, if_true]

/-! ### Activation and cancellation (R481) -/

theorem updateCommand_type : (findRow Obj.UPDATE_COMMAND).map (fun x => x.2.ty) = some .u8 := by decide +kernel

/-- An ACTIVATE that nothing refuses is armed. -/
theorem ownUpdateCommand_activates {kernel : Kernel} {intact : Bool} {v : Val} {t : State} (hv : v.toNat = 2)
    (hk : activateBlock t kernel.reads intact = 0) :
    ownUpdateCommand kernel intact v t = .ok (
      let sw := switched t
      let n := t.n Obj.SWEEP_COUNT + t.n Obj.ACTIVATE_LEAD
      let a := ((t.putN Obj.ACTIVATE_SWEEP n).putN Obj.UPDATE_BLOCK 0).putN Obj.UPDATE_STATE 3
      let b := a.modUpd fun u => { u with committed := u.running, trial := trialSet a sw kernel, record := 1, boots := 0, demand := none }
      let c := if sw.contains 0 && b.single then
          let d := demandGeneration b
          d.modUpd fun u => { u with demand := some (demandedNumber d) } else b
      if sw.contains 5 then sendActivate (nth c.upd.trial.slots 5 0) n c else c) :=
  (if_pos hv).trans (if_neg (not_not_intro hk))

/-! ### The statement -/

/-- Settles O18: the guards of each event hold, its component or head is there, and the objects' own rules carry out each write. What
a kernel's header declares comes as the operand of log entry 95. -/
theorem updateCommandsComplete : Obligations.UpdateCommandsComplete := by
  refine ⟨?manifest, ?piece, ?hashed, ?load, ?activate, ?cancel, ?complete, ?timeout⟩
  case manifest =>
    exact fun s r hc had hk hn => run_core hc (Safety.writeRequest_granted had (ownUpdateManifest_new rfl hk hn))
  case piece =>
    intro s c p r u h6 hp hc had t d len hu hm hsame hwithin hlen hfresh
    have operands : (Nat.blt c 6 && isU16 p) = true := by rw [blt_of_lt h6, isU16_of_lt hp]; rfl
    exact onPart_core operands hc
      (Safety.writeRequest_granted had (ownUpdatePiece_kept hu hm hsame hwithin hlen hfresh))
  case hashed => exact fun s c h6 hc hh => onPart_core (blt_of_lt h6) hc (if_neg (by rw [hh]; decide))
  case load =>
    exact fun s h dest i j rest hh hc hch hl hr hi hj hq hf hlt =>
      onPart_core (hasHead_of_lt hh) hc (imageLoadFrame_sends hch hl hr hi hj hq hf hlt)
  case activate =>
    intro s r kernel intact u hc had t hk
    have activates := congrArg Val.toNat (valueOf_writing updateCommand_type r [2])
    exact run_core hc (Safety.writeRequest_granted had (ownUpdateCommand_activates activates hk))
  case cancel =>
    exact fun s r hc had ha => run_core hc (Safety.writeRequest_granted had (if_neg (Bool.eq_false_iff.mp ha)))
  case complete =>
    exact fun s answers hc hu hp => run_core hc (if_neg (not_or.mpr ⟨not_not_intro hu, not_not_intro hp⟩))
  case timeout => exact fun s answers hc hu => run_core hc (if_neg (not_not_intro hu))

end Sys2Proof.Machine
end

section
/-!
SUPPORT. Proof of the statement on the digest of a whole component: how many pieces are held after one more, what the end of a
command leaves of the update.
-/

namespace Sys2Proof.Safety

open Sys2Proof.Machine

/-! ### What commands leave of the update -/

theorem upd_of_unsettled {s t : State} (h : unsettled s = unsettled t) : s.upd = t.upd := by
  have same := congrArg (fun u : State => u.upd) h
  exact same

@[simp] theorem finish_upd (s e : State) : (finish s e).upd = e.upd := by
  have same := congrArg (fun u : State => u.upd) (unsettled_finish s e)
  exact same

theorem answer_upd (s : State) (r : Req) (op : Op) (idx sub abort : Nat) (last : Bool) (data : Bytes) :
    (s.answer r op idx sub abort last data).upd = s.upd := by
  have session (t : State) (f : Session → Session) : (t.putSession r.src f).upd = t.upd := by cases r.src <;> rfl
  obtain ⟨st, n, counted⟩ := inc_keeps (s.putN Obj.ABORT_LAST abort) Obj.ABORTS_ISSUED
  unfold State.answer
  rw [State.emit_upd, session]
  split
  · rfl
  · rw [counted]; rfl

theorem granted_upd (s : State) (r : Req) (key : Nat) (t : State) : (granted s r key t).upd = t.upd := by
  have sent (p : Prop) [Decidable p] (o : Output) : (if p then t.emit o else t).upd = t.upd := by split <;> rfl
  exact (answer_upd ..).trans (sent _ _)

/-! ### The pieces held (R476, R477) -/

/-- An entry of a new key makes the list longer by one. -/
theorem length_amSet_new {α : Type} {m : List (Nat × α)} {k : Nat} (v : α) (h : amGet? m k = none) :
    (amSet m k v).length = m.length + 1 := by
  induction m with
  | nil => rfl
  | cons x r ih =>
    obtain ⟨a, w⟩ := x
    have ne : a ≠ k := fun e => by simp [amGet?, e] at h
    have rest : amGet? r k = none := by simpa [amGet?, ne] using h
    by_cases lt : k < a
    · simp [amSet, ne, lt]
    · simp [amSet, ne, lt, ih rest]

/-- With the last missing piece none is missing. -/
theorem piecesMissing_last {t : State} {b d : Bytes} {c p : Nat}
    (hg : amGet? (t.pieces c) p = none) (hl : (t.pieces c).length + 1 = pieceCount b c) :
    (showPieces b c ((t.modUpd fun u => { u with pieces := amSet u.pieces c (amSet (t.pieces c) p d) }).putN
      (Obj.COMPONENT_STATUS c) 1)).n (Obj.PIECES_MISSING c) = 0 := by
  have held : State.pieces ((t.modUpd fun u => { u with pieces := amSet u.pieces c (amSet (t.pieces c) p d) }).putN
      (Obj.COMPONENT_STATUS c) 1) c = amSet (t.pieces c) p d := by
    show amGetD (amSet t.upd.pieces c (amSet (t.pieces c) p d)) c [] = _
    simp [amGetD, amGet_amSet]
  unfold showPieces
  rw [State.n_putN_self, held, length_amSet_new d hg, hl, Nat.sub_self, ite_self]

/-! ### The status of a component -/

theorem settledKey_componentStatus : ∀ c < 6, settledKey (Obj.COMPONENT_STATUS c) = false := by decide

theorem refreshReady_status {b : Bytes} {s : State} {c : Nat} (h6 : c < 6) :
    (refreshReady b s).n (Obj.COMPONENT_STATUS c) = s.n (Obj.COMPONENT_STATUS c) := by
  have other : Obj.COMPONENT_STATUS c ≠ Obj.UPDATE_STATE := by unfold Obj.COMPONENT_STATUS Obj.UPDATE_STATE; omega
  unfold refreshReady
  split
  · rfl
  · exact State.n_putN_of_ne other

theorem refreshReady_asBuilt (b : Bytes) (s : State) : (refreshReady b s).asBuilt = s.asBuilt := by
  unfold refreshReady
  split <;> rfl

theorem finish_status {s e : State} {c : Nat} (ha : e.asBuilt = s.asBuilt) (h6 : c < 6) :
    (finish s e).n (Obj.COMPONENT_STATUS c) = e.n (Obj.COMPONENT_STATUS c) :=
  congrArg Val.toNat (v_finish ha (settledKey_componentStatus c h6))

/-- The end of a hash is taken note of. -/
def hashTaken (c : Nat) (u : State) : State := u.modUpd fun x => { x with hashing := x.hashing.filter (· != c) }

/-- What another digest leaves of a component, before the log (R477). -/
def hashFailed (c : Nat) (u : State) : State :=
  showPieces u.manifest c (((hashTaken c u).modUpd fun x => { x with pieces := amErase x.pieces c }).putN (Obj.COMPONENT_STATUS c) 3)

theorem hashFailed_status (c : Nat) (u : State) : (hashFailed c u).n (Obj.COMPONENT_STATUS c) = 3 := by
  have other : Obj.COMPONENT_STATUS c ≠ Obj.PIECES_MISSING c := by unfold Obj.COMPONENT_STATUS Obj.PIECES_MISSING; omega
  exact (State.n_putN_of_ne other).trans (State.n_putN_self ..)

theorem hashFailed_pieces (c : Nat) (u : State) : amGetD (hashFailed c u).upd.pieces c [] = [] := by
  show amGetD (amErase u.upd.pieces c) c [] = []
  simp [amGetD, amGet_amErase]

/-! ### The statement -/

/-- Settles O37: the last piece leaves none missing, which begins the hash; its end puts the status that the digest decides, and a
component that fails keeps no piece. -/
theorem componentHashDecides : Obligations.ComponentHashDecides := by
  refine ⟨?begins, ?complete, ?fails⟩
  case begins =>
    intro s c p r u h6 hp hc had t d len hu hm hsame hwithin hlen hfresh hlast
    have operands : (Nat.blt c 6 && isU16 p) = true := by rw [blt_of_lt h6, isU16_of_lt hp]; rfl
    refine ⟨_, onPart_core operands hc (writeRequest_granted had (ownUpdatePiece_kept hu hm hsame hwithin hlen hfresh)), ?_⟩
    rw [finish_upd, granted_upd]
    simp only
    rw [if_pos (piecesMissing_last hfresh hlast)]
    exact List.contains_iff_mem.mpr (List.mem_cons_self ..)
  case complete =>
    intro s c u h6 hc hh hsha
    refine ⟨_, onPart_core (blt_of_lt h6) hc ((if_neg (by rw [hh]; decide)).trans (if_pos hsha)), ?_⟩
    have part : (refreshReady u.manifest ((hashTaken c u).putN (Obj.COMPONENT_STATUS c) 2)).asBuilt = s.asBuilt :=
      (refreshReady_asBuilt _ _).trans (began_asBuilt s)
    exact (finish_status part h6).trans ((refreshReady_status h6).trans (State.n_putN_self ..))
  case fails =>
    intro s c u h6 hc hh hsha
    have left := unsettled_logN (hashFailed c u) 0x0E02 0x2E00 c 0 0
    have part : (hashFailed c u).asBuilt = s.asBuilt := began_asBuilt s
    refine ⟨hashFailed c u, onPart_core (blt_of_lt h6) hc ((if_neg (by rw [hh]; decide)).trans (if_neg hsha)), ?_, ?_⟩
    · exact (finish_status ((unsettled_asBuilt left).trans part) h6).trans
        ((n_of_unsettled left (settledKey_componentStatus c h6)).trans (hashFailed_status c u))
    · unfold State.pieces
      rw [finish_upd, upd_of_unsettled left]
      exact hashFailed_pieces c u

end Sys2Proof.Safety
end

section
/-!
SUPPORT. Proof of the statement on the recorder.
-/

namespace Sys2Proof.Machine

/-- The log is emptied by its own code and by that of all (R498). -/
def logCleared (c : Nat) (s : State) : State :=
  if c = 4 ∨ c = 0xFF then { (s.putN Obj.LOG_COUNT 0).putN Obj.LOG_NEWEST 0 with exLog := [], exSlot := 0 } else s

/-- What RECORDER_CLEAR does by its code, as one chain of choices (R498, R490). -/
theorem ownRecorderClear_eq (v : Val) (t : State) :
    ownRecorderClear v t = .ok (
      let c := v.toNat
      let a := if c = 1 then clearPages (fun k => Nat.blt k 8192) t
        else if c = 2 then clearPages (fun k => Nat.ble 8192 k && Nat.blt k 8208) t
        else if c = 3 then clearPages (fun k => k == pageModule) t
        else if c = 0xFF then adoptContainer ((clearPages (fun _ => true) t).putB Obj.RECORDER_FOREIGN false)
        else t
      let b := if c = 4 ∨ c = 0xFF then { (a.putN Obj.LOG_COUNT 0).putN Obj.LOG_NEWEST 0 with exLog := [], exSlot := 0 } else a
      b.logN 0x0F02 0x2F00 noSubject c 0) := by
  refine congrArg (fun a => Except.ok ((logCleared v.toNat a).logN 0x0F02 0x2F00 noSubject v.toNat 0)) ?_
  split
  case h_5 other1 other2 other3 otherAll => rw [if_neg other1, if_neg other2, if_neg other3, if_neg otherAll]
  all_goals rename_i code; rw [code]; rfl

/-- Settles O19: a commit that falls due waits for the end of a sweep that runs; RECORDER_CLEAR's own rule acts by the code. A commit
at once while no sweep runs, and a log that starts again at slot 0, are log entry 97. -/
theorem recorderCommandsComplete : Obligations.RecorderCommandsComplete := by
  refine ⟨?due, ?now, ?clear⟩
  case due => exact fun s hc => run_core hc rfl
  case now => exact fun s r hc had => run_core hc (Safety.writeRequest_granted had rfl)
  case clear => exact fun s r hc had => run_core hc (Safety.writeRequest_granted had (ownRecorderClear_eq _ _))

end Sys2Proof.Machine
end

section
/-!
SUPPORT. Proof of the statement on the commands of the core domain while that domain has no power.
-/

namespace Sys2Proof.Machine

theorem run_coreOff {f : State → State} {s : State} (h : s.coreOn = false) : run (core f) s = .next (finish s (began s)) :=
  run_next (core_off f ((began_coreOn s).trans h))

theorem onPart_coreOff {ok : Bool} {f : State → State} {s : State} (hk : ok = true) (h : s.coreOn = false) :
    onPart ok (core f) s = .next (finish s (began s)) := (onPart_has hk).trans (run_coreOff h)

/-- Settles O31: each of these commands is one of the core domain, on an object whose index and subindex are 16-bit where it names
one. -/
theorem coreOffNoEffect : Obligations.CoreOffNoEffect := by
  intro s r x index sub micros b x' h hi hs
  have object := isU16_both hi hs
  simp only [List.forall_mem_cons, List.not_mem_nil, IsEmpty.forall_iff, implies_true, and_true]
  refine ⟨onPart_coreOff object h, onPart_coreOff object h, run_coreOff h, run_coreOff h, run_coreOff h, run_coreOff h, run_coreOff h,
    run_coreOff h, run_coreOff h, run_coreOff h, run_coreOff h, run_coreOff h, run_coreOff h, run_coreOff h, run_coreOff h,
    run_coreOff h, run_coreOff h, run_coreOff h, run_coreOff h, run_coreOff h, run_coreOff h, run_coreOff h, run_coreOff h⟩

end Sys2Proof.Machine
end

section
/-!
SUPPORT. Proof of the statement on the frame of commands that change no object.
-/

namespace Sys2Proof.Safety

open Sys2Proof.Machine

/-- The part, every object, the update, custody and what the controllers grant: what a command that changes no object leaves. -/
def frameView (s : State) : (AsBuilt × List (Nat × Val)) × UpdSt × CustodySt × Nat × Nat :=
  ((s.asBuilt, s.store), s.upd, s.custody, s.safety.x.en, s.safety.y.en)

theorem frameView_ite {p : Prop} [Decidable p] {s t u : State} (hs : frameView s = frameView u) (ht : frameView t = frameView u) :
    frameView (if p then s else t) = frameView u := by
  split <;> assumption

theorem frameView_core {f : State → State} {u : State} (h : frameView (f u) = frameView u) :
    frameView (Machine.core f u) = frameView u := frameView_ite h rfl

theorem frameView_carrier {f : State → State} {u : State} (h : frameView (f u) = frameView u) :
    frameView (carrier f u) = frameView u := frameView_ite h rfl

/-! ### Its beginning and its end -/

theorem frameView_began (s : State) : frameView (began s) = frameView s := frameView_ite rfl rfl

/-- What settling may not change of custody and of what the controllers grant. -/
theorem finish_custody_grants (s e : State) :
    (finish s e).custody = e.custody ∧ (finish s e).safety.x.en = e.safety.x.en ∧ (finish s e).safety.y.en = e.safety.y.en := by
  have same := congrArg (fun u : State => (u.custody, u.safety.x.en, u.safety.y.en)) (unsettled_finish s e)
  simp only [Prod.mk.injEq] at same
  exact same

/-- Whether every object but those that settling writes, the update, custody and what the controllers grant are as before. -/
def FrameKept (s t : State) : Prop :=
  (∀ k, settledKey k = false → t.v k = s.v k) ∧ t.upd = s.upd ∧ t.custody = s.custody ∧
    t.safety.x.en = s.safety.x.en ∧ t.safety.y.en = s.safety.y.en

theorem frameKept_finish {s e : State} (h : frameView e = frameView (began s)) : FrameKept s (finish s e) := by
  have view := h.trans (frameView_began s)
  simp only [frameView, Prod.mk.injEq] at view
  obtain ⟨⟨part, objects⟩, upd, custody, grantX, grantY⟩ := view
  obtain ⟨custody', grantX', grantY'⟩ := finish_custody_grants s e
  exact ⟨fun k hk => (v_finish part hk).trans (State.v_congr objects part k), (finish_upd s e).trans upd, custody'.trans custody,
    grantX'.trans grantX, grantY'.trans grantY⟩

theorem frameKept_run {f : State → State} {s t : State} (ht : run f s = .next t)
    (hf : frameView (f (began s)) = frameView (began s)) : FrameKept s t := by
  rw [run_finishes ht]; exact frameKept_finish hf

theorem frameKept_onPart {ok : Bool} {f : State → State} {s t : State} (ht : onPart ok f s = .next t)
    (hf : frameView (f (began s)) = frameView (began s)) : FrameKept s t := by
  rw [(onPart_finishes ht).2]; exact frameKept_finish hf

/-! ### The effects -/

theorem frameView_tpDriveStop (s : State) : frameView (tpDriveStop s) = frameView s := frameView_ite rfl rfl
theorem frameView_swapDue (s : State) : frameView (swapDue s) = frameView s := frameView_ite rfl (frameView_ite rfl rfl)
theorem frameView_throttleEnd (s : State) : frameView (throttleEnd s) = frameView s :=
  frameView_ite rfl (frameView_ite rfl rfl)
theorem frameView_programReceived (p : ProgMsg) (s : State) : frameView (programReceived p s) = frameView s := frameView_ite rfl rfl
theorem frameView_handshakeDelayExpiry (n : Nat) (s : State) : frameView (handshakeDelayExpiry n s) = frameView s :=
  frameView_ite rfl rfl
theorem frameView_acting_cooldown (n : Nat) (s : State) : frameView (acting (prechargeCooldownEnd n) s) = frameView s :=
  frameView_ite rfl rfl
theorem frameView_detectDwell (n : Nat) (s : State) : frameView (detectDwell n s) = frameView s := frameView_ite rfl rfl

/-- A commit in a sweep waits for its end (R487). -/
theorem frameView_commitDue {s : State} (h : s.running Obj.SWEEP_STATE = true) : frameView (commitDue s) = frameView s := by
  rw [commitDue, if_pos h]; rfl

/-- Settles O44: each command's effect changes internal fields only, none of those that `frameView` shows. -/
theorem commandsThatChangeNoObject : Obligations.CommandsThatChangeNoObject := by
  intro s t index sub n p
  simp only [List.forall_mem_cons, List.not_mem_nil, IsEmpty.forall_iff, implies_true, and_true]
  refine ⟨?lapse, ?alive, ?drive, ?swap, ?throttle, ?program, ?delay, ?cooldown, ?commit, ?dwell⟩
  case lapse => exact fun h _ => frameKept_onPart h (frameView_core rfl)
  case alive => exact fun h _ => frameKept_run h (frameView_carrier rfl)
  case drive => exact fun h _ => frameKept_run h (frameView_carrier (frameView_tpDriveStop _))
  case swap => exact fun h _ => frameKept_run h (frameView_core (frameView_swapDue _))
  case throttle => exact fun h _ => frameKept_run h (frameView_core (frameView_throttleEnd _))
  case program => exact fun h _ => frameKept_run h (frameView_core (frameView_programReceived p _))
  case delay => exact fun h _ => frameKept_onPart h (frameView_core (frameView_handshakeDelayExpiry n _))
  case cooldown => exact fun h _ => frameKept_onPart h (frameView_core (frameView_acting_cooldown n _))
  case commit =>
    intro h sweeping
    exact frameKept_run h (frameView_core (frameView_commitDue ((began_running s _).trans (sweeping trivial))))
  case dwell => exact fun h _ => frameKept_onPart h (frameView_core (frameView_detectDwell n _))

end Sys2Proof.Safety
end

section
/-!
SUPPORT. Proof of the statement on the pad latches: what driving the pads and the rest of a restart leave of the latches and of what
they follow.
-/

namespace Sys2Proof.Safety

open Sys2Proof.Machine

/-! ### What the latches follow -/

/-- The objects that say which levels the latches take (R410, R427). -/
def latchKeys : List Nat := [Obj.FIELD_LATCHED, Obj.PAIR_ROLE, Obj.KO_COMMAND, Obj.DO_COMMAND]

/-- The part, what the latches follow, the latches. -/
def latchView (s : State) : AsBuilt × List Val × Bool × Nat × Nat :=
  (s.asBuilt, latchKeys.map s.v, s.safety.yield, s.field.koLatch, s.field.doLatch)

theorem latchView_ite {p : Prop} [Decidable p] {s t u : State} (hs : latchView s = latchView u) (ht : latchView t = latchView u) :
    latchView (if p then s else t) = latchView u := by
  split <;> assumption

section
variable {k : Nat} (h : k ∉ latchKeys)
include h

theorem latchView_put (s : State) (v : Val) : latchView (s.put k v) = latchView s := by
  have values : latchKeys.map (s.put k v).v = latchKeys.map s.v :=
    List.map_congr_left fun _ hj => State.v_put_of_ne (ne_of_mem_of_not_mem hj h)
  exact congrArg (fun l => (s.asBuilt, l, s.safety.yield, s.field.koLatch, s.field.doLatch)) values

theorem latchView_putN (s : State) (n : Nat) : latchView (s.putN k n) = latchView s := latchView_put h s _
theorem latchView_putB (s : State) (b : Bool) : latchView (s.putB k b) = latchView s := latchView_put h s _

theorem latchView_incW (s : State) (w : Nat) : latchView (s.incW w k) = latchView s :=
  latchView_ite (latchView_putN h s _) (latchView_putN h s _)

end

/-! ### Driving the pads -/

theorem latchView_overloadStep (d : Nat) (s : State) : latchView (overloadStep d s) = latchView s := by
  have cleared (t : State) (n : Nat) : latchView (t.putN Obj.DO_OVERLOAD n) = latchView t := latchView_putN (by decide) t n
  unfold overloadStep
  refine latchView_ite rfl (latchView_ite (latchView_ite rfl rfl) ?_)
  simp only
  split
  · exact latchView_ite (cleared _ _) rfl
  · rfl

theorem latchView_countSwitches (old new : Nat) (s : State) : latchView (countSwitches old new s) = latchView s := by
  have apart (m : Nat) (hm : m < 48) : Obj.KO_SWITCHES m ∉ latchKeys := by
    simp only [latchKeys, List.mem_cons, List.not_mem_nil, or_false, not_or, Obj.KO_SWITCHES, Obj.FIELD_LATCHED, Obj.PAIR_ROLE,
      Obj.KO_COMMAND, Obj.DO_COMMAND]
    omega
  exact latchView_ite rfl (State.each_keeps_below latchView (fun m t hm => latchView_ite (latchView_incW (apart m hm) t 64) rfl) s)

theorem latchView_drivePads (s : State) : latchView (drivePads s) = latchView s :=
  (latchView_countSwitches _ _ _).trans (State.each_keeps latchView 16 _ latchView_overloadStep s)

/-! ### The latches while FIELD_LATCHED is 0 -/

/-- Whether the latches hold the levels that the pads' rules give while FIELD_LATCHED is 0 (R410, log entry 81). -/
def LatchesHold (s : State) : Prop :=
  s.b Obj.FIELD_LATCHED = false →
    if s.padsHeld then s.field.koLatch = 0 ∧ s.field.doLatch = 0
    else s.field.koLatch = s.n Obj.KO_COMMAND ∧ s.field.doLatch = s.n Obj.DO_COMMAND

theorem latchesHold_congr {s t : State} (h : latchView s = latchView t) (ht : LatchesHold t) : LatchesHold s := by
  simp only [latchView, latchKeys, List.map_cons, List.map_nil, Prod.mk.injEq, List.cons.injEq, and_true] at h
  obtain ⟨-, ⟨latched, role, ko, dos⟩, yields, koLatch, doLatch⟩ := h
  have held : s.padsHeld = t.padsHeld := by simp only [State.padsHeld, State.standby, State.n, role, yields]
  simpa only [LatchesHold, held, State.b, State.n, latched, ko, dos, koLatch, doLatch] using ht

theorem latchesHold_settleLatches (s : State) : LatchesHold (settleLatches s) := by
  unfold settleLatches LatchesHold
  split
  case isTrue latched => exact fun unlatched => absurd (latched.symm.trans unlatched) (by decide)
  case isFalse =>
    split
    case isTrue held => exact fun _ => by rw [if_pos (show State.padsHeld (s.modField _) = true from held)]; exact ⟨rfl, rfl⟩
    case isFalse free => exact fun _ => by rw [if_neg (show ¬ State.padsHeld (s.modField _) = true from free)]; exact ⟨rfl, rfl⟩

/-- The queue and the part that a command's end restores are none of what the latches follow: settling leaves the part. -/
theorem latchView_finish (s e : State) : latchView (finish s e) = latchView (settle { e with asBuilt := s.asBuilt }) := by
  have part := unsettled_asBuilt (unsettled_settle { e with asBuilt := s.asBuilt })
  have values : latchKeys.map (finish s e).v = latchKeys.map (settle { e with asBuilt := s.asBuilt }).v :=
    List.map_congr_left fun k _ => State.v_congr (s := finish s e) (t := settle { e with asBuilt := s.asBuilt }) rfl part.symm k
  exact Prod.ext part.symm (congrArg (fun l => (l, (finish s e).safety.yield, (finish s e).field.koLatch,
    (finish s e).field.doLatch)) values)

theorem latchesHold_finish (s e : State) : LatchesHold (finish s e) :=
  latchesHold_congr ((latchView_finish s e).trans (latchView_drivePads _)) (latchesHold_settleLatches _)

/-! ### The latches while FIELD_LATCHED is 1 -/

/-- The end of a command moves no latch while FIELD_LATCHED is 1. -/
theorem finish_latched {s e : State} (ha : e.asBuilt = s.asBuilt) (h : e.b Obj.FIELD_LATCHED = true) :
    (finish s e).field.koLatch = e.field.koLatch ∧ (finish s e).field.doLatch = e.field.doLatch ∧
      (finish s e).b Obj.FIELD_LATCHED = true := by
  have same : ({ e with asBuilt := s.asBuilt } : State) = e := by rw [← ha]
  have field : (if e.coreOn then settleCore e else e).field = e.field := by
    split
    · exact field_settleCore e
    · rfl
  have latched : (if e.coreOn then settleCore e else e).b Obj.FIELD_LATCHED = true := by
    split
    · unfold State.b; rwa [n_of_unsettled (unsettled_settleCore e) (by decide)]
    · exact h
  have view : latchView (finish s e) = latchView (if e.coreOn then settleCore e else e) := by
    rw [latchView_finish, same, settle, latchView_drivePads, settleLatches, if_pos latched]
  simp only [latchView, latchKeys, List.map_cons, Prod.mk.injEq, List.cons.injEq] at view
  obtain ⟨-, ⟨shown, -⟩, -, koLatch, doLatch⟩ := view
  refine ⟨koLatch.trans (congrArg FieldSt.koLatch field), doLatch.trans (congrArg FieldSt.doLatch field), ?_⟩
  unfold State.b State.n at latched ⊢
  rwa [shown]

/-- A command whose effect latches the field side ends with the latches of its effect. -/
theorem run_latched {f : State → State} {s e : State} (hf : f (began s) = e) (ha : e.asBuilt = s.asBuilt)
    (h : e.b Obj.FIELD_LATCHED = true) {ko dos : Nat} (hko : e.field.koLatch = ko) (hdo : e.field.doLatch = dos) :
    ∃ t, run f s = .next t ∧ t.field.koLatch = ko ∧ t.field.doLatch = dos ∧ t.b Obj.FIELD_LATCHED = true := by
  obtain ⟨koLatch, doLatch, latched⟩ := finish_latched ha h
  exact ⟨_, run_next hf, koLatch.trans hko, doLatch.trans hdo, latched⟩

/-- An effect whose last steps leave what `latchView` shows has the part, FIELD_LATCHED and the latches from before them. -/
theorem latched_of_view {e u : State} (h : latchView e = latchView u) {part : AsBuilt} {latched : Bool} {ko dos : Nat}
    (ha : u.asBuilt = part) (hl : u.b Obj.FIELD_LATCHED = latched) (hko : u.field.koLatch = ko) (hdo : u.field.doLatch = dos) :
    e.asBuilt = part ∧ e.b Obj.FIELD_LATCHED = latched ∧ e.field.koLatch = ko ∧ e.field.doLatch = dos := by
  simp only [latchView, latchKeys, List.map_cons, Prod.mk.injEq, List.cons.injEq] at h
  obtain ⟨part', ⟨latched', -⟩, -, koLatch, doLatch⟩ := h
  refine ⟨part'.trans ha, ?_, koLatch.trans hko, doLatch.trans hdo⟩
  rw [← hl]
  simp only [State.b, State.n, latched']

/-! ### A restart of the field side (R408, R410) -/

theorem asBuilt_adoptIf (p : Nat → Bool) (s : State) : (adoptIf p s).asBuilt = s.asBuilt := by
  unfold adoptIf
  exact State.forAll_keeps State.asBuilt _ (fun (kv : Nat × Val) u => u.put kv.1 kv.2) (fun _ _ => rfl) s

theorem asBuilt_fieldApply (s : State) : (fieldApply s).asBuilt = s.asBuilt := by
  unfold fieldApply
  split
  · exact asBuilt_adoptIf (fun k => fnOf k == Obj.FIELD_STATE) s
  · rfl

theorem latchView_modField {s : State} {f : FieldSt → FieldSt} (hk : (f s.field).koLatch = s.field.koLatch)
    (hd : (f s.field).doLatch = s.field.doLatch) : latchView (s.modField f) = latchView s :=
  congrArg₂ (fun k d => (s.asBuilt, latchKeys.map s.v, s.safety.yield, k, d)) hk hd

/-- The readings of a first cycle move no latch. -/
theorem latchView_readbackCycle (x : FieldSample) (s : State) : latchView (readbackCycle x 0 s) = latchView s := by
  unfold readbackCycle
  exact (latchView_modField rfl rfl).trans ((latchView_putN (by decide) _ _).trans (latchView_putN (by decide) s _))

theorem latchView_groupCycle (kg : Nat) (s : State) : latchView (groupCycle kg s) = latchView s := by
  unfold groupCycle
  exact (latchView_putN (by decide) _ _).trans (latchView_modField rfl rfl)

theorem latchView_firstReadings (x : FieldSample) (s : State) :
    latchView (newGates (groupCycle x.kg (readbackCycle x 0 s))) = latchView s :=
  (latchView_groupCycle x.kg _).trans (latchView_readbackCycle x s)

theorem analog_apart : ∀ n < 4, Obj.AI_RAW n ∉ latchKeys ∧ Obj.AI_VALUE n ∉ latchKeys ∧ Obj.AI_STATUS n ∉ latchKeys := by decide
theorem pulse_apart : ∀ n < 2, Obj.PI_STATUS n ∉ latchKeys := by decide

theorem latchView_analogs (v w : Nat → Rat) (k : Nat → State → Nat) (s : State) :
    latchView (s.each 4 fun n t => ((t.putQ (Obj.AI_RAW n) (v n)).putQ (Obj.AI_VALUE n) (w n)).putN (Obj.AI_STATUS n) (k n t)) =
      latchView s := by
  refine State.each_keeps_below latchView (fun n t hn => ?_) s
  obtain ⟨raw, value, status⟩ := analog_apart n hn
  exact (latchView_putN status _ _).trans ((latchView_put value _ _).trans (latchView_put raw t _))

theorem latchView_pulses (k : State → Nat) (s : State) :
    latchView (s.each 2 fun n t => t.putN (Obj.PI_STATUS n) (k t)) = latchView s :=
  State.each_keeps_below latchView (fun n t hn => latchView_putN (pulse_apart n hn) t _) s

/-- FIELD_LATCHED stays 1 through the other objects that a restart writes first. -/
theorem latched_putB (s : State) (di : Nat) : ((((s.putB Obj.FIELD_LATCHED true).putB Obj.FIELD_SUPPLY_FAULT false).putN
    Obj.DI_STATE di).putN Obj.DO_OVERLOAD 0).b Obj.FIELD_LATCHED = true := by
  have fault : Obj.FIELD_LATCHED ≠ Obj.FIELD_SUPPLY_FAULT := by decide
  have inputs : Obj.FIELD_LATCHED ≠ Obj.DI_STATE := by decide
  have overload : Obj.FIELD_LATCHED ≠ Obj.DO_OVERLOAD := by decide
  rw [State.b, State.n_putN_of_ne overload, State.n_putN_of_ne inputs, State.putB, State.n_putN_of_ne fault]
  exact State.b_putB_self s Obj.FIELD_LATCHED true

/-- A restart leaves the latches off and FIELD_LATCHED 1. -/
theorem fieldRestart_latched (x : FieldSample) (s : State) :
    (fieldRestart x s).asBuilt = s.asBuilt ∧ (fieldRestart x s).b Obj.FIELD_LATCHED = true ∧
      (fieldRestart x s).field.koLatch = 0 ∧ (fieldRestart x s).field.doLatch = 0 := by
  unfold fieldRestart
  simp only
  generalize hu : State.modField (State.modField _ _) _ = u
  have part : u.asBuilt = s.asBuilt := by
    subst hu
    exact (asBuilt_adoptIf (fun k => k / 65536 == Obj.DI_FILTER 0 / 65536) _).trans (asBuilt_fieldApply s)
  have latched : u.b Obj.FIELD_LATCHED = true := by subst hu; exact latched_putB _ _
  have koOff : u.field.koLatch = 0 := by subst hu; rfl
  have doOff : u.field.doLatch = 0 := by subst hu; rfl
  clear hu
  refine latched_of_view ((latchView_firstReadings x _).trans ((latchView_pulses _ _).trans ?_)) part latched koOff doOff
  exact latchView_analogs (fun n => aiRaw (nth x.ai n [])) (fun _ => 0) _ u

/-! ### A reset of the controller die (R410) -/

/-- The part and the field side: what the loss of the core domain leaves of what the latches need. -/
def fieldView (s : State) : AsBuilt × FieldSt := (s.asBuilt, s.field)

theorem fieldView_abortProof (n : Nat) (s : State) : fieldView (abortProof n s) = fieldView s := by
  unfold abortProof
  split <;> rfl

theorem fieldView_coreLost (s : State) : fieldView (coreLost s) = fieldView s := by
  have session : fieldView (if s.safety.session.isSome then endSafetySession s else s) = fieldView s := by split <;> rfl
  exact (State.each_keeps fieldView s.asBuilt.strings abortProof fieldView_abortProof _).trans session

/-- A pass over a list leaves what each of its members' steps leaves. -/
theorem forAll_keeps_of_mem {α β : Type} (g : State → β) {f : α → State → State} {l : List α}
    (h : ∀ a ∈ l, ∀ t, g (f a t) = g t) (s : State) : g (s.forAll l f) = g s := by
  induction l generalizing s with
  | nil => rfl
  | cons a l ih =>
    obtain ⟨first, rest⟩ := List.forall_mem_cons.mp h
    exact (ih rest (f a s)).trans (first s)

theorem functionStates_apart : ∀ k ∈ fnKeys, k ∉ latchKeys := by decide

theorem latchView_awaitStates (fresh : Bool × Bool) (s : State) : latchView (awaitStates fresh s) = latchView s :=
  forAll_keeps_of_mem latchView (fun k hk t => latchView_ite rfl (latchView_putN (functionStates_apart k hk) t 0)) s

theorem latchView_disarm (s : State) : latchView (disarm s) = latchView s :=
  latchView_ite (latchView_putN (k := Obj.UPDATE_STATE) (by decide) s 2) rfl

theorem latchView_beginStart (xtal : Bool) (fresh : Bool × Bool) (s : State) : latchView (beginStart xtal fresh s) = latchView s :=
  (latchView_awaitStates fresh _).trans ((latchView_putB (by decide) _ false).trans ((latchView_putN (by decide) _ 0).trans
    (latchView_disarm (reloadPages s))))

/-- A reset of the die leaves every latch its level and FIELD_LATCHED 1. -/
theorem dieRestart_latched (fresh : Bool × Bool) (s : State) :
    (dieRestart fresh s).asBuilt = s.asBuilt ∧ (dieRestart fresh s).b Obj.FIELD_LATCHED = true ∧
      (dieRestart fresh s).field.koLatch = s.field.koLatch ∧ (dieRestart fresh s).field.doLatch = s.field.doLatch := by
  have kept := fieldView_coreLost s
  have part : (coreLost s).asBuilt = s.asBuilt := congrArg Prod.fst kept
  have koLatch : (coreLost s).field.koLatch = s.field.koLatch := congrArg (fun x => x.2.koLatch) kept
  have doLatch : (coreLost s).field.doLatch = s.field.doLatch := congrArg (fun x => x.2.doLatch) kept
  exact latched_of_view (latchView_beginStart s.degraded fresh _) part (State.b_putB_self _ Obj.FIELD_LATCHED true) koLatch doLatch

/-- Settles O30: settling gives the latches their levels while FIELD_LATCHED is 0; a restart and a reset set FIELD_LATCHED, so that
settling leaves the latches as their effects have them. -/
theorem latchesHoldTheirLevels : Obligations.LatchesHoldTheirLevels := by
  refine ⟨?levels, ?restart, ?reset⟩
  case levels =>
    intro c s t h
    obtain ⟨e, rfl⟩ := exec_finishes c s t h
    exact latchesHold_finish s e
  case restart =>
    intro s x on
    obtain ⟨part, latched, koLatch, doLatch⟩ := fieldRestart_latched x (began s)
    exact run_latched (if_pos ((began_carrierOn s).trans on)) (part.trans (began_asBuilt s)) latched koLatch doLatch
  case reset =>
    intro s phase
    obtain ⟨part, latched, koLatch, doLatch⟩ := dieRestart_latched (false, false) (began s)
    have starts : dieReset (began s) = dieRestart (false, false) (began s) := if_pos (by rwa [began_pow])
    exact run_latched starts (part.trans (began_asBuilt s)) latched (koLatch.trans (congrArg FieldSt.koLatch (began_field s)))
      (doLatch.trans (congrArg FieldSt.doLatch (began_field s)))

end Sys2Proof.Safety
end
